-- ==== Sys2Proof/Word.lean ====
section
/-! DEFINITION. The word types of the HJ-32 and their plainest arithmetic. -/

namespace Sys2Proof

/-- One byte on a bus or in the keep store. -/
abbrev Byte := BitVec 8

/-- A 16-bit word: a raw converter code, a unit code, a fault code. -/
abbrev U16 := BitVec 16

/-- A 32-bit word: a timebase count, a stamp, a sequence number. -/
abbrev U32 := BitVec 32

/-- A 64-bit word: one bit per interrupt source or ADC channel. -/
abbrev U64 := BitVec 64

/-- Key of a dictionary subindex: index × 256 + subindex. -/
abbrev Key := Nat

/-- The key of subindex `sub` of the object at `idx`. -/
def key (idx sub : Nat) : Key := idx * 256 + sub

/-- A counter that stops at `top` instead of wrapping. -/
def satAdd (top n k : Nat) : Nat := min top (n + k)

/-- The top of a 32-bit counter that stops. -/
def top32 : Nat := 0xFFFFFFFF

/-- The signed reading of the low `w` bits of `n`. -/
def signed (w n : Nat) : Int :=
  if n % 2 ^ w < 2 ^ (w - 1) then (n % 2 ^ w : Nat) else (n % 2 ^ w : Nat) - (2 ^ w : Nat)

/-- The `w`-bit two's-complement encoding of `i`. -/
def unsignedOf (w : Nat) (i : Int) : Nat := (i % (2 ^ w : Nat)).toNat

/-- `x` clamped to `lo … hi`. -/
def clampInt (lo hi x : Int) : Int := max lo (min hi x)

/-- `num / den` rounded to the nearest integer, halves up. -/
def roundHalfUp (num den : Int) : Int := (2 * num + den) / (2 * den)

/-- `a / b` rounded up. -/
def ceilDiv (a b : Nat) : Nat := (a + (b - 1)) / b

/-- Bit `i` of a number. -/
def bit (n i : Nat) : Bool := n.testBit i

/-- Whether timebase count `b` lies ahead of `a` in the half-range window of R371. -/
def ahead (a b : U32) : Bool := 1 ≤ (b - a).toNat && (b - a).toNat ≤ 2 ^ 31

end Sys2Proof
end

