-- ==== Sys2Proof/Syntax.lean ====
section
/-! DEFINITION. The commands of the HJ-32: one constructor per row of spec/opcode_table.json, in the table's order but for thirteen rows without operands, which stand last.
The table gives no operands; each constructor carries the facts the event itself has (which port, which path,
which value arrived). -/

namespace Sys2Proof

/-- A path the host uses (R316). -/
inductive HostPath where
  | canA
  | canB
  | tw (c : Fin 8)
  deriving DecidableEq, Repr

/-- A CAN link (R329). -/
inductive Link where
  | a
  | b
  deriving DecidableEq, Repr

/-- A converter: SC0–SC31 and the rover SC32, or VC0–VC15 (R125, R126). -/
inductive Converter where
  | sense (n : Fin 33)
  | volt (k : Fin 16)
  deriving DecidableEq, Repr

/-- The compare values of R106. -/
inductive PulseEdge where
  | blank
  | maxOn
  | fanDuty
  deriving DecidableEq, Repr

/-- What a frame error hits (R143, R145). -/
inductive BadWord where
  | sample
  | coef
  | state
  deriving DecidableEq, Repr

/-- A detector of Table 5-6 other than the self-test. -/
inductive EngineDetector where
  | programParity
  | residue
  | overrun
  deriving DecidableEq, Repr

/-- One word that fails parity in a frame, or one failure detector that fires in it: the clock of the frame at which it is
detected (R146), the word's address in the engine's RAM (R148), or for a converter word how many words its converter has made since
(R144), and whether the clean copy fails again (R144, R147). -/
inductive FrameEvent where
  | badWord (clock : Nat) (word : BadWord) (addr : Nat) (again : Bool)
  | detector (clock : Nat) (d : EngineDetector)
  deriving DecidableEq, Repr

/-- The measurements of one conversion of a TS pin (R275–R278): ΔVbe in nV as measured, pin voltages in mV
at 160 µA and at 10 µA (diode), the pin as parts per million of VCC5 and the pin voltages in µV under the 10 µA pull-up
and pull-down (NTC). -/
structure TsMeas where
  dVbe   : Int
  pinHi  : Nat
  pinLo  : Nat
  frac   : Nat
  vUp    : Int
  vDown  : Int
  deriving DecidableEq, Repr

/-- An edge at a capture ball (R377): its polarity, and the count of the tick in which it reached the ball. -/
structure BallEdge where
  rising : Bool
  count  : U32
  deriving DecidableEq, Repr

/-- An interrupt enable mask (R392). -/
inductive EnMask where
  | a
  | b
  | s
  deriving DecidableEq, Repr

/-- The commands, one per row of the table. -/
inductive Instr where
  -- supplies, clocks and reset
  | corePowerGoodTimeout (vcoreOk : Bool)
  | coreResetRelease (strap : BitVec 4) (selfTestFailed : BitVec 9)
  | coreReset (p : HostPath) (v : U32)
  | vioUndervoltage
  | vcc5Undervoltage
  | coreRegulatorFail
  | crystalLoss
  | coreClockRestart
  | clockLossTrip
  | dllUnlock
  | dllRelock
  | vdrvUndervoltage (g : Fin 8)
  | vdrvReady (g : Fin 8)
  | vinPresent
  | vinAbsent
  | estopAssert
  | estopRelease
  | dieComparatorTrip (d : Fin 4)
  -- modes
  | modeReqShip (p : HostPath)
  | shipCoreOff
  | shipAonHold
  | shipPbWakeArm
  | shipExit (byVin : Bool)
  | modeReqStandby (p : HostPath)
  | standbyCoreOff
  | latchedWake
  | modeReqRun (p : HostPath)
  | modeReqSafestop (p : HostPath)
  | modeReqService (p : HostPath)
  | vinQualified
  | holdupTimeExpired
  | holdupLowBattery
  | huTimedExpired (r : Fin 16)
  | huVoffTurnoff (r : Fin 16)
  | huTimeWrite (p : HostPath) (v : U32)
  | reqStatClear (p : HostPath) (mask : Byte)
  | svcChallengeRead (p : HostPath)
  | svcAuthWrite (p : HostPath) (sig : List Byte)
  | svcVerifyDone
  | svcAuthExpire
  | svcPortWrite (p : HostPath) (v : Byte)
  | svcIdleTimeout
  | svckeyAssert
  | svckeyRelease
  -- ports
  | personalityWrite (p : HostPath) (n : Fin 32) (v : Byte)
  | periodStart (n : Fin 32) (bstBelow : Bool) (duty : Nat)
  | pulseCompareFire (n : Fin 32) (e : PulseEdge)
  | comparatorTrip (n : Fin 32) (clocksSinceOn : Nat) (filtered : Bool)
  | gateInterlockTimeout (n : Fin 32)
  | prechargeDone (n : Fin 32)
  | prechargeTimeout (n : Fin 32)
  | senseWord (n : Fin 33) (raw : U16) (flip1 flip2 : BitVec 17)
  | tripFlagsClear (p : HostPath) (n : Fin 32) (mask : U16)
  | lswFullyEnhanced (n : Fin 32)
  | lswRampTimeout (n : Fin 32)
  | lswOverload (n : Fin 32)
  | coilPullDone (n : Fin 32)
  | coilRiseTimeout (n : Fin 32)
  | coilHoldOpen (n : Fin 32)
  | coilReleaseTimeout (n : Fin 32)
  | fanStall (n : Fin 32)
  | fanOpen (n : Fin 32)
  | fanTachWrite (p : HostPath) (n : Fin 32) (v : Byte)
  -- converters, engines and frames
  | voltageWord (k : Fin 16) (raw : U16) (flip1 flip2 : BitVec 17)
  | laneDead (c : Converter)
  | frameStart (e : Fin 9) (events : List FrameEvent)
  | frameEnd (e : Fin 9)
  | spareTakeover
  -- rails and the commit point
  | portMaskWrite (p : HostPath) (r : Fin 16) (v : U32)
  | railEnable (p : HostPath) (r : Fin 16)
  | railDisable (p : HostPath) (r : Fin 16)
  | writeTransfer (idx : U16)
  | softStartTimeout (r : Fin 16)
  | truncationCross (r : Fin 16) (rising : Bool)
  | railFlagsClear (p : HostPath) (r : Fin 16) (mask : Byte)
  -- ledger
  | ledgerSnap (p : HostPath) (n : Fin 32)
  | ledgerClear (p : HostPath) (n : Fin 32) (v : U32)
  -- milk round
  | mrSlotStart
  | correctionIncrement (c : Converter)
  | stolenSample (k : Fin 16) (raw : U16)
  | trimUpdate
  | aonTrimUpdate
  | roundEnable (p : HostPath)
  | roundDisable (p : HostPath)
  | stealEnable (p : HostPath)
  | stealDisable (p : HostPath)
  -- sequencer and supervision
  | seqStepStart
  | stepComplete
  | stepTimeout
  | fallTimeout (r : Fin 16)
  | partialRunQueuedStart
  | seqCmdRetry (p : HostPath)
  | seqCmdSkip (p : HostPath)
  | seqCmdAbort (p : HostPath)
  | hiccupRetry (r : Fin 16)
  | hicClearExpire (r : Fin 16)
  | supFlagsClear (p : HostPath) (r : Fin 16) (mask : Byte)
  | cntClear (p : HostPath) (r : Fin 16) (v : U32)
  | pbShortPress
  | pbLongPress
  | pbIgnored
  | mrPress
  | rstoutPulseEnd
  | doorOpen
  | doorClose
  | seqinChange (i : Fin 4) (high : Bool)
  -- herd bus
  | herdSyncFrame (bytes : List Byte)
  | herdStepFrame (bytes : List Byte)
  | herdEventFrame (bytes : List Byte)
  | herdPollFrame (bytes : List Byte)
  | herdModeFrame (bytes : List Byte)
  | herdStatusFrame (bytes : List Byte)
  | herdSyncSend
  | herdPollSend
  | herdMasterLost
  | herdCollision
  | eventSignal (p : HostPath) (v : Byte)
  -- charger and hold-up
  | chgEnable (p : HostPath)
  | chgDisable (p : HostPath)
  | searchEnable (p : HostPath)
  | searchDisable (p : HostPath)
  | searchStep (vinMv iinMa : Nat)
  | periodicSearch
  | chgCmdSearch (p : HostPath)
  | chgCmdClearFault (p : HostPath)
  | sagGuard (vinMv : Nat)
  | vinLowSet
  | vinLowClear
  | chgPrechargeDone
  | chgCvEntry
  | chgTerminate
  | chgRecharge
  | batteryOvervoltage
  | prechargeTimerExpire
  | safetyTimerTick (limInput limThermal : Bool)
  | safetyTimerExpire (limInput limThermal : Bool)
  | battRemovalJump
  | battProbe (dropMv : Nat) (sensorValid : Bool)
  | chgKick (p : HostPath) (v : U16)
  | chgWdExpire
  -- thermal
  | tsConversion (i : Fin 16) (m : TsMeas)
  | tsScanEnd
  | stopTimeout
  | dieConversion (t0 t1 t2 t3 : Int)
  | recoveryWindowClose
  | thrEnWrite (p : HostPath) (i : Fin 16) (v : Byte)
  -- fault collector
  | faultReport (code unit detail : U16)
  | faultAck (p : HostPath) (v : U32)
  | unfence (p : HostPath) (v : U16)
  | collectorParity
  -- dictionary and commit groups
  | sdoExpeditedRead (l : Link) (usdo valid : Bool) (idx : U16) (sub : Byte)
  | sdoExpeditedWrite (l : Link) (usdo valid : Bool) (idx : U16) (sub : Byte) (data : List Byte)
  | sdoInitiate (l : Link) (usdo valid download : Bool) (idx : U16) (sub : Byte)
  | sdoSegment (l : Link) (toggle last : Bool) (data : List Byte)
  | sdoClientAbort (l : Link)
  | sdoTimeout (l : Link)
  | dictWrite (p : HostPath) (idx : U16) (sub : Byte) (data : List Byte)
  | fenceWrite (p : HostPath) (v : Byte)
  | fenceComplete (p : HostPath)
  | tagWrite (p : HostPath) (v : Byte)
  | groupRelease (g : Fin 8)
  | releaseWrite (p : HostPath) (g : Fin 8)
  | discardWrite (p : HostPath) (g : Fin 8)
  -- CANopen
  | nmtStart (l : Link) (node : Byte)
  | nmtStop (l : Link) (node : Byte)
  | nmtEnterPreop (l : Link) (node : Byte)
  | nmtResetNode (l : Link) (node : Byte)
  | nmtResetComm (l : Link) (node : Byte)
  | syncReceived (l : Link)
  | rpdoReceived (l : Link) (n : Fin 8) (data : List Byte)
  | tpdoEventCheck
  | tpdoEventTimer (n : Fin 8)
  | emcySend (l : Link)
  | heartbeatSend
  | heartbeatReceived (l : Link) (node : Byte)
  | heartbeatTimeout (i : Fin 4)
  | busOff (l : Link)
  | busOffRecovery (l : Link)
  -- two-wire target
  | twAddressMatch (addr : BitVec 7) (read : Bool)
  | twSlotWaitExpire (addr : BitVec 7)
  | twStop (bytes : List Byte) (nRead : Nat)
  | twRepeatedStart (bytes : List Byte) (nRead : Nat) (addr : BitVec 7) (read : Bool)
  | mailboxRead (c : Fin 8)
  | mailboxWrite (c : Fin 8)
  | twTimeout (bytes : List Byte) (nRead : Nat)
  | twBusRecovery (bytes : List Byte) (nRead : Nat)
  | attnRequest
  | twAddrUpdate
  -- timebase
  | timebaseWrap
  | cmpValueWrite (p : HostPath) (k : Fin 16) (v : U32)
  | cmpEnable (p : HostPath) (k : Fin 16)
  | cmpDisable (p : HostPath) (k : Fin 16)
  | cmpFire (k : Fin 16)
  | captureEdge (k : Fin 8) (edge : BallEdge)
  | captureRead (p : HostPath) (k : Fin 8)
  | capCtrlWrite (p : HostPath) (k : Fin 8) (v : Byte)
  -- watchdog
  | wdEnable (p : HostPath)
  | wdDisable (p : HostPath)
  | wdFirstKey (p : HostPath)
  | wdSecondKey (p : HostPath)
  | wdCheckin (p : HostPath) (v : Byte)
  | wdTimeout
  -- interrupts
  | sqeHandlerStart
  | pendWrite (p : HostPath) (v : U64)
  | sourcePendWrite (p : HostPath) (src : Fin 64) (v : Byte)
  | gdisWrite (p : HostPath) (v : Byte)
  | intEnableWrite (p : HostPath) (m : EnMask) (v : U64)
  -- keep store, configuration and identity
  | storeCmd (p : HostPath) (v : U16)
  | storeIntervalExpire
  | storeEnd
  | storeQueuedStart
  | storeVstoreWaitExpire
  | ksDataWrite (p : HostPath) (bytes : List Byte)
  | cfgBuild (p : HostPath)
  | cfgBuildDone
  | cfgCommit (p : HostPath)
  | cfgVerifyDone
  | cfgInstall (p : HostPath)
  | cfgCancel (p : HostPath)
  | cfgImageWrite (p : HostPath) (bytes : List Byte)
  | idChallenge (p : HostPath) (bytes : List Byte)
  | idExport (p : HostPath) (bytes : List Byte)
  | idSignDone
  | cfgKeyEnrol (p : HostPath) (bytes : List Byte)
  | keyNewWrite (p : HostPath) (bytes : List Byte)
  | keyNewSigWrite (p : HostPath) (bytes : List Byte)
  -- housekeeping ADC
  | adcEnable (p : HostPath)
  | adcDisable (p : HostPath)
  | refSelWrite (p : HostPath) (v : Byte)
  | adcRefReady
  | adcScanStart (p : HostPath)
  | adcConversionEnd (channelNv refNv : Nat)
  | adcSampleRead (p : HostPath) (c : Fin 48)
  -- recoveries and the rest of the table
  | vsysRecovery
  | vioRecovery
  | vcc5Recovery
  | dieComparatorRelease (d : Fin 4)
  | fanRpmTimeout (n : Fin 32)
  | errorPassiveChange (l : Link) (txErr rxErr : Nat)
  | vstoreOkReached
  -- supplies and clocks: rows without operands, which stand last because compiled code can build only the first 244
  -- constructors that have operands
  | vsysPowerOnReset
  | aonPowerLoss
  | coreEnable
  | corePowerGood
  | crystalValid
  | crystalStartFallback
  | pllLock
  | configApply
  | powerFail
  | brownOut
  | brownOutRecovery
  | nrstAssert
  | nrstRelease
  deriving DecidableEq, Repr

end Sys2Proof
end

