-- ==== Sys2Proof/Config.lean ====
section
/-! DEFINITION. What an HJ-32 fixes at production (fuses, identity) and the values the spec leaves open.
Every constant here is opaque: no proof can see a value of it. -/

namespace Sys2Proof.Config

/-- Free value number `n` of the values the spec leaves open (log entry 1). -/
opaque freeValue : Nat → BitVec 256

/-- Factory trim GAIN of sense converter `n` (32 is the rover), raw INTEGER32 encoding (R189).
(DESIGN CHOICE, log entry 6). -/
opaque scGain : Nat → BitVec 32

/-- Factory trim OFFSET of sense converter `n` (32 is the rover), raw INTEGER32 encoding (R189). -/
opaque scOffset : Nat → BitVec 32

/-- Factory trim GAIN of voltage converter `k` (R189). -/
opaque vcGain : Nat → BitVec 32

/-- Factory trim OFFSET of voltage converter `k` (R189). -/
opaque vcOffset : Nat → BitVec 32

/-- PERIOD of port `n` while no rail holds it. (DESIGN CHOICE, log entry 93). -/
opaque idlePeriod : Nat → BitVec 16

/-- The fused fraction code of the watchdog window, 0–3 (R383). -/
opaque winFrac : BitVec 2

/-- Trim `t` of Table 7-2 at table point `i`, 0–16, of −48 °C to +144 °C (R200). -/
opaque trimTable : Nat → Nat → Int

/-- The 128-bit unique ID, most significant byte first (R415). -/
opaque uid : Vector Byte 16

/-- What the unit's private key is made from (R415). -/
opaque privSeed : Nat

/-- What the random number of an ECDSA signature is made from, for draw `i` (log entry 9). -/
opaque signNonce : Nat → Nat

/-- The bytes of the certificate before the UID, between the UID and the public key, and after it (R415). -/
opaque certHead : List Byte

/-- The bytes between the UID and the public key. -/
opaque certMid : List Byte

/-- The bytes after the public key, with Yelant's signature. -/
opaque certTail : List Byte

/-- How the certificate's subject serial number writes the UID. -/
opaque certSerial : List Byte → List Byte

/-- Data bytes beyond the first that a segment of a USDO upload carries; the spec leaves USDO framing to CiA 1301.
(DESIGN CHOICE, log entry 19). -/
opaque usdoSegLen : Fin 60

/-- The bytes of a USDO response, by its service, object, abort code and data: CiA 1301 frames them, not the spec. -/
opaque usdoReply : Nat → Nat → Nat → List Byte → List Byte

/-- The GHn gate current in µA that lets a LSW rail's voltage follow its slope, for the reference less the voltage in VC steps with 8 fraction
bits; the spec gives the law's limit and not its value (R117). (DESIGN CHOICE, log entry 107). -/
opaque slewGate : Int → BitVec 16

/-- The GHn gate current in µA that keeps a LSW port's current at or below LSW_INRUSH, for the room left below it in mA with 16 fraction bits
(R117). (DESIGN CHOICE, log entry 107). -/
opaque inrushGate : Int → BitVec 16

/-- Core clock of the charger's pulse number `n` at which its regulation ends the pulse; the spec gives no law for it (R253).
(DESIGN CHOICE, log entry 109). -/
opaque chgRegulated : Nat → Nat

/-- Core clock of the charger's pulse number `n` at which CSP − CSN reaches 60 mV (R253). (DESIGN CHOICE, log entry 109). -/
opaque chgCrossing : Nat → Nat

/-- Whether a test-port instruction selects the boundary-scan register; the spec gives no instruction codes (R438).
(DESIGN CHOICE, log entry 91). -/
opaque tapScans : List Bool → Bool

/-- The instruction drives the output cells of the boundary-scan register (EXTEST). (DESIGN CHOICE, log entry 91). -/
opaque tapDrives : List Bool → Bool

/-- The instruction that the test port's reset state puts in force, and what its instruction register captures (R438). -/
opaque tapIdle : List Bool

/-- What the test port's instruction register captures (R438). -/
opaque tapCapture : List Bool

end Sys2Proof.Config
end

