-- ==== Sys2Proof/Machine/State.lean ====
section
/-! DEFINITION. The state of the HJ-32 as plain data, the ways a step could stop, and the state right after reset.

Registers the dictionary numbers stand in `regs` (pending copies, flags, counters), `shadow` and `active` (R19), sparse
lists of (key, value) that hold only what differs from the object's Default. What no object holds, or what an object only
mirrors, stands in the named records below. -/

namespace Sys2Proof.Machine

/-- Why a command could stop the model. No command of this block does: every event has an effect or none. -/
inductive Fault where
  /-- Raised by nothing: the spec gives the block no fault stop (its faults are reports, Table 11-4). Safe. -/
  | none_
  deriving DecidableEq, Repr

/-- Why the model could refuse a command. -/
inductive Refusal where
  /-- Raised by the dispatcher alone, for a row not yet given its meaning. Safe. -/
  | notModelled (mnemonic : String)
  deriving DecidableEq, Repr

/-- The eight modes of Table 3-1. -/
inductive Mode where
  | ship | standby | startup | run | holdup | shutdown | safestop | service
  deriving DecidableEq, Repr

/-- Where the device stands in Table 2-5, or which cause holds it off. -/
inductive PowerStep where
  | unpowered | nrstLow | aonUp | enabled | good | clocked | locked | released | running | shipHold
  deriving DecidableEq, Repr

/-- The region of VSYS that its comparators have last reported (Table 2-2). -/
inductive VsysLevel where
  | below | ok | powerFail | brownOut
  deriving DecidableEq, Repr

/-- What wakes the core domain (R75, R79). -/
inductive Wake where
  | nmt (l : Link) | modeWrite | pb | twoWire | vin
  deriving DecidableEq, Repr

/-- The variant that the fuses select (Table 0-2). -/
inductive Variant where
  | hj32 | hj16 | hj8
  deriving DecidableEq, Repr

/-- A path of dictionary accesses (R316). -/
inductive PathId where
  | host (p : HostPath)
  | sqe
  deriving DecidableEq, Repr

/-- Supplies, clocks and the power-on order. -/
structure Power where
  step       : PowerStep
  coreWanted : Bool            -- the AON island holds the core domain enabled, or will enable it
  regFailed  : Bool            -- R67
  regMon     : Bool            -- R48
  vcc5Mon    : Bool
  clkMon     : Bool
  vsys       : VsysLevel
  vin        : Bool
  vio        : Bool
  vcc5       : Bool
  vcore      : Bool
  vstoreOk   : Bool
  vstoreChg  : Bool
  vdrv       : BitVec 8
  vdrvSeen   : BitVec 8        -- R44
  xtalOsc    : Bool
  xtalOk     : Bool
  refAon     : Bool
  pllLock    : Bool
  dllLock    : Bool
  gated      : Bool            -- core clock gated after a crystal loss (Table 2-3)
  owed       : List (U16 × U16 × U32)   -- reports of core-domain monitors that the collector has yet to take: code, unit, stamp
  resetCause : Byte
  afterFull  : Bool            -- the power-up in progress follows a full reset
  wake       : Option Wake     -- cause of the wake in progress
  lateWake   : Option Wake     -- R78
  lateOther  : Option Wake     -- the first of them that is no MODE write, which acts in SAFESTOP (R79)
  entering   : Bool            -- STANDBY or SHIP entered, core domain not yet off
  pbArmed    : Bool            -- R64
  strap      : BitVec 4        -- R439
  qualGap    : Bool            -- VIN_QUAL ended while the core clock was gated (R81)
  deriving DecidableEq, Repr

/-- The mode and the requests on it. -/
structure Modes where
  mode       : Mode
  prev       : Mode
  stamp      : U32
  cause      : Nat             -- Table 3-6
  stopFault  : Bool            -- the SHUTDOWN in progress ends in SAFESTOP (R72)
  svcAsked   : Bool            -- the SHUTDOWN in progress ends in SERVICE
  byHoldup   : Bool            -- hold-up expiry began the SHUTDOWN in progress (R81)
  requal     : Bool            -- VIN re-qualification of R81
  challenge  : List Byte
  authSig    : List Byte
  svcStat    : Nat
  authAt     : Nat             -- 64-bit count at which the authorisation was given
  keySince   : Nat             -- 64-bit count at which SVCKEY was asserted
  deriving DecidableEq, Repr

/-- The safe-state latch (AON) and its sources (Table 1-4). -/
structure Latch where
  set      : Bool
  hard     : Bool              -- HARD_STOP (R303)
  estop    : Bool
  coreReg  : Bool
  clock    : Bool
  die      : BitVec 4
  deriving DecidableEq, Repr

/-- Front-panel and sequence inputs, and the reset outputs. -/
structure Pins where
  pb       : Bool              -- PB as its last event left it
  mr       : Bool              -- MR has been pressed
  pressAt  : Option Nat        -- 64-bit count at the last event of PB, whose level it then gave
  mrAt     : Option Nat        -- 64-bit count at the last press of MR
  svckey   : Bool
  capin    : BitVec 8          -- CAPIN0–CAPIN7 as their last edges left them
  door     : Bool
  seqin    : BitVec 4          -- ball levels
  latched  : List (Nat × U32)  -- PIN_EVT bits latched with the core domain off (R468)
  rstA     : Bool
  rstB     : Bool
  pulse    : Bool              -- 200 ms pulse running (R235)
  deriving DecidableEq, Repr

/-- Port states, Table 4-5. -/
inductive PortState where
  | off | ready | precharge | switching | held | tripped | fenced | ramp | on | pullIn | hold | release | discharge
  deriving DecidableEq, Repr

/-- The case of Table 4-3 that the first of two backstop samples belongs to. -/
inductive Backstop where
  | miss | blank | offTime
  deriving DecidableEq, Repr

/-- The settings a port latches at its period starts (R22). -/
structure PortTiming where
  dtHL : Nat
  dtLH : Nat
  tOffMin : Nat
  slope : Nat
  light : Nat
  tripMode : Nat
  backstop : Nat
  bstRefresh : Nat
  tRefresh : Nat
  deriving DecidableEq, Repr

/-- The working state of a port. -/
structure Port where
  state    : PortState
  count    : Nat               -- period counter (R105)
  nudge    : Int               -- clocks still to move to PHASE_OFS (R108)
  hold     : Nat               -- clocks by which the present period is lengthened (R108)
  wrapped  : Bool              -- the counter has returned to 0 and the period's start is still to come (R105)
  ending   : Option PortState  -- the state taken, gates low, at the next period start (R112, R170, R173)
  onAt     : Nat               -- clock of the period of the main gate's turn-on (R107)
  onDue    : Bool              -- that turn-on is still to come in the period (R113, R134)
  glAt     : Nat               -- clock of the period at which GLn last rose
  lowTime  : Nat               -- longest on-time of GLn in the period, in clocks (R94)
  pulsed   : Bool              -- the main gate was turned on in the period
  ghNew    : Bool              -- odd port of a BB4 pair: the present period turned its GHn on for the buck region (R95, R115)
  gh       : Bool
  gl       : Bool
  fired    : List PulseEdge    -- edges fired in this period (R106)
  blanked  : Bool              -- blanking has ended in this period
  crossed  : Bool              -- comparator crossing since main-gate turn-on
  cmd      : Int               -- command the port governs its pulses by, DAC codes, as the engine released it (R98)
  dac      : Int               -- the clamped command that the DAC took at the main-gate turn-on (R98)
  ramp     : Int               -- the DAC's level since then, in 1/256 code (R98)
  limPend  : Bool              -- a crossing at the limit within blanking: it acts at the end of blanking (R99)
  filt     : Bool              -- the filter accepted that crossing (R101)
  newCmd   : Option (Int × Nat)  -- released, with the LIMIT_CODE of its update; applied at the next turn-on (R22, R134)
  lim      : Option Nat        -- LIMIT_CODE of the update that gave the present command (R22, R98)
  skip     : Bool              -- pulse skipped (R98)
  limitNow : Bool              -- an accepted limit trip in this period (R101)
  timing   : Option PortTiming
  refresh  : Nat               -- periods since GLn was on for T_REFRESH (R94)
  refreshNow : Bool            -- a refresh is inserted in the period (R94)
  bstLow   : Bool              -- GHn stays off for the period (R95)
  bstRun   : Nat               -- consecutive BST_UV periods (R95)
  backRun  : Nat               -- consecutive BACKSTOP periods (Table 4-3)
  backNow  : Bool              -- a backstop within blanking in this period
  shortRun : Nat               -- consecutive early crossings of a COIL port (R119)
  shortNow : Bool
  backArm  : Option Backstop   -- first of two samples at the backstop level (R104)
  rectOff  : Bool              -- synchronous rectifier off for the rest of the period (R114)
  sum      : Int               -- SCn words of the period, corrected codes
  num      : Nat
  wMin     : Int
  wMax     : Int
  last     : Option Int        -- last word, for a dropped one (R180)
  pSum     : Int               -- the last complete period
  pNum     : Nat
  pMin     : Int
  pMax     : Int
  uSum     : Int               -- the words that the updates of the frame use (R133)
  uNum     : Nat
  uMin     : Int
  uMax     : Int
  heard    : Nat               -- words received since its engine's last frame start
  fed      : Bool              -- the frame before received one (R203)
  heldNext : Bool              -- the rail update that feeds its next update was abandoned (R146)
  share    : Int               -- S_i in mA, 16 fraction bits
  shareSh  : Int               -- its state shadow
  satRun   : Nat               -- consecutive updates at the clamp (R176)
  region   : Nat               -- BB4 region (R115)
  regRun   : Nat
  regSide  : Bool              -- the run counts toward the next higher region
  boostDuty : Nat              -- engine's boost-duty command of a BB4 pair, 1/65536
  gateCmd  : Nat               -- gate-current command of a LSW port in RAMP, in µA (R117)
  capped   : Bool              -- LSW_INRUSH governs it, not LSW_SLEW
  rampRef  : Int               -- where LSW_SLEW puts the rail voltage, VC steps with 8 fraction bits
  failAt   : Option U32        -- last failed replay (R147)
  tachAt   : Option U32        -- last owned capture (R121)
  pulled   : Bool              -- 90 % of COIL_I_PULL reached (R118)
  due      : Bool              -- an update is due (R133)
  deriving DecidableEq, Repr

/-- Rail states, Table 6-1. -/
inductive RailState where
  | off | prebias | softStart | regulating | slewing | rampDown | tripped | held | fenced
  deriving DecidableEq, Repr

/-- The working state of a rail. -/
structure Rail where
  state    : RailState
  heldOn   : Bool              -- ENABLE = 1 waiting for the ramp to end (R162)
  shed     : BitVec 32         -- members shed by skimming
  vref     : Int               -- VC steps, 8 fraction bits
  target   : Int
  eHist    : Int × Int         -- e[k-1], e[k-2]
  yHist    : Int × Int         -- y[k-1], y[k-2], mA with 20 fraction bits
  shHist   : (Int × Int) × (Int × Int)   -- state shadows (R134)
  seeded   : Bool              -- R141
  ssDone   : Bool              -- VREF has reached TARGET since PREBIAS (R169)
  words    : List Nat          -- last 16 VC words, newest first (R168)
  sum      : Nat
  num      : Nat
  pSum     : Nat
  pNum     : Nat
  uSum     : Nat               -- the words that the update of the frame uses (R133)
  uNum     : Nat
  moved    : Option Nat        -- the group whose engine took the master role over (R152)
  moving   : Nat               -- frames of updates that the move may still cost the rail (R152)
  trunc    : Bool              -- output above the truncation level
  truncPer : Bool              -- truncation active in some part of the period (R172)
  dwell    : Nat               -- core clocks Ibar has stayed below SHED_LO (R173)
  spacing  : Nat               -- rail periods since N_active last changed
  ovRun    : Nat
  ovwRun   : Nat
  ovwOff   : Nat
  uvRun    : Nat
  uvClr    : Nat
  uvwRun   : Nat
  uvwOff   : Nat
  pgRun    : Nat
  pgOff    : Nat
  fallRun  : Nat
  pg       : Bool
  ovWarn   : Bool
  uvWarn   : Bool
  belowFall : Bool
  ovSaid   : Bool              -- OV reported and the condition still there
  uvSaid   : Bool              -- R225
  hicCount : Nat
  hicWait  : Bool
  huOff    : Bool              -- turned off by HOLDUP, to restart (R269)
  huRun    : Bool              -- TIMED time running
  addDue   : Bool              -- a shed phase is added at the next rail update (R177)
  truncDac : Nat               -- truncation level as its DAC holds it, in 0.5 mV at the sense pins (R171)
  failAt   : Option U32        -- last failed replay of the rail update
  due      : Bool              -- an update is due (R133)
  deriving DecidableEq, Repr

/-- Engine states, Table 5-9. -/
inductive EngineState where
  | selftest | idle | active | standby | covering | fenced
  deriving DecidableEq, Repr

/-- An update of a frame. -/
inductive Task where
  | rail (r : Fin 16)
  | port (n : Fin 32)
  deriving DecidableEq, Repr

/-- A frame in progress: what is left of its plan, and what it has computed and not yet released (R133, R134). Times are core clocks of
the frame. -/
structure FrameRun where
  length : Nat
  clock  : Nat                 -- the clocks that have passed
  time   : Nat                 -- the end of the update in hand
  cur    : Option Task         -- the update in hand
  snap   : List (Key × Nat)    -- the active copies as it read them at its start (R22, R133)
  was    : RailState           -- a rail update's rail state at its start (R166)
  ready  : Bool                -- every member had left PRECHARGE then (R168)
  wait   : List (Task × List (Key × Nat))   -- updates that wait for their first word, with their active copies (R141)
  tasks  : List Task           -- updates still to start, in order
  events : List FrameEvent     -- parity errors and detectors still to come
  ports  : List (Nat × (Int × Nat) × Int × Nat)   -- port, command code with its LIMIT_CODE, S_i, saturation run
  rails  : List (Nat × (Int × Int) × (Int × Int))
  lost   : List (Fin 16)       -- rails whose update was abandoned in the frame (R146)
  deriving DecidableEq, Repr

/-- The working state of a loop engine. -/
structure Engine where
  state   : EngineState
  covers  : Nat                -- LE8: group covered, 0xFF none
  frame   : Option FrameRun    -- frame in progress
  late    : Nat                -- LE8: clocks by which its first frame is shorter (R149)
  blocked : Bool               -- release blocked by a failure detector (R149)
  words   : List (Nat × U32)   -- reloaded words with stamps (RAM wear-out)
  deriving DecidableEq, Repr

/-- A correction ramp (R197, R199): increments left of `total`, and the whole change of GAIN and of OFFSET. -/
structure Ramp where
  left    : Nat
  total   : Nat
  gain0   : Int
  offset0 : Int
  dGain   : Int
  dOffset : Int
  converges : Bool
  deriving DecidableEq, Repr

/-- A converter: corrections, holding buffer (R128), last failure stamps. -/
structure Conv where
  gain    : Int
  offset  : Int
  buffer  : List (BitVec 17)
  dropAt  : Option U32
  rejects : Nat                -- consecutive rejected visits (R196)
  ramp    : Option Ramp
  lastRaw : Option Int
  lastWord : Nat               -- last word delivered to its rail
  zeroSum : Nat                -- stolen samples of the update in progress (R199)
  refSum  : Nat
  stolen  : Nat
  deriving DecidableEq, Repr

/-- The sums over the pairs of the visit in progress, or over the three inputs of a self-calibration (R193, R195). -/
structure Visit where
  words : Nat                  -- rover words received in the slot
  n     : Nat
  ss    : Int
  sr    : Int
  sss   : Int
  srr   : Int
  ssr   : Int
  cal0  : Int × Nat
  calP  : Int × Nat
  calN  : Int × Nat
  abandoned : Bool
  idle  : Bool                 -- the slot's port is fenced or its converter failed: the slot passes idle (R191)
  deriving DecidableEq, Repr

/-- The milk round. The stand-in, its corrections and the failed converters are AON state (R204). -/
structure Milk where
  running  : Bool
  slot     : Nat
  visit    : Visit
  firstDone : Bool
  roundOne : Bool              -- the first full round has been walked
  clean    : Bool              -- no visit abandoned or rejected since the round first started (R202)
  rejectRow : Nat              -- consecutive ports rejected, idle slots skipped (R196)

  standin  : Option (Fin 32)
  standGain : Int
  standOffset : Int
  calGain  : Int               -- rover's last self-calibration
  calOffset : Int
  roverFailed : Bool
  noSpare  : Bool
  frozen   : Bool
  trims    : Vector Int 5      -- Table 7-2
  deriving DecidableEq, Repr

/-- A port's account (R180): µC and µJ with 24 fraction bits. -/
structure Ledger where
  charge  : Int
  energy  : Int
  snapCharge : Int
  snapEnergy : Int
  snapStamp  : U32
  restored   : U32
  deriving DecidableEq, Repr

/-- SEQ_STAT, Table 8-12. -/
inductive SeqStat where
  | idle | powerUp | powerDown | reversal | halted | partialRun
  deriving DecidableEq, Repr

/-- What the sequence engine waits for inside a step. -/
inductive StepPhase where
  | none_ | start | fall | wait
  deriving DecidableEq, Repr

/-- A partial run (R221): a turn-off of one rail, or a restart of a set of rails. -/
inductive PartialRun where
  | turnOff (r : Fin 16)
  | restart (mask : BitVec 16)
  deriving DecidableEq, Repr

/-- A running interrupt handler (R393). -/
structure Handler where
  src   : Fin 64
  first : Nat                  -- its first step
  step  : Nat
  left  : Nat
  phase : StepPhase
  since : Nat
  named : BitVec 16
  deriving DecidableEq, Repr

/-- The sequence engine. -/
structure Sqe where
  stat     : SeqStat
  step     : Nat               -- 0xFF none
  phase    : StepPhase
  since    : Nat               -- 64-bit count at the start of the wait
  named    : BitVec 16         -- rails named by the action in force, for the fall wait
  second   : BitVec 16         -- rails the undone step disables next (R219)
  fallen   : BitVec 16         -- rails treated as fallen (R217)
  forced   : Bool
  restart  : BitVec 16         -- rails of the restart partial run in progress
  partial_ : Option PartialRun
  queue    : List PartialRun
  handlers : List Handler      -- innermost first
  events   : BitVec 16         -- herd events seen in this script run
  begun    : Bool              -- a step of this script run has started (R287)
  deriving DecidableEq, Repr

/-- Charger states, Table 9-4. -/
inductive ChgState where
  | off | wait | suspend | precharge | fastCC | fastCV | done | fault | noBatt
  deriving DecidableEq, Repr

/-- The charger, its search and its watchdog. -/
structure Charger where
  state     : ChgState
  heldPhase : ChgState         -- phase to resume from WAIT or SUSPEND
  cycle     : Bool
  fresh     : Bool             -- no charging state entered since core power-up
  asked     : Bool             -- a full search is due
  periodicDue : Bool
  searching : Bool
  refTaken  : Bool
  periodic  : Bool
  vinRef    : Nat
  lastResult : Nat
  iinLim    : Nat
  vinLow    : Bool
  sagging   : Bool
  limInput  : Bool
  limThermal : Bool
  batt      : Bool
  holdupLost : Bool
  demandLtd : Bool
  wdStopped : Bool
  zone      : Nat
  tSafe     : Nat              -- units of 50 ms
  tPre      : Nat              -- units of 100 ms
  tCv       : Nat              -- time in FAST_CV, units of 100 ms (CV_HOLD)
  clk       : Nat              -- core clocks into the present switching period (R253)
  pulse     : Nat              -- switching periods begun
  iOut      : Int              -- charge current last measured, in mA
  vbat      : Nat
  vinMv     : Nat
  iin       : Nat
  holdAt    : Nat              -- 64-bit count at the entry to HOLDUP
  deriving DecidableEq, Repr

/-- Electrical status of a TS sensor (Table 10-1, Table 10-7). -/
inductive TsStatus where
  | off | init | valid | open_ | short | range | deviates
  deriving DecidableEq, Repr

/-- A TS sensor. -/
structure Sensor where
  status  : TsStatus
  raw     : Option Int
  eff     : Option Int
  src     : Nat                -- EFF_SRC
  suspect : Bool
  reached : BitVec 5
  setRun  : Vector Nat 5
  clrRun  : Vector Nat 5
  deriving DecidableEq, Repr

/-- A die sensor. -/
structure DieSensor where
  reading : Option Int
  hist    : List Int
  status  : TsStatus
  said    : Bool               -- its being invalid has been reported (R288)
  deriving DecidableEq, Repr

/-- Thermal management. -/
structure Thermal where
  ts       : Vector Sensor 16
  die      : Vector DieSensor 4
  dieTemp  : Option Int
  die125   : Bool
  die140   : Bool
  run125   : Nat
  run140   : Nat
  clr125   : Nat
  clr140   : Nat
  noValid  : Bool
  recovery : Bool              -- recovery window open (AON)
  recovRun : Bool              -- RUN or HOLDUP entered since the window opened (AON)
  slot     : Nat               -- pin whose slot of the scan comes next, 16 at its end (R275)
  armed    : BitVec 16         -- pins whose MODE has not been 0 since the scan began: their slots convert (R275)
  maxRead  : BitVec 20         -- sensors whose MAX_SEEN a read has cleared since their last reading; bits 16-19 the die sensors
  shutdownPolicy : Nat
  stopping : Bool              -- an orderly stop is running (STOP_TMO)
  dieHard  : Bool              -- a 150 °C trip not yet shown in DIE_HARD (AON)
  deriving DecidableEq, Repr

/-- Fault classes, Table 11-1. -/
inductive FClass where
  | c | u | f | hardStop
  deriving DecidableEq, Repr

/-- Acknowledgement kinds (R297). -/
inductive AckKind where
  | a | h | n
  deriving DecidableEq, Repr

/-- A fault-log entry, Table 11-5. `pos` is its place in the log area; `quiet` marks a report recorded with VSYS_OK 0,
which never causes escalation (R304). -/
structure LogEntry where
  seq     : U32
  stamp   : U32
  code    : U16
  unit    : U16
  cls     : FClass
  ack     : AckKind
  esc     : Bool
  acked   : Bool
  fromAon : Bool
  conseq  : Bool
  mode    : Mode
  detail  : U16
  pos     : Nat
  quiet   : Bool
  held    : Bool               -- an ACK named it while its cause was present (R305)
  deriving DecidableEq, Repr

/-- A report of the AON fault record not yet in the log (R311). -/
structure AonReport where
  code  : U16
  unit  : U16
  stamp : U32
  mode  : Mode
  deriving DecidableEq, Repr

/-- The AON fault record (R311). -/
structure AonRecord where
  firstCode  : U16
  firstUnit  : U16
  firstStamp : U32
  lastCode   : U16
  lastUnit   : U16
  lastStamp  : U32
  open_      : Bool            -- FIRST holds a report made since the latch last cleared
  trips      : Nat
  waiting    : List AonReport
  shipStore  : Option Bool     -- the last SHIP store started, or was skipped (R63)
  deriving DecidableEq, Repr

/-- The fault collector. -/
structure Collector where
  ports    : BitVec 32
  groups   : BitVec 8
  noSpare  : BitVec 8          -- groups fenced under R152
  rails    : BitVec 16
  sensors  : BitVec 32
  engines  : BitVec 9
  sc       : BitVec 32         -- FAILED_SC (AON, R301)
  vc       : BitVec 16
  charger  : Bool
  movedAt  : Option (Nat × U32)  -- engine and loss of the last master move, for HELD_TAKEOVER (R152)
  cause    : Bool              -- CAUSE_ACTIVE
  deriving DecidableEq, Repr

/-- A write accepted and not yet transferred (R20). -/
structure Outstanding where
  id   : Nat
  path : PathId
  vals : List (Key × Nat)
  acts : List (Key × Nat)      -- values that no transfer carries and that come after an older write of their index (R21, R321)
  deriving DecidableEq, Repr

/-- A commit group (R325, R327). -/
structure Group where
  staged : List (Key × Nat)
  ids    : List (Key × Nat)    -- acceptance numbers of the staged values (R24)
  byWrite : Bool
  bySrc  : Option Nat
  deriving DecidableEq, Repr

/-- The commit point and the operation slots. -/
structure Commit where
  nextId : Nat
  out    : List Outstanding    -- in the order of acceptance
  groups : Vector Group 8
  moved  : List (Key × Nat)    -- acceptance numbers of the untagged values transferred at COUNT64 `movedAt` (R24)
  movedAt : Nat
  fences : List (PathId × Nat) -- path and the first id the fence does not wait for
  deriving DecidableEq, Repr

/-- A segmented transfer (R342). -/
structure Session where
  usdo     : Bool
  download : Bool
  key      : Key
  toggle   : Bool
  data     : List Byte
  deriving DecidableEq, Repr

/-- What a response answers: the service of an SDO or USDO request. -/
inductive Service where
  | read | write | beginRead | beginWrite
  | readSegment (toggle last : Bool)
  | writeSegment (toggle : Bool)
  deriving DecidableEq, Repr

/-- A request on 0x600 + node-ID that has not yet been answered: in FD format (USDO) or classical (SDO), its object, its service. -/
structure Asked where
  usdo    : Bool
  key     : Key
  service : Service
  deriving DecidableEq, Repr

/-- What each path holds for itself (R323), and the last answer it was given. -/
structure PathState where
  tag    : Nat
  select : Nat
  ksAddr : Nat
  ksLen  : Nat
  fresh  : BitVec 48
  owed   : Bool                -- an answer is owed: a fence or a key change waits for its end
  asked  : Option Asked        -- the SDO or USDO request that the next answer on this path responds to
  heldFence : List (Option Asked)  -- requests of the fences that wait, oldest first; none for one that came in no frame (R319)
  heldKey : List (Option Asked)    -- requests of the key changes that wait, oldest first
  abort  : Nat                 -- abort code of the last answer, 0 accepted
  answer : List Byte
  deriving DecidableEq, Repr

/-- A frame handed to a link. -/
structure Frame where
  link : Link
  id   : Nat
  fd   : Bool
  brs  : Bool                  -- its data phase runs at the data rate: bit-rate switch
  data : List Byte
  deriving DecidableEq, Repr

/-- NMT states (R335). -/
inductive Nmt where
  | stopped | operational | preop
  deriving DecidableEq, Repr

/-- A CAN link. -/
structure LinkState where
  enabled : Bool
  lowRate : Bool
  rate    : Nat                -- bit-rate encodings and sample points in force (R330, R66, R76, R79)
  dRate   : Nat
  nom     : Nat                -- the configured nominal rate, which low-rate operation keeps or returns to (R66)
  spNom   : Nat
  spData  : Nat
  passive : Bool
  busOff  : Bool
  txErr   : Nat
  rxErr   : Nat
  emcy    : List (List Byte)
  emcyAt  : Option Nat         -- 64-bit count at which the last EMCY went out
  session : Option Session
  deriving DecidableEq, Repr

/-- The CANopen services. -/
structure Can where
  links  : Vector LinkState 2
  linksSet : Bool              -- step 8 has set which links are enabled (R330)
  nodeId : Nat
  nmt    : Nmt
  nmtWake : Bool               -- the wake in progress was an NMT start
  hbArmed : Vector (Option Link) 4
  rpdo   : Vector (Option (Link × List (Key × Nat))) 8   -- values of synchronous RPDOs waiting for a SYNC
  tpdoLast : Vector (Option (List Byte)) 8  -- data last sent
  tpdoAt : Vector (Option Nat) 8            -- 64-bit count at which it was sent
  syncCnt : Vector Nat 8
  deriving DecidableEq, Repr

/-- A two-wire pointer context (R350). -/
structure Context where
  pointer : U16
  mbox    : Vector Byte 256
  chunk   : List Byte
  chunkKey : Option Key
  busy    : Bool               -- a mailbox fence waits (R361)
  run     : Option Nat         -- mailbox command to execute (1 or 2)
  result  : Nat
  abort   : Nat
  owns    : Bool               -- the mailbox command that waits is the last transaction that carried data (R362)
  deriving DecidableEq, Repr

/-- The two-wire target. -/
structure TwoWire where
  ctx    : Vector Context 8
  now    : Option (Fin 8 × Bool)   -- transaction in progress: context and read
  since  : Nat                 -- 64-bit count at its address match
  first  : List Byte           -- the bytes of the field at the pointer, as they stood at the address match of a read (R359)
  base   : BitVec 7            -- address in force (AON copy, R351)
  mask   : BitVec 7
  next   : Option (BitVec 7 × BitVec 7)   -- an address and mask that wait for the end of a transaction (R351)
  wakeAddr : Option (Fin 8 × Bool)   -- context and direction, acknowledged and stretched (R77)
  attn   : Bool                -- an attention pulse has been made
  attnAt : Option Nat          -- 64-bit count of the last one (R364)
  deriving DecidableEq, Repr

/-- A compare channel: armed, the first tick its comparator sees VALUE (R372), and the COUNT64 and the starting channel of the
last start action on it (R375). -/
structure Cmp where
  armed   : Bool
  from_   : U32
  late    : Bool
  startAt : Option Nat
  startBy : Nat
  deriving DecidableEq, Repr

/-- A capture channel. -/
structure Cap where
  armed : Bool
  full  : Bool
  from_ : Nat                  -- 64-bit count from which on an edge is captured
  capAt : Option Nat           -- 64-bit count of the last capture (R378)
  prev  : Nat                  -- VALUE before the captures of that tick
  ovr   : Bool                 -- those captures set OVERRUN
  deriving DecidableEq, Repr

/-- The timebase. -/
structure Timebase where
  running : Bool
  count   : U32
  wraps   : U32
  gapTicks : Nat               -- ticks in which the core clock was gated: core-domain timers stood still (R55)
  fresh   : List (Key × Nat)   -- W1C bits of AON objects set by hardware in the present tick (R11)
  cmp     : Vector Cmp 16
  cap     : Vector Cap 8
  deriving DecidableEq, Repr

/-- The watchdog (R383). -/
structure Watchdog where
  running : Bool
  first   : Bool
  length  : Nat                -- µs
  count   : Nat                -- µs
  sub     : Nat                -- ticks within the µs
  key     : Option HostPath
  checked : Byte
  deriving DecidableEq, Repr

/-- The interrupt controller. -/
structure Irq where
  pend    : U64
  fresh   : U64                -- sources that pended since the last delivery (R390)
  activeA : Option (Fin 64)
  activeB : Option (Fin 64)
  deriving DecidableEq, Repr

/-- A copy of a record, Table 15-3. -/
structure RecCopy where
  seq     : Nat
  stamp   : U32
  payload : List Byte
  crc     : U32
  deriving DecidableEq, Repr

/-- The two slots of a record kind and the copy in use (false is slot A). -/
structure RecPair where
  a     : Option RecCopy
  b     : Option RecCopy
  inUse : Option Bool
  deriving DecidableEq, Repr

/-- What a store copies: the user area, the fault log and the records. -/
structure Array_ where
  user : List Host.Cell
  log  : List LogEntry
  recs : Vector RecPair 6
  deriving DecidableEq, Repr

/-- Why a store was asked for (R402). -/
inductive StoreCause where
  | command | interval | standby | ship | config | key_ | powerFail | regFail
  deriving DecidableEq, Repr

/-- A change of the configuration-signing key whose store has not ended (R417): the path that waits for its answer, none once the core
domain has gone off, and the key's records before it. -/
structure KeyWait where
  path : Option HostPath
  old  : RecPair
  deriving DecidableEq, Repr

/-- The keep store. -/
structure Keep where
  sram    : Array_
  shadow  : Array_
  running : Option (StoreCause × Array_)    -- phase 3 copies this snapshot
  queued  : List StoreCause
  waiting : Option StoreCause  -- waits for VSTORE_OK
  skipped : Bool
  auto    : Bool
  cfgWork : List Byte
  cfgBuilt : Bool
  cfgSig  : List Byte
  cfgHash : List Byte
  cfgStat : Nat
  cfgInstall : Bool
  cfgInUse : List Byte         -- the image that step 8 applied, none where it applied none (R414)
  cfgOld  : Option RecPair     -- restored if the store of a commit is skipped
  keyWaits : List KeyWait      -- oldest first
  keyRun  : Nat                -- how many of them the running store serves
  sha     : Nat                -- number of signatures made
  idStat  : Nat
  idSign  : Option (List Byte) -- message to sign
  idExport : Bool
  idSig   : List Byte
  exportBlob : List Byte
  keyNew  : List Byte
  deriving DecidableEq, Repr

/-- The housekeeping ADC. -/
structure Adc where
  left   : List Nat            -- channels left in the scan; the head is converting
  refRdy : Bool
  owOn   : Bool                -- the converting channel's open-wire current stands from its OW_SETTLE to the end of its acquisition (R427)
  owUp   : Bool                -- it is a source, as OW_UP was when the conversion began
  owFrom : Nat                 -- COUNT64 at the start of that OW_SETTLE
  owTo   : Nat                 -- COUNT64 at the end of that acquisition
  deriving DecidableEq, Repr

/-- The herd bus. -/
structure Herd where
  collided : Bool
  alone    : Bool              -- follower: the master is lost, the node runs its own scripts (R246)
  last     : Nat               -- follower last polled, 0 none
  answered : Bool
  miss     : Vector Nat 16
  present  : BitVec 16
  done     : BitVec 16         -- members that report the running step complete
  failed   : BitVec 16
  masterMode : Nat
  stepDone : Nat               -- follower: STEP_STATE of its step
  onReq    : Bool
  offReq   : Bool
  forcedReq : Bool
  stopFault : Bool
  sendEvt  : List Nat          -- follower: events for its next STATUS frames, oldest first (R244)
  sent     : List (List Byte)  -- frames put on the bus, oldest first
  deriving DecidableEq, Repr

/-- The states of the test port's controller, those of IEEE 1149.1 (R438). -/
inductive TapState where
  | testLogicReset | runTestIdle | selectDr | captureDr | shiftDr | exit1Dr | pauseDr | exit2Dr | updateDr
  | selectIr | captureIr | shiftIr | exit1Ir | pauseIr | exit2Ir | updateIr
  deriving DecidableEq, Repr

/-- The test port (R438). -/
structure Tap where
  state : TapState
  ir    : List Bool            -- instruction in force
  shift : List Bool            -- instruction register being shifted
  dr    : List Bool            -- boundary-scan or bypass register
  tdo   : Option Bool          -- TDO, none where it is not driven
  held  : List Bool            -- what the last update put on the output cells that a test may drive
  deriving DecidableEq, Repr

/-- The whole device. -/
structure State where
  variant : Variant
  pwr     : Power
  md      : Modes
  latch   : Latch
  pins    : Pins
  regs    : List (Key × Nat)
  shadow  : List (Key × Nat)
  active  : List (Key × Nat)
  mirror  : List (Key × Nat)    -- status as last copied for the host (R27)
  ports   : Vector Port 32
  rails   : Vector Rail 16
  engines : Vector Engine 9
  sc      : Vector Conv 33
  vc      : Vector Conv 16
  milk    : Milk
  ledger  : Vector Ledger 32
  sqe     : Sqe
  chg     : Charger
  thm     : Thermal
  flt     : Collector
  aon     : AonRecord
  seq     : U32                -- newest SEQ of the log
  cmt     : Commit
  paths   : Vector PathState 10
  can     : Can
  tw      : TwoWire
  tb      : Timebase
  wd      : Watchdog
  irq     : Irq
  ks      : Keep
  adc     : Adc
  herd    : Herd
  tap     : Tap
  sent    : List Frame         -- frames handed to the links, oldest first
  freeCtr : Nat                -- the model's own counter of free values (log entry 1)
  pending : List Instr
  deriving DecidableEq, Repr

/-! ## Reset -/

def Tap.reset : Tap := { state := .testLogicReset, ir := [], shift := [], dr := [], tdo := none, held := [] }

def Port.reset : Port :=
  { state := .off, count := 0, nudge := 0, hold := 0, wrapped := false, ending := none, onAt := 0, onDue := false, lim := none,
    ghNew := false, glAt := 0, lowTime := 0, pulsed := false,
    gh := false, gl := false, fired := [], blanked := false, crossed := false, cmd := 0, dac := 0, ramp := 0, limPend := false,
    filt := false, refreshNow := false, bstLow := false, gateCmd := 0, capped := false, rampRef := 0, newCmd := none, skip := false,
    limitNow := false, timing := none, refresh := 0, bstRun := 0, backRun := 0,
    backNow := false, shortRun := 0, shortNow := false, backArm := none, rectOff := false, sum := 0, num := 0, wMin := 0,
    wMax := 0, last := none, pSum := 0, pNum := 0, pMin := 0, pMax := 0, uSum := 0, uNum := 0, uMin := 0, uMax := 0, heard := 0,
    fed := false, heldNext := false, share := 0, shareSh := 0, satRun := 0,
    region := 0, regRun := 0, regSide := false, boostDuty := 0, failAt := none, tachAt := none, pulled := false,
    due := false }

def Rail.reset : Rail :=
  { state := .off, heldOn := false, shed := 0, vref := 0, target := 0, eHist := (0, 0), yHist := (0, 0),
    shHist := ((0, 0), (0, 0)), seeded := false, ssDone := false, words := [], sum := 0, num := 0, pSum := 0, pNum := 0, uSum := 0,
    uNum := 0, moved := none, moving := 0,
    trunc := false, truncPer := false, dwell := 0, spacing := 0, ovRun := 0, ovwRun := 0, ovwOff := 0, uvRun := 0,
    uvClr := 0, uvwRun := 0, uvwOff := 0, pgRun := 0, pgOff := 0, fallRun := 0, pg := false, ovWarn := false,
    uvWarn := false, belowFall := true, ovSaid := false, uvSaid := false, hicCount := 0, hicWait := false, huOff := false,
    huRun := false, addDue := false, truncDac := 0, failAt := none, due := false }

def Engine.reset : Engine := { state := .selftest, covers := 0xFF, frame := none, late := 0, blocked := false, words := [] }

def Conv.reset : Conv :=
  { gain := 0x1000000, offset := 0, buffer := [], dropAt := none, rejects := 0, ramp := none, lastRaw := none,
    lastWord := 0, zeroSum := 0, refSum := 0, stolen := 0 }

def Visit.reset : Visit :=
  { words := 0, n := 0, ss := 0, sr := 0, sss := 0, srr := 0, ssr := 0, cal0 := (0, 0), calP := (0, 0), calN := (0, 0),
    abandoned := false, idle := false }

/-- The milk round after a reset; the five temperature trims start at 0 (R200). (DESIGN CHOICE, log entry 108). -/
def Milk.reset : Milk :=
  { running := false, slot := 0xFF, visit := .reset, firstDone := false, roundOne := false, clean := true, rejectRow := 0,
    standin := none, standGain := 0, standOffset := 0, calGain := 0x1000000, calOffset := 0, roverFailed := false,
    noSpare := false, frozen := false, trims := Vector.replicate 5 0 }

def Ledger.reset : Ledger :=
  { charge := 0, energy := 0, snapCharge := 0, snapEnergy := 0, snapStamp := 0, restored := 0 }

def Sqe.reset : Sqe :=
  { stat := .idle, step := 0xFF, phase := .none_, since := 0, named := 0, second := 0, fallen := 0, forced := false,
    restart := 0, partial_ := none, queue := [], handlers := [], events := 0, begun := false }

def Charger.reset : Charger :=
  { state := .off, heldPhase := .wait, cycle := false, fresh := true, asked := false, periodicDue := false,
    searching := false, refTaken := false, periodic := false, vinRef := 0, lastResult := 0, iinLim := 100, vinLow := false,
    sagging := false, limInput := false, limThermal := false, batt := true, holdupLost := false, demandLtd := false,
    wdStopped := false, zone := 4, tSafe := 0, tPre := 0, tCv := 0, clk := 0, pulse := 0, iOut := 0, vbat := 0, vinMv := 0, iin := 0, holdAt := 0 }

def Sensor.reset : Sensor :=
  { status := .init, raw := none, eff := none, src := 0, suspect := false, reached := 0, setRun := Vector.replicate 5 0,
    clrRun := Vector.replicate 5 0 }

def DieSensor.reset : DieSensor := { reading := none, hist := [], status := .valid, said := false }

def Thermal.reset : Thermal :=
  { ts := Vector.replicate 16 .reset, die := Vector.replicate 4 .reset, dieTemp := none, die125 := false, die140 := false,
    run125 := 0, run140 := 0, clr125 := 0, clr140 := 0, noValid := false, recovery := false, recovRun := false, slot := 0, armed := 0,
    maxRead := 0, shutdownPolicy := 0,
    stopping := false, dieHard := false }

def AonRecord.reset : AonRecord :=
  { firstCode := 0, firstUnit := 0, firstStamp := 0, lastCode := 0, lastUnit := 0, lastStamp := 0, open_ := false,
    trips := 0, waiting := [], shipStore := none }

def Collector.reset : Collector :=
  { ports := 0, groups := 0, noSpare := 0, rails := 0, sensors := 0, engines := 0, sc := 0, vc := 0, charger := false,
    movedAt := none, cause := false }

def Group.reset : Group := { staged := [], ids := [], byWrite := false, bySrc := none }

def Commit.reset : Commit := { nextId := 0, out := [], groups := Vector.replicate 8 .reset, moved := [], movedAt := 0, fences := [] }

def PathState.reset : PathState :=
  { tag := 0, select := 0, ksAddr := 0, ksLen := 1, fresh := 0, owed := false, asked := none, heldFence := [], heldKey := [],
    abort := 0, answer := [] }

def LinkState.reset : LinkState :=
  { enabled := false, lowRate := false, rate := 3, dRate := 4, nom := 3, spNom := 80, spData := 75, passive := false, busOff := false,
    txErr := 0, rxErr := 0, emcy := [], emcyAt := none,
    session := none }

def Can.reset : Can :=
  { links := Vector.replicate 2 .reset, linksSet := false, nodeId := 0x10, nmt := .preop, nmtWake := false, hbArmed := Vector.replicate 4 none,
    rpdo := Vector.replicate 8 none, tpdoLast := Vector.replicate 8 none, tpdoAt := Vector.replicate 8 none, syncCnt := Vector.replicate 8 0 }

def Context.reset : Context :=
  { pointer := 0, mbox := Vector.replicate 256 0, chunk := [], chunkKey := none, busy := false, run := none, result := 0,
    abort := 0, owns := false }

def TwoWire.reset : TwoWire :=
  { ctx := Vector.replicate 8 .reset, now := none, since := 0, first := [], base := 0x58, mask := 0, next := none, wakeAddr := none,
    attn := false, attnAt := none }

def Timebase.reset : Timebase :=
  { running := true, count := 0, wraps := 0, gapTicks := 0, fresh := [],
    cmp := Vector.replicate 16 { armed := false, from_ := 0, late := false, startAt := none, startBy := 0 },
    cap := Vector.replicate 8 { armed := false, full := false, from_ := 0, capAt := none, prev := 0, ovr := false } }

def Watchdog.reset : Watchdog :=
  { running := false, first := false, length := 0, count := 0, sub := 0, key := none, checked := 0 }

def Irq.reset : Irq := { pend := 0, fresh := 0, activeA := none, activeB := none }

def RecPair.reset : RecPair := { a := none, b := none, inUse := none }

def Array_.reset : Array_ := { user := [], log := [], recs := Vector.replicate 6 .reset }

def Keep.reset : Keep :=
  { sram := .reset, shadow := .reset, running := none, queued := [], waiting := none, skipped := false, auto := false,
    cfgWork := [], cfgBuilt := false, cfgSig := [], cfgHash := [], cfgStat := 0, cfgInstall := false, cfgInUse := [], cfgOld := none,
    keyWaits := [], keyRun := 0, sha := 0, idStat := 0, idSign := none, idExport := false, idSig := [], exportBlob := [], keyNew := [] }

def Adc.reset : Adc := { left := [], refRdy := false, owOn := false, owUp := false, owFrom := 0, owTo := 0 }

def Herd.reset : Herd :=
  { collided := false, alone := false, last := 0, answered := true, miss := Vector.replicate 16 0, present := 0, done := 0, failed := 0,
    masterMode := 1, stepDone := 0, onReq := false, offReq := false, forcedReq := false, stopFault := false,
    sendEvt := [], sent := [] }

/-- The supplies right after reset, on the board of log entry 12 (DESIGN CHOICE). -/
def Power.reset : Power :=
  { step := .aonUp, coreWanted := true, regFailed := false, regMon := false, vcc5Mon := false, clkMon := false,
    vsys := .below, vin := false, vio := true, vcc5 := false, vcore := false, vstoreOk := false, vstoreChg := true,
    vdrv := 0, vdrvSeen := 0, xtalOsc := false, xtalOk := false, refAon := false, pllLock := false, dllLock := false,
    gated := false, owed := [], resetCause := 1, afterFull := true, wake := none, lateWake := none, lateOther := none, entering := false,
    pbArmed := false, strap := 0, qualGap := false }

def Modes.reset : Modes :=
  { mode := .standby, prev := .standby, stamp := 0, cause := 0, stopFault := false, svcAsked := false, byHoldup := false,
    requal := false, challenge := [], authSig := [], svcStat := 0, authAt := 0, keySince := 0 }

def Latch.reset : Latch := { set := false, hard := false, estop := false, coreReg := false, clock := false, die := 0 }

def Pins.reset : Pins :=
  { pb := false, mr := false, pressAt := none, mrAt := none, svckey := false, capin := 0, door := false, seqin := 0, latched := [],
    rstA := true, rstB := true,
    pulse := false }

/-- The device at step 2 of Table 2-5 after a power-on reset: AON island running, timebase 0, latch clear, core domain
off, keep store as delivered (R58, R61; log entries 2–4). (DEDUCED, log entry 3). Working registers that the spec gives no reset value
start at zero or at rest. (DESIGN CHOICE, log entry 110). -/
def State.reset : State :=
  { variant := .hj32, pwr := .reset, md := .reset, latch := .reset, pins := .reset, regs := [], shadow := [], active := [], mirror := [],
    ports := Vector.replicate 32 .reset, rails := Vector.replicate 16 .reset, engines := Vector.replicate 9 .reset,
    sc := Vector.replicate 33 .reset, vc := Vector.replicate 16 .reset, milk := .reset,
    ledger := Vector.replicate 32 .reset, sqe := .reset, chg := .reset, thm := .reset, flt := .reset, aon := .reset,
    seq := 0, cmt := .reset, paths := Vector.replicate 10 .reset, can := .reset, tw := .reset, tb := .reset, wd := .reset,
    irq := .reset, ks := .reset, adc := .reset, herd := .reset, tap := .reset, sent := [], freeCtr := 0, pending := [] }

end Sys2Proof.Machine
end

