-- ==== Sys2Proof/Machine/Objects.lean ====
section
/-! DEFINITION. The object dictionary's map (Table 12-3) and its subindices as rows of data: type, access code, default,
range and writable bits, as the object tables of every chapter give them. -/

namespace Sys2Proof.Machine
open Sys2Proof

/-- Access codes of Table 0-3. -/
inductive Acc where
  | ro | rw | wo | w1c | rc
  deriving DecidableEq, Repr

/-- Data types: a number of so many bytes, signed or not, an octet string of fixed length, a DOMAIN. -/
inductive Ty where
  | num (bytes : Nat) (isSigned : Bool)
  | oct (len : Nat)
  | dom
  deriving DecidableEq, Repr

/-- A row of an object table, for the subindices `lo … hi`. `min` and `max` bound the (signed) value; `mask` names the
bits that are not reserved, of which the others are ignored on a write (R12). -/
structure Obj where
  lo : Nat
  hi : Nat
  ty : Ty
  acc : Acc
  dflt : Nat
  min : Int
  max : Int
  mask : Option Nat
  deriving DecidableEq, Repr

/-- Table 2-7, 3-5, 0x2000.00–21: highest, MODE, MODE_PREV, MODE_STAMP, TRANS_CAUSE, WAKE_CAUSE, START_CFG, VIN_QUAL, REQ_STAT,
SVC_CHALLENGE, SVC_AUTH, SVC_STAT, SVC_IDLE_TMO, SVC_PORT, SUPPLY_STAT, VDRV_STAT. -/
def devCtrlRows0 : List Obj :=
  [⟨0x00, 0x00, .num 1 false, .ro, 37, 0, 255, none⟩,
   ⟨0x01, 0x01, .num 1 false, .rw, 0, 0, 255, none⟩,
   ⟨0x02, 0x02, .num 1 false, .ro, 1, 0, 255, none⟩,
   ⟨0x03, 0x03, .num 4 false, .ro, 0, 0, 4294967295, none⟩,
   ⟨0x04, 0x04, .num 1 false, .ro, 0, 0, 255, none⟩,
   ⟨0x05, 0x05, .num 1 false, .rc, 0, 0, 255, none⟩,
   ⟨0x06, 0x06, .num 1 false, .rw, 0, 0, 255, some 0x03⟩,
   ⟨0x07, 0x07, .num 2 false, .rw, 500, 10, 10000, none⟩,
   ⟨0x08, 0x08, .num 1 false, .w1c, 0, 0, 255, some 0x0F⟩,
   ⟨0x09, 0x09, .oct 16, .ro, 0, 0, 0, none⟩,
   ⟨0x0A, 0x0A, .oct 64, .wo, 0, 0, 0, none⟩,
   ⟨0x0B, 0x0B, .num 1 false, .ro, 0, 0, 255, none⟩,
   ⟨0x0C, 0x0C, .num 2 false, .rw, 600, 10, 3600, none⟩,
   ⟨0x0D, 0x0D, .num 1 false, .rw, 255, 0, 255, none⟩,
   ⟨0x20, 0x20, .num 2 false, .ro, 0, 0, 65535, none⟩,
   ⟨0x21, 0x21, .num 1 false, .ro, 0, 0, 255, none⟩]

/-- Table 2-7, 0x2000.22–25: CLK_STAT, XTAL_LOSS_CNT, RESET_CAUSE, CORE_RESET. -/
def devCtrlRows1 : List Obj :=
  [⟨0x22, 0x22, .num 1 false, .ro, 0, 0, 255, none⟩,
   ⟨0x23, 0x23, .num 2 false, .ro, 0, 0, 65535, none⟩,
   ⟨0x24, 0x24, .num 1 false, .ro, 1, 0, 255, none⟩,
   ⟨0x25, 0x25, .num 4 false, .wo, 0, 0, 4294967295, none⟩]

/-- All rows of 0x2000. -/
def devCtrlRows : List Obj := devCtrlRows0 ++ devCtrlRows1

/-- Table 4-11, 0x2100.00–0F: highest, PERSONALITY, RAIL, STATE, SHUNT, I_LIM, LIMIT_CODE, TRIP_MODE, BLANK, SLOPE, BACKSTOP, DT_HL, DT_LH,
D_MAX, T_OFF_MIN, LIGHT_MODE. -/
def portRows0 : List Obj :=
  [⟨0x00, 0x00, .num 1 false, .ro, 53, 0, 255, none⟩,
   ⟨0x01, 0x01, .num 1 false, .rw, 0, 0, 6, none⟩,
   ⟨0x02, 0x02, .num 1 false, .ro, 255, 0, 255, none⟩,
   ⟨0x03, 0x03, .num 1 false, .ro, 0, 0, 255, none⟩,
   ⟨0x04, 0x04, .num 4 false, .rw, 2000, 100, 1000000, none⟩,
   ⟨0x05, 0x05, .num 4 false, .rw, 1000, 0, 4294967295, none⟩,
   ⟨0x06, 0x06, .num 2 true, .ro, 10, (-32768), 32767, none⟩,
   ⟨0x07, 0x07, .num 1 false, .rw, 0, 0, 1, none⟩,
   ⟨0x08, 0x08, .num 1 false, .rw, 12, 4, 40, none⟩,
   ⟨0x09, 0x09, .num 2 false, .rw, 0, 0, 65535, none⟩,
   ⟨0x0A, 0x0A, .num 1 false, .rw, 160, 129, 255, none⟩,
   ⟨0x0B, 0x0B, .num 1 false, .rw, 64, 16, 255, none⟩,
   ⟨0x0C, 0x0C, .num 1 false, .rw, 64, 16, 255, none⟩,
   ⟨0x0D, 0x0D, .num 1 false, .rw, 240, 16, 250, none⟩,
   ⟨0x0E, 0x0E, .num 1 false, .rw, 16, 8, 200, none⟩,
   ⟨0x0F, 0x0F, .num 1 false, .rw, 0, 0, 1, none⟩]

/-- Table 4-11, 0x2100.10–24: BST_REFRESH, T_REFRESH, TRIP_FLAGS, LIMIT_CNT, BACKSTOP_CNT, BST_REFRESH_CNT, I_AVG, DUTY, PERIOD, PHASE_OFS,
BB_REGION, LSW_SLEW, LSW_INRUSH, LSW_RAMP_TMO, LSW_I_OL, LSW_T_OL. -/
def portRows1 : List Obj :=
  [⟨0x10, 0x10, .num 1 false, .rw, 16, 1, 255, none⟩,
   ⟨0x11, 0x11, .num 1 false, .rw, 40, 16, 255, none⟩,
   ⟨0x12, 0x12, .num 2 false, .w1c, 0, 0, 65535, some 0x1FFF⟩,
   ⟨0x13, 0x13, .num 4 false, .rc, 0, 0, 4294967295, none⟩,
   ⟨0x14, 0x14, .num 4 false, .rc, 0, 0, 4294967295, none⟩,
   ⟨0x15, 0x15, .num 4 false, .rc, 0, 0, 4294967295, none⟩,
   ⟨0x16, 0x16, .num 4 true, .ro, 0, (-2147483648), 2147483647, none⟩,
   ⟨0x17, 0x17, .num 2 false, .ro, 0, 0, 65535, none⟩,
   ⟨0x18, 0x18, .num 2 false, .ro, 0, 0, 65535, none⟩,
   ⟨0x19, 0x19, .num 2 false, .ro, 0, 0, 65535, none⟩,
   ⟨0x1A, 0x1A, .num 1 false, .ro, 0, 0, 255, none⟩,
   ⟨0x20, 0x20, .num 2 false, .rw, 100, 1, 1000, none⟩,
   ⟨0x21, 0x21, .num 4 false, .rw, 500, 0, 4294967295, none⟩,
   ⟨0x22, 0x22, .num 2 false, .rw, 100, 1, 10000, none⟩,
   ⟨0x23, 0x23, .num 4 false, .rw, 0, 0, 4294967295, none⟩,
   ⟨0x24, 0x24, .num 2 false, .rw, 100, 1, 60000, none⟩]

/-- Table 4-11, 0x2100.25–35: LSW_CFG, COIL_I_PULL, COIL_T_PULL, COIL_I_HOLD, COIL_T_RISE, COIL_T_REL, FAN_DUTY, FAN_TACH, FAN_PPR,
FAN_STALL_TMO, FAN_RPM, FAN_I_OPEN. -/
def portRows2 : List Obj :=
  [⟨0x25, 0x25, .num 1 false, .rw, 0, 0, 255, some 0x01⟩,
   ⟨0x28, 0x28, .num 4 false, .rw, 1000, 0, 4294967295, none⟩,
   ⟨0x29, 0x29, .num 2 false, .rw, 100, 10, 2000, none⟩,
   ⟨0x2A, 0x2A, .num 4 false, .rw, 300, 0, 4294967295, none⟩,
   ⟨0x2B, 0x2B, .num 2 false, .rw, 20, 1, 500, none⟩,
   ⟨0x2C, 0x2C, .num 2 false, .rw, 20, 1, 500, none⟩,
   ⟨0x30, 0x30, .num 1 false, .rw, 0, 0, 100, none⟩,
   ⟨0x31, 0x31, .num 1 false, .rw, 255, 0, 255, none⟩,
   ⟨0x32, 0x32, .num 1 false, .rw, 2, 1, 8, none⟩,
   ⟨0x33, 0x33, .num 2 false, .rw, 2000, 100, 10000, none⟩,
   ⟨0x34, 0x34, .num 2 false, .ro, 0, 0, 65535, none⟩,
   ⟨0x35, 0x35, .num 4 false, .rw, 50, 0, 4294967295, none⟩]

/-- All rows of 0x2100. -/
def portRows : List Obj := portRows0 ++ portRows1 ++ portRows2

/-- Table 6-8, 0x2200.00–0F: highest, PORT_MASK, PERSONALITY, ENABLE, STATE, N_PHASES, N_ACTIVE, FSW, VSET, DIV_RATIO, SLEW, SS_SLEW,
SS_TMO, VREF_NOW, V_OUT, I_OUT. -/
def railRows0 : List Obj :=
  [⟨0x00, 0x00, .num 1 false, .ro, 99, 0, 255, none⟩,
   ⟨0x01, 0x01, .num 4 false, .rw, 0, 0, 4294967295, none⟩,
   ⟨0x02, 0x02, .num 1 false, .ro, 0, 0, 255, none⟩,
   ⟨0x03, 0x03, .num 1 false, .rw, 0, 0, 1, none⟩,
   ⟨0x04, 0x04, .num 1 false, .ro, 0, 0, 255, none⟩,
   ⟨0x05, 0x05, .num 1 false, .ro, 0, 0, 255, none⟩,
   ⟨0x06, 0x06, .num 1 false, .ro, 0, 0, 255, none⟩,
   ⟨0x07, 0x07, .num 4 false, .rw, 500000, 100000, 2000000, none⟩,
   ⟨0x08, 0x08, .num 4 false, .rw, 1000000, 0, 60000000, none⟩,
   ⟨0x09, 0x09, .num 2 false, .rw, 32768, 656, 65535, none⟩,
   ⟨0x0A, 0x0A, .num 2 false, .rw, 100, 1, 1000, none⟩,
   ⟨0x0B, 0x0B, .num 2 false, .rw, 50, 1, 1000, none⟩,
   ⟨0x0C, 0x0C, .num 2 false, .rw, 50, 1, 10000, none⟩,
   ⟨0x0D, 0x0D, .num 4 false, .ro, 0, 0, 4294967295, none⟩,
   ⟨0x0E, 0x0E, .num 4 false, .ro, 0, 0, 4294967295, none⟩,
   ⟨0x0F, 0x0F, .num 4 true, .ro, 0, (-2147483648), 2147483647, none⟩]

/-- Table 6-8, 0x2200.10–23: TRUNC_THR, TRUNC_CNT, SKIM_EN, SHED_LO, ADD_HI, SHED_DWELL, ADD_ALL, MIN_PHASES, MIN_LIVE, RAIL_FLAGS,
SHARE_SAT_MASK, OFF_RAMP, B0, B1, B2, A1. -/
def railRows1 : List Obj :=
  [⟨0x10, 0x10, .num 4 false, .rw, 100000, 0, 4294967295, none⟩,
   ⟨0x11, 0x11, .num 4 false, .rc, 0, 0, 4294967295, none⟩,
   ⟨0x12, 0x12, .num 1 false, .rw, 0, 0, 1, none⟩,
   ⟨0x13, 0x13, .num 4 false, .rw, 0, 0, 4294967295, none⟩,
   ⟨0x14, 0x14, .num 4 false, .rw, 0, 0, 4294967295, none⟩,
   ⟨0x15, 0x15, .num 2 false, .rw, 100, 1, 60000, none⟩,
   ⟨0x16, 0x16, .num 1 false, .rw, 192, 64, 250, none⟩,
   ⟨0x17, 0x17, .num 1 false, .rw, 1, 1, 255, none⟩,
   ⟨0x18, 0x18, .num 1 false, .rw, 1, 1, 255, none⟩,
   ⟨0x19, 0x19, .num 1 false, .w1c, 0, 0, 255, some 0x3F⟩,
   ⟨0x1A, 0x1A, .num 1 false, .ro, 0, 0, 255, none⟩,
   ⟨0x1B, 0x1B, .num 1 false, .rw, 1, 0, 1, none⟩,
   ⟨0x20, 0x20, .num 4 true, .rw, 52429, (-2147483648), 2147483647, none⟩,
   ⟨0x21, 0x21, .num 4 true, .rw, 0, (-2147483648), 2147483647, none⟩,
   ⟨0x22, 0x22, .num 4 true, .rw, 0, (-2147483648), 2147483647, none⟩,
   ⟨0x23, 0x23, .num 4 true, .rw, 4293918720, (-2147483648), 2147483647, none⟩]

/-- Table 6-8, 8-6, 0x2200.24–4C: A2, KS, SHARE_MAX, OV_FAULT, OV_WARN, PG_THR, PG_HYST, UV_WARN, UV_FAULT, FALL, FILT_OV, FILT_UV, FILT_PG,
SUP_CFG, SUP_STAT, SUP_FLAGS. -/
def railRows2 : List Obj :=
  [⟨0x24, 0x24, .num 4 true, .rw, 0, (-2147483648), 2147483647, none⟩,
   ⟨0x25, 0x25, .num 2 false, .rw, 655, 0, 65535, none⟩,
   ⟨0x26, 0x26, .num 4 false, .rw, 500, 0, 4294967295, none⟩,
   ⟨0x40, 0x40, .num 4 false, .rw, 1150000, 0, 4294967295, none⟩,
   ⟨0x41, 0x41, .num 4 false, .rw, 1100000, 0, 4294967295, none⟩,
   ⟨0x42, 0x42, .num 4 false, .rw, 930000, 0, 4294967295, none⟩,
   ⟨0x43, 0x43, .num 4 false, .rw, 20000, 0, 4294967295, none⟩,
   ⟨0x44, 0x44, .num 4 false, .rw, 950000, 0, 4294967295, none⟩,
   ⟨0x45, 0x45, .num 4 false, .rw, 900000, 0, 4294967295, none⟩,
   ⟨0x46, 0x46, .num 4 false, .rw, 100000, 0, 4294967295, none⟩,
   ⟨0x47, 0x47, .num 1 false, .rw, 2, 1, 255, none⟩,
   ⟨0x48, 0x48, .num 1 false, .rw, 8, 1, 255, none⟩,
   ⟨0x49, 0x49, .num 1 false, .rw, 4, 1, 255, none⟩,
   ⟨0x4A, 0x4A, .num 1 false, .rw, 0, 0, 255, some 0x01⟩,
   ⟨0x4B, 0x4B, .num 1 false, .ro, 0, 0, 255, none⟩,
   ⟨0x4C, 0x4C, .num 1 false, .w1c, 0, 0, 255, some 0x7F⟩]

/-- Table 8-6, 9-13, 0x2200.4D–61: HIC_RETRIES, HIC_INTERVAL, HIC_CLEAR, HIC_COUNT, FALL_TMO, OV_CNT, UV_CNT, OC_CNT, START_FAIL_CNT,
PG_LOSS_CNT, SHED_CNT, ADD_CNT, FENCE_CNT, CNT_CLEAR, HU_TAG, HU_TIMED. -/
def railRows3 : List Obj :=
  [⟨0x4D, 0x4D, .num 1 false, .rw, 3, 0, 255, none⟩,
   ⟨0x4E, 0x4E, .num 2 false, .rw, 500, 10, 60000, none⟩,
   ⟨0x4F, 0x4F, .num 2 false, .rw, 1000, 10, 60000, none⟩,
   ⟨0x50, 0x50, .num 1 false, .ro, 0, 0, 255, none⟩,
   ⟨0x51, 0x51, .num 2 false, .rw, 100, 1, 60000, none⟩,
   ⟨0x52, 0x52, .num 4 false, .ro, 0, 0, 4294967295, none⟩,
   ⟨0x53, 0x53, .num 4 false, .ro, 0, 0, 4294967295, none⟩,
   ⟨0x54, 0x54, .num 4 false, .ro, 0, 0, 4294967295, none⟩,
   ⟨0x55, 0x55, .num 4 false, .ro, 0, 0, 4294967295, none⟩,
   ⟨0x56, 0x56, .num 4 false, .ro, 0, 0, 4294967295, none⟩,
   ⟨0x57, 0x57, .num 4 false, .ro, 0, 0, 4294967295, none⟩,
   ⟨0x58, 0x58, .num 4 false, .ro, 0, 0, 4294967295, none⟩,
   ⟨0x59, 0x59, .num 4 false, .ro, 0, 0, 4294967295, none⟩,
   ⟨0x5A, 0x5A, .num 4 false, .wo, 0, 0, 4294967295, none⟩,
   ⟨0x60, 0x60, .num 1 false, .rw, 0, 0, 2, none⟩,
   ⟨0x61, 0x61, .num 4 false, .rw, 60, 1, 86400, none⟩]

/-- Table 9-13, 0x2200.62–63: HU_VOFF, HU_LEFT. -/
def railRows4 : List Obj :=
  [⟨0x62, 0x62, .num 4 false, .rw, 0, 0, 4294967295, none⟩,
   ⟨0x63, 0x63, .num 4 false, .ro, 0, 0, 4294967295, none⟩]

/-- All rows of 0x2200. -/
def railRows : List Obj := railRows0 ++ railRows1 ++ railRows2 ++ railRows3 ++ railRows4

/-- Table 8-12, 0x2300.00–0F: highest, UP_FIRST, UP_COUNT, DOWN_FIRST, DOWN_COUNT, SEQ_STAT, SEQ_STEP, SEQ_CMD, SEQ_FLAGS, LAST_FAIL_STEP,
LAST_FAIL_STAMP, LAST_FAIL_CAUSE, PB_LONG, DOOR_ACT, PIN_STAT, PIN_EVT. -/
def seqRows0 : List Obj :=
  [⟨0x00, 0x00, .num 1 false, .ro, 16, 0, 255, none⟩,
   ⟨0x01, 0x01, .num 1 false, .rw, 0, 0, 63, none⟩,
   ⟨0x02, 0x02, .num 1 false, .rw, 0, 0, 64, none⟩,
   ⟨0x03, 0x03, .num 1 false, .rw, 32, 0, 63, none⟩,
   ⟨0x04, 0x04, .num 1 false, .rw, 0, 0, 64, none⟩,
   ⟨0x05, 0x05, .num 1 false, .ro, 0, 0, 255, none⟩,
   ⟨0x06, 0x06, .num 1 false, .ro, 0, 0, 255, none⟩,
   ⟨0x07, 0x07, .num 1 false, .wo, 0, 1, 3, none⟩,
   ⟨0x08, 0x08, .num 1 false, .w1c, 0, 0, 255, some 0x3F⟩,
   ⟨0x09, 0x09, .num 1 false, .ro, 255, 0, 255, none⟩,
   ⟨0x0A, 0x0A, .num 4 false, .ro, 0, 0, 4294967295, none⟩,
   ⟨0x0B, 0x0B, .num 1 false, .ro, 0, 0, 255, none⟩,
   ⟨0x0C, 0x0C, .num 2 false, .rw, 8000, 4000, 16000, none⟩,
   ⟨0x0D, 0x0D, .num 1 false, .rw, 0, 0, 2, none⟩,
   ⟨0x0E, 0x0E, .num 2 false, .ro, 0, 0, 65535, none⟩,
   ⟨0x0F, 0x0F, .num 2 false, .w1c, 0, 0, 65535, some 0x1FF⟩]

/-- Table 8-12, 0x2300.10–10: SEQIN_POL. -/
def seqRows1 : List Obj :=
  [⟨0x10, 0x10, .num 1 false, .rw, 0, 0, 255, some 0x0F⟩]

/-- All rows of 0x2300. -/
def seqRows : List Obj := seqRows0 ++ seqRows1

/-- Table 8-13, 0x2340.00–06: highest, ACTION, MASK, WAIT, WAIT_ARG, TMO, POLICY. -/
def stepRows : List Obj :=
  [⟨0x00, 0x00, .num 1 false, .ro, 6, 0, 255, none⟩,
   ⟨0x01, 0x01, .num 1 false, .rw, 0, 0, 5, none⟩,
   ⟨0x02, 0x02, .num 2 false, .rw, 0, 0, 65535, none⟩,
   ⟨0x03, 0x03, .num 1 false, .rw, 0, 0, 4, none⟩,
   ⟨0x04, 0x04, .num 4 false, .rw, 0, 0, 4294967295, none⟩,
   ⟨0x05, 0x05, .num 2 false, .rw, 0, 0, 60000, none⟩,
   ⟨0x06, 0x06, .num 1 false, .rw, 0, 0, 2, none⟩]

/-- Table 10-7, 0x2400.00–0F: highest, MODE, IDEALITY, SER_RES, NTC_NOM, NTC_BETA, BIAS_RES, TEMP_OFS, NB_A, NB_B, LO_LIMIT, LO_WARN,
HI_WARN, HI_LIMIT, HI_STOP, THR_EN. -/
def sensorRows0 : List Obj :=
  [⟨0x00, 0x00, .num 1 false, .ro, 26, 0, 255, none⟩,
   ⟨0x01, 0x01, .num 1 false, .rw, 0, 0, 2, none⟩,
   ⟨0x02, 0x02, .num 2 false, .rw, 1008, 950, 1100, none⟩,
   ⟨0x03, 0x03, .num 2 false, .rw, 0, 0, 2000, none⟩,
   ⟨0x04, 0x04, .num 4 false, .rw, 10000, 1000, 1000000, none⟩,
   ⟨0x05, 0x05, .num 2 false, .rw, 3435, 2000, 6000, none⟩,
   ⟨0x06, 0x06, .num 4 false, .rw, 10000, 1000, 1000000, none⟩,
   ⟨0x07, 0x07, .num 2 true, .rw, 0, (-100), 100, none⟩,
   ⟨0x08, 0x08, .num 1 false, .rw, 255, 0, 255, none⟩,
   ⟨0x09, 0x09, .num 1 false, .rw, 255, 0, 255, none⟩,
   ⟨0x0A, 0x0A, .num 2 true, .rw, 65136, (-32768), 32767, none⟩,
   ⟨0x0B, 0x0B, .num 2 true, .rw, 65336, (-32768), 32767, none⟩,
   ⟨0x0C, 0x0C, .num 2 true, .rw, 700, (-32768), 32767, none⟩,
   ⟨0x0D, 0x0D, .num 2 true, .rw, 850, (-32768), 32767, none⟩,
   ⟨0x0E, 0x0E, .num 2 true, .rw, 1000, (-32768), 32767, none⟩,
   ⟨0x0F, 0x0F, .num 1 false, .rw, 28, 0, 255, some 0x1F⟩]

/-- Table 10-7, 0x2400.10–1A: HYST, THR_FILT, LIMIT_ACT, LIMIT_RAILS, STATUS, EFF_SRC, TEMP_RAW, TEMP_EFF, THR_STAT, THR_FLAGS, MAX_SEEN. -/
def sensorRows1 : List Obj :=
  [⟨0x10, 0x10, .num 2 false, .rw, 30, 5, 200, none⟩,
   ⟨0x11, 0x11, .num 1 false, .rw, 2, 1, 16, none⟩,
   ⟨0x12, 0x12, .num 1 false, .rw, 0, 0, 2, none⟩,
   ⟨0x13, 0x13, .num 2 false, .rw, 0, 0, 65535, none⟩,
   ⟨0x14, 0x14, .num 1 false, .ro, 0, 0, 255, none⟩,
   ⟨0x15, 0x15, .num 1 false, .ro, 0, 0, 255, none⟩,
   ⟨0x16, 0x16, .num 2 true, .ro, 0, (-32768), 32767, none⟩,
   ⟨0x17, 0x17, .num 2 true, .ro, 0, (-32768), 32767, none⟩,
   ⟨0x18, 0x18, .num 1 false, .ro, 0, 0, 255, none⟩,
   ⟨0x19, 0x19, .num 1 false, .w1c, 0, 0, 255, some 0x7F⟩,
   ⟨0x1A, 0x1A, .num 2 true, .rc, 32768, (-32768), 32767, none⟩]

/-- All rows of 0x2400. -/
def sensorRows : List Obj := sensorRows0 ++ sensorRows1

/-- Table 10-8, 0x2420.00–0A: highest, BATT_SENSOR, CROSS_DELTA, RECOV_TIME, STOP_TMO, POLICY, RECOVERY, DIE_TEMP, DIE_STAT, THERM_FLAGS,
SCAN_CNT. -/
def thermalRows : List Obj :=
  [⟨0x00, 0x00, .num 1 false, .ro, 10, 0, 255, none⟩,
   ⟨0x01, 0x01, .num 1 false, .rw, 255, 0, 255, none⟩,
   ⟨0x02, 0x02, .num 2 false, .rw, 150, 20, 500, none⟩,
   ⟨0x03, 0x03, .num 2 false, .rw, 60, 0, 3600, none⟩,
   ⟨0x04, 0x04, .num 2 false, .rw, 30, 1, 600, none⟩,
   ⟨0x05, 0x05, .num 1 false, .ro, 0, 0, 255, none⟩,
   ⟨0x06, 0x06, .num 1 false, .ro, 0, 0, 255, none⟩,
   ⟨0x07, 0x07, .num 2 true, .ro, 0, (-32768), 32767, none⟩,
   ⟨0x08, 0x08, .num 1 false, .ro, 0, 0, 255, none⟩,
   ⟨0x09, 0x09, .num 2 false, .w1c, 0, 0, 65535, some 0x3F⟩,
   ⟨0x0A, 0x0A, .num 4 false, .ro, 0, 0, 4294967295, none⟩]

/-- Table 9-11, 0x2500.00–0F: highest, CHG_CTRL, CHEM, CELLS, CHG_SHUNT, V_CHG_CELL, V_FLOAT_CELL, V_RECHG_CELL, V_PRE_CELL, I_CHG, I_PRE,
I_TERM, CV_HOLD, T_PRE, T_SAFE, T_COLD. -/
def chargerRows0 : List Obj :=
  [⟨0x00, 0x00, .num 1 false, .ro, 39, 0, 255, none⟩,
   ⟨0x01, 0x01, .num 1 false, .rw, 2, 0, 255, some 0x03⟩,
   ⟨0x02, 0x02, .num 1 false, .rw, 0, 0, 2, none⟩,
   ⟨0x03, 0x03, .num 1 false, .rw, 4, 3, 5, none⟩,
   ⟨0x04, 0x04, .num 4 false, .rw, 8000, 4000, 20000, none⟩,
   ⟨0x05, 0x05, .num 2 false, .rw, 3600, 0, 65535, none⟩,
   ⟨0x06, 0x06, .num 2 false, .rw, 3400, 0, 65535, none⟩,
   ⟨0x07, 0x07, .num 2 false, .rw, 3300, 0, 65535, none⟩,
   ⟨0x08, 0x08, .num 2 false, .rw, 2800, 0, 65535, none⟩,
   ⟨0x09, 0x09, .num 2 false, .rw, 1000, 100, 5000, none⟩,
   ⟨0x0A, 0x0A, .num 2 false, .rw, 200, 50, 1000, none⟩,
   ⟨0x0B, 0x0B, .num 2 false, .rw, 100, 50, 1000, none⟩,
   ⟨0x0C, 0x0C, .num 2 false, .rw, 45, 1, 600, none⟩,
   ⟨0x0D, 0x0D, .num 2 false, .rw, 30, 1, 120, none⟩,
   ⟨0x0E, 0x0E, .num 2 false, .rw, 360, 30, 1440, none⟩,
   ⟨0x0F, 0x0F, .num 2 true, .rw, 0, (-400), 600, none⟩]

/-- Table 9-11, 0x2500.10–1F: T_COOL, T_WARM, T_HOT, COOL_I, WARM_DV, IIN_MAX, IN_SAG, IIN_LIM, CHG_WD, CHG_KICK, CHG_STATE, CHG_FLAGS,
CHG_STAT, ZONE, VBAT, I_OUT. -/
def chargerRows1 : List Obj :=
  [⟨0x10, 0x10, .num 2 true, .rw, 100, (-400), 600, none⟩,
   ⟨0x11, 0x11, .num 2 true, .rw, 450, (-400), 600, none⟩,
   ⟨0x12, 0x12, .num 2 true, .rw, 550, (-400), 600, none⟩,
   ⟨0x13, 0x13, .num 1 false, .rw, 50, 10, 100, none⟩,
   ⟨0x14, 0x14, .num 2 false, .rw, 100, 0, 300, none⟩,
   ⟨0x15, 0x15, .num 2 false, .rw, 2000, 150, 10000, none⟩,
   ⟨0x16, 0x16, .num 1 false, .rw, 5, 1, 20, none⟩,
   ⟨0x17, 0x17, .num 2 false, .ro, 0, 0, 65535, none⟩,
   ⟨0x18, 0x18, .num 2 false, .rw, 40, 10, 300, none⟩,
   ⟨0x19, 0x19, .num 2 false, .wo, 0, 0, 65535, none⟩,
   ⟨0x1A, 0x1A, .num 1 false, .ro, 0, 0, 255, none⟩,
   ⟨0x1B, 0x1B, .num 2 false, .w1c, 0, 0, 65535, some 0x1FF⟩,
   ⟨0x1C, 0x1C, .num 2 false, .ro, 0, 0, 65535, none⟩,
   ⟨0x1D, 0x1D, .num 1 false, .ro, 0, 0, 255, none⟩,
   ⟨0x1E, 0x1E, .num 2 false, .ro, 0, 0, 65535, none⟩,
   ⟨0x1F, 0x1F, .num 4 true, .ro, 0, (-2147483648), 2147483647, none⟩]

/-- Table 9-11, 0x2500.20–27: VIN_MV, IIN, T_SAFE_USED, T_PRE_USED, HU_TIME, HU_VCELL_MIN, HU_REMAIN, CHG_CMD. -/
def chargerRows2 : List Obj :=
  [⟨0x20, 0x20, .num 2 false, .ro, 0, 0, 65535, none⟩,
   ⟨0x21, 0x21, .num 2 false, .ro, 0, 0, 65535, none⟩,
   ⟨0x22, 0x22, .num 4 false, .ro, 0, 0, 4294967295, none⟩,
   ⟨0x23, 0x23, .num 4 false, .ro, 0, 0, 4294967295, none⟩,
   ⟨0x24, 0x24, .num 4 false, .rw, 300, 0, 86400, none⟩,
   ⟨0x25, 0x25, .num 2 false, .rw, 2800, 0, 65535, none⟩,
   ⟨0x26, 0x26, .num 4 false, .ro, 0, 0, 4294967295, none⟩,
   ⟨0x27, 0x27, .num 1 false, .wo, 0, 1, 2, none⟩]

/-- All rows of 0x2500. -/
def chargerRows : List Obj := chargerRows0 ++ chargerRows1 ++ chargerRows2

/-- Table 14-9, 0x2600.00–0C: highest, WD_CTRL, PERIOD, FIRST_PERIOD, WIN_FRAC, KEY, EXPECT, CHECKIN, CHECKED, COUNT, WD_STAT, DUP_CNT,
SERVICE_CNT. -/
def watchdogRows : List Obj :=
  [⟨0x00, 0x00, .num 1 false, .ro, 12, 0, 255, none⟩,
   ⟨0x01, 0x01, .num 1 false, .rw, 0, 0, 255, some 0x01⟩,
   ⟨0x02, 0x02, .num 2 false, .rw, 100, 1, 1000, none⟩,
   ⟨0x03, 0x03, .num 2 false, .rw, 1000, 1, 10000, none⟩,
   ⟨0x04, 0x04, .num 1 false, .ro, 0, 0, 255, none⟩,
   ⟨0x05, 0x05, .num 2 false, .wo, 0, 0, 65535, none⟩,
   ⟨0x06, 0x06, .num 1 false, .rw, 0, 0, 255, none⟩,
   ⟨0x07, 0x07, .num 1 false, .wo, 0, 0, 255, none⟩,
   ⟨0x08, 0x08, .num 1 false, .ro, 0, 0, 255, none⟩,
   ⟨0x09, 0x09, .num 4 false, .ro, 0, 0, 4294967295, none⟩,
   ⟨0x0A, 0x0A, .num 1 false, .ro, 0, 0, 255, none⟩,
   ⟨0x0B, 0x0B, .num 4 false, .rc, 0, 0, 4294967295, none⟩,
   ⟨0x0C, 0x0C, .num 4 false, .ro, 0, 0, 4294967295, none⟩]

/-- Table 11-9, 0x2700.00–0F: highest, ACK, UNACK_C, UNACK_U, UNACK_F, COLL_STAT, UNFENCE, FENCED_PORTS, FENCED_GROUPS, FENCED_RAILS,
FENCED_SENSORS, FENCED_ENGINES, FAILED_SC, FAILED_VC, ESC_CNT, LOST_CNT. -/
def collectorRows0 : List Obj :=
  [⟨0x00, 0x00, .num 1 false, .ro, 22, 0, 255, none⟩,
   ⟨0x01, 0x01, .num 4 false, .wo, 0, 1, 4294967295, none⟩,
   ⟨0x02, 0x02, .num 2 false, .ro, 0, 0, 65535, none⟩,
   ⟨0x03, 0x03, .num 2 false, .ro, 0, 0, 65535, none⟩,
   ⟨0x04, 0x04, .num 2 false, .ro, 0, 0, 65535, none⟩,
   ⟨0x05, 0x05, .num 1 false, .ro, 0, 0, 255, none⟩,
   ⟨0x06, 0x06, .num 2 false, .wo, 0, 0, 65535, none⟩,
   ⟨0x07, 0x07, .num 4 false, .ro, 0, 0, 4294967295, none⟩,
   ⟨0x08, 0x08, .num 1 false, .ro, 0, 0, 255, none⟩,
   ⟨0x09, 0x09, .num 2 false, .ro, 0, 0, 65535, none⟩,
   ⟨0x0A, 0x0A, .num 4 false, .ro, 0, 0, 4294967295, none⟩,
   ⟨0x0B, 0x0B, .num 2 false, .ro, 0, 0, 65535, none⟩,
   ⟨0x0C, 0x0C, .num 4 false, .ro, 0, 0, 4294967295, none⟩,
   ⟨0x0D, 0x0D, .num 2 false, .ro, 0, 0, 65535, none⟩,
   ⟨0x0E, 0x0E, .num 4 false, .rc, 0, 0, 4294967295, none⟩,
   ⟨0x0F, 0x0F, .num 4 false, .rc, 0, 0, 4294967295, none⟩]

/-- Table 11-9, 0x2700.10–16: TRIP_CNT, FIRST_CODE, FIRST_UNIT, FIRST_STAMP, LAST_CODE, LAST_UNIT, LAST_STAMP. -/
def collectorRows1 : List Obj :=
  [⟨0x10, 0x10, .num 2 false, .ro, 0, 0, 65535, none⟩,
   ⟨0x11, 0x11, .num 2 false, .ro, 0, 0, 65535, none⟩,
   ⟨0x12, 0x12, .num 2 false, .ro, 0, 0, 65535, none⟩,
   ⟨0x13, 0x13, .num 4 false, .ro, 0, 0, 4294967295, none⟩,
   ⟨0x14, 0x14, .num 2 false, .ro, 0, 0, 65535, none⟩,
   ⟨0x15, 0x15, .num 2 false, .ro, 0, 0, 65535, none⟩,
   ⟨0x16, 0x16, .num 4 false, .ro, 0, 0, 4294967295, none⟩]

/-- All rows of 0x2700. -/
def collectorRows : List Obj := collectorRows0 ++ collectorRows1

/-- Table 11-10, 0x2710.00–05: highest, NEWEST_SEQ, OLDEST_SEQ, SELECT, ENTRY, OLDEST_UNACK. -/
def logRows : List Obj :=
  [⟨0x00, 0x00, .num 1 false, .ro, 5, 0, 255, none⟩,
   ⟨0x01, 0x01, .num 4 false, .ro, 0, 0, 4294967295, none⟩,
   ⟨0x02, 0x02, .num 4 false, .ro, 0, 0, 4294967295, none⟩,
   ⟨0x03, 0x03, .num 4 false, .rw, 0, 0, 4294967295, none⟩,
   ⟨0x04, 0x04, .oct 16, .ro, 0, 0, 0, none⟩,
   ⟨0x05, 0x05, .num 4 false, .ro, 0, 0, 4294967295, none⟩]

/-- Table 14-4, 0x2800.00–03: highest, COUNT, COUNT64, WRAPS. -/
def timebaseRows : List Obj :=
  [⟨0x00, 0x00, .num 1 false, .ro, 3, 0, 255, none⟩,
   ⟨0x01, 0x01, .num 4 false, .ro, 0, 0, 4294967295, none⟩,
   ⟨0x02, 0x02, .num 8 false, .ro, 0, 0, 18446744073709551615, none⟩,
   ⟨0x03, 0x03, .num 4 false, .ro, 0, 0, 4294967295, none⟩]

/-- Table 14-5, 0x2810.00–0B: highest, CTRL, VALUE, INTERVAL, ACTION, ARG, DELAY, STAT, FLAGS, FIRE_CNT, LAST_FIRE, SKIP_CNT. -/
def compareRows : List Obj :=
  [⟨0x00, 0x00, .num 1 false, .ro, 11, 0, 255, none⟩,
   ⟨0x01, 0x01, .num 1 false, .rw, 0, 0, 255, some 0x01⟩,
   ⟨0x02, 0x02, .num 4 false, .rw, 0, 0, 4294967295, none⟩,
   ⟨0x03, 0x03, .num 4 false, .rw, 25000, 25, 2147483648, none⟩,
   ⟨0x04, 0x04, .num 1 false, .rw, 0, 0, 4, none⟩,
   ⟨0x05, 0x05, .num 1 false, .rw, 0, 0, 255, none⟩,
   ⟨0x06, 0x06, .num 4 false, .rw, 1, 1, 2147483648, none⟩,
   ⟨0x07, 0x07, .num 1 false, .ro, 0, 0, 255, none⟩,
   ⟨0x08, 0x08, .num 1 false, .w1c, 0, 0, 255, some 0x07⟩,
   ⟨0x09, 0x09, .num 4 false, .ro, 0, 0, 4294967295, none⟩,
   ⟨0x0A, 0x0A, .num 4 false, .ro, 0, 0, 4294967295, none⟩,
   ⟨0x0B, 0x0B, .num 4 false, .rc, 0, 0, 4294967295, none⟩]

/-- Table 14-6, 0x2820.00–07: highest, CTRL, SRC, FILT, VALUE, STAT, FLAGS, CAP_CNT. -/
def captureRows : List Obj :=
  [⟨0x00, 0x00, .num 1 false, .ro, 7, 0, 255, none⟩,
   ⟨0x01, 0x01, .num 1 false, .rw, 0, 0, 255, some 0x07⟩,
   ⟨0x02, 0x02, .num 1 false, .rw, 0, 0, 10, none⟩,
   ⟨0x03, 0x03, .num 1 false, .rw, 2, 0, 255, none⟩,
   ⟨0x04, 0x04, .num 4 false, .ro, 0, 0, 4294967295, none⟩,
   ⟨0x05, 0x05, .num 1 false, .ro, 0, 0, 255, none⟩,
   ⟨0x06, 0x06, .num 1 false, .w1c, 0, 0, 255, some 0x01⟩,
   ⟨0x07, 0x07, .num 4 false, .ro, 0, 0, 4294967295, none⟩]

/-- Table 16-3, 0x2900.00–0D: highest, ADC_CTRL, REF_SEL, SCAN_MASK, SCAN_START, ADC_STAT, SCAN_CH, OW_SETTLE, OW_UP, OW_DOWN, REFIN_MV,
SCAN_CNT, LAST_SCAN_STAMP, OVERLAP_CNT. -/
def adcRows : List Obj :=
  [⟨0x00, 0x00, .num 1 false, .ro, 13, 0, 255, none⟩,
   ⟨0x01, 0x01, .num 1 false, .rw, 0, 0, 255, some 0x07⟩,
   ⟨0x02, 0x02, .num 1 false, .rw, 0, 0, 2, none⟩,
   ⟨0x03, 0x03, .num 8 false, .rw, 0, 0, 18446744073709551615, some 0xFFFFFFFFFFFF⟩,
   ⟨0x04, 0x04, .num 1 false, .wo, 0, 1, 1, none⟩,
   ⟨0x05, 0x05, .num 1 false, .ro, 0, 0, 255, none⟩,
   ⟨0x06, 0x06, .num 1 false, .ro, 0, 0, 255, none⟩,
   ⟨0x07, 0x07, .num 2 false, .rw, 20, 0, 1000, none⟩,
   ⟨0x08, 0x08, .num 4 false, .rw, 0, 0, 4294967295, none⟩,
   ⟨0x09, 0x09, .num 4 false, .rw, 0, 0, 4294967295, none⟩,
   ⟨0x0A, 0x0A, .num 2 false, .rw, 2500, 1000, 3300, none⟩,
   ⟨0x0B, 0x0B, .num 4 false, .ro, 0, 0, 4294967295, none⟩,
   ⟨0x0C, 0x0C, .num 4 false, .ro, 0, 0, 4294967295, none⟩,
   ⟨0x0D, 0x0D, .num 4 false, .rc, 0, 0, 4294967295, none⟩]

/-- Table 16-4, 0x2940.00–04: highest, SAMPLE, VALUE, STAMP, CONV_CNT. -/
def resultRows : List Obj :=
  [⟨0x00, 0x00, .num 1 false, .ro, 4, 0, 255, none⟩,
   ⟨0x01, 0x01, .num 4 false, .ro, 0, 0, 4294967295, none⟩,
   ⟨0x02, 0x02, .num 4 true, .ro, 0, (-2147483648), 2147483647, none⟩,
   ⟨0x03, 0x03, .num 4 false, .ro, 0, 0, 4294967295, none⟩,
   ⟨0x04, 0x04, .num 4 false, .ro, 0, 0, 4294967295, none⟩]

/-- Table 14-11, 0x2A00.00–0B: highest, LEVEL_BITS, PEND, EN_A, EN_B, EN_S, GDIS, ACTIVE_A, ACTIVE_B, SQE_NEST, SQE_STACK, EMCY_A. -/
def irqRows : List Obj :=
  [⟨0x00, 0x00, .num 1 false, .ro, 11, 0, 255, none⟩,
   ⟨0x01, 0x01, .num 1 false, .rw, 4, 0, 4, none⟩,
   ⟨0x02, 0x02, .num 8 false, .rw, 0, 0, 18446744073709551615, none⟩,
   ⟨0x03, 0x03, .num 8 false, .rw, 0, 0, 18446744073709551615, none⟩,
   ⟨0x04, 0x04, .num 8 false, .rw, 0, 0, 18446744073709551615, none⟩,
   ⟨0x05, 0x05, .num 8 false, .rw, 0, 0, 18446744073709551615, none⟩,
   ⟨0x06, 0x06, .num 1 false, .rw, 0, 0, 255, some 0x07⟩,
   ⟨0x07, 0x07, .num 1 false, .ro, 255, 0, 255, none⟩,
   ⟨0x08, 0x08, .num 1 false, .ro, 255, 0, 255, none⟩,
   ⟨0x09, 0x09, .num 1 false, .ro, 0, 0, 255, none⟩,
   ⟨0x0A, 0x0A, .num 4 false, .ro, 4294967295, 0, 4294967295, none⟩,
   ⟨0x0B, 0x0B, .num 8 false, .rw, 0, 0, 18446744073709551615, none⟩]

/-- Table 14-12, 0x2A40.00–05: highest, PRIO, PEND, HANDLER_FIRST, HANDLER_COUNT, DELIV_CNT. -/
def sourceRows : List Obj :=
  [⟨0x00, 0x00, .num 1 false, .ro, 5, 0, 255, none⟩,
   ⟨0x01, 0x01, .num 1 false, .rw, 15, 0, 15, none⟩,
   ⟨0x02, 0x02, .num 1 false, .rw, 0, 0, 1, none⟩,
   ⟨0x03, 0x03, .num 1 false, .rw, 255, 0, 255, none⟩,
   ⟨0x04, 0x04, .num 1 false, .rw, 0, 0, 16, none⟩,
   ⟨0x05, 0x05, .num 4 false, .rc, 0, 0, 4294967295, none⟩]

/-- Table 15-10, 0x2B00.00–21: highest, KS_ADDR, KS_LEN, KS_DATA, BLOCK_PROT, STORE_CMD, STORE_STAT, STORE_INTERVAL, STORE_CNT, SKIP_CNT,
LAST_STORE_STAMP, —, TALLY_ADDR_i, TALLY_SRC_i, CFG_CTRL, CFG_VERSION. -/
def keepRows0 : List Obj :=
  [⟨0x00, 0x00, .num 1 false, .ro, 41, 0, 255, none⟩,
   ⟨0x01, 0x01, .num 2 false, .rw, 0, 0, 16383, none⟩,
   ⟨0x02, 0x02, .num 2 false, .rw, 1, 1, 256, none⟩,
   ⟨0x03, 0x03, .dom, .rw, 0, 0, 0, none⟩,
   ⟨0x04, 0x04, .num 1 false, .rw, 0, 0, 3, none⟩,
   ⟨0x05, 0x05, .num 2 false, .wo, 0, 0, 65535, none⟩,
   ⟨0x06, 0x06, .num 1 false, .ro, 0, 0, 255, none⟩,
   ⟨0x07, 0x07, .num 4 false, .rw, 3600, 0, 4294967295, none⟩,
   ⟨0x08, 0x08, .num 4 false, .ro, 0, 0, 4294967295, none⟩,
   ⟨0x09, 0x09, .num 4 false, .rc, 0, 0, 4294967295, none⟩,
   ⟨0x0A, 0x0A, .num 4 false, .ro, 0, 0, 4294967295, none⟩,
   ⟨0x0B, 0x0B, .num 1 false, .ro, 0, 0, 255, none⟩,
   ⟨0x0C, 0x13, .num 2 false, .rw, 65535, 0, 65535, none⟩,
   ⟨0x14, 0x1B, .num 1 false, .rw, 255, 0, 255, none⟩,
   ⟨0x20, 0x20, .num 1 false, .rw, 0, 0, 255, some 0x01⟩,
   ⟨0x21, 0x21, .num 4 false, .ro, 0, 0, 4294967295, none⟩]

/-- Table 15-10, 0x2B00.22–29: CFG_VERSION_NEW, CFG_CMD, CFG_STAT, CFG_HASH, CFG_SIG, CFG_IMAGE, CFG_ABORT, CFG_LEN. -/
def keepRows1 : List Obj :=
  [⟨0x22, 0x22, .num 4 false, .rw, 1, 1, 4294967295, none⟩,
   ⟨0x23, 0x23, .num 1 false, .wo, 0, 1, 4, none⟩,
   ⟨0x24, 0x24, .num 1 false, .ro, 0, 0, 255, none⟩,
   ⟨0x25, 0x25, .oct 32, .ro, 0, 0, 0, none⟩,
   ⟨0x26, 0x26, .oct 64, .wo, 0, 0, 0, none⟩,
   ⟨0x27, 0x27, .dom, .rw, 0, 0, 0, none⟩,
   ⟨0x28, 0x28, .num 4 false, .ro, 0, 0, 4294967295, none⟩,
   ⟨0x29, 0x29, .num 2 false, .ro, 0, 0, 65535, none⟩]

/-- All rows of 0x2B00. -/
def keepRows : List Obj := keepRows0 ++ keepRows1

/-- Table 15-11, 0x2C00.00–0F: highest, UID, PUB_KEY, CERT, CERT_LEN, CHALLENGE, ID_STAT, SIGNATURE, EXPORT_FROM, EXPORT_COUNT,
EXPORT_NONCE, EXPORT, CFG_KEY, KEY_NEW, KEY_NEW_SIG, KEY_GEN. -/
def identityRows : List Obj :=
  [⟨0x00, 0x00, .num 1 false, .ro, 15, 0, 255, none⟩,
   ⟨0x01, 0x01, .oct 16, .ro, 0, 0, 0, none⟩,
   ⟨0x02, 0x02, .oct 64, .ro, 0, 0, 0, none⟩,
   ⟨0x03, 0x03, .dom, .ro, 0, 0, 0, none⟩,
   ⟨0x04, 0x04, .num 2 false, .ro, 0, 0, 65535, none⟩,
   ⟨0x05, 0x05, .oct 32, .wo, 0, 0, 0, none⟩,
   ⟨0x06, 0x06, .num 1 false, .ro, 0, 0, 255, none⟩,
   ⟨0x07, 0x07, .oct 64, .ro, 0, 0, 0, none⟩,
   ⟨0x08, 0x08, .num 4 false, .rw, 0, 0, 4294967295, none⟩,
   ⟨0x09, 0x09, .num 1 false, .rw, 64, 1, 64, none⟩,
   ⟨0x0A, 0x0A, .oct 16, .wo, 0, 0, 0, none⟩,
   ⟨0x0B, 0x0B, .dom, .ro, 0, 0, 0, none⟩,
   ⟨0x0C, 0x0C, .oct 64, .rw, 0, 0, 0, none⟩,
   ⟨0x0D, 0x0D, .oct 64, .wo, 0, 0, 0, none⟩,
   ⟨0x0E, 0x0E, .oct 64, .wo, 0, 0, 0, none⟩,
   ⟨0x0F, 0x0F, .num 2 false, .ro, 0, 0, 65535, none⟩]

/-- Table 8-14, 0x2D00.00–0A: highest, HB_CTRL, NODE, ROLE, MEMBERS, PRESENT, LOST, FRAME_ERR_CNT, EVENT_SIGNAL, EVENT_SEEN, MASTER_MODE. -/
def herdRows : List Obj :=
  [⟨0x00, 0x00, .num 1 false, .ro, 10, 0, 255, none⟩,
   ⟨0x01, 0x01, .num 1 false, .rw, 0, 0, 255, some 0x03⟩,
   ⟨0x02, 0x02, .num 1 false, .ro, 0, 0, 255, none⟩,
   ⟨0x03, 0x03, .num 1 false, .ro, 0, 0, 255, none⟩,
   ⟨0x04, 0x04, .num 2 false, .rw, 0, 0, 65535, some 0xFFFE⟩,
   ⟨0x05, 0x05, .num 2 false, .ro, 0, 0, 65535, none⟩,
   ⟨0x06, 0x06, .num 2 false, .w1c, 0, 0, 65535, some 0xFFFE⟩,
   ⟨0x07, 0x07, .num 4 false, .rc, 0, 0, 4294967295, none⟩,
   ⟨0x08, 0x08, .num 1 false, .wo, 0, 0, 15, none⟩,
   ⟨0x09, 0x09, .num 2 false, .w1c, 0, 0, 65535, none⟩,
   ⟨0x0A, 0x0A, .num 1 false, .ro, 0, 0, 255, none⟩]

/-- Table 13-6, 0x2E00.00–0B: highest, ADDR_BASE, ADDR_MASK, CTX_COUNT, ATTN_SEL, ATTN_IDLE, ATTN_REPEAT, SLOT_WAIT, TW_TMO_CNT,
TW_NACK_CNT, TW_RECOV_CNT, TW_REFUSE_CNT. -/
def twoWireRows : List Obj :=
  [⟨0x00, 0x00, .num 1 false, .ro, 11, 0, 255, none⟩,
   ⟨0x01, 0x01, .num 1 false, .rw, 88, 0, 255, none⟩,
   ⟨0x02, 0x02, .num 1 false, .rw, 0, 0, 255, none⟩,
   ⟨0x03, 0x03, .num 1 false, .ro, 0, 0, 255, none⟩,
   ⟨0x04, 0x04, .num 1 false, .rw, 0, 0, 2, none⟩,
   ⟨0x05, 0x05, .num 2 false, .rw, 50, 10, 1000, none⟩,
   ⟨0x06, 0x06, .num 2 false, .rw, 10, 1, 1000, none⟩,
   ⟨0x07, 0x07, .num 2 false, .rw, 1000, 100, 20000, none⟩,
   ⟨0x08, 0x08, .num 4 false, .rc, 0, 0, 4294967295, none⟩,
   ⟨0x09, 0x09, .num 4 false, .rc, 0, 0, 4294967295, none⟩,
   ⟨0x0A, 0x0A, .num 4 false, .rc, 0, 0, 4294967295, none⟩,
   ⟨0x0B, 0x0B, .num 4 false, .rc, 0, 0, 4294967295, none⟩]

/-- Table 12-10, 0x2F00.00–0F: highest, LINK_EN, NODE_ID, NODE_ID_ACT, NOM_RATE, DATA_RATE, SP_NOM, SP_DATA, NMT_STATE, NMT_AUTO_START, TAG,
PDO_LINK, SDO_TMO, SLOTS_FREE, SLOTS_MIN, SLOT_REFUSED. -/
def dictRows0 : List Obj :=
  [⟨0x00, 0x00, .num 1 false, .ro, 23, 0, 255, none⟩,
   ⟨0x01, 0x01, .num 1 false, .rw, 3, 0, 255, some 0x03⟩,
   ⟨0x02, 0x02, .num 1 false, .rw, 0, 0, 127, none⟩,
   ⟨0x03, 0x03, .num 1 false, .ro, 0, 0, 255, none⟩,
   ⟨0x04, 0x04, .num 1 false, .rw, 3, 0, 3, none⟩,
   ⟨0x05, 0x05, .num 1 false, .rw, 4, 0, 5, none⟩,
   ⟨0x06, 0x06, .num 1 false, .rw, 80, 60, 90, none⟩,
   ⟨0x07, 0x07, .num 1 false, .rw, 75, 60, 90, none⟩,
   ⟨0x08, 0x08, .num 1 false, .ro, 0, 0, 255, none⟩,
   ⟨0x09, 0x09, .num 1 false, .rw, 0, 0, 1, none⟩,
   ⟨0x0A, 0x0A, .num 1 false, .rw, 0, 0, 8, none⟩,
   ⟨0x0B, 0x0B, .num 1 false, .rw, 0, 0, 2, none⟩,
   ⟨0x0C, 0x0C, .num 2 false, .rw, 1000, 100, 10000, none⟩,
   ⟨0x0D, 0x0D, .num 1 false, .ro, 0, 0, 255, none⟩,
   ⟨0x0E, 0x0E, .num 1 false, .rc, 47, 0, 255, none⟩,
   ⟨0x0F, 0x0F, .num 4 false, .rc, 0, 0, 4294967295, none⟩]

/-- Table 12-10, 0x2F00.10–17: RPDO_DROP, EMCY_LOST, LINK_STAT_A, LINK_STAT_B, ERR_CNT_A, ERR_CNT_B, BUSOFF_CNT_A, BUSOFF_CNT_B. -/
def dictRows1 : List Obj :=
  [⟨0x10, 0x10, .num 4 false, .rc, 0, 0, 4294967295, none⟩,
   ⟨0x11, 0x11, .num 4 false, .rc, 0, 0, 4294967295, none⟩,
   ⟨0x12, 0x12, .num 1 false, .ro, 0, 0, 255, none⟩,
   ⟨0x13, 0x13, .num 1 false, .ro, 0, 0, 255, none⟩,
   ⟨0x14, 0x14, .num 2 false, .ro, 0, 0, 65535, none⟩,
   ⟨0x15, 0x15, .num 2 false, .ro, 0, 0, 65535, none⟩,
   ⟨0x16, 0x16, .num 2 false, .rc, 0, 0, 65535, none⟩,
   ⟨0x17, 0x17, .num 2 false, .rc, 0, 0, 65535, none⟩]

/-- All rows of 0x2F00. -/
def dictRows : List Obj := dictRows0 ++ dictRows1

/-- Table 12-12, 0x2F02.00–07: highest, STAGED, RELEASE, DISCARD, REL_CNT, REL_STAMP, REL_CAUSE, REL_SRC. -/
def groupRows : List Obj :=
  [⟨0x00, 0x00, .num 1 false, .ro, 7, 0, 255, none⟩,
   ⟨0x01, 0x01, .num 1 false, .ro, 0, 0, 255, none⟩,
   ⟨0x02, 0x02, .num 1 false, .wo, 0, 1, 1, none⟩,
   ⟨0x03, 0x03, .num 1 false, .wo, 0, 1, 1, none⟩,
   ⟨0x04, 0x04, .num 4 false, .ro, 0, 0, 4294967295, none⟩,
   ⟨0x05, 0x05, .num 4 false, .ro, 0, 0, 4294967295, none⟩,
   ⟨0x06, 0x06, .num 1 false, .ro, 0, 0, 255, none⟩,
   ⟨0x07, 0x07, .num 1 false, .ro, 255, 0, 255, none⟩]

/-- Table 7-5, 0x3000.00–0F: highest, MR_CTRL, MR_STAT, SLOT, ROUND_CNT, ROUND_STAMP, STANDIN_PORT, SC_CONVERGED, VC_CONVERGED, ROVER_GAIN,
ROVER_OFFSET, LAST_PORT, LAST_STEP, LAST_RESIDUAL, LAST_STAMP, REJECT_CNT. -/
def milkRows0 : List Obj :=
  [⟨0x00, 0x00, .num 1 false, .ro, 127, 0, 255, none⟩,
   ⟨0x01, 0x01, .num 1 false, .rw, 3, 0, 255, some 0x03⟩,
   ⟨0x02, 0x02, .num 2 false, .ro, 0, 0, 65535, none⟩,
   ⟨0x03, 0x03, .num 1 false, .ro, 0, 0, 255, none⟩,
   ⟨0x04, 0x04, .num 4 false, .ro, 0, 0, 4294967295, none⟩,
   ⟨0x05, 0x05, .num 4 false, .ro, 0, 0, 4294967295, none⟩,
   ⟨0x06, 0x06, .num 1 false, .ro, 255, 0, 255, none⟩,
   ⟨0x07, 0x07, .num 4 false, .ro, 0, 0, 4294967295, none⟩,
   ⟨0x08, 0x08, .num 2 false, .ro, 0, 0, 65535, none⟩,
   ⟨0x09, 0x09, .num 4 true, .ro, 16777216, (-2147483648), 2147483647, none⟩,
   ⟨0x0A, 0x0A, .num 4 true, .ro, 0, (-2147483648), 2147483647, none⟩,
   ⟨0x0B, 0x0B, .num 1 false, .ro, 255, 0, 255, none⟩,
   ⟨0x0C, 0x0C, .num 2 false, .ro, 0, 0, 65535, none⟩,
   ⟨0x0D, 0x0D, .num 2 false, .ro, 0, 0, 65535, none⟩,
   ⟨0x0E, 0x0E, .num 4 false, .ro, 0, 0, 4294967295, none⟩,
   ⟨0x0F, 0x0F, .num 4 false, .rc, 0, 0, 4294967295, none⟩]

/-- Table 7-5, 0x3000.10–7F: CLAMP_CNT, SC_GAIN_n, SC_OFFSET_n, VC_GAIN_k, VC_OFFSET_k. -/
def milkRows1 : List Obj :=
  [⟨0x10, 0x10, .num 4 false, .rc, 0, 0, 4294967295, none⟩,
   ⟨0x20, 0x3F, .num 4 true, .ro, 0, (-2147483648), 2147483647, none⟩,
   ⟨0x40, 0x5F, .num 4 true, .ro, 0, (-2147483648), 2147483647, none⟩,
   ⟨0x60, 0x6F, .num 4 true, .ro, 0, (-2147483648), 2147483647, none⟩,
   ⟨0x70, 0x7F, .num 4 true, .ro, 0, (-2147483648), 2147483647, none⟩]

/-- All rows of 0x3000. -/
def milkRows : List Obj := milkRows0 ++ milkRows1

/-- Table 5-9, 0x3100.00–0F: highest, STATE, GROUP, PORTS_SERVED, RAILS_MASTERED, FRAME_RAIL, FRAME, LOAD, PEAK_USED, SAMPLE_REPLAY_CNT,
WORD_RELOAD_CNT, HELD_CNT, FAILED_REPLAY_CNT, DROPPED_SAMPLE_CNT, FAULT_CAUSE, FAULT_STAMP. -/
def engineRows0 : List Obj :=
  [⟨0x00, 0x00, .num 1 false, .ro, 17, 0, 255, none⟩,
   ⟨0x01, 0x01, .num 1 false, .ro, 0, 0, 255, none⟩,
   ⟨0x02, 0x02, .num 1 false, .ro, 0, 0, 255, none⟩,
   ⟨0x03, 0x03, .num 1 false, .ro, 0, 0, 255, none⟩,
   ⟨0x04, 0x04, .num 1 false, .ro, 0, 0, 255, none⟩,
   ⟨0x05, 0x05, .num 1 false, .ro, 0, 0, 255, none⟩,
   ⟨0x06, 0x06, .num 2 false, .ro, 0, 0, 65535, none⟩,
   ⟨0x07, 0x07, .num 2 false, .ro, 0, 0, 65535, none⟩,
   ⟨0x08, 0x08, .num 2 false, .rc, 0, 0, 65535, none⟩,
   ⟨0x09, 0x09, .num 4 false, .rc, 0, 0, 4294967295, none⟩,
   ⟨0x0A, 0x0A, .num 4 false, .rc, 0, 0, 4294967295, none⟩,
   ⟨0x0B, 0x0B, .num 4 false, .rc, 0, 0, 4294967295, none⟩,
   ⟨0x0C, 0x0C, .num 4 false, .rc, 0, 0, 4294967295, none⟩,
   ⟨0x0D, 0x0D, .num 4 false, .rc, 0, 0, 4294967295, none⟩,
   ⟨0x0E, 0x0E, .num 1 false, .ro, 0, 0, 255, none⟩,
   ⟨0x0F, 0x0F, .num 4 false, .ro, 0, 0, 4294967295, none⟩]

/-- Table 5-9, 0x3100.10–11: TAKEOVER_STAMP, HELD_TAKEOVER. -/
def engineRows1 : List Obj :=
  [⟨0x10, 0x10, .num 4 false, .ro, 0, 0, 4294967295, none⟩,
   ⟨0x11, 0x11, .num 2 false, .ro, 0, 0, 65535, none⟩]

/-- All rows of 0x3100. -/
def engineRows : List Obj := engineRows0 ++ engineRows1

/-- Table 6-10, 0x3200.00–08: highest, CHARGE, ENERGY, SNAP, SNAP_CHARGE, SNAP_ENERGY, SNAP_STAMP, CLEAR, RESTORE_STAMP. -/
def ledgerRows : List Obj :=
  [⟨0x00, 0x00, .num 1 false, .ro, 8, 0, 255, none⟩,
   ⟨0x01, 0x01, .num 8 true, .ro, 0, (-9223372036854775808), 9223372036854775807, none⟩,
   ⟨0x02, 0x02, .num 8 true, .ro, 0, (-9223372036854775808), 9223372036854775807, none⟩,
   ⟨0x03, 0x03, .num 1 false, .wo, 0, 1, 1, none⟩,
   ⟨0x04, 0x04, .num 8 true, .ro, 0, (-9223372036854775808), 9223372036854775807, none⟩,
   ⟨0x05, 0x05, .num 8 true, .ro, 0, (-9223372036854775808), 9223372036854775807, none⟩,
   ⟨0x06, 0x06, .num 4 false, .ro, 0, 0, 4294967295, none⟩,
   ⟨0x07, 0x07, .num 4 false, .wo, 0, 0, 4294967295, none⟩,
   ⟨0x08, 0x08, .num 4 false, .ro, 0, 0, 4294967295, none⟩]

/-! ## Standard communication objects, Table 12-9 -/

/-- A single number at subindex 0x00. -/
def single (bytes : Nat) (acc : Acc) (dflt : Nat) : List Obj :=
  [⟨0x00, 0x00, .num bytes false, acc, dflt, 0, 2 ^ (8 * bytes) - 1, none⟩]

/-- 0x1016, consumer heartbeat entries: node-ID and time only (R336). -/
def consHbRows : List Obj :=
  [⟨0x00, 0x00, .num 1 false, .ro, 4, 0, 255, none⟩,
   ⟨0x01, 0x04, .num 4 false, .rw, 0, 0, 4294967295, some 0x00FFFFFF⟩]

/-- 0x1018, identity: highest, VENDOR_ID, PRODUCT_CODE, REVISION, SERIAL (Table 12-9). -/
def stdIdentityRows : List Obj :=
  [⟨0x00, 0x00, .num 1 false, .ro, 4, 0, 255, none⟩,
   ⟨0x01, 0x01, .num 4 false, .ro, 0x3D9, 0, 4294967295, none⟩,
   ⟨0x02, 0x02, .num 4 false, .ro, 0, 0, 4294967295, none⟩,
   ⟨0x03, 0x03, .num 4 false, .ro, 0x10000, 0, 4294967295, none⟩,
   ⟨0x04, 0x04, .num 4 false, .ro, 0, 0, 4294967295, none⟩]

/-- 0x1400 + n, RPDO communication. -/
def rpdoRows : List Obj :=
  [⟨0x00, 0x00, .num 1 false, .ro, 2, 0, 255, none⟩,
   ⟨0x01, 0x01, .num 4 false, .rw, 0x80000000, 0, 4294967295, some 0x800007FF⟩,
   ⟨0x02, 0x02, .num 1 false, .rw, 255, 0, 255, none⟩]

/-- 0x1800 + n, TPDO communication; subindex 0x04 does not exist. -/
def tpdoRows : List Obj :=
  [⟨0x00, 0x00, .num 1 false, .ro, 5, 0, 255, none⟩,
   ⟨0x01, 0x01, .num 4 false, .rw, 0x80000000, 0, 4294967295, some 0x800007FF⟩,
   ⟨0x02, 0x02, .num 1 false, .rw, 255, 0, 255, none⟩,
   ⟨0x03, 0x03, .num 2 false, .rw, 0, 0, 65535, none⟩,
   ⟨0x05, 0x05, .num 2 false, .rw, 0, 0, 65535, none⟩]

/-- 0x1600 + n and 0x1A00 + n, PDO mapping. -/
def mapRows : List Obj :=
  [⟨0x00, 0x00, .num 1 false, .rw, 0, 0, 64, none⟩,
   ⟨0x01, 0x40, .num 4 false, .rw, 0, 0, 4294967295, none⟩]

/-- 0x2410–0x2413, die sensors (R294). -/
def dieRows : List Obj :=
  [⟨0x00, 0x00, .num 1 false, .ro, 26, 0, 255, none⟩,
   ⟨0x14, 0x14, .num 1 false, .ro, 0, 0, 255, none⟩,
   ⟨0x16, 0x16, .num 2 true, .ro, 0, (-32768), 32767, none⟩,
   ⟨0x17, 0x17, .num 2 true, .ro, 0, (-32768), 32767, none⟩,
   ⟨0x1A, 0x1A, .num 2 true, .rc, 32768, (-32768), 32767, none⟩]


/-- 0x2F01, the fence object: a single WO UNSIGNED8 at subindex 0x00, of which only 0 may be written (R346). -/
def fenceRows : List Obj := [⟨0x00, 0x00, .num 1 false, .wo, 0, 0, 0, none⟩]

/-! ## The index map -/

/-- Ports present in a variant (Table 0-2). -/
def Variant.ports : Variant → Nat
  | .hj32 => 32
  | .hj16 => 16
  | .hj8 => 8

/-- Rails, and voltage converters, present in a variant. -/
def Variant.rails : Variant → Nat
  | .hj32 => 16
  | .hj16 => 8
  | .hj8 => 4

/-- Port groups, and group engines, present in a variant. -/
def Variant.groups : Variant → Nat
  | .hj32 => 8
  | .hj16 => 4
  | .hj8 => 2

/-- PRODUCT_CODE (R6). -/
def Variant.code : Variant → Nat
  | .hj32 => 0x20
  | .hj16 => 0x10
  | .hj8 => 0x08

/-- Whether the variant has CANB and the address mask (R4). -/
def Variant.big (v : Variant) : Bool := v == .hj32

/-- Whether loop engine `e` is present: the engines of present groups, and LE8. -/
def Variant.hasEngine (v : Variant) (e : Nat) : Bool := e < v.groups || e == 8

/-- The rows of the standard objects 0x1000–0x1A07. -/
def stdRows (idx : Nat) : Option (List Obj) :=
  if idx = 0x1000 then some (single 4 .ro 0)
  else if idx = 0x1001 then some (single 1 .ro 0)
  else if idx = 0x1005 then some [⟨0x00, 0x00, .num 4 false, .rw, 0x80, 0, 4294967295, some 0x400007FF⟩]
  else if idx = 0x1014 then some (single 4 .ro 0)
  else if idx = 0x1015 then some (single 2 .rw 0)
  else if idx = 0x1016 then some consHbRows
  else if idx = 0x1017 then some (single 2 .rw 1000)
  else if idx = 0x1018 then some stdIdentityRows
  else if 0x1400 ≤ idx ∧ idx < 0x1408 then some rpdoRows
  else if 0x1600 ≤ idx ∧ idx < 0x1608 then some mapRows
  else if 0x1800 ≤ idx ∧ idx < 0x1808 then some tpdoRows
  else if 0x1A00 ≤ idx ∧ idx < 0x1A08 then some mapRows
  else none

/-- The rows of the device's own objects (Table 12-3); none for an index that does not exist or belongs to an absent unit
(R4, R320). -/
def devRows (v : Variant) (idx : Nat) : Option (List Obj) :=
  if idx = 0x2000 then some devCtrlRows
  else if 0x2100 ≤ idx ∧ idx < 0x2100 + v.ports then some portRows
  else if 0x2200 ≤ idx ∧ idx < 0x2200 + v.rails then some railRows
  else if idx = 0x2300 then some seqRows
  else if 0x2340 ≤ idx ∧ idx < 0x2380 then some stepRows
  else if 0x2400 ≤ idx ∧ idx < 0x2410 then some sensorRows
  else if 0x2410 ≤ idx ∧ idx < 0x2414 then some dieRows
  else if idx = 0x2420 then some thermalRows
  else if idx = 0x2500 then some chargerRows
  else if idx = 0x2600 then some watchdogRows
  else if idx = 0x2700 then some collectorRows
  else if idx = 0x2710 then some logRows
  else if idx = 0x2800 then some timebaseRows
  else if 0x2810 ≤ idx ∧ idx < 0x2820 then some compareRows
  else if 0x2820 ≤ idx ∧ idx < 0x2828 then some captureRows
  else if idx = 0x2900 then some adcRows
  else if 0x2940 ≤ idx ∧ idx < 0x2970 then some resultRows
  else if idx = 0x2A00 then some irqRows
  else if 0x2A40 ≤ idx ∧ idx < 0x2A80 then some sourceRows
  else if idx = 0x2B00 then some keepRows
  else if idx = 0x2C00 then some identityRows
  else if idx = 0x2D00 then some herdRows
  else if idx = 0x2E00 then some twoWireRows
  else if idx = 0x2F00 then some dictRows
  else if idx = 0x2F01 then some fenceRows
  else if 0x2F02 ≤ idx ∧ idx < 0x2F0A then some groupRows
  else if idx = 0x3000 then some milkRows
  else if 0x3100 ≤ idx ∧ idx < 0x3109 ∧ v.hasEngine (idx - 0x3100) = true then some engineRows
  else if 0x3200 ≤ idx ∧ idx < 0x3200 + v.ports then some ledgerRows
  else none

/-- The rows of an index. -/
def rowsOf (v : Variant) (idx : Nat) : Option (List Obj) :=
  if idx < 0x2000 then stdRows idx else devRows v idx

/-- Subindices that a row holds but a channel or a variant lacks: INTERVAL of a trigger channel (R381), what serves CANB or
the address mask on the small variants, and what names an absent converter (R4, R209). -/
def absentSub (v : Variant) (idx sub : Nat) : Bool :=
  (0x2818 ≤ idx && idx < 0x2820 && sub == 3)
    || (!v.big && idx == 0x2F00 && (sub == 0x13 || sub == 0x15 || sub == 0x17))
    || (!v.big && idx == 0x2E00 && sub == 2)
    || (idx == 0x3000 && (0x20 ≤ sub && sub < 0x40 && v.ports ≤ sub - 0x20
      || 0x40 ≤ sub && sub < 0x60 && v.ports ≤ sub - 0x40
      || 0x60 ≤ sub && sub < 0x70 && v.rails ≤ sub - 0x60
      || 0x70 ≤ sub && sub < 0x80 && v.rails ≤ sub - 0x70))

/-- A row as a variant has it: ADDR_BASE is read-only where the address comes from the straps alone (R369). -/
def Obj.onVariant (o : Obj) (v : Variant) (idx sub : Nat) : Obj :=
  if idx = 0x2E00 ∧ sub = 1 ∧ v.big = false then { o with acc := .ro } else o

/-- The row of a subindex (checks 3 and 4 of Table 12-2). -/
def findObj (v : Variant) (idx sub : Nat) : Option Obj :=
  if absentSub v idx sub then none
  else (rowsOf v idx).bind fun rows =>
    (rows.find? fun o => decide (o.lo ≤ sub ∧ sub ≤ o.hi)).map fun o => o.onVariant v idx sub

/-- The default of a subindex, 0 where there is no such subindex. Defaults that differ within a row: SRC of capture channel
k is k (Table 14-6), LINK_EN of the small variants is 0x01 (Table 12-10). -/
def dfltOf (v : Variant) (idx sub : Nat) : Nat :=
  if 0x2820 ≤ idx ∧ idx < 0x2828 ∧ sub = 2 then idx - 0x2820
  else if idx = 0x2F00 ∧ sub = 1 ∧ v.big = false then 1
  else ((findObj v idx sub).map Obj.dflt).getD 0

/-- Whether a setting acts in the control plane and so has a shadow and an active copy (R19): the RW subindices of ports
and rails, and the charger's settings but for CHG_CTRL. -/
def isControl (idx sub : Nat) : Bool :=
  (0x2100 ≤ idx && idx < 0x2120) || (0x2200 ≤ idx && idx < 0x2210) || (idx == 0x2500 && sub != 1)

/-- Length in bytes of a type; none for a DOMAIN. -/
def Ty.size : Ty → Option Nat
  | .num b _ => some b
  | .oct n => some n
  | .dom => none

end Sys2Proof.Machine
end

