-- ==== Sys2Proof/Machine/Ops.lean ====
section
/-! DEFINITION. The named operations over registers, the keep-store RAM, unit records, stamps, free values and frames. -/

namespace Sys2Proof.Machine
open Sys2Proof

/-! ## Sparse stores in one canonical form: keys strictly rising, no entry equal to what an unlisted key reads as -/

/-- What a sparse store reads at `k`; `d` is what an unlisted key reads as. -/
def cellGet {β : Type} : List (Nat × β) → Nat → β → β
  | [], _, d => d
  | c :: t, k, d => if c.1 = k then c.2 else cellGet t k d

/-- A sparse store with nothing listed at `k`. -/
def cellErase {β : Type} : List (Nat × β) → Nat → List (Nat × β)
  | [], _ => []
  | c :: t, k => if c.1 = k then cellErase t k else c :: cellErase t k

/-- A sparse store with `v` listed at `k`, in its place. -/
def cellInsert {β : Type} : List (Nat × β) → Nat → β → List (Nat × β)
  | [], k, v => [(k, v)]
  | c :: t, k, v => if k < c.1 then (k, v) :: c :: t else if k = c.1 then (k, v) :: t else c :: cellInsert t k v

/-- A sparse store that reads `v` at `k`: writing what an unlisted key reads as removes the entry. -/
def cellPut {β : Type} [DecidableEq β] (l : List (Nat × β)) (k : Nat) (v d : β) : List (Nat × β) :=
  if v = d then cellErase l k else cellInsert l k v

/-- Whether every key of a store lies above `b` and the keys rise strictly. -/
def keysRise {β : Type} : Option Nat → List (Nat × β) → Bool
  | _, [] => true
  | none, c :: t => keysRise (some c.1) t
  | some b, c :: t => decide (b < c.1) && keysRise (some c.1) t

/-! ## The keep store's user area (R397): addresses 0x0000–0x3FFF, an unlisted byte reads 0x00 (log entry 4) -/

/-- Size of the user area in bytes. -/
def userSize : Nat := 0x4000

/-- The canonical form of the user area. -/
def Memory.wf (m : List Host.Cell) : Bool :=
  keysRise none m && m.all fun c => decide (c.2 ≠ 0 ∧ c.1 < userSize)

/-- The byte of the user area at `a`. (DESIGN CHOICE, log entry 4). -/
def memRead (m : List Host.Cell) (a : Nat) : Byte := cellGet m a 0

/-- The user area with byte `b` at `a`; a byte outside the area changes nothing. -/
def memWrite (m : List Host.Cell) (a : Nat) (b : Byte) : List Host.Cell :=
  if a < userSize then cellPut m a b 0 else m

/-- `n` bytes of the user area from `a`. -/
def memReadN (m : List Host.Cell) (a : Nat) : Nat → List Byte
  | 0 => []
  | n + 1 => memRead m a :: memReadN m (a + 1) n

/-- The user area with bytes laid from `a` upward: one commit of the pail (R399). -/
def memWriteN (m : List Host.Cell) (a : Nat) : List Byte → List Host.Cell
  | [] => m
  | b :: t => memWriteN (memWrite m a b) (a + 1) t

/-! ## Byte order (R8) -/

/-- The `n` low bytes of `v`, least significant first. -/
def leBytes : Nat → Nat → List Byte
  | 0, _ => []
  | n + 1, v => BitVec.ofNat 8 v :: leBytes n (v / 256)

/-- The number that bytes spell, least significant first. -/
def leVal : List Byte → Nat
  | [] => 0
  | b :: t => b.toNat + 256 * leVal t

/-- One byte through the reflected CRC-32 of Table 15-3, `n` bits of it left. -/
def crc32Bits : Nat → Nat → Nat
  | 0, c => c
  | n + 1, c => crc32Bits n (if c % 2 = 1 then (c / 2) ^^^ 0xEDB88320 else c / 2)

/-- The CRC register after some bytes. -/
def crc32Run : Nat → List Byte → Nat
  | c, [] => c
  | c, b :: t => crc32Run (crc32Bits 8 (c ^^^ b.toNat)) t

/-- CRC-32 of Table 15-3: polynomial 0x04C1 1DB7 reflected, initial value and final XOR 0xFFFF FFFF. -/
def crc32 (bs : List Byte) : U32 := BitVec.ofNat 32 (crc32Run 0xFFFFFFFF bs ^^^ 0xFFFFFFFF)

/-! ## Registers -/

/-- A register's pending copy, flag or counter. -/
def State.reg (s : State) (idx sub : Nat) : Nat := cellGet s.regs (key idx sub) (dfltOf s.variant idx sub)

/-- `s` with a register written. -/
def State.setReg (s : State) (idx sub v : Nat) : State :=
  { s with regs := cellPut s.regs (key idx sub) v (dfltOf s.variant idx sub) }

/-- A signed register. -/
def State.regI (s : State) (idx sub w : Nat) : Int := signed w (s.reg idx sub)

/-- The active copy of a control-plane setting (R19). -/
def State.act (s : State) (idx sub : Nat) : Nat := cellGet s.active (key idx sub) (dfltOf s.variant idx sub)

/-- A signed active copy of 32 bits. -/
def State.actI (s : State) (idx sub : Nat) : Int := signed 32 (s.act idx sub)

/-- The shadow copy of a control-plane setting. -/
def State.shad (s : State) (idx sub : Nat) : Nat := cellGet s.shadow (key idx sub) (dfltOf s.variant idx sub)

/-- A transfer of one value: shadow and active copies in one clock (R19). -/
def State.transfer (s : State) (idx sub v : Nat) : State :=
  { s with shadow := cellPut s.shadow (key idx sub) v (dfltOf s.variant idx sub),
           active := cellPut s.active (key idx sub) v (dfltOf s.variant idx sub) }

/-- All three copies of a control-plane setting at once. -/
def State.setAll (s : State) (idx sub v : Nat) : State := (s.setReg idx sub v).transfer idx sub v

/-- A counter raised by `k`, stopping at `top`. -/
def State.bump (s : State) (idx sub top k : Nat) : State := s.setReg idx sub (satAdd top (s.reg idx sub) k)

/-- A 32-bit counter raised by one. -/
def State.inc (s : State) (idx sub : Nat) : State := s.bump idx sub top32 1

/-- Flags set in a register. -/
def State.orReg (s : State) (idx sub m : Nat) : State := s.setReg idx sub (s.reg idx sub ||| m)

/-- Flags cleared in a register. -/
def State.clrReg (s : State) (idx sub m : Nat) : State :=
  s.setReg idx sub (s.reg idx sub - (s.reg idx sub &&& m))

/-- Flags of an AON object set by hardware in the present tick (R11). -/
def State.hwSet (s : State) (idx sub m : Nat) : State :=
  let t := s.orReg idx sub m
  { t with tb := { t.tb with fresh := (key idx sub, m) :: t.tb.fresh } }

/-- The bits of a flag register that hardware set in the present tick. -/
def State.freshBits (s : State) (idx sub : Nat) : Nat :=
  s.tb.fresh.foldl (fun a c => if c.1 = key idx sub then a ||| c.2 else a) 0

/-- A host's W1C write to flags of an AON object: a bit that hardware set in the same tick ends set (R11). -/
def State.hostClr (s : State) (idx sub m : Nat) : State := s.clrReg idx sub (m - (m &&& s.freshBits idx sub))

/-- Index of port `n`'s object. -/
def portIdx (n : Nat) : Nat := 0x2100 + n

/-- Index of rail `r`'s object. -/
def railIdx (r : Nat) : Nat := 0x2200 + r

/-- Index of loop engine `e`'s object. -/
def engIdx (e : Nat) : Nat := 0x3100 + e

/-! ## Unit records -/

/-- A change of port `n`. -/
def State.modPort (s : State) (n : Fin 32) (f : Port → Port) : State :=
  { s with ports := s.ports.set n.1 (f s.ports[n]) n.2 }

/-- A change of rail `r`. -/
def State.modRail (s : State) (r : Fin 16) (f : Rail → Rail) : State :=
  { s with rails := s.rails.set r.1 (f s.rails[r]) r.2 }

/-- A change of loop engine `e`. -/
def State.modEng (s : State) (e : Fin 9) (f : Engine → Engine) : State :=
  { s with engines := s.engines.set e.1 (f s.engines[e]) e.2 }

/-- A change of sense converter `n`. -/
def State.modSc (s : State) (n : Fin 33) (f : Conv → Conv) : State :=
  { s with sc := s.sc.set n.1 (f s.sc[n]) n.2 }

/-- A change of voltage converter `k`. -/
def State.modVc (s : State) (k : Fin 16) (f : Conv → Conv) : State :=
  { s with vc := s.vc.set k.1 (f s.vc[k]) k.2 }

/-- A change of port `n`'s ledger. -/
def State.modLedger (s : State) (n : Fin 32) (f : Ledger → Ledger) : State :=
  { s with ledger := s.ledger.set n.1 (f s.ledger[n]) n.2 }

/-- A change of path `i`. -/
def State.modPath (s : State) (i : Fin 10) (f : PathState → PathState) : State :=
  { s with paths := s.paths.set i.1 (f s.paths[i]) i.2 }

/-- A change of link `i`. -/
def State.modLink (s : State) (i : Fin 2) (f : LinkState → LinkState) : State :=
  { s with can := { s.can with links := s.can.links.set i.1 (f s.can.links[i]) i.2 } }

/-- A change of two-wire context `c`. -/
def State.modCtx (s : State) (c : Fin 8) (f : Context → Context) : State :=
  { s with tw := { s.tw with ctx := s.tw.ctx.set c.1 (f s.tw.ctx[c]) c.2 } }

/-- A change of commit group `g`. -/
def State.modGroup (s : State) (g : Fin 8) (f : Group → Group) : State :=
  { s with cmt := { s.cmt with groups := s.cmt.groups.set g.1 (f s.cmt.groups[g]) g.2 } }

/-- A change of compare channel `k`. -/
def State.modCmp (s : State) (k : Fin 16) (f : Cmp → Cmp) : State :=
  { s with tb := { s.tb with cmp := s.tb.cmp.set k.1 (f s.tb.cmp[k]) k.2 } }

/-- A change of capture channel `k`. -/
def State.modCap (s : State) (k : Fin 8) (f : Cap → Cap) : State :=
  { s with tb := { s.tb with cap := s.tb.cap.set k.1 (f s.tb.cap[k]) k.2 } }

/-- A change of TS sensor `i`. -/
def State.modTs (s : State) (i : Fin 16) (f : Sensor → Sensor) : State :=
  { s with thm := { s.thm with ts := s.thm.ts.set i.1 (f s.thm.ts[i]) i.2 } }

/-- A change of die sensor `d`. -/
def State.modDie (s : State) (d : Fin 4) (f : DieSensor → DieSensor) : State :=
  { s with thm := { s.thm with die := s.thm.die.set d.1 (f s.thm.die[d]) d.2 } }

/-- The ports present in the variant. -/
def State.portList (s : State) : List (Fin 32) := (List.finRange 32).filter fun n => decide (n.1 < s.variant.ports)

/-- The rails present in the variant. -/
def State.railList (s : State) : List (Fin 16) := (List.finRange 16).filter fun r => decide (r.1 < s.variant.rails)

/-- The loop engines present in the variant. -/
def State.engList (s : State) : List (Fin 9) := (List.finRange 9).filter fun e => s.variant.hasEngine e.1

/-- Index of a host path in `paths`. -/
def pathIx : HostPath → Fin 10
  | .canA => 0
  | .canB => 1
  | .tw c => ⟨c.1 + 2, by omega⟩

/-- Index of a link in `links`. -/
def linkIx : Link → Fin 2
  | .a => 0
  | .b => 1

/-- The path of a link (R316). -/
def linkPath : Link → HostPath
  | .a => .canA
  | .b => .canB

/-- Whether a path belongs to the variant: CANB and the eight two-wire contexts are the HJ-32's, the small variants have
CANA and context 0 (Table 0-2). -/
def State.hasPath (s : State) : HostPath → Bool
  | .canA => true
  | .canB => s.variant.big
  | .tw c => s.variant.big || c == 0

/-! ## Time -/

/-- The timebase count: the stamp of an event (R32). -/
def State.now (s : State) : U32 := s.tb.count

/-- COUNT64 (R370). -/
def State.now64 (s : State) : Nat := s.tb.wraps.toNat * 2 ^ 32 + s.tb.count.toNat

/-- The count that core-domain timers run on: COUNT64 less the ticks of the crystal-loss gaps, in which they stand still (R55). -/
def State.coreNow (s : State) : Nat := s.now64 - s.tb.gapTicks

/-- AON ticks in a millisecond. -/
def ticksPerMs : Nat := 25000

/-! ## Where the device stands -/

/-- The AON island runs (steps 2 and on of Table 2-5). -/
def State.aonUp (s : State) : Bool :=
  match s.pwr.step with
  | .unpowered | .nrstLow | .shipHold => false
  | _ => true

/-- The core reset is released (step 7) and the core domain is on. -/
def State.coreOn (s : State) : Bool :=
  match s.pwr.step with
  | .released | .running => true
  | _ => false

/-- The dictionary is open (step 8). -/
def State.isOpen (s : State) : Bool := s.pwr.step == .running

/-- The core domain is on and its clock runs: the core-domain units act. -/
def State.live (s : State) : Bool := s.coreOn && !s.pwr.gated

/-- The device has finished its power-up, its clock runs and its units act. -/
def State.ready (s : State) : Bool := s.isOpen && !s.pwr.gated

/-- The CAN links and the two-wire target work with the core domain; SHIP ends them at its entry (Table 17-4). -/
def State.linksWork (s : State) : Bool := s.ready && s.md.mode != .ship

/-- The core domain is off and not being powered up: the AON island alone is at work (R61, R76, R79). A wake or a core reset in a
brown-out powers nothing up before the full reset that ends it (R42). -/
def State.asleep (s : State) : Bool := s.pwr.step == .aonUp && (!s.pwr.coreWanted || s.pwr.vsys == .brownOut)

/-- STANDBY has been entered and the core domain is still on, a trip in between included: a wake is kept (R78, R79).
(DEDUCED, log entry 36). -/
def State.fallingAsleep (s : State) : Bool :=
  s.coreOn && s.pwr.entering && (s.md.mode == .standby || s.md.mode == .safestop)

/-- A report that the collector owes its clock: taken when it next runs (R53, R54). -/
def State.owe (s : State) (code unit : U16) : State :=
  { s with pwr := { s.pwr with owed := s.pwr.owed ++ [(code, unit, s.now)] } }

/-- The 64-bit count of a tick that is not ahead of the present one. -/
def State.count64 (s : State) (t : U32) : Nat := s.now64 - (s.now - t).toNat

/-- SUPPLY_STAT.VSYS_OK. -/
def State.vsysOk (s : State) : Bool := s.pwr.vsys == .ok

/-! ## Free values (log entry 1) -/

/-- The next value the spec leaves open: an opaque constant at a counter that the draw advances.
(DESIGN CHOICE, log entry 1). -/
def State.draw (s : State) : BitVec 256 × State :=
  (Config.freeValue s.freeCtr, { s with freeCtr := s.freeCtr + 1 })

/-- A free number of `w` bits, `w` ≤ 256. -/
def State.drawNat (s : State) (w : Nat) : Nat × State := (s.draw.1.toNat % 2 ^ w, s.draw.2)

/-! ## Frames -/

/-- Whether a link runs and may send. -/
def State.linkUp (s : State) (l : Link) : Bool :=
  s.can.links[linkIx l].enabled && !s.can.links[linkIx l].busOff

/-- A frame handed to a link; a link that does not run sends nothing. An FD frame has the bit-rate switch unless DATA_RATE is 0
(Table 12-6). -/
def State.emit (s : State) (l : Link) (id : Nat) (fd : Bool) (data : List Byte) : State :=
  if s.linkUp l then { s with sent := s.sent ++ [{ link := l, id := id, fd := fd, brs := fd && s.can.links[linkIx l].dRate != 0, data := data }] } else s

/-- A frame handed to every enabled link (R333). -/
def State.emitAll (s : State) (id : Nat) (fd : Bool) (data : List Byte) : State :=
  (s.emit .a id fd data).emit .b id fd data

/-- Bits of a list of flags, bit 0 first. -/
def bitsOf : List Bool → Nat
  | [] => 0
  | b :: t => (if b then 1 else 0) + 2 * bitsOf t

/-- A bit of a bit vector set. -/
def setBit {w : Nat} (x : BitVec w) (i : Nat) : BitVec w := x ||| BitVec.ofNat w (2 ^ i)

/-- A bit of a bit vector cleared. -/
def clrBit {w : Nat} (x : BitVec w) (i : Nat) : BitVec w := x &&& ~~~BitVec.ofNat w (2 ^ i)

/-- Members of a mask among the 32 ports. -/
def maskPorts (m : Nat) : List (Fin 32) := (List.finRange 32).filter fun n => m.testBit n.1

/-- Members of a mask among the 16 rails. -/
def maskRails (m : Nat) : List (Fin 16) := (List.finRange 16).filter fun r => m.testBit r.1

end Sys2Proof.Machine
end

