-- ==== Sys2Proof/Machine/Arith.lean ====
section
/-! DEFINITION. Arithmetic that the spec names by its formula: square roots (R209), the natural logarithm in fixed point, and the two
temperature equations of R276 and R277. -/

namespace Sys2Proof.Machine
open Sys2Proof

/-- The square root bit by bit from bit `i` − 1 down, `r` being what the higher bits give. -/
def isqrtFrom : Nat → Nat → Nat → Nat
  | 0, _, r => r
  | i + 1, n, r => if (r + 2 ^ i) * (r + 2 ^ i) ≤ n then isqrtFrom i n (r + 2 ^ i) else isqrtFrom i n r

/-- The integer part of the square root of `n`, at most 2^bits − 1. -/
def isqrt (bits n : Nat) : Nat := isqrtFrom bits n 0

/-- One of the logarithm, which is kept with 60 fraction bits. -/
def lnOne : Int := 2 ^ 60

/-- The sum of z^(2i+1) / (2i+1) over some terms, `zz` being z² and `t` the present power of z. -/
def lnSeries : Nat → Int → Int → Nat → Int
  | 0, _, _, _ => 0
  | k + 1, zz, t, odd => t / (odd : Int) + lnSeries k zz (t * zz / lnOne) (odd + 2)

/-- ln (a / b) for a / b between 1/2 and 2: 2 artanh of (a − b) / (a + b). -/
def lnNear (a b : Nat) : Int :=
  let z := ((a : Int) - b) * lnOne / ((a : Int) + b)
  2 * lnSeries 24 (z * z / lnOne) z 1

/-- ln (a / b) of positive numbers, with 60 fraction bits. -/
def lnRatio (a b : Nat) : Int :=
  let i := a.log2
  let j := b.log2
  lnNear (a * 2 ^ j) (b * 2 ^ i) + ((i : Int) - j) * lnNear 2 1

/-- The temperature in 0.1 °C that the diode equation of R276 gives for ΔVbe in nV, IDEALITY in 1/1000 and SER_RES in 0.1 Ω, to the
nearest (log entry 10). -/
def diodeDeci (dVbe : Int) (ideality serRes : Nat) : Int :=
  let v := dVbe - (serRes * 15000 : Nat)
  let slope := (ideality * 86173 : Nat) * lnRatio 16 1
  roundHalfUp (20000 * v * lnOne - 5463 * slope) (2 * max 1 slope)

/-- The temperature in 0.1 °C that the β equation of R277 gives for the pin as parts per million of VCC5, to the nearest (log entry 10).
A pin at either end has no resistance ratio: such a conversion is OPEN or SHORT (R278), and the value is not used. -/
def ntcDeci (ppm biasRes nom beta : Nat) : Int :=
  let a := biasRes * ppm
  let b := nom * (1000000 - ppm)
  if a = 0 ∨ b = 0 then 0
  else
    let den := 20 * beta * lnOne + 5963 * lnRatio a b
    if den = 0 then 32767 else roundHalfUp ((20 * 5963 * beta * lnOne - 5463 * den) * den.sign) (2 * den * den.sign)

end Sys2Proof.Machine
end

