-- ==== Sys2Proof/Machine/Crypto.lean ====
section
/-! DEFINITION. The functions that the identity and the configuration image name (R410, R412, R415–R417): SHA-256 and ECDSA on P-256, as
their standards define them (PRESUMED, log entry 9), and what is fixed of a unit's identity at production. -/

namespace Sys2Proof.Machine
open Sys2Proof

/-! ## Numbers as octet strings, most significant byte first (R415) -/

/-- The `n` bytes of a number, most significant first. -/
def beBytes (n v : Nat) : List Byte := (leBytes n v).reverse

/-- The number that bytes spell, most significant first. -/
def beVal (bs : List Byte) : Nat := leVal bs.reverse

/-! ## SHA-256 -/

/-- The integer `k`-th root of `v` below `2 ^ n`, added to `r` bit by bit from the top. -/
def rootBits (k v : Nat) : Nat → Nat → Nat
  | 0, r => r
  | n + 1, r => rootBits k v n (if (r + 2 ^ n) ^ k ≤ v then r + 2 ^ n else r)

/-- The first 32 bits behind the binary point of the `k`-th root of a small number. -/
def rootFraction (k p : Nat) : Nat := rootBits k (p * 2 ^ (32 * k)) 37 0 % 2 ^ 32

/-- The 64 primes up to 311: none below 324 has a divisor above 17 and none at or below it. -/
def shaPrimes : List Nat := (List.range 312).filter fun n => 2 ≤ n && (List.range 16).all fun d => n == d + 2 || n % (d + 2) != 0

/-- The constant of every round: the cube roots of the 64 primes. -/
def shaKeys : List Nat := shaPrimes.map (rootFraction 3)

/-- A chaining value: the four newest words of each of two series, newest first. What the standard calls a, b, c, d is the one, e, f, g, h the
other. -/
structure ShaChain where
  low  : List Nat
  high : List Nat
  deriving DecidableEq, Repr

/-- The first chaining value: the square roots of the first eight primes. -/
def shaStart : ShaChain :=
  let roots := (shaPrimes.take 8).map (rootFraction 2)
  { low := roots.take 4, high := roots.drop 4 }

/-- Word `i` of a series. -/
def wordAt (ws : List Nat) (i : Nat) : Nat := (ws[i]?).getD 0

/-- A 32-bit word turned right by `n` bits. -/
def turn (n x : Nat) : Nat := (x * 2 ^ 32 + x) / 2 ^ n % 2 ^ 32

/-- Three turns of one word, combined. -/
def turn3 (i j k x : Nat) : Nat := turn i x ^^^ turn j x ^^^ turn k x

/-- Two turns and a shift of one word, combined: the message's functions. -/
def turn2 (i j k x : Nat) : Nat := turn i x ^^^ turn j x ^^^ x / 2 ^ k

/-- One round with constant `k` and message word `w`: each series gains a word. -/
def shaRound (c : ShaChain) (k w : Nat) : ShaChain :=
  let e := wordAt c.high 0
  let a := wordAt c.low 0
  let pick := (e &&& wordAt c.high 1) ||| ((2 ^ 32 - 1 - e) &&& wordAt c.high 2)
  let most := (a &&& (wordAt c.low 1 ||| wordAt c.low 2)) ||| (wordAt c.low 1 &&& wordAt c.low 2)
  let mixed := wordAt c.high 3 + turn3 6 11 25 e + pick + k + w
  { low := (mixed + turn3 2 13 22 a + most) % 2 ^ 32 :: c.low.take 3, high := (wordAt c.low 3 + mixed) % 2 ^ 32 :: c.high.take 3 }

/-- The rounds of a block: `ws` are the next sixteen words of the message, oldest first, and each round adds the word after them. -/
def shaRounds : List Nat → List Nat → ShaChain → ShaChain
  | [], _, c => c
  | k :: ks, ws, c =>
    let next := (wordAt ws 0 + turn2 7 18 3 (wordAt ws 1) + wordAt ws 9 + turn2 17 19 10 (wordAt ws 14)) % 2 ^ 32
    shaRounds ks (ws.drop 1 ++ [next]) (shaRound c k (wordAt ws 0))

/-- Two series added word by word. -/
def addWords (xs ys : List Nat) : List Nat := List.zipWith (fun x y => (x + y) % 2 ^ 32) xs ys

/-- The sixteen words of a block. -/
def blockWords (bs : List Byte) : List Nat := (List.range 16).map fun i => beVal ((bs.drop (4 * i)).take 4)

/-- `n` blocks of 64 bytes chained. -/
def shaBlocks : Nat → List Byte → ShaChain → ShaChain
  | 0, _, c => c
  | n + 1, bs, c =>
    let d := shaRounds shaKeys (blockWords (bs.take 64)) c
    shaBlocks n (bs.drop 64) { low := addWords c.low d.low, high := addWords c.high d.high }

/-- What follows a message of `n` bytes: a 1 bit, zeros to the end of a block, of which the last eight bytes give the length in bits. -/
def shaTail (n : Nat) : List Byte := 0x80 :: List.replicate ((119 - n % 64) % 64) 0 ++ beBytes 8 (8 * n)

/-- SHA-256 of a byte string. (PRESUMED, log entry 9). -/
def sha256 (m : List Byte) : List Byte :=
  let whole := m ++ shaTail m.length
  let c := shaBlocks (whole.length / 64) whole shaStart
  (c.low ++ c.high).flatMap (beBytes 4)

/-! ## ECDSA on P-256 -/

/-- The prime of the field. -/
def p256P : Nat := 0xffffffff00000001000000000000000000000000ffffffffffffffffffffffff

/-- The order of the base point. -/
def p256N : Nat := 0xffffffff00000000ffffffffffffffffbce6faada7179e84f3b9cac2fc632551

/-- The coefficient b of y² = x³ − 3x + b. -/
def p256B : Nat := 0x5ac635d8aa3a93e7b3ebbd55769886bc651d06b0cc53b0f63bce3c3e27d2604b

/-- A point: none is the point at infinity. -/
abbrev EcPoint := Option (Nat × Nat)

/-- The base point. -/
def p256G : EcPoint :=
  some (0x6b17d1f2e12c4247f8bce6e563a440f277037d812deb33a0f4a13945d898c296,
        0x4fe342e2fe1a7f9b8ee7eb4a7c0f9e162bce33576b315ececbb6406837bf51f5)

/-- A power modulo `m`, over the lowest `n` bits of the exponent. -/
def powMod (m : Nat) : Nat → Nat → Nat → Nat
  | 0, _, _ => 1
  | n + 1, x, k => (if k % 2 = 1 then x else 1) * powMod m n (x * x % m) (k / 2) % m

/-- The inverse modulo a prime of 256 bits. -/
def invMod (m x : Nat) : Nat := powMod m 256 x (m - 2)

/-- The third point of the line of slope `l` through two points. -/
def ecLine (l x1 y1 x2 : Nat) : EcPoint :=
  let x3 := (l * l + 2 * p256P - x1 - x2) % p256P
  some (x3, (l * (x1 + p256P - x3) + p256P - y1) % p256P)

/-- The sum of two points. -/
def ecAdd (a b : EcPoint) : EcPoint :=
  match a, b with
  | none, q => q
  | p, none => p
  | some (x1, y1), some (x2, y2) =>
    if x1 = x2 then
      if (y1 + y2) % p256P = 0 then none
      else ecLine ((3 * x1 * x1 + p256P - 3) * invMod p256P (2 * y1 % p256P) % p256P) x1 y1 x2
    else ecLine ((y2 + p256P - y1) * invMod p256P ((x2 + p256P - x1) % p256P) % p256P) x1 y1 x2

/-- A point times the lowest `n` bits of a number. -/
def ecMul : Nat → Nat → EcPoint → EcPoint
  | 0, _, _ => none
  | n + 1, k, q => ecAdd (if k % 2 = 1 then q else none) (ecMul n (k / 2) (ecAdd q q))

/-- A pair of coordinates is a point of the curve. -/
def onCurve (x y : Nat) : Bool :=
  x < p256P && y < p256P && y * y % p256P == (x * x * x + (p256P - 3) * x + p256B) % p256P

/-- ECDSA P-256 verification of a signature, r then s, over a hash under a public key, X then Y. -/
def ecdsaVerify (key hash sig : List Byte) : Bool :=
  let x := beVal (key.take 32)
  let y := beVal (key.drop 32)
  let r := beVal (sig.take 32)
  let s := beVal (sig.drop 32)
  key.length == 64 && sig.length == 64 && onCurve x y && 0 < r && r < p256N && 0 < s && s < p256N &&
    let w := invMod p256N s
    match ecAdd (ecMul 256 (beVal hash * w % p256N) p256G) (ecMul 256 (r * w % p256N) (some (x, y))) with
    | none => false
    | some (u, _) => u % p256N == r

/-! ## The unit's identity (R415) -/

/-- The private key, between 1 and the order of the base point less one. -/
def privKey : Nat := Config.privSeed % (p256N - 1) + 1

/-- The public key of the unit, X then Y. -/
def pubKey : List Byte :=
  match ecMul 256 privKey p256G with
  | none => List.replicate 64 0
  | some (x, y) => beBytes 32 x ++ beBytes 32 y

/-- One attempt at a signature with the random number of signing `i`: none where it gives r or s 0. -/
def trySign (i : Nat) (hash : List Byte) : Option (List Byte) :=
  let k := Config.signNonce i % (p256N - 1) + 1
  match ecMul 256 k p256G with
  | none => none
  | some (x, _) =>
    let r := x % p256N
    let s := invMod p256N k * (beVal hash + r * privKey) % p256N
    if r = 0 ∨ s = 0 then none else some (beBytes 32 r ++ beBytes 32 s)

/-- The signature that the unit's own private key makes over a hash, at signing number `i`; a random number that does not serve is drawn
again once. -/
def ecdsaSign (i : Nat) (hash : List Byte) : List Byte :=
  ((trySign (2 * i) hash).or (trySign (2 * i + 1) hash)).getD (List.replicate 64 0)

/-- The certificate in read-only storage: at most 1 024 bytes, the UID in its subject serial number and PUB_KEY as its public key; the
rest is fixed at production. -/
def certificate : List Byte :=
  Config.certHead.take 320 ++ (Config.certSerial Config.uid.toList).take 64 ++ Config.certMid.take 256 ++ pubKey
    ++ Config.certTail.take 320

end Sys2Proof.Machine
end

