-- ==== Sys2Proof/Machine/Operands.lean ====
section
/-! DEFINITION. What the settings mean: who belongs to what (ports, rails, groups, engines), and the fixed conversions of the
spec (limit code, period, target, step, offsets, cycle budget). -/

namespace Sys2Proof.Machine
open Sys2Proof

/-! ## Membership -/

/-- The personality in force on port `n`. -/
def State.pers (s : State) (n : Nat) : Nat := s.act (portIdx n) 1

/-- The even port of a BB4 pair, or the port itself. -/
def State.pairLead (s : State) (n : Nat) : Nat := if s.pers n = 3 ∧ n % 2 = 1 then n - 1 else n

/-- The odd port of `n` if `n` leads a BB4 pair. -/
def State.pairMate (s : State) (n : Nat) : Option Nat := if s.pers n = 3 ∧ n % 2 = 0 then some (n + 1) else none

/-- PORT_MASK in force on rail `r`. -/
def State.mask (s : State) (r : Nat) : Nat := s.act (railIdx r) 1

/-- The rail of port `n`, the odd port of a BB4 pair with its even port (R88, R156). -/
def State.railOf (s : State) (n : Fin 32) : Option (Fin 16) :=
  s.railList.find? fun r => (s.mask r.1).testBit (s.pairLead n.1)

/-- The phases of rail `r`, in increasing port number: a BB4 pair is the phase of its even port (R157). -/
def State.phases (s : State) (r : Fin 16) : List (Fin 32) := maskPorts (s.mask r.1)

/-- The member ports of rail `r`, both ports of each pair. -/
def State.members (s : State) (r : Fin 16) : List (Fin 32) :=
  (List.finRange 32).filter fun n => (s.mask r.1).testBit (s.pairLead n.1)

/-- The personality of a rail: that of its first member, 0 with none. -/
def State.railPers (s : State) (r : Fin 16) : Nat :=
  match s.phases r with
  | [] => 0
  | n :: _ => s.pers n.1

/-- BUCK, BOOST or BB4. -/
def isConverter (p : Nat) : Bool := p == 1 || p == 2 || p == 3

/-- The group of a port. -/
def groupOf (n : Fin 32) : Fin 8 := ⟨n.1 / 4, by omega⟩

/-- Whether a phase is active: neither shed, fenced, held, tripped nor turned off, and switching or about to (R157).
(DEDUCED, log entry 99). -/
def State.isActive (s : State) (r : Fin 16) (n : Fin 32) : Bool :=
  !s.rails[r].shed.getLsbD n.1 && (s.ports[n].ending == none || s.ports[n].ending == some .precharge) &&
    match s.ports[n].state with
    | .switching | .precharge | .ramp | .on | .pullIn | .hold => true
    | _ => false

/-- The active phases of a rail. -/
def State.actives (s : State) (r : Fin 16) : List (Fin 32) := (s.phases r).filter (s.isActive r)

/-- The phases of a rail that are not fenced. -/
def State.livePhases (s : State) (r : Fin 16) : List (Fin 32) :=
  (s.phases r).filter fun n => decide (s.ports[n].state ≠ .fenced)

/-- The master phase: the lowest-numbered active phase (R157). -/
def State.masterPhase (s : State) (r : Fin 16) : Option (Fin 32) := (s.actives r).head?

/-- A port whose pulse generator runs periods. -/
def State.pulsing (s : State) (n : Fin 32) : Bool :=
  match s.ports[n].state with
  | .switching | .ramp | .on | .pullIn | .hold => true
  | _ => false

/-- The phase whose period starts are its rail's: the lowest-numbered active phase that runs periods (R132, R157). -/
def State.beatPhase (s : State) (r : Fin 16) : Option (Fin 32) := ((s.actives r).filter s.pulsing).head?

/-! ## Conversions -/

/-- PER of a switching frequency in Hz, rounded half up (R105, R159). -/
def perOf (fsw : Nat) : Nat := (800000000 + fsw) / (2 * fsw)

/-- PER of a rail. -/
def State.per (s : State) (r : Fin 16) : Nat := perOf (s.act (railIdx r.1) 7)

/-- PER of a port; the default frequency's where the port has no rail. -/
def State.portPer (s : State) (n : Fin 32) : Nat :=
  match s.railOf n with
  | some r => s.per r
  | none => perOf 500000

/-- LIMIT_CODE of R97. -/
def limitCode (iLim shunt : Nat) : Nat := iLim * shunt * 512 / 100000000

/-- The limit code in force on port `n`. -/
def State.limit (s : State) (n : Nat) : Nat := limitCode (s.act (portIdx n) 5) (s.act (portIdx n) 4)

/-- Offset of active phase `j` of `k` (R157), rounded half up. -/
def phaseOfs (j per k : Nat) : Nat := if k = 0 then 0 else (2 * j * per + k) / (2 * k)

/-- TARGET of R163: VC steps with 8 fraction bits. -/
def targetOf (vset div : Nat) : Int := roundHalfUp (vset * div) 8000

/-- STEP of R164. -/
def stepOf (rate per div : Nat) : Int := max 1 (roundHalfUp (rate * per * div) 320000)

/-- A threshold in µV at the output, in VC steps of 31.25 µV at the sense pins, rounded half up (R222). -/
def vcSteps (uv div : Nat) : Nat := (2 * (uv * div) + 2048000) / 4096000

/-- A reference (8 fraction bits) or a mean word as µV at the output. -/
def outputUv (steps256 : Int) (div : Nat) : Nat := (roundHalfUp (steps256 * 8000) (max 1 div)).toNat

/-- PHASE_OFS of a port in a rail (R157); 0 for one that is not active. -/
def State.ofsOf (s : State) (r : Fin 16) (n : Fin 32) : Nat :=
  let act := s.actives r
  let j := act.findIdx fun m => m.1 == s.pairLead n.1
  if j < act.length then phaseOfs j (s.per r) act.length else 0

/-- An offset taken to the nearest of its equals modulo PER. -/
def wrapOfs (per : Nat) (x : Int) : Int :=
  let y := x.emod (max 1 per : Nat)
  if (per : Int) < 2 * y then y - per else y

/-- Where a phase's counter stands in the next clock: 0 where it has come to PER (R105), less what a lengthened period still waits (R108). -/
def Port.standing (p : Port) (per : Nat) : Int :=
  if p.hold = 0 then (if per ≤ p.count + 1 then 0 else (p.count + 1 : Nat)) else (p.count + 1 : Nat) - (p.hold : Int)

/-- The moves that every phase at work still has to make after N_active, the master phase or PER changed (R108, R158): from where its
counter stands to its new offset, both behind the phase whose period starts are the rail's. -/
def rephase (s : State) (r : Fin 16) : State :=
  match s.beatPhase r with
  | none => s
  | some m =>
    let per := s.per r
    ((s.actives r).filter s.pulsing).foldl (fun t n =>
      let lag := s.ports[m].standing per - s.ports[n].standing per
      t.modPort n fun p => { p with nudge := wrapOfs per (((s.ofsOf r n : Int) - s.ofsOf r m) - lag) }) s

/-- N_active of a rail changed: dwell and spacing start again (R173), the phases move to their new offsets (R158). -/
def restartDwell (s : State) (r : Fin 16) : State := rephase (s.modRail r fun x => { x with dwell := 0, spacing := 0 }) r

/-- The counter of a phase that begins to switch: at its offset behind the phase whose period starts are the rail's (R157). -/
def State.startCount (s : State) (n : Fin 32) : Nat :=
  match s.railOf n with
  | none => 0
  | some r =>
    match s.beatPhase r with
    | none => 0
    | some m =>
      let per : Int := max 1 (s.per r)
      ((s.ports[m].standing (s.per r) - 1 - ((s.ofsOf r n : Int) - s.ofsOf r m)).emod per).toNat

/-- The current in mA of a converter code sum over `k` words: 3.814697 µV steps over SHUNT µΩ. -/
def codeMa (sum : Int) (k shunt : Nat) : Int := roundHalfUp (sum * 125000000) (32768 * (max 1 k) * (max 1 shunt))

/-- The backstop level in SCn codes, clamped to full scale and rounded halves up (R104). (DESIGN CHOICE, log entry 10). -/
def backstopCode (iLim shunt level : Nat) : Int := min 32767 (roundHalfUp (iLim * level * shunt * 32768) (128 * 125000000))

/-! ## The cycle budget (R131–R137), over the three settings it reads -/

/-- Group of the lowest-numbered member of a mask outside the groups of `gone`. -/
def lowGroup (m : Nat) (gone : Nat) : Option Nat :=
  ((List.range 32).find? fun n => m.testBit n && !gone.testBit (n / 4)).map (· / 4)

/-- What the budget reads: PORT_MASK, FSW and personality, and the group that masters each rail, as configured that of its
lowest-numbered member (R131). -/
structure Plan where
  mask : Nat → Nat
  fsw  : Nat → Nat
  pers : Nat → Nat
  master : Nat → Option Nat := fun r => lowGroup (mask r) 0

/-- The group whose engine masters a rail: that of its lowest-numbered member, or where the role moved (R131, R152). -/
def State.masterGroup (s : State) (r : Nat) : Option Nat :=
  ((List.finRange 16).findSome? fun q => if q.1 = r then s.rails[q].moved else none).orElse fun _ => lowGroup (s.mask r) 0

/-- The plan in the active copies. -/
def State.plan (s : State) : Plan :=
  { mask := s.mask, fsw := fun r => s.act (railIdx r) 7, pers := s.pers, master := s.masterGroup }

/-- The plan in the pending copies, with some values of a write laid over them. -/
def State.planWith (s : State) (vals : List (Key × Nat)) : Plan :=
  let v := fun idx sub => (((vals.find? fun c => c.1 = key idx sub).map Prod.snd).getD (s.reg idx sub))
  { mask := fun r => v (railIdx r) 1, fsw := fun r => v (railIdx r) 7, pers := fun n => v (portIdx n) 1 }

/-- Whether a mask holds port `n` or the even port of its pair. -/
def Plan.has (p : Plan) (m n : Nat) : Bool := m.testBit (if p.pers n = 3 ∧ n % 2 = 1 then n - 1 else n)

/-- Ports of group `g` served: members of some rail, odd BB4 ports with their pair (R131). -/
def Plan.served (p : Plan) (g : Nat) : Nat :=
  ((List.range 4).filter fun i => (List.range 16).any fun r => p.has (p.mask r) (4 * g + i)).length

/-- Rails mastered by group `g` (R131, R152). -/
def Plan.mastered (p : Plan) (g : Nat) : List Nat := (List.range 16).filter fun r => p.master r == some g

/-- Rails that group `g` serves or masters. -/
def Plan.railsAt (p : Plan) (g : Nat) : List Nat :=
  (List.range 16).filter fun r => (List.range 4).any fun i => p.has (p.mask r) (4 * g + i)

/-- The frame-defining rail of group `g` (R132): the highest frequency, the lowest number on a tie. -/
def Plan.frameRail (p : Plan) (g : Nat) : Option Nat :=
  (p.railsAt g ++ (p.mastered g).filter fun r => !(p.railsAt g).contains r).foldl
    (fun best r => match best with
      | none => some r
      | some b => if p.fsw b < p.fsw r ∨ (p.fsw b = p.fsw r ∧ r < b) then some r else some b) none

/-- LOAD of R136. -/
def Plan.load (p : Plan) (g : Nat) : Nat :=
  if p.served g = 0 ∧ (p.mastered g).length = 0 then 0
  else 32 * p.served g + 24 * (p.mastered g).length + 32

/-- Whether group `g` keeps its budget (R136). -/
def Plan.budgetOk (p : Plan) (g : Nat) : Bool :=
  match p.frameRail g with
  | none => true
  | some r => p.load g ≤ perOf (p.fsw r)

/-- Groups whose ports a rail uses. -/
def Plan.groupsOf (p : Plan) (r : Nat) : List Nat :=
  (List.range 8).filter fun g => (List.range 4).any fun i => p.has (p.mask r) (4 * g + i)

/-- Whether a spanning rail defines the frame of every engine whose ports it uses (R135). -/
def Plan.spanOk (p : Plan) (r : Nat) : Bool :=
  (p.groupsOf r).length ≤ 1 || (p.groupsOf r).all fun g => p.frameRail g == some r

/-- The check of R137 over every engine as configured. -/
def Plan.ok (p : Plan) : Bool :=
  ((List.range 8).all fun g => p.budgetOk g) && (List.range 16).all fun r => p.spanOk r

/-! ## Engines at work -/

/-- The groups fenced because no spare engine remained (R152), as a mask. -/
def State.gone (s : State) : Nat := s.flt.noSpare.toNat

/-- The group that engine `e` works for: its own, or for LE8 the one it covers. -/
def State.engGroup (s : State) (e : Fin 9) : Option Nat :=
  if e = 8 then (if s.engines[e].state = .covering then some s.engines[e].covers else none)
  else if s.engines[e].state = .fenced then none else some e.1

/-- The rails that an engine masters. -/
def State.mastersOf (s : State) (e : Fin 9) : List (Fin 16) :=
  match s.engGroup e with
  | none => []
  | some g => s.railList.filter fun r => s.masterGroup r.1 == some g

/-- The ports that an engine serves. -/
def State.servesOf (s : State) (e : Fin 9) : List (Fin 32) :=
  match s.engGroup e with
  | none => []
  | some g => s.portList.filter fun n => n.1 / 4 == g && (s.railOf n).isSome

/-- The frame-defining rail of an engine. -/
def State.engFrameRail (s : State) (e : Fin 9) : Option Nat :=
  (s.engGroup e).bind (s.plan.frameRail)

/-- FRAME of an engine in core clocks, 0 when it has none. -/
def State.engFrame (s : State) (e : Fin 9) : Nat :=
  match s.engFrameRail e with
  | none => 0
  | some r => perOf (s.act (railIdx r) 7)

/-- LOAD of an engine. -/
def State.engLoad (s : State) (e : Fin 9) : Nat :=
  match s.engGroup e with
  | none => 0
  | some g => s.plan.load g

/-- The group fence of port `n`'s group, or its own. -/
def State.portFenced (s : State) (n : Fin 32) : Bool := s.ports[n].state == .fenced

/-- A port whose gates could be switching now (R25). -/
def State.isSwitching (s : State) (n : Fin 32) : Bool :=
  match s.ports[n].state with
  | .off | .ready | .fenced | .held | .tripped => false
  | _ => true

/-- A port that acts for itself or leads its pair: a BB4 pair is one converter, run by its even port (R89). -/
def State.leads (s : State) (n : Fin 32) : Bool := s.pairLead n.1 == n.1

end Sys2Proof.Machine
end

