-- ==== Sys2Proof/Machine/Answers.lean ====
section
/-! DEFINITION. Answers to the host paths, and the SDO and USDO responses that carry them on a link (R319, R332, Table 12-6). -/

namespace Sys2Proof.Machine
open Sys2Proof

/-- Bytes of a string that has no stored value read as zeros (log entry 5). -/
def padTo (n : Nat) (bs : List Byte) : List Byte := bs ++ List.replicate (n - bs.length) 0

/-- Valid FD data lengths. -/
def fdLengths : List Nat := [0, 1, 2, 3, 4, 5, 6, 7, 8, 12, 16, 20, 24, 32, 48, 64]

/-- Data padded with 0x00 to the next valid FD length (R332). -/
def padFd (d : List Byte) : List Byte := padTo ((fdLengths.find? fun n => decide (d.length ≤ n)).getD 64) d

/-- A number of a service, for the opaque USDO framing. -/
def Service.number : Service → Nat
  | .read => 0
  | .write => 1
  | .beginRead => 2
  | .beginWrite => 3
  | .readSegment t l => 4 + (if t then 1 else 0) + (if l then 2 else 0)
  | .writeSegment t => 8 + (if t then 1 else 0)

/-- An SDO response's first byte, the object it names, and four bytes. -/
def sdoBytes (cmd : Nat) (k : Key) (four : List Byte) : List Byte :=
  padTo 8 (BitVec.ofNat 8 cmd :: leBytes 2 (k / 256) ++ leBytes 1 (k % 256) ++ four)

/-- The 8 bytes of an SDO response as CiA 301 gives them: an abort, an upload expedited to 4 bytes or with its size, a download
confirmed, a segment. (PRESUMED, log entry 126). -/
def sdoReply (q : Asked) (code : Nat) (bytes : List Byte) : List Byte :=
  if code ≠ 0 then sdoBytes 0x80 q.key (leBytes 4 code)
  else match q.service with
    | .read =>
      if bytes.length ≤ 4 then sdoBytes (0x43 + 4 * (4 - bytes.length)) q.key bytes
      else sdoBytes 0x41 q.key (leBytes 4 bytes.length)
    | .beginRead => sdoBytes 0x41 q.key (leBytes 4 bytes.length)
    | .write | .beginWrite => sdoBytes 0x60 q.key []
    | .readSegment t l =>
      padTo 8 (BitVec.ofNat 8 ((if t then 0x10 else 0) + 2 * (7 - bytes.length) + (if l then 1 else 0)) :: bytes.take 7)
    | .writeSegment t => padTo 8 [if t then 0x30 else 0x20]

/-- The bytes of a response: an SDO response is classical, a USDO response is in FD format (R332). -/
def replyBytes (q : Asked) (code : Nat) (bytes : List Byte) : List Byte :=
  if q.usdo then padFd ((Config.usdoReply q.service.number q.key code bytes).take 64) else sdoReply q code bytes

/-- The link of a path. -/
def pathLink : HostPath → Option Link
  | .canA => some .a
  | .canB => some .b
  | .tw _ => none

/-- A request noted: the next answer on its link's path responds to it. -/
def ask (s : State) (l : Link) (q : Asked) : State := s.modPath (pathIx (linkPath l)) fun x => { x with asked := some q }

/-- The response to a request, sent on 0x580 + node-ID of its link; with the core domain on, none in the NMT state stopped (R335). -/
def sendReply (s : State) (p : HostPath) (q : Option Asked) (code : Nat) (bytes : List Byte) : State :=
  match pathLink p, q with
  | some l, some q =>
    if s.coreOn && s.can.nmt == .stopped then s else s.emit l (0x580 + s.can.nodeId) q.usdo (replyBytes q code bytes)
  | _, _ => s

/-- The response to the request noted on a link. -/
def respond (s : State) (p : HostPath) (code : Nat) (bytes : List Byte) : State :=
  sendReply (s.modPath (pathIx p) fun x => { x with asked := none }) p s.paths[pathIx p].asked code bytes

/-- The request noted on a path kept for the end of the fence, or of the key change, that it waits for. -/
def holdAsked (s : State) (p : HostPath) (fence : Bool) : State :=
  s.modPath (pathIx p) fun x =>
    if fence then { x with asked := none, heldFence := x.heldFence ++ [x.asked] }
    else { x with asked := none, heldKey := x.heldKey ++ [x.asked] }

/-- An answer given to a path: an abort code, 0 for success, and the bytes read; a request in an SDO or USDO frame has its response.
(DESIGN CHOICE, log entry 16). -/
def answer (s : State) (p : HostPath) (code : Nat) (bytes : List Byte) : State :=
  respond (s.modPath (pathIx p) fun q => { q with abort := code, answer := bytes }) p code bytes

/-- The answer that the oldest fence of a path waited for, or its oldest key change: given at its end, to the request that asked for it
(R319, R322). -/
def answerOwed (s : State) (p : HostPath) (fence : Bool) (code : Nat) : State :=
  let x := s.paths[pathIx p]
  let y := if fence then { x with heldFence := x.heldFence.tail } else { x with heldKey := x.heldKey.tail }
  sendReply (s.modPath (pathIx p) fun _ =>
    { y with owed := y.heldFence != [] || y.heldKey != [], abort := code, answer := [] }) p
    (if fence then x.heldFence else x.heldKey).head?.join code []

/-- The requests of both links that wait ended with no response (R335), and their slots freed. -/
def endWaits (s : State) : State :=
  let t := [HostPath.canA, .canB].foldl (fun t p => t.modPath (pathIx p) fun x =>
    { x with asked := none, heldFence := [], heldKey := [], owed := false }) s
  { t with
    cmt := { t.cmt with fences := t.cmt.fences.filter fun f => f.1 != .host .canA && f.1 != .host .canB }
    ks := { t.ks with keyWaits := t.ks.keyWaits.map fun w =>
      if w.path = some .canA ∨ w.path = some .canB then { w with path := none } else w } }

end Sys2Proof.Machine
end

