-- ==== Sys2Proof/Machine/Flags.lean ====
section
/-! DEFINITION. The fault table, the error register, the EMCY queues, and every flag that reaches a host: interrupt sources,
their order, their delivery and the tally counters. -/

namespace Sys2Proof.Machine
open Sys2Proof

/-! ## Faults and what they are acknowledged by (Table 11-4) -/

/-- A row of Table 11-4; EMCY code 0 where none is sent. -/
structure FaultRow where
  code : U16
  cls  : FClass
  ack  : AckKind
  emcy : Nat
  deriving DecidableEq, Repr

/-- Rows of Table 11-4, part 0. -/
def faultRows0 : List FaultRow :=
  [⟨0x0101, .f, .n, 0x3120⟩, ⟨0x0102, .f, .h, 0x3200⟩, ⟨0x0103, .f, .h, 0x3200⟩, ⟨0x0104, .f, .h, 0xFF01⟩,
   ⟨0x0105, .f, .h, 0x5000⟩, ⟨0x0106, .u, .h, 0x5000⟩, ⟨0x0107, .u, .h, 0x5000⟩, ⟨0x0108, .c, .a, 0⟩,
   ⟨0x0109, .u, .h, 0x3200⟩, ⟨0x010A, .f, .n, 0x9000⟩, ⟨0x010B, .f, .n, 0xFF0B⟩, ⟨0x010C, .f, .h, 0x5000⟩,
   ⟨0x0201, .u, .h, 0x2300⟩, ⟨0x0202, .u, .h, 0x2300⟩, ⟨0x0203, .c, .a, 0⟩, ⟨0x0204, .u, .h, 0x2300⟩,
   ⟨0x0205, .u, .h, 0x5000⟩, ⟨0x0206, .u, .h, 0x5000⟩, ⟨0x0207, .c, .a, 0⟩, ⟨0x0208, .c, .a, 0⟩]

/-- Rows of Table 11-4, part 1. -/
def faultRows1 : List FaultRow :=
  [⟨0x0209, .u, .h, 0xFF20⟩, ⟨0x020A, .u, .h, 0x2300⟩, ⟨0x020B, .c, .h, 0xFF21⟩, ⟨0x020C, .c, .n, 0xFF22⟩,
   ⟨0x020D, .c, .n, 0xFF23⟩, ⟨0x0301, .c, .a, 0⟩, ⟨0x0302, .c, .a, 0⟩, ⟨0x0303, .c, .a, 0⟩,
   ⟨0x0304, .c, .a, 0⟩, ⟨0x0305, .u, .h, 0x5000⟩, ⟨0x0306, .u, .h, 0x5000⟩, ⟨0x0307, .u, .h, 0x5000⟩,
   ⟨0x0308, .u, .h, 0x5000⟩, ⟨0x0309, .u, .h, 0x5000⟩, ⟨0x030A, .u, .h, 0x5000⟩, ⟨0x0401, .c, .a, 0⟩,
   ⟨0x0402, .c, .a, 0⟩, ⟨0x0403, .u, .h, 0xFF40⟩, ⟨0x0404, .u, .h, 0x3300⟩, ⟨0x0405, .c, .a, 0⟩]

/-- Rows of Table 11-4, part 2. -/
def faultRows2 : List FaultRow :=
  [⟨0x0406, .c, .a, 0⟩, ⟨0x0407, .c, .h, 0xFF41⟩, ⟨0x0408, .u, .h, 0x2300⟩, ⟨0x0501, .c, .a, 0⟩,
   ⟨0x0502, .u, .h, 0x5000⟩, ⟨0x0503, .u, .h, 0x4200⟩, ⟨0x0601, .c, .a, 0⟩, ⟨0x0602, .u, .h, 0xFF50⟩,
   ⟨0x0603, .u, .h, 0x8100⟩, ⟨0x0604, .u, .h, 0x8100⟩, ⟨0x0605, .u, .h, 0x8100⟩, ⟨0x0701, .u, .h, 0xFF70⟩,
   ⟨0x0702, .u, .h, 0xFF71⟩, ⟨0x0703, .u, .h, 0xFF72⟩, ⟨0x0704, .u, .h, 0xFF73⟩, ⟨0x0705, .c, .h, 0xFF74⟩,
   ⟨0x0801, .c, .h, 0xFF80⟩, ⟨0x0802, .c, .a, 0⟩, ⟨0x0803, .c, .a, 0⟩, ⟨0x0804, .u, .n, 0x4000⟩]

/-- Rows of Table 11-4, part 3. -/
def faultRows3 : List FaultRow :=
  [⟨0x0805, .u, .n, 0x4000⟩, ⟨0x0806, .f, .h, 0x4000⟩, ⟨0x0807, .c, .a, 0⟩, ⟨0x0808, .c, .a, 0⟩,
   ⟨0x0809, .u, .n, 0x4200⟩, ⟨0x080A, .f, .h, 0x4200⟩, ⟨0x0901, .u, .h, 0xFF90⟩, ⟨0x0902, .u, .h, 0xFF91⟩,
   ⟨0x0903, .u, .h, 0xFF92⟩, ⟨0x0904, .c, .a, 0⟩, ⟨0x0905, .u, .n, 0x6300⟩, ⟨0x0906, .u, .n, 0x6300⟩,
   ⟨0x0907, .c, .a, 0⟩, ⟨0x0908, .c, .n, 0x8140⟩, ⟨0x0909, .c, .n, 0x8130⟩, ⟨0x0A01, .c, .a, 0⟩]

/-- Table 11-4. Code 0x0405 stands as class C; as class U it is an H fault with EMCY code 0x3300 (`uvFence`). -/
def faultTable : List FaultRow := faultRows0 ++ faultRows1 ++ faultRows2 ++ faultRows3

/-- Row of 0x0405 when UV_FENCE makes it class U (R225, Table 11-4). -/
def uvFence : FaultRow := ⟨0x0405, .u, .h, 0x3300⟩

/-- The row of a code; none for a reserved code. -/
def faultRow (c : U16) : Option FaultRow := faultTable.find? fun r => r.code == c

/-- EMCY code of an entry. -/
def LogEntry.emcy (e : LogEntry) : Nat :=
  if e.code = 0x0405 then (if e.ack = .h then 0x3300 else 0) else ((faultRow e.code).map FaultRow.emcy).getD 0

/-- Encoding of a class (Table 11-1). -/
def FClass.code : FClass → Nat
  | .c => 0
  | .u => 1
  | .f => 2
  | .hardStop => 3

/-- Class F and hard stop. -/
def FClass.fatal : FClass → Bool
  | .f | .hardStop => true
  | _ => false

/-- FLAGS of an entry (Table 11-5). -/
def LogEntry.flags (e : LogEntry) : Nat :=
  e.cls.code + 4 * bitsOf [e.esc, e.acked, e.ack == .a, e.fromAon, e.conseq]

/-- Encoding of a mode (Table 3-1). -/
def Mode.code : Mode → Nat
  | .ship => 0
  | .standby => 1
  | .startup => 2
  | .run => 3
  | .holdup => 4
  | .shutdown => 5
  | .safestop => 6
  | .service => 7

/-- The mode that an encoding names. -/
def modeOfCode : Nat → Mode
  | 0 => .ship
  | 1 => .standby
  | 2 => .startup
  | 3 => .run
  | 4 => .holdup
  | 5 => .shutdown
  | 6 => .safestop
  | _ => .service

/-- The 16 bytes of an entry (Table 11-5). -/
def LogEntry.bytes (e : LogEntry) : List Byte :=
  leBytes 4 e.seq.toNat ++ leBytes 4 e.stamp.toNat ++ leBytes 2 e.code.toNat ++ leBytes 2 e.unit.toNat
    ++ [BitVec.ofNat 8 e.flags, BitVec.ofNat 8 e.mode.code] ++ leBytes 2 e.detail.toNat

/-- The fault log. -/
def State.log (s : State) : List LogEntry := s.ks.sram.log

/-- The unacknowledged entries, in the order they were made. -/
def State.unacked (s : State) : List LogEntry := s.log.filter fun e => !e.acked

/-- Bits of the error register that one EMCY code sets (R313). -/
def errBits (emcy : Nat) : Nat :=
  1 ||| (if emcy / 0x1000 = 2 then 2 else 0) ||| (if emcy / 0x1000 = 3 then 4 else 0)
    ||| (if emcy / 0x1000 = 4 then 8 else 0) ||| (if emcy / 0x1000 = 8 then 16 else 0)
    ||| (if emcy / 0x100 = 0xFF then 128 else 0)

/-- The error register 0x1001 (R313). -/
def State.errReg (s : State) : Nat := s.unacked.foldl (fun a e => a ||| errBits e.emcy) 0

/-! ## EMCY queues (R312, R341) -/

/-- A message queued on one link, or discarded and counted when its 16 places are taken. Between steps 7 and 8 of Table 2-5 both
links queue; step 8 empties the queue of a link it does not enable, which queues nothing from then on. (DEDUCED, log entry 39). -/
def queueEmcy1 (s : State) (l : Link) (msg : List Byte) : State :=
  if s.can.links[linkIx l].enabled || (s.pwr.step == .released && !s.can.linksSet) then
    if s.can.links[linkIx l].emcy.length < 16 then s.modLink (linkIx l) fun k => { k with emcy := k.emcy ++ [msg] }
    else s.inc 0x2F00 0x11
  else s

/-- A message queued on every enabled link. -/
def queueEmcy (s : State) (msg : List Byte) : State := queueEmcy1 (queueEmcy1 s .a msg) .b msg

/-- EMCY contents of an entry (Table 11-6): FLAGS with ACKED 0. -/
def emcyOf (s : State) (e : LogEntry) : List Byte :=
  leBytes 2 e.emcy ++ [BitVec.ofNat 8 s.errReg] ++ leBytes 2 e.code.toNat ++ leBytes 2 e.unit.toNat
    ++ [BitVec.ofNat 8 (LogEntry.flags { e with acked := false })]

/-! ## Tally counters (R408) -/

/-- An UNSIGNED32 of the user area raised by one, stopping at its top. -/
def tallyAt (m : List Host.Cell) (a : Nat) : List Host.Cell :=
  memWriteN m a (leBytes 4 (satAdd top32 (leVal (memReadN m a 4)) 1))

/-- Tally counter `i` raised if it counts event `code`. -/
def tally1 (s : State) (code i : Nat) : State :=
  if s.reg 0x2B00 (0x14 + i) = code ∧ s.reg 0x2B00 (0x0C + i) ≠ 0xFFFF then
    { s with ks := { s.ks with sram := { s.ks.sram with user := tallyAt s.ks.sram.user (s.reg 0x2B00 (0x0C + i)) } } }
  else s

/-- Every tally counter that counts event `code` raised. -/
def tally (s : State) (code : Nat) : State := (List.range 8).foldl (fun s i => tally1 s code i) s

/-! ## Interrupt sources (R387) -/

/-- A source pends: its event reaches the tallies too. -/
def pendSrc (s : State) (n : Nat) : State :=
  if s.coreOn then
    tally { s with irq := { s.irq with
      pend := setBit s.irq.pend n
      fresh := if s.irq.pend.getLsbD n then s.irq.fresh else setBit s.irq.fresh n } } n
  else s

/-- The level source that a flag register feeds (Table 14-10). -/
def levelSource (k : Key) : Option Nat :=
  let idx := k / 256
  let sub := k % 256
  if 0x2200 ≤ idx ∧ idx < 0x2210 ∧ (sub = 0x4C ∨ sub = 0x19) then some (idx - 0x2200)
  else if 0x2100 ≤ idx ∧ idx < 0x2120 ∧ sub = 0x12 then some (16 + (idx - 0x2100) / 4)
  else if idx = 0x2500 ∧ sub = 0x1B then some 26
  else if (0x2400 ≤ idx ∧ idx < 0x2410 ∧ sub = 0x19) ∨ (idx = 0x2420 ∧ sub = 0x09) then some 27
  else if idx = 0x2300 ∧ sub = 0x08 then some 28
  else if idx = 0x2D00 ∧ (sub = 0x06 ∨ sub = 0x09) then some 29
  else if idx = 0x2300 ∧ sub = 0x0F then some 30
  else none

/-- The level sources with a flag set. -/
def levelsSet (s : State) : List Nat := s.regs.filterMap fun c => levelSource c.1

/-- Every level source with a flag set and its pending bit clear pends (R387). -/
def pendLevels (s : State) : State :=
  (levelsSet s).foldl (fun s n => if s.irq.pend.getLsbD n then s else pendSrc s n) s

/-! ## Order and delivery (R389, R390) -/

/-- PRIO of a source. -/
def State.prio (s : State) (n : Nat) : Nat := s.reg (0x2A40 + n) 1

/-- Pre-emption level of a source. -/
def State.level (s : State) (n : Nat) : Nat := s.prio n / 2 ^ (4 - s.reg 0x2A00 1)

/-- Order of a source within its level. -/
def State.order (s : State) (n : Nat) : Nat := s.prio n % 2 ^ (4 - s.reg 0x2A00 1)

/-- Rank of a source: level, then order, then number; the lowest goes first. -/
def State.rank (s : State) (n : Nat) : Nat := s.level n * 1024 + s.order n * 64 + n

/-- The best source among those in a set and in an enable mask. -/
def State.bestOf (s : State) (set : U64) (en : Nat) : Option (Fin 64) :=
  ((List.finRange 64).filter fun n => set.getLsbD n.1 && en.testBit n.1).foldl
    (fun b n => match b with
      | none => some n
      | some m => if s.rank n.1 < s.rank m.1 then some n else some m) none

/-- The best source among those pending and in an enable mask. -/
def State.best (s : State) (en : Nat) : Option (Fin 64) := s.bestOf s.irq.pend en

/-- The enable mask of a target: EN_A, EN_B or EN_S. -/
def enSub : EnMask → Nat
  | .a => 3
  | .b => 4
  | .s => 5

/-- What a target's register holds next: empty when its source is no longer pending or GDIS is set; the best source when it
is empty; a newly pending source of a strictly lower level in place of the one held. -/
def nextActive (s : State) (en gdis : Nat) (cur : Option (Fin 64)) : Option (Fin 64) :=
  if (s.reg 0x2A00 6).testBit gdis then none
  else
    match cur.filter (fun n => s.irq.pend.getLsbD n.1) with
    | none => s.best en
    | some n =>
      match s.bestOf (s.irq.pend &&& s.irq.fresh) en with
      | none => some n
      | some m => if s.level m.1 < s.level n.1 then some m else some n

/-- A notification EMCY of a latch for host A (R391). -/
def notifyA (s : State) (n : Fin 64) : State :=
  if (s.reg 0x2A00 0x0B).testBit n.1 then
    queueEmcy s ([0xA0, 0xFF, BitVec.ofNat 8 s.errReg, 0, 0] ++ leBytes 2 n.1 ++ [BitVec.ofNat 8 (s.prio n.1)])
  else s

/-- Delivery to host A. -/
def deliverA (s : State) : State :=
  match nextActive s (s.reg 0x2A00 3) 0 s.irq.activeA with
  | none => { s with irq := { s.irq with activeA := none } }
  | some n =>
    if s.irq.activeA = some n then s
    else notifyA ({ s with irq := { s.irq with activeA := some n } }.inc (0x2A40 + n.1) 5) n

/-- Delivery to host B. -/
def deliverB (s : State) : State :=
  match nextActive s (s.reg 0x2A00 4) 1 s.irq.activeB with
  | none => { s with irq := { s.irq with activeB := none } }
  | some n =>
    if s.irq.activeB = some n then s
    else { s with irq := { s.irq with activeB := some n } }.inc (0x2A40 + n.1) 5

/-! ## Edges that a command's end shows -/

/-- The engine states of R387 (source 32). -/
def State.engStates (s : State) : List EngineState := s.engines.toList.map Engine.state

/-- LINK_STAT of a link (Table 12-11). -/
def State.linkStat (s : State) (l : Link) : Nat :=
  let k := s.can.links[linkIx l]
  let named := s.reg 0x2F00 0x0B
  let mine := match l with | .a => 0 | .b => 1
  let other := s.can.links[linkIx (match l with | .a => .b | .b => .a)]
  bitsOf [k.enabled, k.passive, k.busOff, k.lowRate,
    k.enabled && !k.busOff && (named == 2 || named == mine || (named < 2 && other.busOff))]

/-- MR_STAT (Table 7-6). -/
def State.milkStat (s : State) : Nat :=
  bitsOf [s.milk.running, s.milk.firstDone, s.milk.standin.isSome, s.milk.roverFailed, s.milk.noSpare, s.milk.frozen]

/-- Edge sources whose event is a change that a whole command makes: MILK_ROUND, ENGINE and CAN. -/
def pendEdges (old s : State) : State :=
  let s1 := if s.milkStat = old.milkStat then s else pendSrc s 31
  let s2 := if s1.engStates = old.engStates then s1 else pendSrc s1 32
  if s2.linkStat .a = old.linkStat .a ∧ s2.linkStat .b = old.linkStat .b then s2 else pendSrc s2 34

/-- A register holds a source whose pending bit has been cleared. -/
def State.served (s : State) (cur : Option (Fin 64)) : Bool :=
  match cur with
  | none => false
  | some n => !s.irq.pend.getLsbD n.1

/-- The ACTIVE registers whose source was cleared give it up and latch the next at once, before a level source can pend again
(R390). -/
def dropServed (s : State) : State :=
  let s1 := if s.served s.irq.activeA then deliverA s else s
  if s1.served s1.irq.activeB then deliverB s1 else s1

/-- Delivery done: no source is newly pending any more. -/
def seen (s : State) : State := { s with irq := { s.irq with fresh := 0 } }

/-- The interrupt controller's work after a command: edges, the sources served, level sources, then delivery (each within 1 µs, R387,
R390). -/
def settleAux (old s : State) : State :=
  if s.ready then seen (deliverB (deliverA (pendLevels (dropServed (pendEdges old s))))) else s

/-- `s` after the interrupt controller has acted on what the command did. It changes the controller, the registers that count
deliveries and lost messages, the EMCY queues and the tally counters, and nothing else.
(DESIGN CHOICE, log entry 88). -/
def settle (old s : State) : State :=
  let t := settleAux old s
  { s with irq := t.irq, regs := t.regs, can := { s.can with links := t.can.links },
           ks := { s.ks with sram := { s.ks.sram with user := t.ks.sram.user } } }

/-- The outcomes of a command. -/
abbrev Out := Host.Outcome State Fault Refusal

/-- A command's next state. (DESIGN CHOICE, log entry 7; DESIGN CHOICE, log entry 15). -/
def done (old s : State) : Out := .next (settle old s)

/-! ## Flag registers -/

/-- TRIP_FLAGS bits set on a port (Table 4-12). -/
def setTrip (s : State) (n : Fin 32) (m : Nat) : State := s.orReg (portIdx n.1) 0x12 m

/-- TRIP_FLAGS of a port. -/
def State.tripFlags (s : State) (n : Fin 32) : Nat := s.reg (portIdx n.1) 0x12

/-- RAIL_FLAGS bits set on a rail (Table 6-9). -/
def setRailFlag (s : State) (r : Fin 16) (m : Nat) : State := s.orReg (railIdx r.1) 0x19 m

/-- SUP_FLAGS bits set on a rail (Table 8-7). -/
def setSupFlag (s : State) (r : Fin 16) (m : Nat) : State := s.orReg (railIdx r.1) 0x4C m

/-- One of a rail's event counters raised (Table 8-6). -/
def countRail (s : State) (r : Fin 16) (sub : Nat) : State := s.inc (railIdx r.1) sub

end Sys2Proof.Machine
end

