-- ==== Sys2Proof/Machine/Reports.lean ====
section
/-! DEFINITION. How a report is recorded: the fault log and its places, the records in slot pairs, the AON fault record.
Nothing here fences or trips. -/

namespace Sys2Proof.Machine
open Sys2Proof

/-! ## Records in slot pairs (R404, R405) -/

/-- The bytes of a record copy that its CRC covers (Table 15-3). -/
def recBytes (kind : Nat) (seq : Nat) (stamp : U32) (payload : List Byte) : List Byte :=
  leBytes 4 seq ++ [BitVec.ofNat 8 kind, 0] ++ leBytes 2 payload.length ++ leBytes 4 stamp.toNat ++ payload

/-- A copy as the device writes it. -/
def mkCopy (kind seq : Nat) (stamp : U32) (payload : List Byte) : RecCopy :=
  { seq := seq, stamp := stamp, payload := payload, crc := crc32 (recBytes kind seq stamp payload) }

/-- Whether a copy's CRC is good. -/
def RecCopy.good (kind : Nat) (c : RecCopy) : Bool := c.crc == crc32 (recBytes kind c.seq c.stamp c.payload)

/-- The copy in use. -/
def RecPair.used (p : RecPair) : Option RecCopy :=
  match p.inUse with
  | none => none
  | some false => p.a
  | some true => p.b

/-- The number after `n`, 1 after 0xFFFF FFFF. -/
def seqAfter (n : Nat) : Nat := if n + 1 < 2 ^ 32 then n + 1 else 1

/-- The lowest number above `n` whose parity is that of slot B (odd) or slot A (even). -/
def seqFor (n : Nat) (slotB : Bool) : Nat :=
  if (seqAfter n % 2 == 1) == slotB then seqAfter n else seqAfter (seqAfter n)

/-- The pair after a write (R405): into the slot that does not hold the copy in use; SEQ 1 in slot B when none is in use. -/
def RecPair.write (p : RecPair) (kind : Nat) (stamp : U32) (payload : List Byte) : RecPair :=
  match p.inUse, p.used with
  | some false, some c => { p with b := some (mkCopy kind (seqFor c.seq true) stamp payload), inUse := some true }
  | some true, some c => { p with a := some (mkCopy kind (seqFor c.seq false) stamp payload), inUse := some false }
  | _, _ => { p with b := some (mkCopy kind 1 stamp payload), inUse := some true }

/-- Place of a kind, 1–6, in the records. -/
def kindIx (kind : Nat) : Fin 6 := ⟨(kind - 1) % 6, Nat.mod_lt _ (by decide)⟩

/-- The pair of a kind. -/
def State.recPair (s : State) (kind : Nat) : RecPair := s.ks.sram.recs[kindIx kind]

/-- A pair replaced. -/
def State.setPair (s : State) (kind : Nat) (p : RecPair) : State :=
  { s with ks := { s.ks with sram := { s.ks.sram with recs := s.ks.sram.recs.set (kindIx kind).1 p (kindIx kind).2 } } }

/-- A record of a kind written. -/
def State.writeRec (s : State) (kind : Nat) (payload : List Byte) : State :=
  s.setPair kind ((s.recPair kind).write kind s.now payload)

/-- The payload of the copy in use of a kind. -/
def State.recPayload (s : State) (kind : Nat) : Option (List Byte) := (s.recPair kind).used.map RecCopy.payload

/-! ## The fault log (R309, R310) -/

/-- Entries that the log holds. -/
def logSize : Nat := 256

/-- The number of the next entry: it skips 0. -/
def nextSeq (q : U32) : U32 := if q + 1 = 0 then 1 else q + 1

/-- The entry that a new one of class `cls` overwrites in a full log: the oldest acknowledged one, else for a fatal class the
oldest of class C or U. (DEDUCED, log entry 46). -/
def victim (log : List LogEntry) (cls : FClass) : Option LogEntry :=
  match log.find? (·.acked) with
  | some e => some e
  | none => if cls.fatal then log.find? fun e => !e.cls.fatal else none

/-- Whether the log has a place for an entry of a class. -/
def hasPlace (log : List LogEntry) (cls : FClass) : Bool := decide (log.length < logSize) || (victim log cls).isSome

/-- The lowest place that no entry stands in. -/
def freePlace (log : List LogEntry) : Nat :=
  ((List.range logSize).find? fun p => !log.any fun e => e.pos == p).getD 0

/-- The log with an entry put at its place; the list runs from the oldest entry to the newest. -/
def placeEntry (log : List LogEntry) (e : LogEntry) : List LogEntry :=
  if log.length < logSize then log ++ [{ e with pos := freePlace log }]
  else match victim log e.cls with
    | some v => (log.filter fun x => x.pos != v.pos) ++ [{ e with pos := v.pos }]
    | none => log

/-- Whether placing an entry loses one unacknowledged (R310). -/
def placeLoses (log : List LogEntry) (e : LogEntry) : Bool :=
  if log.length < logSize then false
  else match victim log e.cls with
    | some v => !v.acked
    | none => true

/-- The log replaced. -/
def State.setLog (s : State) (l : List LogEntry) : State :=
  { s with ks := { s.ks with sram := { s.ks.sram with log := l } } }

/-- Payload of the head record: NEWEST_SEQ and the position of the newest entry (Table 15-2). -/
def headPayload (s : State) : List Byte :=
  leBytes 4 s.seq.toNat ++ leBytes 4 (((s.log.getLast?).map LogEntry.pos).getD 0)

/-- An entry recorded: numbered, placed, its head record written, what it displaces counted, its EMCY queued if it is
an H or N entry, and source FAULT pended once it stands in the log (R297, R309, R310, R312, R387). An entry without a place takes no
number. -/
def addEntry (s : State) (e : LogEntry) : State :=
  let e1 := { e with seq := nextSeq s.seq, acked := e.ack == .a }
  let s1 := if placeLoses s.log e1 then s.inc 0x2700 0x0F else s
  let s2 := if hasPlace s.log e1.cls then
      let t := { s1 with seq := e1.seq }.setLog (placeEntry s.log e1)
      t.writeRec 3 (headPayload t)
    else s1
  if e.ack = .a then s2
  else
    let s3 := queueEmcy s2 (emcyOf s2 e1)
    if hasPlace s.log e1.cls then pendSrc s3 25 else s3

/-- A plain entry of the present moment. -/
def mkEntry (s : State) (code unit : U16) (cls : FClass) (ack : AckKind) (detail : U16) : LogEntry :=
  { seq := 0, stamp := s.now, code := code, unit := unit, cls := cls, ack := ack, esc := false, acked := false,
    fromAon := false, conseq := false, mode := s.md.mode, detail := detail, pos := 0, quiet := !s.vsysOk, held := false }

/-- A report recorded with no reaction and no escalation: A entries and what only informs. -/
def logOnly (s : State) (code unit detail : U16) : State :=
  match faultRow code with
  | none => s
  | some row => if s.live then addEntry s (mkEntry s code unit row.cls row.ack detail) else s

/-- A consequent report (R304): DETAIL carries the low 16 bits of its cause's number. -/
def logConsequent (s : State) (code unit : U16) (cause : U32) : State :=
  match faultRow code with
  | none => s
  | some row =>
    if s.live then
      addEntry s { mkEntry s code unit row.cls row.ack (cause.setWidth 16) with conseq := true }
    else s

/-! ## The AON fault record (R311) -/

/-- A class F or hard-stop report noted in the AON record: first since the latch last cleared, most recent, and the count of
trips. (DEDUCED, log entry 48). -/
def aonNote (s : State) (code unit : U16) (stamp : U32) : State :=
  let a := s.aon
  let a1 := { a with lastCode := code, lastUnit := unit, lastStamp := stamp, trips := satAdd 0xFFFF a.trips 1 }
  { s with aon := if a.open_ then a1
                  else { a1 with firstCode := code, firstUnit := unit, firstStamp := stamp, open_ := true } }

/-- A report that the AON island records itself, because the core domain is off or its clock is absent; it enters the log
later. -/
def aonReport (s : State) (code unit : U16) : State :=
  let s1 := aonNote s code unit s.now
  { s1 with aon := { s1.aon with
      waiting := s1.aon.waiting ++ [{ code := code, unit := unit, stamp := s.now, mode := s.md.mode }] } }

/-- The AON record holds a report: as its first or as its most recent one. -/
def inRecord (a : AonRecord) (w : AonReport) : Bool :=
  (w.code == a.firstCode && w.unit == a.firstUnit && w.stamp == a.firstStamp)
    || (w.code == a.lastCode && w.unit == a.lastUnit && w.stamp == a.lastStamp)

/-- Every report that the AON record holds and the log does not is entered, with FROM_AON, its stamp and its mode, and the class its
source gives; neither escalated nor escalating as it is entered (R311). -/
def enterAon (s : State) : State :=
  let s1 := (s.aon.waiting.filter (inRecord s.aon)).eraseDups.foldl (fun s (w : AonReport) =>
    match faultRow w.code with
    | none => s
    | some row => addEntry s { mkEntry s w.code w.unit row.cls row.ack 0 with
        stamp := w.stamp, fromAon := true, mode := w.mode }) s
  { s1 with aon := { s1.aon with waiting := [] } }

/-! ## Unit codes (Table 11-2) -/

/-- A unit code. -/
def unitCode (kind idx : Nat) : U16 := BitVec.ofNat 16 (kind * 256 + idx)

/-- Kind of a unit code. -/
def unitKind (u : U16) : Nat := u.toNat / 256

/-- Index of a unit code. -/
def unitIndex (u : U16) : Nat := u.toNat % 256

end Sys2Proof.Machine
end

