-- ==== Sys2Proof/Machine/Units.lean ====
section
/-! DEFINITION. How ports and rails change state, whatever the cause: leaving the power-good states, starting, stopping,
holding. Every family goes through these. -/

namespace Sys2Proof.Machine
open Sys2Proof

/-! ## Rail states (Table 6-1) -/

/-- The state a LSW, COIL or FAN rail reads, from its port's (R160). -/
def railOfPortState : PortState → RailState
  | .precharge | .ramp | .pullIn => .softStart
  | .on | .hold | .switching => .regulating
  | .discharge | .release => .rampDown
  | .tripped => .tripped
  | .held => .held
  | .fenced => .fenced
  | .off | .ready => .off

/-- The state a rail reads in 0x2200+r.04. -/
def State.railState (s : State) (r : Fin 16) : RailState :=
  if s.rails[r].state = .fenced then .fenced
  else if isConverter (s.railPers r) then s.rails[r].state
  else match s.phases r with
    | [] => s.rails[r].state
    | n :: _ => railOfPortState s.ports[n].state

/-- The states in which power-good is judged (R226). -/
def RailState.pgState : RailState → Bool
  | .softStart | .regulating | .slewing => true
  | _ => false

/-- The states whose loss of power-good counts (R226). -/
def RailState.lossState : RailState → Bool
  | .regulating | .slewing => true
  | _ => false

/-- A state of a converter rail in which its phases run. -/
def RailState.runs : RailState → Bool
  | .prebias | .softStart | .regulating | .slewing | .rampDown => true
  | _ => false

/-- Power-good withdrawn; a loss counts, sets PG_LOST and is reported as 0x0406, in a crystal-loss gap when the collector's clock runs
again (R54). (DEDUCED, log entry 55). -/
def withdrawPg (s : State) (r : Fin 16) (loss : Bool) : State :=
  let s1 := s.modRail r fun x => { x with pg := false, pgRun := 0, pgOff := 0 }
  if loss then
    let s2 := setSupFlag (countRail s1 r 0x56) r 0x10
    if s2.live || !s2.coreOn then logOnly s2 0x0406 (unitCode 3 r.1) 0 else s2.owe 0x0406 (unitCode 3 r.1)
  else s1

/-- What a change of a rail's state does to its supervisor (R224–R226): power-good outside its states, the live warning bits, the OV filters
and report, which do not act in OFF and FENCED, the UV filters, the UV report re-armed at each start, the hiccup wait left, a COIL or FAN
rail power-good in HOLD or SWITCHING (R228). `off` says that ENABLE = 0 caused it. -/
def railChanged (s : State) (r : Fin 16) (old : RailState) (off : Bool) : State :=
  let new := s.railState r
  if new = old then s
  else
    let s1 := if s.rails[r].pg && !new.pgState then withdrawPg s r (old.lossState && !off) else s
    s1.modRail r fun x =>
      { x with
        ovWarn := x.ovWarn && new != .off && new != .fenced
        uvWarn := x.uvWarn && new == .regulating
        uvRun := if new = .regulating then 0 else x.uvRun
        uvwRun := if new = .regulating then 0 else x.uvwRun
        uvwOff := if new = .regulating then 0 else x.uvwOff
        uvClr := if new = .regulating then 0 else x.uvClr
        uvSaid := x.uvSaid && new != .prebias && (isConverter (s.railPers r) || (new != .softStart
          && !(new == .regulating && (old == .off || old == .tripped || old == .held))))
        ovRun := if new = .off ∨ new = .fenced then 0 else x.ovRun
        ovwRun := if new = .off ∨ new = .fenced then 0 else x.ovwRun
        ovwOff := if new = .off ∨ new = .fenced then 0 else x.ovwOff
        ovSaid := x.ovSaid && new != .off && new != .fenced
        pgRun := if new.pgState then x.pgRun else 0
        pgOff := if new.pgState then x.pgOff else 0
        hicWait := x.hicWait && new == .tripped
        pg := x.pg || (new == .regulating && (s.railPers r == 5 || s.railPers r == 6)) }

/-- A converter rail taken to a state. -/
def toRail (s : State) (r : Fin 16) (st : RailState) (off : Bool) : State :=
  railChanged (s.modRail r fun x => { x with state := st }) r (s.railState r) off

/-! ## Port states (Table 4-5) -/

/-- A port at the start of a run: in PRECHARGE, or for a FAN port in SWITCHING (R120), with nothing carried over from the run
before but the region of a BB4 pair. Its command is 0 until its first release. (DESIGN CHOICE, log entries 112 and 130). -/
def Port.begin (p : Port) (pers : Nat) : Port :=
  { p with state := if pers = 6 then .switching else .precharge, count := 0, nudge := 0, hold := 0, wrapped := false, ending := none,
           onAt := 0, onDue := false, lim := none, ghNew := false, glAt := 0, lowTime := 0, pulsed := false, gh := false, gl := false, fired := [], blanked := false, crossed := false,
           newCmd := none, cmd := 0, dac := 0, ramp := 0, limPend := false, filt := false, skip := false, limitNow := false,
           refresh := 0, refreshNow := false, bstLow := false, gateCmd := 0, capped := false, rampRef := 0, bstRun := 0,
           backRun := 0, backNow := false, shortRun := 0, shortNow := false, backArm := none, rectOff := false, share := 0,
           shareSh := 0, satRun := 0, regRun := 0, pulled := false, sum := 0, num := 0, pSum := 0, pNum := 0, pMin := 0,
           pMax := 0 }

/-- A port with both gates low in a state. -/
def Port.still (p : Port) (st : PortState) : Port :=
  { p with state := st, ending := none, onDue := false, gh := false, gl := false, backArm := none, pulled := false, limPend := false }

/-- A port on its way to a state with both gates low: a port in SWITCHING takes it at its next period start (Table 4-6, R160), any
other at once. -/
def Port.stopTo (p : Port) (st : PortState) : Port :=
  if p.state = .switching then { p with ending := some st } else p.still st

/-- What holds a port off (R111, R44): the latch, ESTOP, the crystal-loss gap, a mode that holds its gates low, SERVICE for
every port but SVC_PORT's, a driver supply not yet ready. (DEDUCED, log entry 56). -/
def State.holds (s : State) (n : Fin 32) : Bool :=
  s.latch.set || s.latch.estop || s.pwr.gated || !s.isOpen || !s.pwr.vdrv.getLsbD (n.1 / 4) ||
    match s.md.mode with
    | .startup | .run | .holdup | .shutdown => false
    | .service => !(s.reg 0x2000 0x0D == n.1 || (s.pers n.1 == 3 && s.reg 0x2000 0x0D == s.pairLead n.1))
    | .ship | .standby | .safestop => true

/-- ENABLE in force on a rail. -/
def State.enabled (s : State) (r : Fin 16) : Bool := s.act (railIdx r.1) 3 == 1

/-- A port started with its rail, unless it is fenced, shed or held; the period in which it was turned off ends first. -/
def startPort (s : State) (r : Fin 16) (n : Fin 32) : State :=
  if s.ports[n].state = .fenced ∨ s.holds n = true ∨ s.rails[r].shed.getLsbD n.1 = true then s
  else s.modPort n fun p => if p.ending.isSome then { p with ending := some .precharge } else p.begin (s.pers n.1)

/-- A rail put in PREBIAS, or its port on its way up (Tables 4-6, 4-8, 4-9, 6-2). Skimming starts with every phase that is
not fenced (R173). -/
def startRail (s : State) (r : Fin 16) : State :=
  let old := s.railState r
  let s1 := s.modRail r fun x =>
    { x with state := .prebias, heldOn := false, shed := 0, addDue := false, sum := 0, num := 0, pSum := 0, pNum := 0, seeded := false, ssDone := false, eHist := (0, 0),
             yHist := (0, 0), shHist := ((0, 0), (0, 0)), trunc := false, truncPer := false, dwell := 0, hicWait := false,
             failAt := none }
  railChanged ((s1.members r).foldl (fun s n => startPort s r n) s1) r old false

/-- A port that is cut off goes to READY, both gates low at once; a fenced, held or OFF port stays so. -/
def readyPort (s : State) (n : Fin 32) : State :=
  match s.ports[n].state with
  | .off | .fenced | .held => s
  | _ => s.modPort n fun p => p.still .ready

/-- A port that its rail turns off: READY at its next period start (R112, R160). -/
def endPort (st : PortState) (s : State) (n : Fin 32) : State :=
  match s.ports[n].state with
  | .off | .fenced | .held => s
  | _ => s.modPort n fun p => p.stopTo st

/-- A rail gone OFF: each member to READY at its next period start; an ENABLE = 1 that waited for the ramp starts it again (R160,
R162). (DEDUCED, log entry 57). -/
def railOff (s : State) (r : Fin 16) : State :=
  let old := s.railState r
  let s1 := (s.members r).foldl (endPort .ready) s
  let s2 := railChanged (s1.modRail r fun x => { x with state := .off, shed := 0, trunc := false }) r old true
  if s2.rails[r].heldOn then startRail s2 r else s2

/-- What ENABLE = 0 does to the single port of a LSW, COIL or FAN rail (Tables 4-8, 4-9).
(DEDUCED, log entry 63). -/
def releasePort (s : State) (n : Fin 32) (forced : Bool) : State :=
  match s.ports[n].state with
  | .off | .fenced | .held => s
  | .ramp | .on =>
    if s.act (portIdx n.1) 0x25 % 2 = 1 ∧ forced = false then s.modPort n fun p => { p with state := .discharge, gh := false, gl := true }
    else s.modPort n fun p => p.still .ready
  | .pullIn | .hold => s.modPort n fun p => p.still .release
  | .discharge | .release => if forced then s.modPort n fun p => p.still .ready else s
  | _ => s.modPort n fun p => p.still .ready

/-- ENABLE = 0 reaching a rail (Table 6-2): HIC_COUNT returns to 0, a held ENABLE = 1 is cancelled, and the rail ramps down or
goes OFF. A forced turn-off ignores OFF_RAMP. -/
def stopRail (s : State) (r : Fin 16) (forced : Bool) : State :=
  let old := s.railState r
  let s1 := s.modRail r fun x => { x with hicCount := 0, hicWait := false, heldOn := false }
  if !isConverter (s1.railPers r) then
    railChanged ((s1.phases r).foldl (fun s n => releasePort s n forced) (s1.modRail r fun x =>
      { x with state := if x.state = .fenced then .fenced else .off })) r old true
  else
    match s1.rails[r].state with
    | .off | .held | .fenced => s1
    | .prebias | .tripped => railOff s1 r
    | .rampDown => if forced then railOff s1 r else s1
    | .softStart => if forced then railOff s1 r else toRail s1 r .rampDown true
    | .regulating | .slewing =>
      if !forced && s1.act (railIdx r.1) 0x1B == 1 && s1.railPers r != 2 then toRail s1 r .rampDown true
      else railOff s1 r

/-- ENABLE = 1 reaching a rail: OFF starts, RAMP_DOWN holds it (R162); every other state keeps its course. -/
def enableRail (s : State) (r : Fin 16) : State :=
  match s.railState r with
  | .off => if s.phases r = [] then s else startRail s r
  | .rampDown => s.modRail r fun x => { x with heldOn := true }
  | _ => s

/-- An accepted write of a subindex, not yet transferred, that a later write of the device itself takes the place of (R321). -/
def supersede (s : State) (idx sub : Nat) : State :=
  { s with cmt := { s.cmt with out := (s.cmt.out.map fun o => { o with vals := o.vals.filter fun v => v.1 != key idx sub }).filter fun o => o.vals != [] || o.acts != [] } }

/-- ENABLE written by the device itself in all three copies (R161). -/
def writeEnable (s : State) (r : Fin 16) (v : Nat) : State := (supersede s (railIdx r.1) 3).setAll (railIdx r.1) 3 v

/-- ENABLE written 0 by the device in all three copies, and acted on (R161). -/
def devDisable (s : State) (r : Fin 16) (forced : Bool) : State := stopRail (writeEnable s r 0) r forced

/-- ENABLE of every rail cleared at a mode entry, with the rails' own course left to the holds that follow (R161). The rails are
disabled, so their power-good is withdrawn without a loss (R226). (DEDUCED, log entry 55). -/
def clearEnables (s : State) : State :=
  s.railList.foldl (fun s r => (withdrawPg (writeEnable s r 0) r false).modRail r fun x =>
    { x with hicCount := 0, hicWait := false, heldOn := false }) s

/-! ## Holds (R111) -/

/-- A port held or released as its hold causes stand. A released port leaves HELD as it would leave READY. -/
def holdPort (s : State) (n : Fin 32) : State :=
  match s.ports[n].state with
  | .off | .fenced => s
  | .held =>
    if s.holds n then s
    else match s.railOf n with
      | none => s.modPort n fun p => p.still .ready
      | some r =>
        if s.enabled r && !(isConverter (s.railPers r) && s.rails[r].state == .tripped) && s.rails[r].state != .fenced then
          s.modPort n fun p => p.begin (s.pers n.1)
        else s.modPort n fun p => p.still .ready
  | _ => if s.holds n then s.modPort n fun p => p.still .held else s

/-- A rail as its members' holds leave it: HELD when every one that is not fenced is held; PREBIAS or OFF when the hold ends
(Table 6-2). -/
def holdRail (s : State) (r : Fin 16) (old : RailState) : State :=
  if s.phases r = [] ∨ s.rails[r].state = .fenced then s
  else if (s.livePhases r).all fun n => s.ports[n].state == .held then
    railChanged (s.modRail r fun x => { x with state := .held }) r old false
  else if s.rails[r].state = .held then
    if s.enabled r then startRail (s.modRail r fun x => { x with state := .off }) r
    else railChanged (s.modRail r fun x => { x with state := .off }) r old false
  else railChanged s r old false

/-- Every port and rail held or released as the hold causes stand; a phase that so joins a running rail, or leaves it, changes N_active
(R158, R173). -/
def applyHolds (s : State) : State :=
  let olds := s.railList.map fun r => (r, s.railState r)
  let s1 := s.portList.foldl holdPort s
  olds.foldl (fun t x =>
    let u := holdRail t x.1 x.2
    if u.rails[x.1].state.runs && (u.actives x.1).length != (s.actives x.1).length then restartDwell u x.1 else u) s1

/-- A port's both gates low, and the port fenced. -/
def Port.fence (p : Port) : Port := { p.still .fenced with newCmd := none, fired := [] }

end Sys2Proof.Machine
end

