-- ==== Sys2Proof/Machine/KeepOps.lean ====
section
/-! DEFINITION. Stores of the keep store (R402, R403): what a request does, the three phases, a skip, and the records of
phase 1. -/

namespace Sys2Proof.Machine
open Sys2Proof

/-- Integer part of an account with 24 fraction bits. -/
def whole (x : Int) : Int := x / 2 ^ 24

/-- Payload of the energy-ledger record: CHARGE and ENERGY of ports 0–31, absent ports 0 (Table 15-2). -/
def ledgerPayload (s : State) : List Byte :=
  (List.finRange 32).flatMap fun n =>
    if n.1 < s.variant.ports then
      leBytes 8 (unsignedOf 64 (whole s.ledger[n].charge)) ++ leBytes 8 (unsignedOf 64 (whole s.ledger[n].energy))
    else leBytes 16 0

/-- Payload of the event-counter record: 0x2200+r.52–0x59 of rails 0–15. -/
def counterPayload (s : State) : List Byte :=
  (List.range 16).flatMap fun r => (List.range 8).flatMap fun j => leBytes 4 (s.reg (railIdx r) (0x52 + j))

/-- Payload of the AON fault-record copy: 0x2700.10–0x2700.16 in order. -/
def aonPayload (s : State) : List Byte :=
  leBytes 2 s.aon.trips ++ leBytes 2 s.aon.firstCode.toNat ++ leBytes 2 s.aon.firstUnit.toNat
    ++ leBytes 4 s.aon.firstStamp.toNat ++ leBytes 2 s.aon.lastCode.toNat ++ leBytes 2 s.aon.lastUnit.toNat
    ++ leBytes 4 s.aon.lastStamp.toNat

/-- Whether a cause finds no patience when VSTORE is low (R403). -/
def StoreCause.atOnce : StoreCause → Bool
  | .powerFail | .regFail | .standby | .ship => true
  | _ => false

/-- An autostore (STORE_STAT.LAST_AUTO). -/
def StoreCause.isAuto : StoreCause → Bool
  | .powerFail | .regFail => true
  | _ => false

/-- Phase 1: the ledger, event-counter and AON-copy records while the core domain is on; with it off the AON copy alone, in an autostore
(R402, Table 15-2). -/
def storePhase1 (s : State) (auto : Bool) : State :=
  if s.coreOn then
    let s1 := s.writeRec 1 (ledgerPayload s)
    let s2 := s1.writeRec 2 (counterPayload s1)
    s2.writeRec 5 (aonPayload s2)
  else if auto then s.writeRec 5 (aonPayload s)
  else s

/-- A store started: phase 1, the snapshot of the whole array in one clock, and phase 3 begun with the charging source off. Every
request made so far is served by it. -/
def startStore (s : State) (c : StoreCause) : State :=
  let c1 := ((c :: s.ks.queued).find? StoreCause.isAuto).getD c
  let s1 := storePhase1 s c1.isAuto
  { s1 with ks := { s1.ks with running := some (c1, s1.ks.sram), waiting := none, queued := [], keyRun := s1.ks.keyWaits.length },
            pwr := { s1.pwr with vstoreChg := false },
            aon := { s1.aon with shipStore := if c = .ship ∨ s.ks.queued.contains .ship then some true else s1.aon.shipStore } }

/-- A pair whose last write is taken back: the slot written, which is not the one in use before, is emptied. -/
def RecPair.unwrite (p : RecPair) : RecPair := if p.inUse = some true then { p with a := none } else { p with b := none }

/-- A commit undone: the slot it wrote is emptied, the earlier image stays in use, and the command failed (R411). -/
def undoConfig (s : State) : State :=
  match s.ks.cfgOld with
  | none => s
  | some p =>
    let t := s.setPair 4 p.unwrite
    ({ t with ks := { t.ks with cfgOld := none, cfgStat := 5 } }).setReg 0x2B00 0x28 0x08000020

/-- LAST_RESULT and LAST_ABORT of a context, from a transaction that carried data: a mailbox command that still waits is then no longer
the last one (R362). -/
def setResult (s : State) (c : Fin 8) (r code : Nat) : State :=
  s.modCtx c fun x => { x with result := r, abort := code, owns := false }

/-- A mailbox with bytes of the device's own laid from an offset up. -/
def mbSet (m : Vector Byte 256) (o : Nat) : List Byte → Vector Byte 256
  | [] => m
  | b :: t => mbSet (m.setIfInBounds o b) (o + 1) t

/-- A mailbox command ended: MB_STAT reads 2 or 3, which pends source TWO_WIRE (Table 14-10). -/
def showMailbox (s : State) (c : Fin 8) (code : Nat) : State :=
  pendSrc (s.modCtx c fun x =>
    { x with run := none, busy := false, mbox := mbSet ((x.mbox.set 3 0).set 5 (if code = 0 then 2 else 3)) 8 (leBytes 4 code) }) 38

/-- A mailbox command that ran at once ended, with its result. -/
def endMailbox (s : State) (c : Fin 8) (code : Nat) : State := setResult (showMailbox s c code) c (if code = 0 then 1 else 2) code

/-- A mailbox command that waited ended: LAST_RESULT and LAST_ABORT are its own only where it is still the last transaction that carried
data (R362). -/
def endWaiting (s : State) (c : Fin 8) (code : Nat) : State :=
  if s.tw.ctx[c].owns then endMailbox s c code else showMailbox s c code

/-- The end of a write whose answer waited: a context's stood in its mailbox (R361). -/
def endOwed (s : State) (p : HostPath) (fence : Bool) (code : Nat) : State :=
  let t := answerOwed s p fence code
  match p with
  | .tw c => endWaiting t c code
  | _ => t

/-- The key changes `ws` answered. -/
def answerKeys (s : State) (ws : List KeyWait) (code : Nat) : State :=
  ws.foldl (fun t w => match w.path with
    | none => t
    | some p => endOwed t p false code) s

/-- The key changes that no running store serves undone, and their writes refused (R417). -/
def undoKey (s : State) : State :=
  match s.ks.keyWaits.drop s.ks.keyRun with
  | [] => s
  | w :: ws =>
    let t := s.setPair 6 w.old
    answerKeys { t with ks := { t.ks with keyWaits := t.ks.keyWaits.take t.ks.keyRun } } (w :: ws) 0x08000020

/-- What the loss of some store requests undoes. -/
def undoLost (s : State) (cs : List StoreCause) : State :=
  let s1 := if cs.contains .config then undoConfig s else s
  if cs.contains .key_ then undoKey s1 else s1

/-- A store asked for by some causes skipped: fault 0x0907, LAST_SKIPPED, SKIP_CNT, source KEEP (R403). Without the collector's clock the
report waits for it. (DEDUCED, log entry 43). -/
def skipStore (s : State) (cs : List StoreCause) : State :=
  let s1 := undoLost { s with
    ks := { s.ks with skipped := true, auto := cs.any StoreCause.isAuto }
    aon := { s.aon with shipStore := if cs.contains .ship then some false else s.aon.shipStore } } cs
  let s2 := s1.inc 0x2B00 9
  pendSrc (if s2.live then logOnly s2 0x0907 (unitCode 0x0B 0) 0 else s2.owe 0x0907 (unitCode 0x0B 0)) 36

/-- A store asked for (R403): queued behind a running one, which for a power fail counts as the store asked for and drops the
queue; started when VSTORE is good; else skipped at once or made to wait. -/
def requestStore (s : State) (c : StoreCause) : State :=
  match s.ks.running with
  | some (_, snap) =>
    if c = .powerFail then
      undoLost { s with ks := { s.ks with queued := [], running := some (.powerFail, snap) } } s.ks.queued
    else { s with ks := { s.ks with queued := s.ks.queued ++ [c] } }
  | none =>
    if s.pwr.vstoreOk then startStore s c
    else if c.atOnce then skipStore s [c]
    else if s.ks.waiting.isSome || s.ks.queued != [] then { s with ks := { s.ks with queued := s.ks.queued ++ [c] } }
    else { s with ks := { s.ks with waiting := some c } }

/-- What the end of a store completes: a commit and a key change asked for before it started. -/
def finishWaiting (s : State) : State :=
  let s1 := if s.ks.queued.contains .config || s.ks.cfgOld.isNone then s
    else { s with ks := { s.ks with cfgOld := none, cfgStat := if s.ks.cfgStat = 3 then 4 else s.ks.cfgStat } }
  answerKeys { s1 with ks := { s1.ks with keyWaits := s1.ks.keyWaits.drop s1.ks.keyRun, keyRun := 0 } }
    (s1.ks.keyWaits.take s1.ks.keyRun) 0

/-- The end of phase 3: the snapshot stands in the shadow; a queued store that finds VSTORE low is skipped if its cause allows no wait
(R74, R403). (DESIGN CHOICE, log entry 42). -/
def endStore (s : State) : State :=
  match s.ks.running with
  | none => s
  | some (c, snap) =>
    let (ok, s0) := s.drawNat 1
    let s1 := { s0 with
      ks := { s0.ks with shadow := snap, running := none, skipped := false, auto := c.isAuto },
      pwr := { s0.pwr with vstoreChg := true, vstoreOk := ok == 1 } }
    let s2 := finishWaiting ((s1.inc 0x2B00 8).setReg 0x2B00 0x0A s1.now.toNat)
    let s3 := pendSrc s2 36
    let now := s3.ks.queued.filter StoreCause.atOnce
    if s3.pwr.vstoreOk || now.isEmpty then s3
    else skipStore { s3 with ks := { s3.ks with queued := s3.ks.queued.filter fun x => !x.atOnce } } now

/-- Whether any of some causes is pending in the queue, waiting or running. -/
def State.storePending (s : State) (c : StoreCause) : Bool := s.ks.queued.contains c || s.ks.waiting == some c

end Sys2Proof.Machine
end

