-- ==== Sys2Proof/Machine/ChargerOps.lean ====
section
/-! DEFINITION. When the charger may charge, and what follows from a change of that (R255–R261). Voltages that no command
carries are free values (log entry 1). -/

namespace Sys2Proof.Machine
open Sys2Proof

/-- The charger's states that switch (Table 9-4). -/
def ChgState.switching : ChgState → Bool
  | .precharge | .fastCC | .fastCV | .done | .noBatt => true
  | _ => false

/-- The states in which a search may run (R256). -/
def ChgState.searches : ChgState → Bool
  | .precharge | .fastCC | .fastCV | .done => true
  | _ => false

/-- The charging phases of a cycle. -/
def ChgState.phase : ChgState → Bool
  | .precharge | .fastCC | .fastCV => true
  | _ => false

/-- Charging is allowed (R259). -/
def State.chgAllowed (s : State) : Bool :=
  (s.reg 0x2500 1).testBit 0 && s.pwr.vin && !s.chg.vinLow &&
    match s.md.mode with
    | .startup | .run | .shutdown => true
    | _ => false

/-- A charger setting in force. -/
def State.chgSet (s : State) (sub : Nat) : Nat := s.act 0x2500 sub

/-- A per-cell voltage in force times CELLS, in mV. -/
def State.packMv (s : State) (sub : Nat) : Nat := s.chgSet sub * s.chgSet 3

/-- The voltage target at VSYS, in mV: V_FLOAT in DONE and NO_BATT, V_CHG in every other state, lowered by WARM_DV per cell in WARM
(R255, R259). -/
def State.chgTarget (s : State) : Nat :=
  let v := s.packMv (match s.chg.state with | .done | .noBatt => 6 | _ => 5)
  if s.chg.zone = 3 then v - s.packMv 0x14 else v

/-- The current target, in mA (Table 9-4, R261); its roundings are floors (DESIGN CHOICE, log entry 109). -/
def State.chgCurrent (s : State) : Nat :=
  match s.chg.state with
  | .precharge => s.chgSet 0x0A
  | .fastCC | .fastCV =>
    let i := if s.chg.zone = 1 then s.chgSet 9 * s.chgSet 0x13 / 100 else s.chgSet 9
    if s.thm.die125 then i / 2 else i
  | .done | .noBatt => s.chgSet 9
  | _ => 0

/-- The level of VIN_LOW, in mV: 1.1 times the voltage target, so that VIN lies below it when VIN × 10 < target × 11 (R255). -/
def State.vinLowLevel (s : State) : Nat := (s.chgTarget * 11 + 9) / 10

/-- A voltage or current that an event bounds and no command carries: a free value from `lo` to `hi` (log entry 1). -/
def State.drawIn (s : State) (lo hi : Nat) : Nat × State := (lo + (s.drawNat 16).1 % (hi + 1 - lo), (s.drawNat 16).2)

/-- VSYS as an event bounds it, from `lo` to `hi`, or to full scale. -/
def vbatIn (s : State) (lo hi : Nat) : State :=
  let (v, s1) := s.drawIn lo (max lo hi)
  { s1 with chg := { s1.chg with vbat := v } }

/-- VIN as an event bounds it. -/
def vinIn (s : State) (lo hi : Nat) : State :=
  let (v, s1) := s.drawIn lo (max lo hi)
  { s1 with chg := { s1.chg with vinMv := v } }

/-- VSYS as the charger's own converter reads it: a free value (log entry 1). -/
def readVbat (s : State) : State :=
  let (v, s1) := s.drawNat 16
  { s1 with chg := { s1.chg with vbat := v } }

/-- A full search asked for (R256): it starts now in a charging state, restarting one that runs, else at the next entry.
(DEDUCED, log entry 77). -/
def askSearch (s : State) : State :=
  if (s.reg 0x2500 1).testBit 1 && s.chg.state.searches then
    { s with chg := { s.chg with searching := true, periodic := false, refTaken := false, iinLim := 100, asked := false,
                                 periodicDue := false } }
  else { s with chg := { s.chg with asked := true, searching := false } }

/-- A full search that was asked for while none could start, started in a charging state (R256). -/
def searchOwed (s : State) : State :=
  if s.chg.asked && (s.reg 0x2500 1).testBit 1 && s.chg.state.searches then askSearch s else s

/-- A periodic search due (R256). -/
def askPeriodic (s : State) : State :=
  if (s.reg 0x2500 1).testBit 1 && s.chg.state.searches && !s.chg.searching then
    { s with chg := { s.chg with searching := true, periodic := true, refTaken := false, iinLim := 100,
                                 periodicDue := false } }
  else { s with chg := { s.chg with periodicDue := true } }

/-- The charger in a state. OFF forgets the phase to resume. Leaving the search states abandons a search (R258); entering one starts what is
due: a full search at the first entry to PRECHARGE, FAST_CC or FAST_CV after a core power-up (DEDUCED, log entry 77) or when one was asked
for, else a periodic one that fell due. -/
def toChg (s : State) (st : ChgState) : State :=
  let s1 := { s with chg := { s.chg with
    state := st
    heldPhase := if st = .off then .wait else s.chg.heldPhase
    tCv := if st = .fastCV ∧ s.chg.state = .fastCC then 0 else s.chg.tCv
    searching := s.chg.searching && st.searches
    cycle := s.chg.cycle && st != .done && st != .fault && st != .off && st != .noBatt } }
  if st.searches then
    let first := s1.chg.fresh && st.phase
    let s2 := { s1 with chg := { s1.chg with fresh := s1.chg.fresh && !st.phase } }
    if first || s2.chg.asked then askSearch s2
    else if s2.chg.periodicDue then askPeriodic s2
    else s2
  else s1

/-- A new cycle (R260) with VSYS as last measured: both timers cleared, PRECHARGE when VSYS is below V_PRE, FAST_CC otherwise. -/
def startCycle (s : State) : State :=
  let st : ChgState := if s.chg.vbat < s.packMv 8 then .precharge else .fastCC
  let s1 := { s with chg := { s.chg with tSafe := 0, tPre := 0, tCv := 0, cycle := true, heldPhase := st } }
  if s1.chg.zone = 0 ∨ s1.chg.zone = 4 then toChg s1 .suspend else toChg s1 st

/-- A new cycle with VSYS measured now. -/
def newCycle (s : State) : State := startCycle (readVbat s)

/-- WAIT left because charging is allowed: the held phase of a cycle in progress, a new cycle after a cleared FAULT (whose held phase
reads FAULT), else a new cycle or DONE by VSYS. -/
def leaveWait (s : State) : State :=
  if s.chg.cycle then
    if s.chg.zone = 0 ∨ s.chg.zone = 4 then toChg s .suspend else toChg s s.chg.heldPhase
  else if s.chg.heldPhase = .fault then newCycle s
  else
    let s1 := readVbat s
    if s1.chg.vbat < s1.packMv 7 then startCycle s1 else toChg s1 .done

/-- The charger's state as the conditions of R259 and the zone now put it (Table 9-5). -/
def chgSettle (s : State) : State :=
  match s.chg.state with
  | .off | .fault | .noBatt => s
  | .wait => if s.chgAllowed then leaveWait s else s
  | .suspend =>
    if !s.chgAllowed then toChg s .wait
    else if s.chg.zone = 0 ∨ s.chg.zone = 4 then s
    else toChg s s.chg.heldPhase
  | .done => if s.chgAllowed then s else toChg s .wait
  | .precharge | .fastCC | .fastCV =>
    let s1 := { s with chg := { s.chg with heldPhase := s.chg.state } }
    if !s.chgAllowed then toChg s1 .wait
    else if s.chg.zone = 0 ∨ s.chg.zone = 4 then toChg s1 .suspend
    else s

/-- FAULT cleared: WAIT, then a new cycle (Table 9-5). -/
def leaveFault (s : State) : State :=
  chgSettle (toChg { s with chg := { s.chg with heldPhase := .fault, cycle := false } } .wait)

/-- The charger in FAULT: gates low, its cycle ended. -/
def chgFault (s : State) : State := toChg s .fault

/-- A thermal reduction is in force that could limit the current: zone COOL, or the die at or above 125 °C (R261). -/
def State.reduces (s : State) : Bool := s.chg.zone == 1 || s.thm.die125

/-! ## The charge zone (R261, R291) -/

/-- Zone that a temperature lies in (Table 9-6). -/
def State.zoneAt (s : State) (t : Int) : Nat :=
  let thr := fun sub => signed 16 (s.chgSet sub)
  if t < thr 0x0F then 0
  else if t < thr 0x10 then 1
  else if t ≤ thr 0x11 then 2
  else if t ≤ thr 0x12 then 3
  else 4

/-- The zone after a reading: away from NORMAL at once, also when NORMAL has been crossed, and toward it only with the temperature
2 °C inside the nearer zone. -/
def State.zoneAfter (s : State) (t : Int) : Nat :=
  let cur := s.chg.zone
  let far := fun z : Nat => if z ≤ 2 then 2 - z else z - 2
  let z := s.zoneAt t
  if (cur < 2 ∧ 2 < z) ∨ (2 < cur ∧ z < 2) then z
  else if far z < far cur then
    let c := s.zoneAt (if cur < 2 then t - 20 else t + 20)
    if far c < far cur then c else cur
  else z

/-- The zone judged from what the battery-role sensor delivers; none gives HOT. -/
def judgeZone (s : State) (t : Option Int) : State :=
  match t with
  | none => chgSettle { s with chg := { s.chg with zone := 4 } }
  | some x => chgSettle { s with chg := { s.chg with zone := s.zoneAfter x } }

/-- A sensor holds the battery role (R291). -/
def State.battSensor (s : State) : Option (Fin 16) :=
  (List.finRange 16).find? fun i => i.1 == s.reg 0x2420 1

/-- What the battery-role sensor delivers: none when it is in INIT, too hot, off or not named. -/
def State.battTemp (s : State) : Option Int :=
  match s.battSensor with
  | none => none
  | some i =>
    let x := s.thm.ts[i]
    if x.status = .off ∨ x.status = .init ∨ x.src = 2 then none else x.eff

/-- The zone judged again. -/
def rezone (s : State) : State := judgeZone s s.battTemp

end Sys2Proof.Machine
end

