-- ==== Sys2Proof/Machine/HerdOps.lean ====
section
/-! DEFINITION. The herd bus's frames (R238–R242): the CRC, the node's role, frames put on the bus. -/

namespace Sys2Proof.Machine
open Sys2Proof

/-- `n` bits of the CRC-8 of R240. -/
def crc8Bits : Nat → Nat → Nat
  | 0, c => c
  | n + 1, c => crc8Bits n (if c / 128 % 2 = 1 then (c * 2 % 256) ^^^ 7 else c * 2 % 256)

/-- The CRC-8 of R240: polynomial x⁸ + x² + x + 1, initial value 0. -/
def crc8 (bs : List Byte) : Byte := BitVec.ofNat 8 (bs.foldl (fun c b => crc8Bits 8 (c ^^^ b.toNat)) 0)

/-- A frame: header, content, CRC (R241). -/
def herdFrame (ty node : Nat) (body : List Byte) : List Byte :=
  let bs := BitVec.ofNat 8 (16 * ty + node) :: body
  bs ++ [crc8 bs]

/-- The bus runs: core domain on, in every mode but STANDBY and SERVICE (Table 3-4). -/
def State.herdRuns (s : State) : Bool :=
  s.ready && (s.reg 0x2D00 1).testBit 0 &&
    match s.md.mode with
    | .ship | .standby | .service => false
    | _ => true

/-- ROLE (R238, R246): 0 off, 1 master, 2 follower, 3 stopped by a collision. -/
def State.herdRole (s : State) : Nat :=
  if !(s.reg 0x2D00 1).testBit 0 then 0
  else if s.herd.collided then 3
  else if s.pwr.strap = 0 then 1 else 2

/-- The node takes its mode and its steps from a master's frames; one that has lost its master runs its own (R246). -/
def State.herdFollows (s : State) : Bool := s.herdRuns && s.herdRole == 2 && !s.herd.alone

/-- The node leads a herd. -/
def State.herdLeads (s : State) : Bool := s.herdRuns && s.herdRole == 1

/-- Followers that the master expects (MEMBERS). -/
def State.herdMembers (s : State) : Nat := if s.herdLeads then s.reg 0x2D00 4 / 2 * 2 else 0

/-- A frame put on the bus by the master. -/
def herdSend (s : State) (frame : List Byte) : State :=
  if s.herdLeads then { s with herd := { s.herd with sent := s.herd.sent ++ [frame] } } else s

/-- A herd event seen: latched for the script run and in EVENT_SEEN (R244). -/
def seeEvent (s : State) (n : Nat) : State :=
  { s with sqe := { s.sqe with events := setBit s.sqe.events (n % 16) } }.orReg 0x2D00 9 (2 ^ (n % 16))

/-- A herd event signalled by this node: seen here, broadcast by the master, given to the master in a follower's STATUS, one event in each
(R244). -/
def signalEvent (s : State) (n : Nat) : State :=
  let s1 := seeEvent s n
  if s1.herdFollows then
    if s1.herd.sendEvt.contains (n % 16) then s1 else { s1 with herd := { s1.herd with sendEvt := s1.herd.sendEvt ++ [n % 16] } }
  else herdSend s1 (herdFrame 3 0 [BitVec.ofNat 8 (n % 16)])

end Sys2Proof.Machine
end

