-- ==== Sys2Proof/Machine/ModeOps.lean ====
section
/-! DEFINITION. Mode entries and what each does to every unit (R70–R85), the start of scripts, and the safe-state trip. -/

namespace Sys2Proof.Machine
open Sys2Proof

/-! ## The milk round's start and stop (R191, R192) -/

/-- An abandoned visit breaks a converter's run of rejected visits and the run over the ports (R192, R196). -/
def breakRun (s : State) : State :=
  if s.milk.running && !s.milk.visit.idle then
    let s1 := (List.finRange 33).foldl (fun t c => if c.1 + 1 = s.milk.slot then t.modSc c fun x => { x with rejects := 0 } else t) s
    { s1 with milk := { s1.milk with rejectRow := 0 } }
  else s

/-- The visit in progress abandoned and the round stopped; the other converters' runs of rejected visits stand. (DESIGN CHOICE, log
entry 136). -/
def stopRound (s : State) : State :=
  let s1 := breakRun s
  { s1 with milk := { s1.milk with running := false, slot := 0xFF, visit := .reset, rejectRow := 0,
                                   clean := s.milk.clean && !s.milk.running } }

/-- The round started from slot 0, unless ROUND_EN is 0 or no rover is free. -/
def startRound (s : State) : State :=
  if (s.reg 0x3000 1).testBit 0 && !s.milk.noSpare && (s.md.mode == .run || s.md.mode == .holdup) then
    { s with milk := { s.milk with running := true, slot := 0, visit := .reset, roundOne := false, rejectRow := 0 } }
  else s

/-! ## What a mode entry does -/

/-- Modes on whose entry ENABLE of every rail is cleared (R161). -/
def Mode.clears : Mode → Bool
  | .safestop | .standby | .service | .ship => true
  | _ => false

/-- Modes on whose entry staged ENABLE writes are discarded (R328). -/
def Mode.discards : Mode → Bool
  | .startup | .shutdown | .safestop | .standby | .service => true
  | _ => false

/-- Every staged ENABLE write of every group discarded (R328). -/
def discardEnables (s : State) : State :=
  (List.finRange 8).foldl (fun s g => s.modGroup g fun q =>
    { q with staged := q.staged.filter fun c => !(0x2200 ≤ c.1 / 256 && c.1 / 256 < 0x2210 && c.1 % 256 == 3) }) s

/-- Reset outputs asserted in a mode that fixes them (Table 3-4); a script decides in STARTUP and SHUTDOWN. -/
def modeResets (s : State) (m : Mode) : State :=
  match m with
  | .run | .holdup => { s with pins := { s.pins with rstA := false, rstB := false } }
  | .shutdown => s
  | .ship => { s with pins := { s.pins with rstA := false, rstB := false } }
  | _ => { s with pins := { s.pins with rstA := true, rstB := true } }

/-- The thermal policy of a mode (Table 10-2): 0 none, 1 start-up, 2 normal. -/
def State.policyOf (s : State) (m : Mode) : Nat :=
  match m with
  | .ship | .standby => 0
  | .startup | .service => 1
  | .safestop => if s.coreOn then 1 else 0
  | .run | .holdup => if s.thm.recovery then 1 else 2
  | .shutdown => s.thm.shutdownPolicy

/-! ## Effective readings (R281) -/

/-- TEMP_EFF of a sensor that is too hot (R281). -/
def tooHot : Int := 32767

/-- A setting of a sensor's object. -/
def State.tsSet (s : State) (i : Fin 16) (sub : Nat) : Nat := s.reg (0x2400 + i.1) sub

/-- OPEN, SHORT and RANGE. -/
def TsStatus.broken : TsStatus → Bool
  | .open_ | .short | .range => true
  | _ => false

/-- A sensor broken, or fenced (Table 11-3). -/
def State.tsBroken (s : State) (i : Fin 16) : Bool := s.thm.ts[i].status.broken || s.flt.sensors.getLsbD i.1

/-- Effective reading and EFF_SRC of a sensor under R281. -/
def State.ownReading (s : State) (i : Fin 16) : Option Int × Nat :=
  if s.tsBroken i then (some tooHot, 2) else (s.thm.ts[i].raw, 0)

/-- A sensor takes part in a scan: its MODE is not 0 and it has left INIT. -/
def State.scanned (s : State) (i : Fin 16) : Bool := s.tsSet i 1 != 0 && s.thm.ts[i].status != .init && s.thm.ts[i].status != .off

/-- A scan begins: the pins whose slots of it convert (R275). -/
def armScan (s : State) : State :=
  { s with thm := { s.thm with slot := 0, armed := BitVec.ofNat 16 (bitsOf ((List.finRange 16).map fun i => s.tsSet i 1 != 0)) } }

/-- MAX_SEEN raised to a reading (Table 10-7); the first one after a read of it takes the place of the 0 that the read left. -/
def noteMax (s : State) (idx : Nat) (t : Option Int) : State :=
  match t with
  | none => s
  | some x =>
    if s.thm.maxRead.getLsbD (idx - 0x2400) || decide (s.regI idx 0x1A 16 < x) then
      ({ s with thm := { s.thm with maxRead := clrBit s.thm.maxRead (idx - 0x2400) } }).setReg idx 0x1A (unsignedOf 16 x)
    else s

/-- A sensor's effective reading set (R281). -/
def setEff (s : State) (i : Fin 16) (eff : Option Int) (src : Nat) (suspect : Bool) : State :=
  noteMax (s.modTs i fun x => { x with eff := eff, src := src, suspect := suspect }) (0x2400 + i.1) eff

/-- Every sensor's effective reading under R281, which the start-up policy applies at once (Table 10-5).
(DEDUCED, log entry 80). -/
def startReadings (s : State) : State :=
  (List.finRange 16).foldl (fun t i =>
    if s.scanned i then setEff t i (s.ownReading i).1 (s.ownReading i).2 false else t) s

/-- Scripts, partial runs and handlers stopped: a trip ends them at once (R220, R393). -/
def stopSqe (s : State) : State :=
  { s with sqe := { s.sqe with stat := .idle, step := 0xFF, phase := .none_, named := 0, second := 0, fallen := 0,
                               forced := false, restart := 0, partial_ := none, queue := [], handlers := [] } }

/-- Mode entries that the master tells the herd (R243): the ends and starts of scripts, not its own trips and not the passage
between RUN and HOLDUP, which each node makes on its own VIN. -/
def Mode.tells (m : Mode) (cause : Nat) : Bool :=
  match m with
  | .startup | .shutdown | .standby => true
  | .run | .holdup => cause == 9
  | .safestop => cause == 9
  | .ship | .service => false

/-- A mode entered: the transition recorded, handlers abandoned, ENABLE and staged ENABLE treated as the mode asks, the reset outputs set,
the recovery window opened in SAFESTOP (R280), the start-up policy applied and the charge zone judged by it (R281, R291), the round started
or stopped, source MODE_CHG pended (R85), holds and charger settled. -/
def enterMode (s : State) (m : Mode) (cause : Nat) : State :=
  let was := s.md.mode
  let pol := s.policyOf was
  let s1 := { s with
    md := { s.md with mode := m, prev := was, stamp := s.now, cause := cause },
    sqe := { s.sqe with handlers := [] },
    thm := { s.thm with
      recovery := s.thm.recovery || m == .safestop
      recovRun := m != .safestop && s.thm.recovery && (s.thm.recovRun || m == .run || m == .holdup)
      shutdownPolicy := if m = .shutdown then pol else s.thm.shutdownPolicy
      stopping := s.thm.stopping && m != .safestop } }
  let s2 := if m.discards then discardEnables s1 else s1
  let s3 := if m.clears then clearEnables s2 else s2
  let s4 := modeResets s3 m
  let s5 := if m = .run ∨ (m = .holdup ∧ was = .startup) then startRound (stopRound s4)
            else if m = .holdup then s4 else stopRound s4
  let s6 := if m.tells cause then herdSend s5 (herdFrame 5 0 [BitVec.ofNat 8 (if m = .holdup then 3 else m.code)]) else s5
  let s7 := if s6.policyOf m = 1 then rezone (startReadings s6) else s6
  pendSrc (chgSettle (applyHolds s7)) 24

/-! ## Scripts (R211–R219) -/

/-- Where a script begins: its first step is to start; a follower's waits for a STEP frame. -/
def State.firstPhase (s : State) : StepPhase := if s.herdFollows then .none_ else .start

/-- SHUTDOWN entered and the power-down script begun. -/
def beginPowerDown (s : State) (cause : Nat) : State :=
  let s1 := enterMode (stopSqe s) .shutdown cause
  { s1 with sqe := { s1.sqe with stat := .powerDown, step := s1.reg 0x2300 3, phase := s1.firstPhase, events := 0 },
            md := { s1.md with stopFault := false, svcAsked := false, byHoldup := false, requal := false } }

/-- SHUTDOWN entered from STARTUP and the reversal begun: from the present step if it has started, else from the one before it
(R219). A disable action whose fall wait is in progress is completed first. Step 0xFF says that nothing is left to undo. -/
def beginReversal (s : State) (cause : Nat) : State :=
  let cur := s.sqe.step
  let first := s.reg 0x2300 1
  let from_ := if s.sqe.phase = .start then (if first < cur then cur - 1 else 0xFF) else cur
  let s1 := enterMode (stopSqe s) .shutdown cause
  let falls := s.sqe.phase = .fall
  ({ s1 with sqe := { s1.sqe with stat := .reversal, step := from_, phase := if falls then .fall else s1.firstPhase,
                                  since := s.sqe.since, named := if falls then s.sqe.named else 0,
                                  fallen := if falls then s.sqe.fallen else 0 },
             md := { s1.md with stopFault := false, svcAsked := false, byHoldup := false, requal := false } }).orReg 0x2300 8 0x20

/-- A reached HI_STOP, a reached limit whose LIMIT_ACT is 2, or the 140 °C die threshold (R286, R287). -/
def State.stopCause (s : State) : Bool :=
  s.thm.die140 || (List.finRange 16).any fun i =>
    let x := s.thm.ts[i].reached
    x.getLsbD 4 || ((x.getLsbD 0 || x.getLsbD 3) && s.reg (0x2400 + i.1) 0x12 == 2)

/-- STARTUP entered and the power-up script begun: both reset outputs asserted, the first step to start; a follower waits for
its master's frames (R243, R245). A stop cause that is reached reverses it at once (R287), on a follower through its master. A held request is
served by it (R71). -/
def beginStartup (s : State) (cause : Nat) : State :=
  let s1 := enterMode (stopSqe (s.clrReg 0x2000 8 1)) .startup cause
  let s2 := { s1 with
    sqe := { s1.sqe with stat := .powerUp, step := s1.reg 0x2300 1, phase := s1.firstPhase, events := 0, begun := false }
    md := { s1.md with stopFault := false, svcAsked := false, byHoldup := false, requal := false }
    pwr := { s1.pwr with entering := false }
    pins := { s1.pins with rstA := true, rstB := true } }
  if s2.stopCause && s2.herdFollows then { s2 with herd := { s2.herd with stopFault := true }, thm := { s2.thm with stopping := true } }
  else if s2.stopCause then
    let s3 := beginReversal s2 11
    { s3 with md := { s3.md with stopFault := true }, thm := { s3.thm with stopping := true } }
  else s2

/-- Forced timing from the step in progress (R218): SEQ_FLAGS.FORCED and REQ_STAT.FORCED_OFF set; a rail that the step has turned off and
that still ramps goes off (Table 6-2). -/
def forceTiming (s : State) : State :=
  let s0 := (({ s with sqe := { s.sqe with forced := true } }).orReg 0x2300 8 4).orReg 0x2000 8 8
  let s1 := if s0.sqe.phase = .fall then
      (maskRails s0.sqe.named.toNat).foldl (fun t r => if t.railState r = .rampDown then stopRail t r true else t) s0
    else s0
  herdSend s1 (herdFrame 5 0 [0x85])

/-- STANDBY entered: its store asked for, NMT state pre-operational, the core domain to go off once the store has its snapshot
(R74, R335). -/
def enterStandby (s : State) (cause : Nat) : State :=
  let s1 := enterMode (stopSqe s) .standby cause
  let s2 := { s1 with can := { s1.can with nmt := .preop }, pwr := { s1.pwr with entering := true },
                      md := { s1.md with requal := false, svcAsked := false } }
  requestStore s2 .standby

/-- SERVICE entered. -/
def enterService (s : State) (cause : Nat) : State :=
  let s1 := enterMode (stopSqe s) .service cause
  { s1 with md := { s1.md with svcAsked := false } }

/-- An off request acted on by this node (R71, Table 3-2); it clears a held on request. -/
def offNow (s : State) (cause : Nat) : State :=
  let s1 := s.clrReg 0x2000 8 1
  match s.md.mode with
  | .startup => beginReversal s1 cause
  | .run | .holdup => beginPowerDown s1 cause
  | .shutdown => if s.md.requal then enterStandby (s1.clrReg 0x2000 8 4) cause else s1
  | _ => s

/-- A forced off request acted on: the same, with forced timing (R71, R72, R218). -/
def forcedNow (s : State) (cause : Nat) : State :=
  let s1 := offNow s cause
  if s1.md.mode = .shutdown then forceTiming s1 else s1

/-- An on request acted on (R71): from SERVICE its port's rail is turned off first, gates low (Table 3-2; DEDUCED, log entry 53); held in
SHUTDOWN, dropped in SAFESTOP with the latch set, without effect in STARTUP, RUN and HOLDUP. -/
def onNow (s : State) (cause : Nat) : State :=
  match s.md.mode with
  | .shutdown => s.orReg 0x2000 8 1
  | .safestop => if s.latch.set then s.orReg 0x2000 8 2 else beginStartup s cause
  | .service => beginStartup (s.railList.foldl (fun t r => devDisable t r true) s) cause
  | _ => s

/-- A fault with orderly stop acted on (R72, R286). -/
def stopNow (s : State) : State :=
  match s.md.mode with
  | .startup =>
    let s1 := beginReversal s 11
    { s1 with md := { s1.md with stopFault := true }, thm := { s1.thm with stopping := true } }
  | .run | .holdup =>
    let s1 := beginPowerDown s 11
    { s1 with md := { s1.md with stopFault := true }, thm := { s1.thm with stopping := true } }
  | .shutdown =>
    let s1 := s.clrReg 0x2000 8 5
    if s.md.requal then enterMode (stopSqe { s1 with md := { s1.md with requal := false } }) .safestop 11
    else { s1 with md := { s1.md with stopFault := true }, thm := { s1.thm with stopping := true } }
  | .service => applyHolds { (s.setReg 0x2000 0x0D 0xFF) with thm := { s.thm with stopping := true } }
  | _ => s

/-- An on request: a follower's goes to its master in STATUS (R243). -/
def onRequest (s : State) (cause : Nat) : State :=
  if s.herdFollows then { s with herd := { s.herd with onReq := true } } else onNow s cause

/-- An off request: a follower's goes to its master (R243). -/
def offRequest (s : State) (cause : Nat) : State :=
  if s.herdFollows then { s with herd := { s.herd with offReq := true } } else offNow s cause

/-- A forced off request: a follower's goes to its master (R243). -/
def forcedOff (s : State) (cause : Nat) : State :=
  if s.herdFollows then { s with herd := { s.herd with forcedReq := true } } else forcedNow s cause

/-- A fault with orderly stop: a follower's goes to its master (R243). (DEDUCED, log entry 67). -/
def orderlyStop (s : State) : State :=
  if s.herdFollows then { s with herd := { s.herd with stopFault := true }, thm := { s.thm with stopping := true } }
  else stopNow s

/-! ## The safe-state trip (R35) -/

/-- The power-up of a full reset that has not ended step 8, with the core regulator sound: a trip now sets the latch, and step 8
enters SAFESTOP (R73). -/
def State.booting (s : State) : Bool :=
  s.pwr.afterFull && !s.pwr.regFailed && !s.latch.coreReg
    && [.aonUp, .enabled, .good, .clocked, .locked, .released].contains s.pwr.step

/-- A trip: the latch set, every gate low, the scripts stopped, mode SAFESTOP (R35). A hard stop marks the latch for good. A
re-qualification ends with its RESTART, and a held request stays held (DEDUCED, log entry 98). -/
def trip (s : State) (hard : Bool) : State :=
  let s1 := { s with latch := { s.latch with set := true, hard := s.latch.hard || hard } }
  if s.booting then s1
  else if s.md.mode = .ship then stopSqe s1
  else if s.md.mode = .safestop then chgSettle (applyHolds (stopSqe s1))
  else
    let m := { s1.md with requal := false, stopFault := false, svcAsked := false, byHoldup := false }
    let s2 := enterMode (stopSqe { s1 with md := m }) .safestop 10
    s2.clrReg 0x2000 8 4

/-! ## Outputs (Table 1-5, Table 3-4) -/

/-- SAFEA and SAFEB report "OK" (R37). -/
def State.safeOk (s : State) : Bool :=
  s.isOpen && !s.latch.set && (s.md.mode == .run || s.md.mode == .holdup)

/-- GHn is driven high: by a driver domain with its supply, whose gate-disable line no trip drives (R17, R35). -/
def State.ghOn (s : State) (n : Fin 32) : Bool :=
  s.ports[n].gh && !s.latch.set && !s.latch.estop && s.pwr.vdrv.getLsbD (n.1 / 4)

/-- GLn is driven high. -/
def State.glOn (s : State) (n : Fin 32) : Bool :=
  s.ports[n].gl && !s.latch.set && !s.latch.estop && s.pwr.vdrv.getLsbD (n.1 / 4)

/-- RSTOUTA is driven asserted with the AON island running: as the mode or a script says, or in a 200 ms pulse (R84). -/
def State.rstoutA (s : State) : Bool := s.aonUp && s.md.mode != .ship && (s.pins.rstA || s.pins.pulse)

/-- RSTOUTB is asserted. -/
def State.rstoutB (s : State) : Bool := s.aonUp && s.md.mode != .ship && (s.pins.rstB || s.pins.pulse)

/-- An alert line: a trip asserts it in STANDBY, SAFESTOP with the core domain off too, and else the interrupt controller with the
core domain on, or a trip with it off (Table 3-4). -/
def State.alertOf (s : State) (active : Option (Fin 64)) : Bool :=
  match s.md.mode with
  | .ship => false
  | .standby => s.aonUp && s.latch.set
  | .safestop => if s.coreOn then active.isSome else s.aonUp
  | _ => if s.coreOn then active.isSome else s.aonUp && s.latch.set

/-- ALERTA is asserted. -/
def State.alertA (s : State) : Bool := s.alertOf s.irq.activeA

/-- ALERTB is asserted. -/
def State.alertB (s : State) : Bool := s.alertOf s.irq.activeB

/-- The charger's gates switch. -/
def State.chargerOn (s : State) : Bool :=
  s.chg.state.switching && s.chgAllowed && !s.latch.set && !s.pwr.gated

/-- Core clock of the present period at which the charger's high-side pulse ends: its regulation, the 60 mV cycle limit or the 95 % duty
cap, whichever comes first (R253). -/
def State.chgOnFor (s : State) : Nat := min 950 (min (Config.chgRegulated s.chg.pulse) (Config.chgCrossing s.chg.pulse))

/-- CGH (R253). -/
def State.cgh (s : State) : Bool := s.chargerOn && s.chg.clk < s.chgOnFor

/-- CGL: on outside the high-side pulse, with 20 ns, 8 core clocks, of dead time on either side (R253). -/
def State.cgl (s : State) : Bool := s.chargerOn && s.chgOnFor + 8 ≤ s.chg.clk && s.chg.clk + 8 < 1000

/-- The charger's 1 000-clock period one tick of 16 core clocks on; with the gates low it stands at its start (R253). -/
def tickCharger (s : State) : State :=
  if !s.chargerOn then { s with chg := { s.chg with clk := 0 } }
  else if s.chg.clk + 16 < 1000 then { s with chg := { s.chg with clk := s.chg.clk + 16 } }
  else { s with chg := { s.chg with clk := s.chg.clk + 16 - 1000, pulse := s.chg.pulse + 1 } }

end Sys2Proof.Machine
end

