-- ==== Sys2Proof/Machine/Faults.lean ====
section
/-! DEFINITION. The fault collector (R296–R306): classes, escalation, fences of every kind of unit, trips. -/

namespace Sys2Proof.Machine
open Sys2Proof

/-! ## Phases and rails -/

/-- A shed phase added: through PRECHARGE with its sharing term 0 (R173). -/
def addPhase (s : State) (r : Fin 16) (n : Fin 32) : State :=
  let s1 := s.modRail r fun x => { x with shed := clrBit x.shed n.1 }
  let s2 := (s1.members r).foldl (fun s m => if s.pairLead m.1 = n.1 then startPort s r m else s) s1
  restartDwell (countRail s2 r 0x58) r

/-- The shed phases of a rail that are not fenced, in increasing port number. -/
def State.shedPhases (s : State) (r : Fin 16) : List (Fin 32) :=
  (s.livePhases r).filter fun n => s.rails[r].shed.getLsbD n.1

/-- A rail fenced (R179): gates of every member low, surviving ports to READY, the fence counted. -/
def fenceRail (s : State) (r : Fin 16) : State :=
  if s.rails[r].state = .fenced then s
  else
    let old := s.railState r
    let s1 := (s.members r).foldl readyPort s
    let s2 := s1.modRail r fun x => { x with state := .fenced, heldOn := false, hicWait := false, trunc := false }
    let s3 := { s2 with flt := { s2.flt with rails := setBit s2.flt.rails r.1 } }
    railChanged (countRail s3 r 0x59) r old false

/-- A rail fenced because the collector fenced one of its members or its converter: the consequent report 0x0403 (R304). -/
def fenceRailFor (s : State) (r : Fin 16) (cause : U32) : State :=
  if s.rails[r].state = .fenced then s else logConsequent (fenceRail s r) 0x0403 (unitCode 3 r.1) cause

/-- What the loss of a phase does to its rail (R177–R179). `was` says that the phase was active: then the lowest-numbered
shed phase is added at the rail's next update. -/
def losePhase (s : State) (r : Fin 16) (was : Bool) (cause : U32) : State :=
  let s1 := if was then setRailFlag (countRail s r 0x59) r 4 else countRail s r 0x59
  if (s1.livePhases r).length < max 1 (s1.act (railIdx r.1) 0x18) then fenceRailFor s1 r cause
  else if was then
    let s2 := restartDwell s1 r
    s2.modRail r fun x => { x with addDue := x.addDue || s2.shedPhases r != [] }
  else s1

/-- The slot of a port that is fenced passes idle from here (R191). -/
def Milk.idleAt (m : Milk) (n : Fin 32) : Milk :=
  if m.running && m.slot == n.1 + 1 then { m with visit := { m.visit with idle := true } } else m

/-- One port fenced: both gates low, its running correction ramp stopped (R197). -/
def fenceOne (s : State) (n : Fin 32) : State :=
  let s1 := s.modPort n Port.fence
  let s2 := s1.modSc (Fin.castSucc n) fun c => { c with ramp := none }
  { s2 with flt := { s2.flt with ports := setBit s2.flt.ports n.1 }, milk := s2.milk.idleAt n }

/-- The other port of a BB4 pair with a fenced port is fenced too, whenever the pair forms (R89). -/
def fencePair (s : State) (n : Fin 32) : State :=
  let lead := s.pairLead n.1
  let pair := s.portList.filter fun m => s.pairLead m.1 = lead
  if s.pers n.1 = 3 ∧ (pair.any fun m => s.ports[m].state == .fenced) = true then
    pair.foldl (fun t m => if t.ports[m].state = .fenced then t else fenceOne t m) s
  else s

/-- A port fenced, with the other port of its BB4 pair (R89), and its rail's loss of a phase. -/
def fencePort (s : State) (n : Fin 32) (cause : U32) : State :=
  if s.ports[n].state = .fenced then s
  else
    let lead := s.pairLead n.1
    let was := match s.railOf n with
      | none => false
      | some r => s.isActive r ⟨lead % 32, Nat.mod_lt _ (by decide)⟩
    let s1 := s.portList.foldl (fun t m => if s.pairLead m.1 = lead then fenceOne t m else t) s
    match s.railOf n with
    | none => s1
    | some r => if s1.rails[r].state = .fenced then countRail s1 r 0x59
                else railChanged (losePhase s1 r was cause) r (s.railState r) false

/-- A group fenced: its four ports. -/
def fenceGroup (s : State) (g : Fin 8) (cause : U32) : State :=
  let s1 := { s with flt := { s.flt with groups := setBit s.flt.groups g.1 } }
  s1.portList.foldl (fun t n => if groupOf n = g then fencePort t n cause else t) s1

/-! ## Converters -/

/-- The rover lost (R205): the round stopped, no spare; the port it stood in for is fenced and the stand-in ends. -/
def loseRover (s : State) (cause : U32) : State :=
  let s1 := stopRound { s with milk := { s.milk with roverFailed := true, noSpare := true } }
  match s.milk.standin with
  | none => s1
  | some n => fencePort { s1 with milk := { s1.milk with standin := none } } n cause

/-- A sense converter failed (R144, R203): the rover stands in with its last self-calibration, or before its first one with its fuse trims
(DESIGN CHOICE, log entry 134), or the port is fenced. -/
def failSense (s : State) (n : Fin 32) (cause : U32) : State :=
  if s.flt.sc.getLsbD n.1 then s
  else
    let s1 := { s with flt := { s.flt with sc := setBit s.flt.sc n.1 } }
    if s1.milk.noSpare || s1.milk.roverFailed || s1.milk.standin.isSome then fencePort s1 n cause
    else
      let rover := s1.sc[(32 : Fin 33)]
      let s2 := (List.finRange 33).foldl (fun t c => t.modSc c fun x => { x with ramp := none }) (stopRound s1)
      { s2 with milk := { s2.milk with standin := some n, noSpare := true, standGain := rover.gain, standOffset := rover.offset } }

/-- A voltage converter failed: its rail is fenced (R144). -/
def failVolt (s : State) (k : Fin 16) (cause : U32) : State :=
  if s.flt.vc.getLsbD k.1 then s
  else fenceRailFor { s with flt := { s.flt with vc := setBit s.flt.vc k.1 } } k cause

/-! ## Loop engines (R148–R152) -/

/-- The engine that works for a surviving group: LE8 where it covers it. -/
def State.engineOf (s : State) (g : Nat) : Nat :=
  if s.engines[(8 : Fin 9)].state = .covering ∧ s.engines[(8 : Fin 9)].covers = g then 8 else g

/-- The group of a rail's lowest-numbered surviving port: one that is not fenced, in a group that still has an engine (R152). -/
def State.survivor (s : State) (r : Fin 16) : Option Nat :=
  ((s.phases r).find? fun n => s.ports[n].state != .fenced && !s.gone.testBit (n.1 / 4)).map fun n => n.1 / 4

/-- Whether the engine of group `g` can take a rail over: its LOAD with the added 24 clocks meets R136 and R135 still holds (R152). -/
def State.canMove (s : State) (g : Nat) (r : Fin 16) : Bool :=
  let p := { s.plan with master := fun q => if q = r.1 then some g else s.plan.master q }
  let live := (p.groupsOf r.1).filter fun h => !s.gone.testBit h
  p.budgetOk g && (live.length ≤ 1 || live.all fun h => p.frameRail h == some r.1)

/-- `k` lost frames of a moved rail counted by each surviving phase, in HELD_TAKEOVER of the engine that takes the role (R152). -/
def countMoved (s : State) (r : Fin 16) (k : Nat) : State :=
  match s.rails[r].moved with
  | none => s
  | some g =>
    let e := engIdx (s.engineOf g)
    s.setReg e 0x11 (satAdd 0xFFFF (s.reg e 0x11) (k * (s.livePhases r).length))

/-- A rail whose master is lost: its role moves to the engine of its lowest-numbered surviving port, or the rail is fenced (R152). The frames
lost, at most two, are counted as they are lost: that of the lost engine, where it held the rail's update (`hit`), and each period of the
rail whose update the new engine does not take. (DESIGN CHOICE, log entry 58). -/
def moveMaster (s : State) (r : Fin 16) (hit : Bool) (cause : U32) : State :=
  if s.rails[r].state = .fenced then s
  else match s.survivor r with
    | none => fenceRailFor s r cause
    | some g =>
      if s.canMove g r then
        let e := s.engineOf g
        let was := if s.flt.movedAt = some (e, cause) then s.reg (engIdx e) 0x11 else 0
        let s1 := { (s.setReg (engIdx e) 0x11 was) with flt := { s.flt with movedAt := some (e, cause) } }
        countMoved (s1.modRail r fun x => { x with moved := some g, moving := if hit then 1 else 2 }) r (if hit then 1 else 0)
      else fenceRailFor s r cause

/-- A frame holds the update of a rail, run or still to run. -/
def FrameRun.holds (f : FrameRun) (r : Fin 16) : Bool :=
  f.tasks.contains (.rail r) || f.cur == some (.rail r) || (f.rails.any fun x => x.1 == r.1) || (f.wait.any fun x => x.1 == .rail r)

/-- A group left with no engine: fenced with the consequent report 0x030A, the rails it mastered moved one by one or fenced (R152). -/
def loseGroup (s : State) (g : Fin 8) (run : Option FrameRun) (cause : U32) : State :=
  let mastered := s.railList.filter fun r => s.masterGroup r.1 == some g.1
  let s1 := { s with flt := { s.flt with noSpare := setBit s.flt.noSpare g.1 } }
  let s2 := fenceGroup (logConsequent s1 0x030A (unitCode 2 g.1) cause) g cause
  mastered.foldl (fun t r => moveMaster t r ((run.map fun f => f.holds r).getD false) cause) s2

/-- Clocks by which LE8 starts late for a frame start that comes less than 16 clocks after the detection (R149). -/
def lateBy (f : Option FrameRun) : Nat :=
  match f with
  | none => 0
  | some f => 16 - (f.length - f.clock)

/-- An engine failed: nothing of its frame is released; LE8 loads its context if it stands by, else the group is lost. -/
def fenceEngine (s : State) (e : Fin 9) (cause : U32) : State :=
  if s.engines[e].state = .fenced then s
  else
    let was := s.engines[e]
    let s1 := s.modEng e fun x => { x with state := .fenced, frame := none, blocked := true, covers := 0xFF, late := 0 }
    let s2 := { s1 with flt := { s1.flt with engines := setBit s1.flt.engines e.1 } }
    if h : e.1 < 8 then
      if s2.engines[(8 : Fin 9)].state = .standby then
        s2.modEng 8 fun x => { x with state := .covering, covers := e.1, blocked := true, frame := none, late := lateBy was.frame }
      else loseGroup s2 ⟨e.1, h⟩ was.frame cause
    else if was.state = .covering then loseGroup s2 ⟨was.covers % 8, Nat.mod_lt _ (by decide)⟩ was.frame cause
    else s2

/-- FAULT_CAUSE and FAULT_STAMP of an engine whose failure is reported (R148). -/
def noteEngine (s : State) (unit detail : U16) (stamp : U32) : State :=
  if unitIndex unit < 9 then (s.setReg (engIdx (unitIndex unit)) 0x0E (detail.toNat % 256)).setReg (engIdx (unitIndex unit)) 0x0F stamp.toNat
  else s

/-! ## Fences by unit code (Table 11-3) -/

/-- The unit that a code names fenced; kinds outside Table 11-3 are never fenced (R299). -/
def fenceUnit (s : State) (unit : U16) (cause : U32) : State :=
  let k := unitKind unit
  let i := unitIndex unit
  if k = 1 then (if h : i < 32 then fencePort s ⟨i, h⟩ cause else s)
  else if k = 2 then (if h : i < 8 then fenceGroup s ⟨i, h⟩ cause else s)
  else if k = 3 then (if h : i < 16 then fenceRail s ⟨i, h⟩ else s)
  else if k = 4 then (if i < 20 then { s with flt := { s.flt with sensors := setBit s.flt.sensors i } } else s)
  else if k = 5 then (if h : i < 32 then failSense s ⟨i, h⟩ cause else if i = 32 then loseRover s cause else s)
  else if k = 6 then (if h : i < 16 then failVolt s ⟨i, h⟩ cause else s)
  else if k = 7 then (if h : i < 9 then fenceEngine s ⟨i, h⟩ cause else s)
  else if k = 8 then chgFault { s with flt := { s.flt with charger := true } }
  else s

/-- Faults whose own reaction is to fence the unit they name (Table 11-4 and the rules it cites). -/
def fencesItself (row : FaultRow) : Bool :=
  [0x0109, 0x0201, 0x0202, 0x0204, 0x0205, 0x0206, 0x0305, 0x0306, 0x0307, 0x0308, 0x0309, 0x030A, 0x0403, 0x0404,
   0x0502].contains row.code.toNat || (row.code == 0x0405 && row.cls == .u)

/-! ## Classes and escalation (R296–R304) -/

/-- The row a report is judged by: 0x0405 is class U on a rail with UV_FENCE. -/
def State.rowFor (s : State) (code unit : U16) : Option FaultRow :=
  if code = 0x0405 ∧ s.act (railIdx (unitIndex unit)) 0x4A % 2 = 1 then some uvFence else faultRow code

/-- An unacknowledged H entry that can cause escalation. -/
def LogEntry.raises (e : LogEntry) : Bool := !e.acked && e.ack == .h && !e.conseq && !e.quiet

/-- A report of class `cls` on `unit` is raised (R302). -/
def State.repeats (s : State) (cls : FClass) (unit : U16) : Bool :=
  s.log.any fun e => e.raises && e.cls == cls && e.unit == unit

/-- A class F report is raised to hard stop (R303). -/
def State.repeatsFatal (s : State) : Bool := s.log.any fun e => e.raises && e.cls == .f

/-- The class under R302. -/
def State.raised (s : State) (cls : FClass) (unit : U16) : FClass :=
  match cls with
  | .c => if s.repeats .c unit then .u else .c
  | .u => if s.repeats .u unit then .f else .u
  | x => x

/-- The class a report is recorded with (R302, R303). -/
def State.classOf (s : State) (row : FaultRow) (unit : U16) : FClass :=
  if row.ack ≠ .h ∨ s.vsysOk = false then row.cls
  else
    let x := s.raised row.cls unit
    if x = .f ∧ s.repeatsFatal = true then .hardStop else x

/-- How many escalations lead from class `a` to class `b`. (DEDUCED, log entry 47). -/
def FClass.steps (a b : FClass) : Nat := if a = b then 0 else if a = .u ∧ b = .hardStop then 2 else 1

/-- Sources that the AON island detects itself (Table 1-4, R311). -/
def aonSource (code : U16) : Bool := [0x0101, 0x0104, 0x0105, 0x010A, 0x010B, 0x080A].contains code.toNat

/-- Two failed replays of a rail update fence the rail, which reports itself fenced (R179, R184). -/
def fenceFor (s : State) (unit : U16) : State :=
  if h : unitKind unit = 3 ∧ unitIndex unit < 16 then fenceRailFor s ⟨unitIndex unit, h.2⟩ s.seq else s

/-- What a recorded report costs beyond its entry: the fence of its unit, and the trip. -/
def pay (s : State) (row : FaultRow) (cls : FClass) (unit : U16) : State :=
  let s0 := if row.code = 0x0308 then fenceFor s unit else s
  let s1 := if fencesItself row || (cls == .u && row.cls == .c) then fenceUnit s0 unit s.seq else s0
  if cls.fatal then trip s1 (cls == .hardStop) else s1

/-- A report reaching the collector, stamped `stamp`; without the collector's clock, the AON record for its own sources (R311). -/
def collectAt (s : State) (code unit detail : U16) (stamp : U32) : State :=
  if s.live then
    match s.rowFor code unit with
    | none => s
    | some row =>
      let cls := s.classOf row unit
      let n := FClass.steps row.cls cls
      let s1 := addEntry (if n = 0 then s else s.bump 0x2700 0x0E top32 n)
        { mkEntry s code unit cls row.ack detail with esc := n != 0, stamp := stamp }
      let s2 := if code = 0x0309 then noteEngine s1 unit detail stamp else s1
      pay (if cls.fatal then aonNote s2 code unit stamp else s2) row cls unit
  else if aonSource code then trip (aonReport s code unit) false
  else s

/-- A report of the present moment reaching the collector. -/
def collect (s : State) (code unit detail : U16) : State := collectAt s code unit detail s.now

/-! ## The end of causes and the latch (R305, R306) -/

/-- A threshold entry names its sensor's present threshold: bit `b` of the sensor's reached thresholds. -/
def State.tsReached (s : State) (unit : U16) (b : Nat) : Bool :=
  if h : unitIndex unit < 16 then s.thm.ts[unitIndex unit].reached.getLsbD b else false

/-- The limit that an entry 0x0804 names: its DETAIL, TEMP_EFF, says whether it is LO_LIMIT or HI_LIMIT. (DEDUCED, log entry 49). -/
def State.limitNamed (s : State) (e : LogEntry) : Nat :=
  if signed 16 e.detail.toNat ≤ signed 16 (s.reg (0x2400 + unitIndex e.unit) 0x0A) then 0 else 3

/-- Whether the cause of an entry is still present (R305). -/
def State.causePresent (s : State) (e : LogEntry) : Bool :=
  match e.code.toNat with
  | 0x0101 => !s.vsysOk
  | 0x0102 => !s.pwr.vio
  | 0x0103 => !s.pwr.vcc5
  | 0x0105 => s.latch.clock
  | 0x010A => s.latch.estop
  | 0x080A => s.latch.die != 0
  | 0x0804 => s.tsReached e.unit (s.limitNamed e)
  | 0x0805 => s.tsReached e.unit 4
  | 0x0809 => s.thm.die140
  | _ => false

/-- No source of Table 1-4 is active. -/
def State.sourcesQuiet (s : State) : Bool :=
  !s.latch.estop && !s.latch.coreReg && !s.latch.clock && s.latch.die == 0

/-- The latch cleared once no unacknowledged class F entry, none that waits in the AON record, and no source remains, unless a hard stop
marked it (R306). -/
def tryClearLatch (s : State) : State :=
  if s.latch.set && !s.latch.hard && s.sourcesQuiet && s.aon.waiting.isEmpty && !(s.unacked.any fun e => e.cls.fatal) then
    chgSettle (applyHolds { s with latch := { s.latch with set := false }, aon := { s.aon with open_ := false } })
  else s

/-- CAUSE_ACTIVE as the entries now stand: an entry that an ACK named and whose cause is present remains (R305).
(DEDUCED, log entry 49). -/
def recause (s : State) : State :=
  { s with flt := { s.flt with cause := s.unacked.any fun e => e.held && s.causePresent e } }

end Sys2Proof.Machine
end

