-- ==== Sys2Proof/Machine/Scripts.lean ====
section
/-! DEFINITION. The sequence engine's work (R211–R221, R393): actions, waits, completion, failure, the ends of scripts, of
partial runs and of handlers. -/

namespace Sys2Proof.Machine
open Sys2Proof

/-! ## What runs -/

/-- What the sequence engine runs now. -/
inductive Runner where
  | script | partial_ | handler
  deriving DecidableEq, Repr

/-- The runner: a script or partial run first, else the innermost handler, which stays where it is while a partial run is queued (R221). -/
def State.runner (s : State) : Option Runner :=
  match s.sqe.stat with
  | .powerUp | .powerDown | .reversal => some .script
  | .partialRun => some .partial_
  | .halted => none
  | .idle => if s.sqe.handlers = [] ∨ s.sqe.queue ≠ [] then none else some .handler

/-- Where the running step stands. -/
structure StepPos where
  step  : Nat
  phase : StepPhase
  since : Nat
  named : BitVec 16
  deriving DecidableEq, Repr

/-- The position of the runner. -/
def State.pos (s : State) : StepPos :=
  match s.runner, s.sqe.handlers with
  | some .handler, h :: _ => { step := h.step, phase := h.phase, since := h.since, named := h.named }
  | _, _ => { step := s.sqe.step, phase := s.sqe.phase, since := s.sqe.since, named := s.sqe.named }

/-- The runner moved to a position. -/
def State.setPos (s : State) (p : StepPos) : State :=
  match s.runner, s.sqe.handlers with
  | some .handler, h :: t =>
    { s with sqe := { s.sqe with
      handlers := { h with step := p.step, phase := p.phase, since := p.since, named := p.named } :: t } }
  | _, _ => { s with sqe := { s.sqe with step := p.step, phase := p.phase, since := p.since, named := p.named } }

/-- A setting of a step object. -/
def State.stepSet (s : State) (step sub : Nat) : Nat := s.reg (0x2340 + step) sub

/-! ## Conditions -/

/-- A rail satisfies a fall wait: OFF or FENCED and below FALL, or treated as fallen (R217). -/
def State.fallenRail (s : State) (r : Fin 16) : Bool :=
  s.sqe.fallen.getLsbD r.1 || ((s.railState r == .off || s.railState r == .fenced) && s.rails[r].belowFall)

/-- Every rail named satisfies the fall wait (R217). -/
def State.fallen (s : State) (named : BitVec 16) : Bool := (maskRails named.toNat).all s.fallenRail

/-- The level of a sequence pin, asserted or released (Table 8-8): SEQINi is asserted at the level its SEQIN_POL bit gives. -/
def State.seqPin (s : State) (i : Nat) : Bool :=
  if i < 4 then s.pins.seqin.getLsbD i != (s.reg 0x2300 0x10).testBit i
  else if i = 4 then s.pins.door else s.pins.svckey

/-- A step's WAIT condition (Table 8-2). -/
def State.waitMet (s : State) (step since : Nat) : Bool :=
  let arg := s.stepSet step 4
  match s.stepSet step 3 with
  | 1 => (maskRails arg).all fun r => s.rails[r].pg
  | 2 => decide (since + arg * 25 ≤ s.coreNow)
  | 3 => s.seqPin (arg % 16) == arg.testBit 8
  | 4 => s.sqe.events.getLsbD (arg % 16)
  | _ => true

/-- The rails a restart run waits for in its present step. -/
def State.restartNow (s : State) : BitVec 16 := s.sqe.named

/-- The wait in progress is met. Forced timing ends or skips every wait (R218); a restart run waits for its rails' power-good
(R221); a turn-off run has no wait of its own, and a reversal repeats none (R219). -/
def State.metNow (s : State) : Bool :=
  match s.runner with
  | some .partial_ => (maskRails s.restartNow.toNat).all fun r => s.rails[r].pg
  | _ => s.sqe.forced || s.sqe.stat == .reversal || s.waitMet s.pos.step s.pos.since

/-- A rail named in a power-good wait that fails it (R215): 3 fenced, 2 tripped with its hiccup retries used up. -/
def State.railFails (s : State) (r : Fin 16) : Nat :=
  if s.railState r = .fenced then 3
  else if s.railState r = .tripped ∧ s.rails[r].hicWait = false ∧ s.enabled r = true
      ∧ s.act (railIdx r.1) 0x4D ≠ 255 ∧ s.act (railIdx r.1) 0x4D ≤ s.rails[r].hicCount then 2
  else 0

/-- The rails of the power-good wait in progress. -/
def State.pgWaits (s : State) : Nat :=
  if s.pos.phase ≠ .wait ∨ s.sqe.forced = true ∨ s.sqe.stat = .reversal then 0
  else match s.runner with
    | some .partial_ => s.restartNow.toNat
    | some _ => if s.stepSet s.pos.step 3 = 1 then s.stepSet s.pos.step 4 % 2 ^ 16 else 0
    | none => 0

/-- The cause with which the power-good wait in progress fails, 0 none. -/
def State.waitFails (s : State) : Nat :=
  (maskRails s.pgWaits).foldl (fun c r => if c = 0 then s.railFails r else c) 0

/-! ## Actions (Table 8-1) -/

/-- A rail blocked by a reached limit with LIMIT_ACT 1 (R285). -/
def State.blocked (s : State) (r : Fin 16) : Bool :=
  (List.finRange 16).any fun i =>
    let x := s.thm.ts[i].reached
    (x.getLsbD 0 || x.getLsbD 3) && s.reg (0x2400 + i.1) 0x12 == 1 && (s.reg (0x2400 + i.1) 0x13).testBit r.1

/-- ENABLE = 1 written to a rail by the sequence engine; a blocked rail stays as it is (R285). -/
def seqEnable (s : State) (r : Fin 16) : State :=
  if s.blocked r ∨ s.phases r = [] ∨ s.rails[r].state = .fenced then s else enableRail (writeEnable s r 1) r

/-- ENABLE = 0 written to a rail; its earlier fall timeout no longer counts. -/
def seqDisable (s : State) (r : Fin 16) : State :=
  let s1 := devDisable s r s.sqe.forced
  { s1 with sqe := { s1.sqe with fallen := clrBit s1.sqe.fallen r.1 } }

/-- Rails of a mask disabled in one action. -/
def disableMask (s : State) (m : Nat) : State :=
  (maskRails m).foldl (fun t r => if r.1 < s.variant.rails then seqDisable t r else t) s

/-- Cause with which an enable action fails its step: 6 a rail has no members, 3 one is fenced, 0 none. -/
def State.enableFails (s : State) (m : Nat) : Nat :=
  (maskRails m).foldl (fun c r =>
    if c ≠ 0 then c else if s.phases r = [] then 6 else if s.railState r = .fenced then 3 else 0) 0

/-- Reset outputs of a mask asserted or released. -/
def setResets (s : State) (m : Nat) (on : Bool) : State :=
  { s with pins := { s.pins with
    rstA := if m.testBit 0 then on else s.pins.rstA
    rstB := if m.testBit 1 then on else s.pins.rstB } }

/-- The other actions of Table 8-1. -/
def plainAction (s : State) (action m : Nat) : State :=
  match action with
  | 3 => setResets s m true
  | 4 => setResets s m false
  | 5 => signalEvent s (m % 16)
  | _ => s

/-! ## Ends -/

/-- The end of a power-down or reversal (R218): both resets asserted, every rail still enabled turned off. -/
def endDown (s : State) : State :=
  let left := s.railList.filter fun r => s.enabled r
  let s1 := left.foldl (fun t r => devDisable t r true) (setResets s 3 true)
  if left = [] then s1 else s1.orReg 0x2300 8 8

/-- Scripts at rest. -/
def idleSqe (s : State) : State :=
  { s with sqe := { s.sqe with stat := .idle, step := 0xFF, phase := .none_, named := 0, second := 0, forced := false,
                               restart := 0, partial_ := none } }

/-- The mode after a SHUTDOWN (Table 3-2). -/
def afterDown (s : State) : State :=
  let s1 := idleSqe (endDown s)
  if s1.md.stopFault then enterMode s1 .safestop 9
  else if s1.md.byHoldup && s1.pwr.vin then
    { s1.orReg 0x2000 8 4 with md := { s1.md with requal := true } }
  else if (s1.reg 0x2000 8).testBit 0 then beginStartup s1 9
  else if s1.md.svcAsked then enterService s1 9
  else enterStandby s1 9

/-- A partial run called (R221): started when none runs, else queued. It is not made while a script runs.
(DEDUCED, log entry 66). -/
def callPartial (s : State) (p : PartialRun) : State :=
  match s.sqe.stat with
  | .idle => if s.sqe.queue = [] then
      { s with sqe := { s.sqe with stat := .partialRun, partial_ := some p, step := 0xFF, phase := .start, named := 0, restart := 0 } }
    else { s with sqe := { s.sqe with queue := s.sqe.queue ++ [p] } }
  | .partialRun => { s with sqe := { s.sqe with queue := s.sqe.queue ++ [p] } }
  | _ => s

/-- What an enabled rail's tag asks at entry to HOLDUP (R80, R269): SHED is turned off by a partial run, TIMED begins its time. -/
def tagRail (s : State) (r : Fin 16) : State :=
  let s1 := s.modRail r fun x => { x with huOff := false, huRun := false }
  if s1.enabled r then
    match s1.act (railIdx r.1) 0x60 with
    | 1 => callPartial (s1.modRail r fun x => { x with huOff := true }) (.turnOff r)
    | 2 => s1.modRail r fun x => { x with huRun := true }
    | _ => s1
  else s1

/-- A partial run that restarts rails (R221). -/
def PartialRun.restarts : PartialRun → Bool
  | .restart _ => true
  | .turnOff _ => false

/-- The restart runs, running and queued, dropped: a rail that is not enabled at entry to HOLDUP stays off (R269). -/
def dropRestarts (s : State) : State :=
  let s1 := { s with sqe := { s.sqe with queue := s.sqe.queue.filter fun p => !p.restarts } }
  if (s.sqe.partial_.map PartialRun.restarts).getD false then idleSqe s1 else s1

/-- HOLDUP entered: the hold-up time starts and every rail acts on its tag (R80). With the hold-up lost it counts as expired, and
the power-down runs with forced timing (R266). -/
def enterHoldup (s : State) (cause : Nat) : State :=
  let s1 := enterMode s .holdup cause
  let s2 := { s1 with chg := { s1.chg with holdAt := s1.coreNow } }
  if s2.chg.holdupLost then
    if s2.herdFollows then forcedOff s2 8
    else
      let s3 := forceTiming (beginPowerDown s2 8)
      { s3 with md := { s3.md with byHoldup := true } }
  else s2.railList.foldl tagRail (dropRestarts s2)

/-- The end of the power-up script: RUN with VIN present, HOLDUP without. -/
def afterUp (s : State) : State :=
  if s.pwr.vin then enterMode (idleSqe s) .run 9 else enterHoldup (idleSqe s) 9

/-- The end of a partial run; the next of the queue waits for its start. -/
def endPartial (s : State) : State := idleSqe s

/-- The end of a handler: the one below it resumes at its own step. -/
def endHandler (s : State) : State := { s with sqe := { s.sqe with handlers := s.sqe.handlers.tail } }

/-! ## Completion -/

/-- The step of the power-up script, from `at_` on, that enables some of a set of rails. -/
def State.upStepFor (s : State) (at_ : Nat) (m : BitVec 16) : Option Nat :=
  (List.range 64).find? fun j =>
    at_ ≤ j && s.reg 0x2300 1 ≤ j && j < s.reg 0x2300 1 + s.reg 0x2300 2 && s.stepSet j 1 == 1
      && (s.stepSet j 2 &&& m.toNat) != 0

/-- Whether a power-down step's disable action names a rail. -/
def State.downNames (s : State) (r : Fin 16) : Bool :=
  (List.range 64).any fun j =>
    s.reg 0x2300 3 ≤ j && j < s.reg 0x2300 3 + s.reg 0x2300 4 && s.stepSet j 1 == 2 && (s.stepSet j 2).testBit r.1

/-- The runner's step is complete: the next is to start, or the run ends. -/
def nextStep (s : State) : State :=
  let p := s.pos
  match s.sqe.stat with
  | .powerUp =>
    if s.herdFollows then { s.setPos { p with phase := .none_ } with herd := { s.herd with stepDone := 2 } }
    else if p.step + 1 < s.reg 0x2300 1 + s.reg 0x2300 2 then s.setPos { p with step := p.step + 1, phase := .start, named := 0 }
    else afterUp s
  | .powerDown =>
    if s.herdFollows then { s.setPos { p with phase := .none_ } with herd := { s.herd with stepDone := 2 } }
    else if p.step + 1 < s.reg 0x2300 3 + s.reg 0x2300 4 then s.setPos { p with step := p.step + 1, phase := .start, named := 0 }
    else afterDown s
  | .reversal =>
    if s.herdFollows then { s.setPos { p with phase := .none_ } with herd := { s.herd with stepDone := 2 } }
    else if s.reg 0x2300 1 < p.step ∧ p.step < 64 then s.setPos { p with step := p.step - 1, phase := .start, named := 0 }
    else afterDown s
  | .partialRun =>
    match s.sqe.partial_ with
    | some (.restart _) => s.setPos { p with step := p.step + 1, phase := .start, named := 0 }
    | _ => endPartial s
  | .halted => s
  | .idle =>
    match s.sqe.handlers with
    | [] => s
    | h :: t =>
      if h.left ≤ 1 then endHandler s
      else { s with sqe := { s.sqe with
        handlers := { h with step := h.step + 1, left := h.left - 1, phase := .start, named := 0 } :: t } }

/-- The wait of a step begins. -/
def beginWait (s : State) : State := s.setPos { s.pos with phase := .wait, since := s.coreNow, named := if s.runner = some .partial_ then s.pos.named else 0 }

/-! ## Failure (R215, Table 8-3) -/

/-- An abort in the power-up script, a restart run or a handler: fault 0x0602 and an orderly stop. -/
def abortUp (s : State) : State :=
  let s1 := collect (s.orReg 0x2300 8 0x10) 0x0602 (unitCode 9 0) (BitVec.ofNat 16 s.pos.step)
  if s1.md.mode = .safestop then s1 else orderlyStop s1

/-- An abort in a restart run, which ends, a follower's too, whose mode its master changes (R221). -/
def abortRestart (s : State) : State :=
  let s1 := abortUp s
  if s1.sqe.stat = .partialRun then idleSqe s1 else s1

/-- An abort in a handler, which is abandoned, a follower's too, whose mode its master changes (R393). -/
def abortHandler (s : State) : State :=
  let s1 := abortUp s
  if s1.sqe.handlers = s.sqe.handlers then endHandler s1 else s1

/-- The policy of a failed step (Table 8-3); a follower's own policies are not used: it reports the failure (R244). -/
def applyPolicy (s : State) (policy : Nat) : State :=
  if s.herdFollows = true ∧ s.runner = some .script then
    { s.setPos { s.pos with phase := .none_ } with herd := { s.herd with stepDone := 3 } }
  else match s.sqe.stat with
  | .powerUp =>
    if policy = 0 then { s with sqe := { s.sqe with stat := .halted } }
    else if policy = 1 then nextStep s
    else abortUp s
  | .powerDown => if policy = 2 then nextStep (forceTiming (s.orReg 0x2300 8 0x10)) else nextStep s
  | .partialRun =>
    match s.sqe.partial_ with
    | some (.restart _) => if policy = 2 then abortRestart s else nextStep s
    | _ => if policy = 2 then nextStep (forceTiming (s.orReg 0x2300 8 0x10)) else nextStep s
  | .idle => if policy = 2 then abortHandler s else nextStep s
  | .halted | .reversal => s

/-- A step fails: recorded, reported as 0x0601, its policy applied. -/
def failStep (s : State) (cause : Nat) : State :=
  let step := s.pos.step
  let s1 := (((s.orReg 0x2300 8 1).setReg 0x2300 9 step).setReg 0x2300 0x0A s.now.toNat).setReg 0x2300 0x0B cause
  applyPolicy (logOnly s1 0x0601 (unitCode 9 0) (BitVec.ofNat 16 step)) (s1.stepSet step 6)

/-- The evaluation after a fence or a trip: the power-good wait in progress fails when a rail it names cannot meet it. -/
def judgeWaits (s : State) : State := if s.waitFails = 0 then s else failStep s s.waitFails

/-- A step's wait begun: a power-good wait on a rail that cannot meet it fails at once (R215). -/
def enterWait (s : State) : State := judgeWaits (beginWait s)

/-- A report reaching the collector, and what it makes of a wait in progress. -/
def report (s : State) (code unit detail : U16) : State := judgeWaits (collect s code unit detail)

/-- A report of an earlier moment (R53, R54). -/
def reportAt (s : State) (code unit detail : U16) (stamp : U32) : State := judgeWaits (collectAt s code unit detail stamp)

/-! ## The start of a step -/

/-- An enable action: every rail it can enable, then the step's wait, or its failure with the step started (R215). -/
def enableAction (s : State) (m : Nat) : State :=
  let c := s.enableFails m
  let s1 := (maskRails m).foldl seqEnable s
  if c = 0 then enterWait s1 else failStep (s1.setPos { s1.pos with phase := .wait, since := s1.coreNow, named := 0 }) c

/-- A disable action: the rails off, then the fall wait. -/
def disableAction (s : State) (m : Nat) : State :=
  let s1 := disableMask s m
  s1.setPos { s1.pos with phase := .fall, since := s1.coreNow, named := BitVec.ofNat 16 m }

/-- The step's action applied (R212). -/
def startPlain (s : State) : State :=
  let step := s.pos.step
  let m := s.stepSet step 2
  match s.stepSet step 1 with
  | 1 => enableAction s m
  | 2 => disableAction s m
  | a => enterWait (plainAction s a m)

/-- Every member that is not lost has reported the running step complete; in a reversal, which must end, a report of failure will do (R244).
-/
def State.herdReady (s : State) : Bool :=
  (List.range 16).all fun i =>
    !s.herdMembers.testBit i || (s.reg 0x2D00 6).testBit i || s.herd.done.getLsbD i
      || (s.sqe.stat == .reversal && s.herd.failed.getLsbD i)

/-- A step undone on this node: the reversal goes on once every member has undone its own (R244). -/
def undone (s : State) : State :=
  if s.herdReady then nextStep s else s.setPos { s.pos with phase := .wait, since := s.coreNow, named := 0 }

/-- A step undone (R219): the rails an enable action named that are still enabled go off, those not power-good first; a release
of resets becomes an assertion; everything else has nothing to undo. -/
def startUndo (s : State) : State :=
  let step := s.pos.step
  if 64 ≤ step then nextStep s
  else match s.stepSet step 1 with
    | 1 =>
      let on := (maskRails (s.stepSet step 2)).filter fun r => s.enabled r
      let bad := bitsOf ((List.finRange 16).map fun r => on.contains r && !s.rails[r].pg)
      let good := bitsOf ((List.finRange 16).map fun r => on.contains r && s.rails[r].pg)
      let first := if bad = 0 then good else bad
      let second := if bad = 0 then 0 else good
      if first = 0 then undone s
      else
        let s1 := disableAction s first
        { s1 with sqe := { s1.sqe with second := BitVec.ofNat 16 second } }
    | 4 => undone (setResets s (s.stepSet step 2) true)
    | _ => undone s

/-- The rails that no power-up step names, enabled by a plain ENABLE = 1 in increasing number (R221). -/
def restartPlain (s : State) (m : BitVec 16) : State := endPartial ((maskRails m.toNat).foldl seqEnable s)

/-- A restart run's next step: the enable action of the next power-up step that names some of its rails, applied to them. -/
def startRestart (s : State) (m : BitVec 16) : State :=
  let at_ := if s.sqe.step = 0xFF then 0 else s.sqe.step
  match s.upStepFor at_ m with
  | none => restartPlain s (m &&& ~~~s.sqe.restart)
  | some j =>
    let here := BitVec.ofNat 16 (s.stepSet j 2) &&& m
    let s1 := { s with sqe := { s.sqe with step := j, named := here, restart := s.sqe.restart ||| here } }
    let c := s1.enableFails here.toNat
    let s2 := (maskRails here.toNat).foldl seqEnable s1
    if c = 0 then enterWait s2 else failStep s2 c

/-- A partial run's step started (R221). -/
def startPartial (s : State) : State :=
  match s.sqe.partial_ with
  | some (.turnOff r) =>
    if s.downNames r then disableAction s (2 ^ r.1)
    else endPartial (seqDisable s r)
  | some (.restart m) => startRestart s m
  | none => endPartial s

/-- Every sensor with MODE not 0 has left INIT (R287). -/
def State.sensorsRead (s : State) : Bool :=
  (List.finRange 16).all fun i => s.reg (0x2400 + i.1) 1 == 0 || s.thm.ts[i].status != .init

/-- A power-up whose first step has not begun and does not begin yet: a sensor has not been read, or a follower that has a stop cause reached
waits for its master's reversal (R243, R287). -/
def State.firstWaits (s : State) : Bool :=
  s.sqe.stat == .powerUp && !s.sqe.begun && (!s.sensorsRead || (s.herdFollows && s.stopCause))

/-- The step index lies in the script that runs. -/
def State.inScript (s : State) : Bool :=
  match s.sqe.stat with
  | .powerUp => s.reg 0x2300 1 ≤ s.sqe.step && s.sqe.step < s.reg 0x2300 1 + s.reg 0x2300 2
  | .powerDown => s.reg 0x2300 3 ≤ s.sqe.step && s.sqe.step < s.reg 0x2300 3 + s.reg 0x2300 4
  | _ => true

/-- STEP frames that the master sends at its own step start (R242, R244). -/
def tellStep (s : State) : State :=
  let v := s.sqe.step % 64 + (if s.sqe.forced then 64 else 0) + (if s.sqe.stat = .reversal then 128 else 0)
  let s1 := herdSend s (herdFrame 2 0 [BitVec.ofNat 8 v])
  { s1 with herd := { s1.herd with done := 0, failed := 0 } }

/-- The pending step of the runner started. -/
def startStep (s : State) : State :=
  match s.runner with
  | none => s
  | some .handler => startPlain s
  | some .partial_ => startPartial s
  | some .script =>
    if s.sqe.stat = .reversal then startUndo (if s.sqe.step < 64 then tellStep s else s)
    else if s.inScript || s.herdFollows then startPlain (tellStep { s with sqe := { s.sqe with begun := true } })
    else if s.sqe.stat = .powerUp then afterUp s else afterDown s

/-- The fall wait is over: the second part of an undone step, or the step's own wait. A disable action that a reversal found in its
fall wait is completed, and its step is then undone in the whole herd, by a follower when its master's STEP frame has come (R219, R244). -/
def afterFall (s : State) : State :=
  match s.runner with
  | some .script =>
    if s.sqe.stat = .reversal then
      if s.stepSet s.sqe.step 1 = 2 then
        if s.herdFollows && s.herd.stepDone != 1 then s.setPos { s.pos with phase := .none_, named := 0 } else startUndo (tellStep s)
      else if s.sqe.second = 0 then undone s
      else
        let s1 := disableAction { s with sqe := { s.sqe with second := 0 } } s.sqe.second.toNat
        s1
    else enterWait s
  | some .partial_ => endPartial s
  | some .handler => enterWait s
  | none => s

/-- One evaluation of the runner (R212): the fall wait, or the wait of the step, which is met, fails (R215) or goes on. -/
def evaluate (s : State) : State :=
  match s.pos.phase with
  | .fall => if s.fallen s.pos.named then afterFall s else s
  | .wait =>
    if s.metNow && (s.runner != some .script || s.herdReady) then nextStep s else judgeWaits s
  | _ => s

end Sys2Proof.Machine
end

