-- ==== Sys2Proof/Machine/Checks.lean ====
section
/-! DEFINITION. Check 7 of Table 12-2: encodings, ranges and the cross-field rules of R13, over the values a write would leave. -/

namespace Sys2Proof.Machine
open Sys2Proof

/-- The values an access would leave: index and subindex to value. -/
abbrev Look := Nat → Nat → Nat

/-- Values of one write: index, subindex, value. -/
abbrev Vals := List (Nat × Nat × Nat)

/-- The value that a list of writes gives a subindex, the last one standing. -/
def Vals.find (vs : Vals) (idx sub : Nat) : Option Nat :=
  vs.foldl (fun a v => if v.1 = idx ∧ v.2.1 = sub then some v.2.2 else a) none

/-- The pending values with those of a write laid over them. -/
def State.lookWith (s : State) (vs : Vals) : Look := fun idx sub => (vs.find idx sub).getD (s.reg idx sub)

/-- The pending values with a group's staged values, then those of a write, laid over them: what a tagged write leaves (R326). -/
def State.lookStaged (s : State) (staged : List (Key × Nat)) (vs : Vals) : Look := fun idx sub =>
  (vs.find idx sub).getD (cellGet staged (key idx sub) (s.reg idx sub))

/-- The pending values with those of a write, then a group's staged values, laid over them: what the group's release leaves after an
untagged write (R326). -/
def State.lookUnder (s : State) (staged : List (Key × Nat)) (vs : Vals) : Look := fun idx sub =>
  cellGet staged (key idx sub) (s.lookWith vs idx sub)

/-! ## Ports and rails -/

/-- Bounds of a port (R97, R123). -/
def portOk (look : Look) (idx : Nat) : Bool :=
  let code := limitCode (look idx 5) (look idx 4)
  1 ≤ code && code ≤ 511 && look idx 0x21 ≤ look idx 5 && look idx 0x28 ≤ look idx 5 && look idx 0x2A ≤ look idx 0x28

/-- VSET, DIV_RATIO and TRUNC_THR (R163). -/
def vsetOk (look : Look) (idx : Nat) : Bool :=
  let vset := look idx 8
  let div := look idx 9
  let thr := look idx 0x10
  50000 * 65536 ≤ vset * div && vset * div ≤ 1900000 * 65536
    && (thr == 0 || (4000 * 65536 ≤ thr * div && thr * div ≤ 500000 * 65536))
    && (vset + thr) * div ≤ 2047500 * 65536

/-- The supervisor's thresholds (R223). -/
def thresholdsOk (look : Look) (idx : Nat) : Bool :=
  let div := look idx 9
  ([0x40, 0x41, 0x42, 0x43, 0x44, 0x45, 0x46].all fun sub => vcSteps (look idx sub) div ≤ 0xFFFE)
    && look idx 0x46 < look idx 0x45 && look idx 0x45 ≤ look idx 0x42 && look idx 0x42 < look idx 0x40
    && look idx 0x43 < look idx 0x42
    && (look idx 0x44 == 0 || look idx 0x45 ≤ look idx 0x44)
    && (look idx 0x41 == 0 || look idx 0x41 ≤ look idx 0x40)

/-- Skimming (R174). -/
def skimOk (look : Look) (idx : Nat) : Bool :=
  look idx 0x12 != 1 || look idx 0x13 * (look idx 0x17 + 1) < look idx 0x14 * look idx 0x17

/-- Number of ones in the low `n` bits. -/
def ones (n m : Nat) : Nat := ((List.range n).filter fun i => m.testBit i).length

/-- MIN_PHASES and MIN_LIVE against N_PHASES (R185). -/
def minPhasesOk (look : Look) (idx : Nat) : Bool :=
  let n := max 1 (ones 32 (look idx 1))
  look idx 0x17 ≤ n && look idx 0x18 ≤ n

/-- SHARE_MAX within I_LIM of each phase (Table 5-4). -/
def shareOk (look : Look) (idx : Nat) : Bool :=
  (List.range 32).all fun n => !(look idx 1).testBit n || look idx 0x26 ≤ look (portIdx n) 5

/-- A PORT_MASK that R156 refuses under R13: absent ports, more than eight ports, OFF or mixed personalities, an odd port of a
BB4 pair, more than one LSW, COIL or FAN port. -/
def maskOk (v : Variant) (look : Look) (m : Nat) : Bool :=
  let ns := (List.range 32).filter fun n => m.testBit n
  let pers := fun n => look (portIdx n) 1
  m < 2 ^ v.ports
    && ns.length + (ns.filter fun n => pers n == 3).length ≤ 8
    && (ns.all fun n => pers n != 0 && !(pers n == 3 && n % 2 == 1))
    && (match ns with
        | [] => true
        | n :: _ => (ns.all fun k => pers k == pers n) && (isConverter (pers n) || ns.length ≤ 1))

/-- The checks of a rail's object after a write of `sub`. A PORT_MASK write lowers MIN_PHASES and MIN_LIVE itself (R185). -/
def railOk (v : Variant) (look : Look) (idx sub : Nat) : Bool :=
  if sub = 1 then maskOk v look (look idx 1) && minPhasesOk look idx
  else vsetOk look idx && thresholdsOk look idx && (!([0x12, 0x13, 0x14, 0x17].contains sub) || skimOk look idx) && (sub != 0x17 && sub != 0x18 || minPhasesOk look idx)
    && (sub != 0x26 || shareOk look idx)

/-! ## Scripts, steps, handlers -/

/-- Two runs of steps share none. -/
def apart (f1 n1 f2 n2 : Nat) : Bool := n1 == 0 || n2 == 0 || f1 + n1 ≤ f2 || f2 + n2 ≤ f1

/-- A handler fits, and shares no step with a script (R393). -/
def handlerOk (look : Look) (src : Nat) : Bool :=
  let f := look (0x2A40 + src) 3
  let n := look (0x2A40 + src) 4
  n == 0 || (f != 0xFF && f + n ≤ 64 && apart f n (look 0x2300 1) (look 0x2300 2)
    && apart f n (look 0x2300 3) (look 0x2300 4))

/-- The scripts (R211), and every handler against them (R393). -/
def scriptsOk (look : Look) : Bool :=
  look 0x2300 1 + look 0x2300 2 ≤ 64 && look 0x2300 3 + look 0x2300 4 ≤ 64
    && apart (look 0x2300 1) (look 0x2300 2) (look 0x2300 3) (look 0x2300 4)
    && (List.range 64).all fun i => handlerOk look i

/-- A unit code that Table 11-2 names. (DEDUCED, log entry 51). -/
def unitCodeOk (x : Nat) : Bool :=
  match x / 256 with
  | 0x00 => x % 256 ≤ 10
  | 0x01 => x % 256 < 32
  | 0x05 => x % 256 < 33
  | 0x02 => x % 256 < 8
  | 0x03 | 0x06 | 0x0A => x % 256 < 16
  | 0x04 => x % 256 < 20
  | 0x07 => x % 256 < 9
  | 0x0D => x % 256 < 2
  | 0x08 | 0x09 | 0x0B | 0x0C => x % 256 = 0
  | _ => false

/-- A step's MASK and WAIT_ARG name no absent rail and no reserved pin (R248); bits outside the fields of Tables 8-1 and 8-2 are
ignored (R12). (DESIGN CHOICE, log entry 92). -/
def stepOk (v : Variant) (look : Look) (idx : Nat) : Bool :=
  let m := look idx 2
  let a := look idx 4
  (match look idx 1 with
    | 1 | 2 => m < 2 ^ v.rails
    | _ => true)
    && (match look idx 3 with
      | 1 => a % 65536 < 2 ^ v.rails
      | 2 => a ≤ 60000000
      | 3 => a % 16 ≤ 5
      | _ => true)

/-! ## Sensors, charger -/

/-- A signed 16-bit value. -/
def i16 (n : Nat) : Int := signed 16 n

/-- A sensor's thresholds in strict order and its neighbours (R283, Table 10-7). -/
def sensorOk (look : Look) (idx : Nat) : Bool :=
  let i := idx - 0x2400
  let nb := fun n => n == 0xFF || (n < 16 && n != i)
  decide (i16 (look idx 0x0A) < i16 (look idx 0x0B)) && decide (i16 (look idx 0x0B) < i16 (look idx 0x0C))
    && decide (i16 (look idx 0x0C) < i16 (look idx 0x0D)) && decide (i16 (look idx 0x0D) < i16 (look idx 0x0E))
    && nb (look idx 8) && nb (look idx 9) && (look idx 8 == 0xFF || look idx 8 != look idx 9)

/-- Range of a per-cell voltage by chemistry (Table 9-11); CHEM 0 accepts the LFP ranges (R251). -/
def cellRange (chem sub : Nat) : Nat × Nat :=
  if chem = 2 then
    match sub with
    | 5 => (4000, 4200)
    | 6 => (3900, 4150)
    | 7 => (3800, 4100)
    | 8 => (2800, 3300)
    | _ => (3000, 3600)
  else
    match sub with
    | 5 => (3450, 3650)
    | 6 => (3300, 3450)
    | 7 => (3150, 3400)
    | 8 => (2500, 3000)
    | _ => (2500, 3200)

/-- The chemistry defaults of Table 9-1 that a write of CHEM loads. -/
def chemDefaults (chem : Nat) : Vals :=
  if chem = 2 then [(0x2500, 5, 4200), (0x2500, 6, 4100), (0x2500, 7, 4000), (0x2500, 8, 3000), (0x2500, 0x25, 3300)]
  else [(0x2500, 5, 3600), (0x2500, 6, 3400), (0x2500, 7, 3300), (0x2500, 8, 2800), (0x2500, 0x25, 2800)]

/-- The charger's settings (R251, R254, R268, R272). -/
def chargerOk (look : Look) : Bool :=
  let c := fun sub => look 0x2500 sub
  let top := if c 2 = 2 then 4 else 5
  ([5, 6, 7, 8, 0x25].all fun sub => (cellRange (c 2) sub).1 ≤ c sub && c sub ≤ (cellRange (c 2) sub).2)
    && 3 ≤ c 3 && c 3 ≤ top
    && c 8 < c 7 && c 7 < c 6 && c 6 + 50 ≤ c 5
    && decide (i16 (c 0x0F) < i16 (c 0x10)) && decide (i16 (c 0x10) < i16 (c 0x11)) && decide (i16 (c 0x11) < i16 (c 0x12))
    && c 9 * c 4 ≤ 40000000
    && 7000 ≤ c 0x25 * c 3
    && c 0x15 % 50 == 0

/-! ## CAN, two-wire, timebase, the rest -/

/-- Node-ID in force (R331). -/
def State.nodeId (s : State) : Nat := s.can.nodeId

/-- The COB-ID objects of the PDOs. -/
def pdoIdx : List Nat := (List.range 8).map (0x1400 + ·) ++ (List.range 8).map (0x1800 + ·)

/-- Identifiers that Table 12-6 reserves for other services. -/
def reservedId (look : Look) (node id : Nat) : Bool :=
  id == 0 || id == look 0x1005 0 % 2048 || id == 0x80 + node || id == 0x600 + node || id == 0x580 + node || id == 0x700 + node

/-- A PDO is valid: bit 31 of its COB-ID is 0. -/
def pdoValid (look : Look) (idx : Nat) : Bool := !(look idx 1).testBit 31

/-- COB-ID of `idx` after a write (R344). -/
def cobOk (look : Look) (node idx : Nat) : Bool :=
  !pdoValid look idx ||
    (!reservedId look node (look idx 1 % 2048)
      && pdoIdx.all fun j => j == idx || !pdoValid look j || look j 1 % 2048 != look idx 1 % 2048)

/-- Two consumer entries name one node (R336). -/
def consOk (look : Look) : Bool :=
  (List.range 4).all fun i => (List.range 4).all fun j =>
    i == j || look 0x1016 (i + 1) / 65536 % 256 == 0 || look 0x1016 (i + 1) / 65536 % 256 != look 0x1016 (j + 1) / 65536 % 256

/-- A matched address lies in a reserved range, or the mask is too wide (R349). -/
def addrOk (base mask : Nat) : Bool :=
  base < 128 && mask < 128 && ones 7 mask ≤ 3 &&
    (List.range 128).all fun a => (a &&& (127 - mask)) != (base &&& (127 - mask)) || (8 ≤ a && a < 0x78)

/-- ACTION and ARG of a compare channel (R374, Table 14-2). -/
def compareOk (look : Look) (idx : Nat) : Bool :=
  let k := idx - 0x2810
  let a := look idx 4
  let g := look idx 5
  a ≤ 4 && (8 ≤ k || a == 0 || a == 3)
    && (match a with
      | 2 | 4 => g < 8
      | 3 => g < 16 && g != k
      | _ => true)

/-- Tally address: none, or a multiple of 4 within the user area (R408). -/
def tallyAddrOk (a : Nat) : Bool := a == 0xFFFF || (a % 4 == 0 && a ≤ 0x3FFC)

/-- Encodings that a row's range does not say. SVC_PORT names a port that the variant has, or none. (DESIGN CHOICE, log entry 129). -/
def encodingOk (v : Variant) (idx sub x : Nat) : Bool :=
  if idx = 0x2000 ∧ sub = 1 then [0, 1, 3, 6, 7].contains x
  else if idx = 0x2000 ∧ sub = 0x0D then x < v.ports || x == 0xFF
  else if idx = 0x2000 ∧ sub = 0x25 then x == 0x43525354
  else if 0x2100 ≤ idx ∧ idx < 0x2120 ∧ sub = 1 then x ≤ 6 && !(x == 3 && idx % 2 == 1)
  else if 0x2100 ≤ idx ∧ idx < 0x2120 ∧ sub = 0x31 then x < 8 || x == 0xFF
  else if 0x2200 ≤ idx ∧ idx < 0x2210 ∧ sub = 0x5A then x == 0x45564E54
  else if 0x3200 ≤ idx ∧ sub = 7 then x == 0x4C454447
  else if 0x3200 ≤ idx ∧ sub = 3 then x == 1
  else if idx = 0x2300 ∧ sub = 7 then 1 ≤ x && x ≤ 3
  else if idx = 0x2420 ∧ sub = 1 then x < 16 || x == 0xFF
  else if idx = 0x2500 ∧ sub = 0x19 then x == 0x4B43
  else if idx = 0x2500 ∧ sub = 0x27 then x == 1 || x == 2
  else if idx = 0x2600 ∧ sub = 5 then x == 0x3CA5 || x == 0xC35A
  else if idx = 0x2700 ∧ sub = 1 then x != 0
  else if idx = 0x2700 ∧ sub = 6 then unitCodeOk x
  else if 0x2820 ≤ idx ∧ idx < 0x2828 ∧ sub = 2 then x < 8 || x == 8 || (x == 9 && v.big) || x == 10
  else if idx = 0x2900 ∧ sub = 4 then x == 1
  else if 0x2A40 ≤ idx ∧ idx < 0x2A80 ∧ sub = 3 then x < 64 || x == 0xFF
  else if idx = 0x2B00 ∧ sub = 5 then x == 0x5354
  else if idx = 0x2B00 ∧ sub = 7 then x == 0 || (60 ≤ x && x ≤ 86400)
  else if idx = 0x2B00 ∧ 0x0C ≤ sub ∧ sub < 0x14 then tallyAddrOk x
  else if idx = 0x2B00 ∧ 0x14 ≤ sub ∧ sub < 0x1C then x < 64 || x == 0xFD || x == 0xFE || x == 0xFF
  else if idx = 0x2B00 ∧ sub = 0x23 then 1 ≤ x && x ≤ 4
  else if idx = 0x2D00 ∧ sub = 8 then x < 16
  else if idx = 0x2F00 ∧ sub = 1 then v.big || !x.testBit 1
  else if 0x2F02 ≤ idx ∧ idx < 0x2F0A ∧ (sub = 2 ∨ sub = 3) then x == 1
  else if 0x1800 ≤ idx ∧ idx < 0x1808 ∧ sub = 2 then x ≤ 240 || 254 ≤ x
  else if 0x1400 ≤ idx ∧ idx < 0x1408 ∧ sub = 2 then x ≤ 240 || 254 ≤ x
  else if idx = 0x1005 then !x.testBit 30
  else true

/-- Nominal and data rates of Table 12-5, in kbit/s; a data rate of 0 never lies below. -/
def ratesOk (look : Look) : Bool :=
  let nom := match look 0x2F00 4 with | 0 => 125 | 1 => 250 | 2 => 500 | _ => 1000
  let data := match look 0x2F00 5 with | 0 => 1000 | 1 => 1000 | 2 => 2000 | 3 => 4000 | 4 => 5000 | _ => 8000
  nom ≤ data

/-- Two tallies at one address (R408). -/
def talliesOk (look : Look) : Bool :=
  (List.range 8).all fun i => (List.range 8).all fun j =>
    i == j || look 0x2B00 (0x0C + i) == 0xFFFF || look 0x2B00 (0x0C + i) != look 0x2B00 (0x0C + j)

/-- The signed or unsigned value that a row's bytes spell. -/
def Obj.value (o : Obj) (x : Nat) : Int :=
  match o.ty with
  | .num b true => signed (8 * b) x
  | _ => x

/-- A value with its reserved bits dropped (R12). -/
def Obj.keep (o : Obj) (x : Nat) : Nat :=
  match o.mask with
  | some m => x &&& m
  | none => x

/-- A value alone: its range and its encoding. -/
def valueOk (v : Variant) (o : Obj) (idx sub x : Nat) : Bool :=
  decide (o.min ≤ o.value (o.keep x)) && decide (o.value (o.keep x) ≤ o.max) && encodingOk v idx sub (o.keep x)

/-- A written subindex with its related fields, over the values the write would leave.
(DEDUCED, log entry 22). -/
def relatedOk (s : State) (look : Look) (idx sub : Nat) : Bool :=
  if 0x2100 ≤ idx ∧ idx < 0x2120 then portOk look idx
  else if 0x2200 ≤ idx ∧ idx < 0x2210 then railOk s.variant look idx sub
  else if idx = 0x2300 ∧ sub ≤ 4 then scriptsOk look
  else if 0x2340 ≤ idx ∧ idx < 0x2380 then stepOk s.variant look idx
  else if 0x2400 ≤ idx ∧ idx < 0x2410 then sensorOk look idx
  else if idx = 0x2500 ∧ sub ≠ 0x19 ∧ sub ≠ 0x1B ∧ sub ≠ 0x27 then chargerOk look
  else if 0x2A40 ≤ idx ∧ idx < 0x2A80 ∧ (sub = 3 ∨ sub = 4) then handlerOk look (idx - 0x2A40)
  else if 0x2810 ≤ idx ∧ idx < 0x2820 then compareOk look idx
  else if idx = 0x2900 ∧ (sub = 8 ∨ sub = 9) then (look 0x2900 8 &&& look 0x2900 9) == 0
  else if idx = 0x2E00 ∧ (sub = 1 ∨ sub = 2) then addrOk (look 0x2E00 1) (look 0x2E00 2)
  else if (0x1400 ≤ idx ∧ idx < 0x1408 ∨ 0x1800 ≤ idx ∧ idx < 0x1808) ∧ sub = 1 then cobOk look s.nodeId idx
  else if idx = 0x1016 then consOk look
  else if idx = 0x2F00 ∧ (sub = 4 ∨ sub = 5) then ratesOk look
  else if idx = 0x2B00 ∧ 0x0C ≤ sub ∧ sub < 0x14 then talliesOk look
  else true

/-! ## PDO mapping (R338) -/

/-- Subindices that an RPDO entry may not name. -/
def rpdoBarred (idx sub : Nat) : Bool :=
  (idx == 0x2000 && (sub == 0x0A || sub == 0x25)) || (0x2200 ≤ idx && idx < 0x2210 && sub == 0x5A)
    || (idx == 0x2700 && sub == 6) || (0x3200 ≤ idx && idx < 0x3220 && sub == 7)
    || idx == 0x2B00 || idx == 0x2C00 || idx == 0x2F00

/-- Whether a mapping entry may stand in a PDO: a basic type of at most 64 bits, the length it has, the access R338 asks. -/
def mapEntryOk (v : Variant) (isRpdo : Bool) (e : Nat) : Bool :=
  let idx := e / 65536
  let sub := e / 256 % 256
  match findObj v idx sub with
  | none => false
  | some o =>
    (match o.ty with
      | .num b _ => e % 256 == 8 * b
      | _ => false)
      && (if isRpdo then (o.acc == .rw || o.acc == .wo) && !rpdoBarred idx sub else o.acc == .ro || o.acc == .rw)

/-- Bytes of the first `n` entries of a mapping. -/
def mapBytes (look : Look) (idx n : Nat) : Nat := ((List.range n).map fun i => look idx (i + 1) % 256 / 8).sum

/-- The code with which a mapping write is refused under R338, 0 none: the entries that COUNT names stay within 64 bytes, whichever of
them is written. -/
def mapCode (v : Variant) (look : Look) (idx sub x : Nat) : Nat :=
  if !((0x1600 ≤ idx && idx < 0x1608) || (0x1A00 ≤ idx && idx < 0x1A08)) then 0
  else if sub ≠ 0 ∧ mapEntryOk v (idx < 0x1800) x = false then 0x06040041
  else if 64 < mapBytes look idx (look idx 0) then 0x06040042
  else 0

/-- Check 7 over a whole write: 0, or the abort code of the first value that fails. `looks` are the views that R326 asks for; only
a setting has related fields. -/
def valuesCode (s : State) (looks : List Look) (vs : Vals) : Nat :=
  vs.foldl (fun c v =>
    if c ≠ 0 then c
    else match findObj s.variant v.1 v.2.1 with
      | none => 0x06090011
      | some o =>
        if !valueOk s.variant o v.1 v.2.1 v.2.2 then 0x06090030
        else if o.acc ≠ .rw then 0
        else looks.foldl (fun c l =>
          if c ≠ 0 then c else if relatedOk s l v.1 v.2.1 then mapCode s.variant l v.1 v.2.1 v.2.2 else 0x06090030) 0) 0

end Sys2Proof.Machine
end

