-- ==== Sys2Proof/Machine/StateChecks.lean ====
section
/-! DEFINITION. Check 9 of Table 12-2: what the present mode, NMT state and device state refuse, over the values a write would
leave. -/

namespace Sys2Proof.Machine
open Sys2Proof

/-- Not allowed in the present mode, NMT state or device state. -/
def notNow : Nat := 0x08000022

/-- Data cannot be stored. -/
def noStore : Nat := 0x08000020

/-- No data available. -/
def noData : Nat := 0x08000024

/-- Reserved or out of range. -/
def badValue : Nat := 0x06090030

/-! ## Modes -/

/-- What R82 asks of a MODE write of 7. -/
def State.serviceOk (s : State) : Bool :=
  s.pins.svckey && s.md.keySince + 100 * ticksPerMs ≤ s.now64 && s.md.svcStat == 2
    && s.coreNow ≤ s.md.authAt + 10000 * ticksPerMs
    && (s.md.mode == .run || (s.md.mode == .safestop && !s.latch.set))

/-- A MODE write is allowed from the present mode (R62, R71, R82). -/
def State.modeWriteOk (s : State) (x : Nat) : Bool :=
  match x with
  | 0 => (s.md.mode == .standby || s.md.mode == .safestop) && !s.pwr.vin
  | 1 => s.md.mode != .standby && s.md.mode != .ship
  | 3 => s.md.mode != .ship
  | 6 => s.md.mode != .ship
  | 7 => s.serviceOk
  | _ => false

/-- A SVC_PORT write is allowed (R83, R286). -/
def State.svcPortOk (s : State) (x : Nat) : Bool :=
  let cur := s.reg 0x2000 0x0D
  s.md.mode == .service && !s.stopCause
    && (x == 0xFF || x == cur || !((List.finRange 32).any fun n => n.1 == cur && s.isSwitching n))

/-! ## Ports and rails -/

/-- The personality of a port in a view of the settings that a write would leave: the odd port of a pair follows its even port, which
takes it into the pair and frees it (R88). -/
def persIn (look : Look) (n : Nat) : Nat :=
  if n % 2 = 0 then look (portIdx n) 1
  else if look (portIdx (n - 1)) 1 = 3 then 3
  else if look (portIdx n) 1 = 3 then 0
  else look (portIdx n) 1

/-- The even port of a BB4 pair in some view of the settings, or the port itself. -/
def leadOf (look : Look) (n : Nat) : Nat := if persIn look n = 3 ∧ n % 2 = 1 then n - 1 else n

/-- A port is a member of some rail but `except`, in some view of the settings. -/
def inRail (v : Variant) (look : Look) (except n : Nat) : Bool :=
  (List.range v.rails).any fun r => r != except && (look (railIdx r) 1).testBit (leadOf look n)

/-- A personality write is allowed (R25, R89). (DEDUCED, log entry 54). -/
def personalityOk (s : State) (look : Look) (n : Fin 32) (x : Nat) : Bool :=
  let old := s.reg (portIdx n.1) 1
  !inRail s.variant s.reg 99 n.1 && !s.isSwitching n
    && !(old == 3 && n.1 % 2 == 1)
    && (x != 3 || old == 3 || (look (portIdx (n.1 + 1)) 1 == 0 && !inRail s.variant look 99 (n.1 + 1)))

/-- The plan of a view of the settings. -/
def planOf (v : Variant) (look : Look) : Plan :=
  { mask := fun r => if r < v.rails then look (railIdx r) 1 else 0
    fsw := fun r => look (railIdx r) 7
    pers := persIn look }

/-- A PORT_MASK write is allowed (R156, R137). -/
def portMaskOk (s : State) (look : Look) (r : Fin 16) (x : Nat) : Bool :=
  s.railState r == .off && (planOf s.variant look).ok
    && (List.range 32).all fun n => !x.testBit (leadOf look n) || !inRail s.variant look r.1 n

/-- A host's ENABLE write is allowed (R161, R285). -/
def enableOk (s : State) (look : Look) (r : Fin 16) (x : Nat) : Bool :=
  (match s.md.mode with
    | .run | .holdup => true
    | .service =>
      (List.finRange 32).any fun n => n.1 == s.reg 0x2000 0x0D && s.railOf n == some r
    | _ => false)
    && (x == 0 || (look (railIdx r.1) 1 != 0 && !s.blocked r))

/-! ## Owned captures, sensors, fences -/

/-- The FAN port that owns a capture channel, in the active copies (R379). -/
def State.ownerOf (s : State) (k : Nat) : Option (Fin 32) :=
  s.portList.find? fun n => s.pers n.1 == 6 && s.act (portIdx n.1) 0x31 == k

/-- CHG_EN in force. -/
def State.chgEn (s : State) : Bool := (s.reg 0x2500 1).testBit 0

/-- A unit is fenced (R298). -/
def State.isFenced (s : State) (k i : Nat) : Bool :=
  match k with
  | 1 => s.flt.ports.getLsbD i
  | 2 => s.flt.groups.getLsbD i
  | 3 => s.flt.rails.getLsbD i
  | 4 => s.flt.sensors.getLsbD i
  | 8 => s.flt.charger
  | _ => false

/-- The unit that a code of kind `k` and index `i` names is present and of a kind that can be unfenced (Table 11-2, R300).
(DEDUCED, log entry 51). -/
def State.canUnfence (s : State) (k i : Nat) : Bool :=
  match k with
  | 1 => i < s.variant.ports
  | 2 => i < s.variant.ports / 4
  | 3 => i < s.variant.rails
  | 4 => i < 16
  | 8 => i == 0
  | _ => false

/-- ENABLE of the rail of a port is 1. -/
def State.portEnabled (s : State) (n : Fin 32) : Bool :=
  match s.railOf n with
  | none => false
  | some r => s.enabled r

/-- An unacknowledged H or N entry names a unit; either port of a BB4 pair stands for both. -/
def State.entryNames (s : State) (k i : Nat) : Bool :=
  s.unacked.any fun e => e.ack != .a && unitKind e.unit == k
    && (unitIndex e.unit == i || (k == 1 && s.pairLead (unitIndex e.unit) == s.pairLead i))

/-- An UNFENCE write is allowed (R300). -/
def State.unfenceOk (s : State) (x : Nat) : Bool :=
  let k := x / 256
  let i := x % 256
  s.canUnfence k i && s.md.mode != .startup && s.md.mode != .shutdown && !s.entryNames k i
    && !(k == 1 && ((List.finRange 32).any fun n => n.1 == i && s.portEnabled n))
    && !(k == 3 && ((List.finRange 16).any fun r => r.1 == i && s.enabled r))
    && !(k == 2 && (!s.pwr.vdrv.getLsbD i || s.flt.noSpare.getLsbD i))

/-! ## Keep store, identity, dictionary -/

/-- A verification of R412 or R82 runs. -/
def State.verifying (s : State) : Bool := (s.ks.cfgStat == 3 && s.ks.cfgOld == none) || s.md.svcStat == 1

/-- A CFG_CMD write is allowed where its row of Table 15-8 allows it (R411). -/
def State.cfgCmdOk (s : State) (x : Nat) : Bool :=
  s.ks.cfgStat != 1 && s.ks.cfgStat != 3 &&
    match x with
    | 1 => s.coreOn && s.md.mode != .standby
    | 2 => s.coreOn && s.md.mode != .standby && s.ks.cfgStat == 2
    | 3 => s.md.mode == .safestop && !s.latch.set && s.coreOn
    | 4 => s.ks.cfgStat == 2 || s.ks.cfgStat == 5
    | _ => false

/-- The configuration-signing key: 64 bytes then KEY_GEN in the record of kind 6 (R417, Table 15-2). -/
def State.keyGen (s : State) : Nat :=
  match s.recPayload 6 with
  | none => 0
  | some p => leVal ((p.drop 64).take 2)

/-- The signing key in force; 64 × 0x00 with none enrolled. -/
def State.cfgKey (s : State) : List Byte :=
  match s.recPayload 6 with
  | none => List.replicate 64 0
  | some p => p.take 64

/-- The PDO of a communication or mapping object is valid, in the settings as they stand. -/
def mapLocked (s : State) (idx : Nat) : Bool :=
  ((0x1600 ≤ idx && idx < 0x1608) && pdoValid s.reg (idx - 0x200))
    || ((0x1A00 ≤ idx && idx < 0x1A08) && pdoValid s.reg (idx - 0x200))

/-- SEQ_STAT is not IDLE. -/
def State.seqBusy (s : State) : Bool := s.sqe.stat != .idle

/-- A scan of the housekeeping ADC runs (BUSY). -/
def State.adcBusy (s : State) : Bool := s.adc.left != []

/-! ## Check 9 -/

/-- Check 9 of ports. -/
def portNow (s : State) (look : Look) (n : Fin 32) (sub x : Nat) : Bool :=
  if sub = 1 then personalityOk s look n x
  else if sub = 0x31 then
    x == 0xFF || (match s.ownerOf x with
      | none => true
      | some m => m == n)
  else true

/-- Check 9 of rails. (DEDUCED, log entry 87). -/
def railNow (s : State) (look : Look) (r : Fin 16) (sub x : Nat) : Bool :=
  if sub = 1 then portMaskOk s look r x
  else if sub = 3 then enableOk s look r x
  else if sub = 7 then (planOf s.variant look).ok
  else if 0x40 ≤ sub ∧ sub ≤ 0x51 ∧ sub ≠ 0x4C then !s.seqBusy
  else if 0x60 ≤ sub ∧ sub ≤ 0x62 then s.md.mode != .holdup
  else true

/-- A setting of the charger object in Table 9-8, all of which a watchdog fallback locks until the next kick (R264).
(DEDUCED, log entry 79). -/
def fallbackLocks (sub : Nat) : Bool := (1 ≤ sub && sub ≤ 0x16) || sub == 0x18 || sub == 0x24 || sub == 0x25

/-- Check 9 of the charger (R264, R272, R299). -/
def chargerNow (s : State) (sub x : Nat) : Bool :=
  if s.chg.wdStopped && fallbackLocks sub then false
  else if sub = 1 then !x.testBit 0 || (s.reg 0x2500 2 != 0 && s.battSensor.isSome)
  else if sub = 0x27 then x != 1 || (s.chg.state == .fault && !s.flt.charger)
  else true

/-- Check 9 of the keep store and identity (R401, R411, R416, R417). -/
def keepNow (s : State) (idx sub x : Nat) : Bool :=
  if idx = 0x2B00 then
    if sub = 4 ∨ sub = 0x20 then s.reg 0x2B00 0x20 % 2 == 0
    else if sub = 0x23 then s.cfgCmdOk x
    else true
  else true

/-- Check 9 of one value; the rest of a whole write stands in `look`. -/
def nowOk (s : State) (look : Look) (idx sub x : Nat) : Bool :=
  if idx = 0x2000 then
    if sub = 1 then s.modeWriteOk x
    else if sub = 0x0D then s.svcPortOk x
    else if sub = 0x25 then s.md.mode == .safestop
    else true
  else if h : 0x2100 ≤ idx ∧ idx < 0x2120 then portNow s look ⟨idx - 0x2100, by omega⟩ sub x
  else if h : 0x2200 ≤ idx ∧ idx < 0x2210 then railNow s look ⟨idx - 0x2200, by omega⟩ sub x
  else if idx = 0x2300 then
    if 1 ≤ sub ∧ sub ≤ 4 then !s.seqBusy
    else if sub = 7 then s.sqe.stat == .halted
    else true
  else if 0x2340 ≤ idx ∧ idx < 0x2380 then
    !s.seqBusy && !(s.sqe.handlers.any fun h => h.first ≤ idx - 0x2340 && idx - 0x2340 < h.step + h.left)
  else if 0x2400 ≤ idx ∧ idx < 0x2410 then
    !(sub == 1 && x == 0 && s.chgEn && s.reg 0x2420 1 == idx - 0x2400)
  else if idx = 0x2420 then
    sub != 1 || (!s.chgEn && (x == 0xFF || look (0x2400 + x) 1 != 0))
  else if idx = 0x2500 then chargerNow s sub x
  else if idx = 0x2600 then sub != 1 || x == 1 || s.md.mode == .safestop
  else if idx = 0x2700 then sub != 6 || s.unfenceOk x
  else if 0x2820 ≤ idx ∧ idx < 0x2828 then !((sub == 1 || sub == 2) && (s.ownerOf (idx - 0x2820)).isSome)
  else if idx = 0x2900 then
    if sub = 1 then !s.adcBusy || x.testBit 1 == (s.reg 0x2900 1).testBit 1
    else if sub = 2 then !s.adcBusy
    else if sub = 4 then (s.reg 0x2900 1).testBit 0 && s.reg 0x2900 3 != 0 && !s.adcBusy
    else true
  else if idx = 0x2B00 then keepNow s idx sub x
  else if idx = 0x2D00 then !(sub == 1 || sub == 4) || !s.seqBusy
  else if idx = 0x3000 then !(sub == 1 && x.testBit 0 && s.milk.noSpare)
  else !mapLocked s idx

/-- Check 9 over a whole write. -/
def nowCode (s : State) (look : Look) (vs : Vals) : Nat :=
  vs.foldl (fun c v => if c ≠ 0 then c else if nowOk s look v.1 v.2.1 v.2.2 then 0 else notNow) 0

end Sys2Proof.Machine
end

