-- ==== Sys2Proof/Machine/Live.lean ====
section
/-! DEFINITION. What a read of every subindex returns, and what a read changes: the status mirrors (R27), the per-path values
(R323, R345), the read-clear counters, what the charger measures. -/

namespace Sys2Proof.Machine
open Sys2Proof

/-! ## Encodings -/

/-- Table 4-5. -/
def PortState.code : PortState → Nat
  | .off => 0
  | .ready => 1
  | .precharge => 2
  | .switching => 3
  | .held => 4
  | .tripped => 5
  | .fenced => 6
  | .ramp => 7
  | .on => 8
  | .pullIn => 9
  | .hold => 10
  | .release => 11
  | .discharge => 12

/-- Table 6-1. -/
def RailState.code : RailState → Nat
  | .off => 0
  | .prebias => 1
  | .softStart => 2
  | .regulating => 3
  | .slewing => 4
  | .rampDown => 5
  | .tripped => 6
  | .held => 7
  | .fenced => 8

/-- Table 5-9. -/
def EngineState.code : EngineState → Nat
  | .selftest => 0
  | .idle => 1
  | .active => 2
  | .standby => 3
  | .covering => 4
  | .fenced => 5

/-- SEQ_STAT (Table 8-12). -/
def SeqStat.code : SeqStat → Nat
  | .idle => 0
  | .powerUp => 1
  | .powerDown => 2
  | .reversal => 3
  | .halted => 4
  | .partialRun => 5

/-- Table 9-4. -/
def ChgState.code : ChgState → Nat
  | .off => 0
  | .wait => 1
  | .suspend => 2
  | .precharge => 3
  | .fastCC => 4
  | .fastCV => 5
  | .done => 6
  | .fault => 7
  | .noBatt => 8

/-- STATUS (Table 10-7, R294). -/
def TsStatus.code : TsStatus → Nat
  | .off => 0
  | .init => 1
  | .valid => 2
  | .open_ => 3
  | .short => 4
  | .range => 5
  | .deviates => 6

/-- NMT states as the heartbeat carries them (R335). -/
def Nmt.code : Nmt → Nat
  | .stopped => 4
  | .operational => 5
  | .preop => 0x7F

/-- Product codes (R6). (DESIGN CHOICE, log entry 2). -/
def Variant.product : Variant → Nat
  | .hj32 => 0x20
  | .hj16 => 0x10
  | .hj8 => 0x08

/-- A temperature in 0.1 °C; 0x8000 is none. -/
def tempCode (t : Option Int) : Nat :=
  match t with
  | none => 0x8000
  | some x => unsignedOf 16 x

/-- A source number; 0xFF is none. -/
def srcCode (x : Option (Fin 64)) : Nat := (x.map Fin.val).getD 0xFF

/-! ## Slots (R317) -/

/-- A context's transaction has passed its slot to the fence that its mailbox command writes (R361). -/
def Context.holdsSlot (c : Context) : Bool := c.run == some 2 && leVal (c.mbox.toList.take 2) == 0x2F01

/-- A key change whose CAN request waits for its response and holds its slot till then (R319, Table 12-1). -/
def KeyWait.holdsSlot (w : KeyWait) : Bool := w.path == some .canA || w.path == some .canB

/-- Slots that host paths hold: open sessions, waiting fences and key changes, the two-wire transaction in progress, a mailbox command that
writes the fence (Table 12-1, R361). -/
def State.slotsHeld (s : State) : Nat :=
  (s.can.links.toList.filter fun l => l.session.isSome).length + s.cmt.fences.length + (s.ks.keyWaits.filter KeyWait.holdsSlot).length
    + (if s.tw.now.isSome then 1 else 0) + (s.tw.ctx.toList.filter Context.holdsSlot).length

/-- A slot is free to a host path. -/
def State.slotFree (s : State) : Bool := s.slotsHeld < 47

/-- The fewest free slots recorded, with one more granted. -/
def noteSlots (s : State) : State :=
  s.setReg 0x2F00 0x0E (min (s.reg 0x2F00 0x0E) (47 - (s.slotsHeld + 1)))

/-! ## Live values -/

/-- SUPPLY_STAT (Table 2-8). VSTORE_CHG between VSTORE_OK and 6.0 V is a free value, since no command says that 6.0 V is reached
(log entry 42); so is VSTORE_OK while phase 3 of a store drains the capacitor (log entry 42), and VIO_OK with the core domain off, where
VIO is not watched (R45), and VSYS_OK in a brown-out, since no command says that VSYS has passed 6.8 V before it has stayed there for
10 ms. (DESIGN CHOICE, log entry 97). -/
def State.supplyStat (s : State) : Nat :=
  let free := Config.freeValue s.freeCtr
  bitsOf [if s.pwr.vsys = .brownOut then free.getLsbD 249 else s.vsysOk, s.pwr.vin, if s.coreOn then s.pwr.vio else free.getLsbD 254,
    s.pwr.vcc5, s.pwr.vcore, if s.ks.running.isSome then s.pwr.vstoreOk && free.getLsbD 253 else s.pwr.vstoreOk,
    s.pwr.vstoreChg && (!s.pwr.vstoreOk || free.getLsbD 255)]

/-- CLK_STAT. -/
def State.clkStat (s : State) : Nat := bitsOf [s.pwr.xtalOk, s.pwr.refAon, s.pwr.pllLock, s.pwr.dllLock]

/-- Live values of 0x2000. MODE never reads 0 (R69): SHIP answers no path, and until it is left the code of the mode before stands. -/
def State.liveDev (s : State) (sub : Nat) : Nat :=
  match sub with
  | 0x01 => if s.md.mode = .ship then s.md.prev.code else s.md.mode.code
  | 0x02 => s.md.prev.code
  | 0x03 => s.md.stamp.toNat
  | 0x04 => s.md.cause
  | 0x0B => s.md.svcStat
  | 0x20 => s.supplyStat
  | 0x21 => s.pwr.vdrv.toNat
  | 0x22 => s.clkStat
  | 0x24 => s.pwr.resetCause.toNat
  | _ => s.reg 0x2000 sub

/-- I_AVG of a port: the last complete period, a BB4 pair by its even port's converter (R89). -/
def State.iAvg (s : State) (n : Fin 32) : Int :=
  let p := s.ports[n]
  if p.pNum = 0 then 0 else codeMa p.pSum p.pNum (s.act (portIdx n.1) 4)

/-- PHASE_OFS of a port: the offset that R157 gives it, toward which R108 moves its periods. -/
def State.ofsNow (s : State) (n : Fin 32) : Nat :=
  match s.railOf n with
  | none => 0
  | some r => s.ofsOf r n

/-- Live values of a port. -/
def State.livePort (s : State) (n : Fin 32) (sub : Nat) : Nat :=
  let p := s.ports[n]
  match sub with
  | 0x02 => ((s.railOf n).map Fin.val).getD 0xFF
  | 0x03 => p.state.code
  | 0x06 => limitCode (s.shad (portIdx n.1) 5) (s.shad (portIdx n.1) 4)
  | 0x16 => unsignedOf 32 (s.iAvg n)
  | 0x18 => if s.railOf n = none then (Config.idlePeriod n.1).toNat else s.portPer n
  | 0x19 => s.ofsNow n
  | 0x1A => if s.pers n.1 = 3 ∧ n.1 % 2 = 0 then p.region else 0xFF
  | _ => s.reg (portIdx n.1) sub

/-- The TIMED time left of a rail in s, rounded up (Table 9-13). -/
def State.huLeft (s : State) (r : Fin 16) : Nat :=
  if s.md.mode = .holdup ∧ s.rails[r].huRun = true then
    (s.chg.holdAt + s.act (railIdx r.1) 0x61 * 1000 * ticksPerMs - s.coreNow + (1000 * ticksPerMs - 1)) / (1000 * ticksPerMs)
  else 0

/-- Live values of a rail. -/
def State.liveRail (s : State) (r : Fin 16) (sub : Nat) : Nat :=
  let x := s.rails[r]
  let div := s.act (railIdx r.1) 9
  match sub with
  | 0x02 => s.railPers r
  | 0x04 => (s.railState r).code
  | 0x05 => (s.phases r).length
  | 0x06 => (s.actives r).length
  | 0x0D => outputUv x.vref div
  | 0x0E => if x.pNum = 0 then 0 else outputUv (roundHalfUp (x.pSum * 256) x.pNum) div
  | 0x0F => unsignedOf 32 (((s.actives r).map s.iAvg).sum)
  | 0x1A => bitsOf ((s.phases r).map fun n => 1000 ≤ s.ports[n].satRun)
  | 0x4B => bitsOf [x.pg, x.ovWarn, x.uvWarn, x.belowFall, x.hicWait]
  | 0x50 => x.hicCount
  | 0x63 => s.huLeft r
  | _ => s.reg (railIdx r.1) sub

/-- Live values of a loop engine (Table 5-9). -/
def State.liveEng (s : State) (e : Fin 9) (sub : Nat) : Nat :=
  match sub with
  | 0x01 => s.engines[e].state.code
  | 0x02 => if e.1 = 8 then s.engines[e].covers else e.1
  | 0x03 => (s.servesOf e).length
  | 0x04 => (s.mastersOf e).length
  | 0x05 => (s.engFrameRail e).getD 0xFF
  | 0x06 => s.engFrame e
  | 0x07 => s.engLoad e
  | _ => s.reg (engIdx e.1) sub

/-- Live values of a ledger (R180, R181). -/
def State.liveLedger (s : State) (n : Fin 32) (sub : Nat) : Nat :=
  let l := s.ledger[n]
  match sub with
  | 0x01 => unsignedOf 64 (whole l.charge)
  | 0x02 => unsignedOf 64 (whole l.energy)
  | 0x04 => unsignedOf 64 l.snapCharge
  | 0x05 => unsignedOf 64 l.snapEnergy
  | 0x06 => l.snapStamp.toNat
  | 0x08 => l.restored.toNat
  | _ => s.reg (0x3200 + n.1) sub

/-- Live values of the milk round (Table 7-5). -/
def State.liveMilk (s : State) (sub : Nat) : Nat :=
  if h : 0x20 ≤ sub ∧ sub < 0x40 then unsignedOf 32 s.sc[(⟨sub - 0x20, by omega⟩ : Fin 33)].gain
  else if h : 0x40 ≤ sub ∧ sub < 0x60 then unsignedOf 32 s.sc[(⟨sub - 0x40, by omega⟩ : Fin 33)].offset
  else if h : 0x60 ≤ sub ∧ sub < 0x70 then unsignedOf 32 s.vc[(⟨sub - 0x60, by omega⟩ : Fin 16)].gain
  else if h : 0x70 ≤ sub ∧ sub < 0x80 then unsignedOf 32 s.vc[(⟨sub - 0x70, by omega⟩ : Fin 16)].offset
  else match sub with
    | 0x02 => s.milkStat
    | 0x03 => s.milk.slot
    | 0x06 => (s.milk.standin.map Fin.val).getD 0xFF
    | 0x09 => unsignedOf 32 s.sc[(32 : Fin 33)].gain
    | 0x0A => unsignedOf 32 s.sc[(32 : Fin 33)].offset
    | _ => s.reg 0x3000 sub

/-- PIN_STAT (Table 8-12): asserted pins. The commands give the levels of PB and MR each at the moment of its own events alone: at any
other the bit is a free value, the pin's own level; MR that has never been pressed is released. (DESIGN CHOICE, log entry 96). -/
def State.pinStat (s : State) : Nat :=
  let free := Config.freeValue s.freeCtr
  bitsOf ([if s.pins.pressAt == some s.now64 then s.pins.pb else free.getLsbD 252,
    s.pins.mr && (s.pins.mrAt == some s.now64 || free.getLsbD 251), s.pins.svckey, s.pins.door, s.latch.estop] ++ (List.range 4).map s.seqPin)

/-- Live values of the sequencer. SEQ_STEP names a step of a script or restart run; a turn-off run applies one action of a step and
shows none. (DESIGN CHOICE, log entry 119). -/
def State.liveSeq (s : State) (sub : Nat) : Nat :=
  match sub with
  | 0x05 => s.sqe.stat.code
  | 0x06 => if s.sqe.stat = .idle then 0xFF else s.sqe.step
  | 0x0E => s.pinStat
  | _ => s.reg 0x2300 sub

/-- Live values of a TS sensor. -/
def State.liveTs (s : State) (i : Fin 16) (sub : Nat) : Nat :=
  let x := s.thm.ts[i]
  match sub with
  | 0x14 => x.status.code
  | 0x15 => if x.status = .off then 0xFF else x.src
  | 0x16 => tempCode x.raw
  | 0x17 => tempCode x.eff
  | 0x18 => x.reached.toNat + (if x.suspect then 32 else 0)
  | _ => s.reg (0x2400 + i.1) sub

/-- Live values of a die sensor (R294); a fenced one is not VALID (Table 11-3): 5, or 6 if it deviates.
(DESIGN CHOICE, log entry 121). -/
def State.liveDie (s : State) (d : Fin 4) (sub : Nat) : Nat :=
  let x := s.thm.die[d]
  match sub with
  | 0x14 => if x.status = .valid ∧ s.flt.sensors.getLsbD (16 + d.1) = true then TsStatus.range.code else x.status.code
  | 0x16 | 0x17 => tempCode x.reading
  | _ => s.reg (0x2410 + d.1) sub

/-- Live values of the thermal object. -/
def State.liveThermal (s : State) (sub : Nat) : Nat :=
  match sub with
  | 0x05 => s.policyOf s.md.mode
  | 0x06 => if s.thm.recovery then 1 else 0
  | 0x07 => tempCode s.thm.dieTemp
  | 0x08 => bitsOf [s.thm.die125, s.thm.die140, s.thm.noValid]
  | _ => s.reg 0x2420 sub

/-- IIN_LIM governs: as the last 100 ms tick said in a charging phase, a free value in DONE and NO_BATT, which no tick judges
(log entry 1), and never while the gates are low. -/
def State.limitedIn (s : State) : Bool :=
  s.chargerOn && (if s.chg.state.phase then s.chg.limInput else (Config.freeValue s.freeCtr).getLsbD 250)

/-- CHG_STAT (Table 9-12). The reductions of R261 govern in FAST_CC and FAST_CV alone. -/
def State.chgStat (s : State) : Nat :=
  let c := s.chg
  bitsOf [s.chargerOn, c.searching, s.limitedIn, s.chargerOn && (c.state == .fastCC || c.state == .fastCV) && c.limThermal && s.reduces, c.batt, c.holdupLost, c.vinLow,
    c.demandLtd, c.wdStopped]

/-- HU_REMAIN (Table 9-11). -/
def State.huRemain (s : State) : Nat :=
  let t := s.chgSet 0x24
  if t = 0 then 0xFFFFFFFF
  else if s.md.mode = .holdup then
    (s.chg.holdAt + t * 1000 * ticksPerMs - s.coreNow + (1000 * ticksPerMs - 1)) / (1000 * ticksPerMs)
  else t

/-- IIN_LIM: IIN_MAX without a search, and never above IIN_MAX − 50 mA's step (R256). -/
def State.iinNow (s : State) : Nat := if (s.reg 0x2500 1).testBit 1 then s.chg.iinLim else s.chgSet 0x15

/-- Live values of the charger; what its converters measure is drawn as it is copied. -/
def State.liveChg (s : State) (sub : Nat) : Nat :=
  match sub with
  | 0x17 => s.iinNow
  | 0x1A => s.chg.state.code
  | 0x1C => s.chgStat
  | 0x1D => s.chg.zone
  | 0x1E => s.chg.vbat
  | 0x1F => (s.chg.iOut % 0x100000000).toNat
  | 0x20 => s.chg.vinMv
  | 0x21 => s.chg.iin
  | 0x22 => s.chg.tSafe / 20
  | 0x23 => s.chg.tPre / 10
  | 0x26 => s.huRemain
  | _ => s.reg 0x2500 sub

/-- WD_STAT (Table 14-9): 0 off, 1 first period, 2 closed window, 3 open window; bit 2 first key armed. -/
def State.wdOpens (s : State) : Nat := s.wd.length * Config.winFrac.toNat / 4

/-- Live values of the watchdog. -/
def State.liveWd (s : State) (sub : Nat) : Nat :=
  match sub with
  | 0x04 => Config.winFrac.toNat
  | 0x08 => s.wd.checked.toNat
  | 0x09 => s.wd.count
  | 0x0A =>
    if !s.wd.running then 0
    else (if s.wd.first then 1 else if s.wd.count < s.wdOpens then 2 else 3) + (if s.wd.key.isSome then 4 else 0)
  | _ => s.reg 0x2600 sub

/-- Unacknowledged entries of some classes. -/
def State.unackedOf (s : State) (p : FClass → Bool) : Nat := (s.unacked.filter fun e => p e.cls).length

/-- Live values of the fault collector. -/
def State.liveColl (s : State) (sub : Nat) : Nat :=
  match sub with
  | 0x02 => s.unackedOf fun x => x == FClass.c
  | 0x03 => s.unackedOf fun x => x == FClass.u
  | 0x04 => s.unackedOf FClass.fatal
  | 0x05 => bitsOf [s.latch.set, s.latch.hard, s.flt.cause, s.flt.charger]
  | 0x07 => s.flt.ports.toNat
  | 0x08 => s.flt.groups.toNat
  | 0x09 => s.flt.rails.toNat
  | 0x0A => s.flt.sensors.toNat
  | 0x0B => s.flt.engines.toNat
  | 0x0C => s.flt.sc.toNat
  | 0x0D => s.flt.vc.toNat
  | 0x10 => s.aon.trips
  | 0x11 => s.aon.firstCode.toNat
  | 0x12 => s.aon.firstUnit.toNat
  | 0x13 => s.aon.firstStamp.toNat
  | 0x14 => s.aon.lastCode.toNat
  | 0x15 => s.aon.lastUnit.toNat
  | 0x16 => s.aon.lastStamp.toNat
  | _ => s.reg 0x2700 sub

/-- SEQ of an entry; 0 none. -/
def seqOf (e : Option LogEntry) : Nat := (e.map fun x => x.seq.toNat).getD 0

/-- Live values of the fault log. -/
def State.liveLog (s : State) (p : Fin 10) (sub : Nat) : Nat :=
  match sub with
  | 0x01 => seqOf s.log.getLast?
  | 0x02 => seqOf s.log.head?
  | 0x03 => s.paths[p].select
  | 0x05 => seqOf (s.log.find? fun e => !e.acked && e.ack != .a)
  | _ => s.reg 0x2710 sub

/-- Live values of the interrupt controller. -/
def State.liveIrq (s : State) (sub : Nat) : Nat :=
  match sub with
  | 0x02 => s.irq.pend.toNat
  | 0x07 => srcCode s.irq.activeA
  | 0x08 => srcCode s.irq.activeB
  | 0x09 => s.sqe.handlers.length
  | 0x0A => leVal ((s.sqe.handlers.reverse.map fun h => BitVec.ofNat 8 h.src.1)
      ++ List.replicate (4 - s.sqe.handlers.length) 0xFF)
  | _ => s.reg 0x2A00 sub

/-- VERSION of an image (Table 15-7). -/
def imageVersion (img : List Byte) : Nat := leVal ((img.drop 8).take 4)

/-- Live values of the keep store. -/
def State.liveKeep (s : State) (p : Fin 10) (sub : Nat) : Nat :=
  match sub with
  | 0x01 => s.paths[p].ksAddr
  | 0x02 => s.paths[p].ksLen
  | 0x06 => bitsOf [s.ks.running.isSome, s.ks.queued != [] || s.ks.waiting.isSome, s.ks.skipped, s.ks.auto]
  | 0x24 => s.ks.cfgStat
  | 0x29 => s.ks.cfgWork.length
  | _ => s.reg 0x2B00 sub

/-- Live values of the dictionary control object. -/
def State.liveDict (s : State) (p : Fin 10) (sub : Nat) : Nat :=
  match sub with
  | 0x03 => s.can.nodeId
  | 0x08 => s.can.nmt.code
  | 0x0A => s.paths[p].tag
  | 0x0D => 47 - (s.slotsHeld + 1)
  | 0x12 => s.linkStat .a
  | 0x13 => s.linkStat .b
  | 0x14 => min 255 s.can.links[(0 : Fin 2)].txErr + 256 * min 255 s.can.links[(0 : Fin 2)].rxErr
  | 0x15 => min 255 s.can.links[(1 : Fin 2)].txErr + 256 * min 255 s.can.links[(1 : Fin 2)].rxErr
  | _ => s.reg 0x2F00 sub

/-- Live values of the standard objects (Table 12-9). -/
def State.liveStd (s : State) (idx sub : Nat) : Nat :=
  if idx = 0x1001 then s.errReg
  else if idx = 0x1014 then 0x80 + s.can.nodeId
  else if idx = 0x1018 ∧ sub = 2 then s.variant.product
  else if idx = 0x1018 ∧ sub = 4 then leVal (Config.uid.toList.reverse.take 4)
  else s.reg idx sub

/-- Live values of timers and their channels. -/
def State.liveTime (s : State) (idx sub : Nat) : Nat :=
  if idx = 0x2800 then
    (match sub with
      | 1 => s.now.toNat
      | 2 => s.now64
      | 3 => s.tb.wraps.toNat
      | _ => s.reg idx sub)
  else if h : 0x2810 ≤ idx ∧ idx < 0x2820 then
    (if sub = 7 then (if s.tb.cmp[(⟨idx - 0x2810, by omega⟩ : Fin 16)].armed then 1 else 0) else s.reg idx sub)
  else if h : 0x2820 ≤ idx ∧ idx < 0x2828 then
    let c := s.tb.cap[(⟨idx - 0x2820, by omega⟩ : Fin 8)]
    (if sub = 5 then bitsOf [c.armed || (s.ownerOf (idx - 0x2820)).isSome, c.full && (s.ownerOf (idx - 0x2820)).isNone, (s.ownerOf (idx - 0x2820)).isSome]
      else if sub = 6 ∧ (s.ownerOf (idx - 0x2820)).isSome then 0 else s.reg idx sub)
  else s.reg idx sub

/-- Live values of the ADC: a SAMPLE carries the reading path's own FRESH bit (R429). -/
def State.liveAdc (s : State) (p : Fin 10) (idx sub : Nat) : Nat :=
  if idx = 0x2900 then
    (match sub with
      | 5 => bitsOf [s.adcBusy, s.adc.refRdy]
      | 6 => s.adc.left.head?.getD 0xFF
      | _ => s.reg idx sub)
  else if sub = 1 then s.reg idx 1 + (if s.paths[p].fresh.getLsbD (idx - 0x2940) then 0x10000 else 0)
  else s.reg idx sub

/-- Live values of the herd and two-wire objects. -/
def State.liveBus (s : State) (idx sub : Nat) : Nat :=
  if idx = 0x2D00 then
    match sub with
    | 2 => s.pwr.strap.toNat
    | 3 => s.herdRole
    | 5 => s.herd.present.toNat
    | 0x0A => if s.pwr.strap = 0 then s.md.mode.code else s.herd.masterMode
    | _ => s.reg idx sub
  else if sub = 3 then 2 ^ ones 7 s.tw.mask.toNat else s.reg idx sub

/-- A write of a control-plane setting is accepted and not yet transferred. -/
def State.awaits (s : State) (idx sub : Nat) : Bool :=
  (s.cmt.out.any fun o => o.vals.any fun v => v.1 == key idx sub)
    || s.can.rpdo.toList.any fun o => ((o.map fun x => x.2.any fun v => v.1 == key idx sub).getD false)

/-- A setting as a read shows it: pending while a transfer is outstanding, else the shadow (R19). -/
def State.setting (s : State) (idx sub : Nat) : Nat :=
  if s.awaits idx sub then s.reg idx sub else s.shad idx sub

/-! ## The status mirrors (R27) -/

/-- Status of a port, of a rail and of a loop engine that a host reads from its mirror. (DESIGN CHOICE, log entry 102). -/
def portMirrors : List Nat := [0x03, 0x12, 0x13, 0x14, 0x15, 0x16, 0x17, 0x18, 0x19, 0x1A, 0x34]

/-- Of a rail. -/
def railMirrors : List Nat := [0x04, 0x06, 0x0D, 0x0E, 0x0F, 0x1A, 0x4B, 0x50, 0x63]

/-- Of a loop engine. -/
def engMirrors : List Nat := [0x01, 0x02, 0x03, 0x04, 0x05, 0x06, 0x07, 0x0E, 0x0F, 0x10, 0x11]

/-- A status copied into its mirror. -/
def State.copyStatus (s : State) (idx sub v : Nat) : State := { s with mirror := cellPut s.mirror (key idx sub) v 0 }

/-- A status as its mirror holds it. -/
def State.mirrored (s : State) (idx sub : Nat) : Nat := cellGet s.mirror (key idx sub) 0

/-- A port's status copied. -/
def mirrorPort (s : State) (n : Fin 32) : State :=
  portMirrors.foldl (fun t sub => t.copyStatus (portIdx n.1) sub (s.livePort n sub)) s

/-- A rail's status copied. -/
def mirrorRail (s : State) (r : Fin 16) : State :=
  railMirrors.foldl (fun t sub => t.copyStatus (railIdx r.1) sub (s.liveRail r sub)) s

/-- A loop engine's status copied. -/
def mirrorEngine (s : State) (e : Fin 9) : State :=
  engMirrors.foldl (fun t sub => t.copyStatus (engIdx e.1) sub (s.liveEng e sub)) s

/-- Every engine's status copied. -/
def mirrorEngines (s : State) : State := s.engList.foldl mirrorEngine s

/-! ### What the charger measures (R254, R259) -/

/-- The offset, in mA, that the charge current may be off by, 0.16 mV ÷ CHG_SHUNT (R458). -/
def State.chgOffset (s : State) : Nat := 160000 / max 1 (s.chgSet 4)

/-- The charge current that the three limits of R259 leave, in mA: none with VSYS, as measured within 0.3 %, above the voltage target by
more than the 0.5 % of R458, else the lower of the current target and what IIN_LIM allows at the duty that runs. -/
def State.outLimit (s : State) : Nat :=
  if s.chgTarget * 1003 * 1005 < s.chg.vbat * 1000000 then 0
  else min s.chgCurrent (s.iinNow * 1000 / max 1 s.chgOnFor)

/-- The charge current: at most what the limits leave with the error of R458, free below it, and none while the gates are low (R254,
R259). (DEDUCED, log entry 101). -/
def measureOut (s : State) : State :=
  if s.chargerOn then
    let (v, s1) := s.drawNat 32
    let shunt := max 1 (s.chgSet 4)
    let top := (s.outLimit * 103 * shunt + 16000000) / (100 * shunt)
    { s1 with chg := { s1.chg with iOut := Int.ofNat (v % (top + s.chgOffset + 1)) - Int.ofNat s.chgOffset } }
  else { s with chg := { s.chg with iOut := 0 } }

/-- The input current: the charge current times the high-side duty, within ±5 % (R254). (DEDUCED, log entry 101). -/
def measureIn (s : State) : State :=
  let (e, s1) := s.drawNat 16
  { s1 with chg := { s1.chg with iin := min (s1.chg.iOut.toNat * s1.chgOnFor * (950 + e % 101) / 1000000) 0xFFFF } }

/-- VIN as the charger's own converter reads it: a free value (log entry 1). -/
def readVin (s : State) : State :=
  let (v, s1) := s.drawNat 16
  { s1 with chg := { s1.chg with vinMv := v } }

/-- What the charger's converters measure: VSYS and VIN, then the currents that they leave. -/
def measureChg (s : State) : State := measureIn (measureOut (readVin (readVbat s)))

/-- Of the charger, of a TS sensor and of a die sensor (R272, R293, R294). -/
def chgMirrors : List Nat := [0x17, 0x1A, 0x1C, 0x1D, 0x1E, 0x1F, 0x20, 0x21, 0x22, 0x23, 0x26]

/-- Of a TS sensor; a die sensor has those that exist of it. -/
def tsMirrors : List Nat := [0x14, 0x15, 0x16, 0x17, 0x18]

/-- The status of the charger and of the sensors copied. -/
def mirrorSlow (s : State) : State :=
  let s0 := measureChg s
  let s1 := chgMirrors.foldl (fun t sub => t.copyStatus 0x2500 sub (s0.liveChg sub)) s0
  let s2 := (List.finRange 16).foldl (fun t i =>
    tsMirrors.foldl (fun u sub => u.copyStatus (0x2400 + i.1) sub (s.liveTs i sub)) t) s1
  (List.finRange 4).foldl (fun t d =>
    [0x14, 0x16, 0x17].foldl (fun u sub => u.copyStatus (0x2410 + d.1) sub (s.liveDie d sub)) t) s2

/-- The copies made for what has no period boundary: ports that run no periods of their own, the rails with no phase that does,
the engines, the charger, the sensors. -/
def mirrorIdle (s : State) : State :=
  let s1 := (s.portList.filter fun n => !(s.pulsing n && s.leads n)).foldl mirrorPort s
  let s2 := (s.railList.filter fun r => (s.beatPhase r).isNone).foldl mirrorRail s1
  mirrorSlow (mirrorEngines s2)

/-- The refresh within 10 µs of what has no period boundary: every 250 ticks of the timebase. (DESIGN CHOICE, log entry 102). -/
def idleMirror (s : State) : State := if s.live && s.tb.count.toNat % 250 == 0 then mirrorIdle s else s

/-- The number a read of a subindex returns on path `p`. -/
def State.readNum (s : State) (p : Fin 10) (o : Obj) (idx sub : Nat) : Nat :=
  if isControl idx sub && o.acc == .rw then s.setting idx sub
  else if idx < 0x2000 then s.liveStd idx sub
  else if idx = 0x2000 then s.liveDev sub
  else if h : 0x2100 ≤ idx ∧ idx < 0x2120 then
    (if portMirrors.contains sub then s.mirrored idx sub else s.livePort ⟨idx - 0x2100, by omega⟩ sub)
  else if h : 0x2200 ≤ idx ∧ idx < 0x2210 then
    (if railMirrors.contains sub then s.mirrored idx sub else s.liveRail ⟨idx - 0x2200, by omega⟩ sub)
  else if idx = 0x2300 then s.liveSeq sub
  else if 0x2400 ≤ idx ∧ idx < 0x2414 then (if tsMirrors.contains sub then s.mirrored idx sub else s.reg idx sub)
  else if idx = 0x2420 then s.liveThermal sub
  else if idx = 0x2500 then (if chgMirrors.contains sub then s.mirrored idx sub else s.reg idx sub)
  else if idx = 0x2600 then s.liveWd sub
  else if idx = 0x2700 then s.liveColl sub
  else if idx = 0x2710 then s.liveLog p sub
  else if 0x2800 ≤ idx ∧ idx < 0x2828 then s.liveTime idx sub
  else if idx = 0x2900 ∨ (0x2940 ≤ idx ∧ idx < 0x2970) then s.liveAdc p idx sub
  else if idx = 0x2A00 then s.liveIrq sub
  else if h : 0x2A40 ≤ idx ∧ idx < 0x2A80 then
    (if sub = 2 then (if s.irq.pend.getLsbD (idx - 0x2A40) then 1 else 0) else s.reg idx sub)
  else if idx = 0x2B00 then s.liveKeep p sub
  else if idx = 0x2C00 then (if sub = 4 then certificate.length else if sub = 6 then s.ks.idStat
    else if sub = 0x0F then s.keyGen else s.reg idx sub)
  else if idx = 0x2D00 ∨ idx = 0x2E00 then s.liveBus idx sub
  else if idx = 0x2F00 then s.liveDict p sub
  else if h : 0x2F02 ≤ idx ∧ idx < 0x2F0A then
    (if sub = 1 then s.cmt.groups[(⟨idx - 0x2F02, by omega⟩ : Fin 8)].staged.length else s.reg idx sub)
  else if idx = 0x3000 then s.liveMilk sub
  else if h : 0x3100 ≤ idx ∧ idx < 0x3109 then
    (if engMirrors.contains sub then s.mirrored idx sub else s.liveEng ⟨idx - 0x3100, by omega⟩ sub)
  else if h : 0x3200 ≤ idx ∧ idx < 0x3220 then s.liveLedger ⟨idx - 0x3200, by omega⟩ sub
  else s.reg idx sub

/-! ## What a read changes -/

/-- What a read-clear subindex holds after its read: 0 (Table 0-3), but for SLOTS_MIN (Table 12-10). -/
def clearedTo (idx sub : Nat) : Nat :=
  if idx = 0x2F00 ∧ sub = 0x0E then 47 else 0

/-- A capture's VALUE as a host reads it: in the tick of a capture the value before it (R378). -/
def State.captureValue (s : State) (k : Fin 8) : Nat :=
  if (s.ownerOf k.1).isNone && s.tb.cap[k].capAt == some s.now64 then s.tb.cap[k].prev else s.reg (0x2820 + k.1) 4

/-- A capture's VALUE read by a host: the channel is free again, unless a port owns it (R377, R379); in the tick of a capture it stays
full with the new value, and that capture sets no OVERRUN (R378). -/
def readCapture (s : State) (k : Fin 8) : State :=
  if (s.ownerOf k.1).isSome then s
  else if s.tb.cap[k].capAt = some s.now64 then
    if s.tb.cap[k].ovr then s.clrReg (0x2820 + k.1) 6 1 else s
  else s.modCap k fun c => { c with full := false }

/-- A read-clear counter that the host reads from a mirror gives up what the mirror shows; counts made since stay for the next copy
(R27, Table 0-3). (DESIGN CHOICE, log entry 102). -/
def readMirrored (s : State) (idx sub : Nat) : State :=
  (s.setReg idx sub (s.reg idx sub - s.mirrored idx sub)).copyStatus idx sub 0

/-- A numeric read: its value and the state after it. -/
def readNumber (s : State) (p : Fin 10) (o : Obj) (idx sub : Nat) : Nat × State :=
  let v := s.readNum p o idx sub
  if o.acc = .rc then
    (v, if 0x2100 ≤ idx ∧ idx < 0x2120 then readMirrored s idx sub
        else if 0x2400 ≤ idx ∧ idx < 0x2414 then
          ({ s with thm := { s.thm with maxRead := setBit s.thm.maxRead (idx - 0x2400) } }).setReg idx sub 0
        else s.setReg idx sub (clearedTo idx sub))
  else if h : 0x2820 ≤ idx ∧ idx < 0x2828 ∧ sub = 4 then
    (s.captureValue ⟨idx - 0x2820, by omega⟩, readCapture s ⟨idx - 0x2820, by omega⟩)
  else if 0x2940 ≤ idx ∧ idx < 0x2970 ∧ sub = 1 then
    (v, s.modPath p fun q => { q with fresh := clrBit q.fresh (idx - 0x2940) })
  else (v, s)

/-! ## Octet strings and DOMAINs -/

/-- A fresh SVC_CHALLENGE: any earlier challenge and authorisation is cancelled (R82). -/
def readChallenge (s : State) : List Byte × State :=
  let (v, s1) := s.draw
  let c := leBytes 16 v.toNat
  (c, { s1 with md := { s1.md with challenge := c, authSig := [], svcStat := 0 } })

/-- The entry that a path's SELECT names; 0 names the newest (R315). -/
def State.selected (s : State) (p : Fin 10) : Option LogEntry :=
  if s.paths[p].select = 0 then s.log.getLast? else s.log.find? fun e => e.seq.toNat == s.paths[p].select

/-- A string read: an abort code or the bytes, and the state after it. -/
def readBlob (s : State) (p : Fin 10) (idx sub : Nat) : Nat × List Byte × State :=
  if idx = 0x2000 then (0, (readChallenge s).1, (readChallenge s).2)
  else if idx = 0x2710 then
    (match s.selected p with
      | none => (noData, [], s)
      | some e => (0, e.bytes, s))
  else if idx = 0x2B00 then
    (match sub with
      | 3 =>
        if s.paths[p].ksAddr + s.paths[p].ksLen ≤ userSize then
          (0, memReadN s.ks.sram.user s.paths[p].ksAddr s.paths[p].ksLen, s)
        else (badValue, [], s)
      | 0x25 => (0, padTo 32 s.ks.cfgHash, s)
      | _ => (0, if s.ks.cfgWork = [] then s.ks.cfgInUse else s.ks.cfgWork, s))
  else match sub with
    | 1 => (0, Config.uid.toList, s)
    | 2 => (0, pubKey, s)
    | 3 => (0, certificate, s)
    | 7 => (0, padTo 64 s.ks.idSig, s)
    | 0x0B => (0, s.ks.exportBlob, s)
    | _ => (0, s.cfgKey, s)

/-- A read of a subindex that passed checks 1–5: its abort code, its bytes, and the state after it. -/
def readObj (s : State) (p : Fin 10) (o : Obj) (idx sub : Nat) : Nat × List Byte × State :=
  match o.ty with
  | .num b _ => (0, leBytes b (readNumber s p o idx sub).1, (readNumber s p o idx sub).2)
  | _ => readBlob s p idx sub

end Sys2Proof.Machine
end

