-- ==== Sys2Proof/Machine/TwoWireOps.lean ====
section
/-! DEFINITION. The two-wire target's addresses and contexts, and the bytes of its pointer space: images, mailbox, status block
(R349, R350, R354–R356, R359, R362). -/

namespace Sys2Proof.Machine
open Sys2Proof

/-! ## Addresses and contexts (R349, R350) -/

/-- The bits of an address that a mask names, packed together, `n` bits from bit `i` up. -/
def packBits (a m : Nat) : Nat → Nat → Nat
  | 0, _ => 0
  | n + 1, i => if m.testBit i then (if a.testBit i then 1 else 0) + 2 * packBits a m n (i + 1) else packBits a m n (i + 1)

/-- The context that an address selects; none for an address not matched. -/
def State.ctxOf (s : State) (addr : BitVec 7) : Option (Fin 8) :=
  if (addr &&& ~~~s.tw.mask) = (s.tw.base &&& ~~~s.tw.mask) then
    some ⟨packBits addr.toNat s.tw.mask.toNat 7 0 % 8, Nat.mod_lt _ (by decide)⟩
  else none

/-- The address of a context (ADDR_MATCHED). -/
def State.addrOf (s : State) (c : Fin 8) : Nat :=
  ((List.range 128).find? fun a => s.ctxOf (BitVec.ofNat 7 a) == some c).getD 0

/-! ## The status block (Table 13-4) -/

/-- The chosen alert is asserted (R364, R390). -/
def State.attention (s : State) : Bool :=
  match s.reg 0x2E00 4 with
  | 1 => s.irq.activeA.isSome
  | 2 => s.irq.activeB.isSome
  | _ => false

/-- TIMEBASE of the status block: the count when its first byte is sent. In a transaction that is a moment between the address match,
where it is exact, and the present, which no command gives: a free value between the two. (DESIGN CHOICE, log entry 89). -/
def State.twCount (s : State) : U32 :=
  if s.tw.now.isSome then
    BitVec.ofNat 32 (s.tw.since + (Config.freeValue s.freeCtr).toNat % (s.now64 - s.tw.since + 1))
  else s.now

/-- The bytes of the status block from 0xF000. -/
def statusBytes (s : State) (c : Fin 8) : List Byte :=
  [BitVec.ofNat 8 s.md.mode.code, BitVec.ofNat 8 s.errReg, BitVec.ofNat 8 (s.liveColl 5), BitVec.ofNat 8 c.1,
    BitVec.ofNat 8 (s.addrOf c), BitVec.ofNat 8 s.tw.ctx[c].result, if s.attention then 1 else 0,
    BitVec.ofNat 8 (47 - s.slotsHeld)]
    ++ leBytes 4 s.tw.ctx[c].abort ++ leBytes 4 s.twCount.toNat ++ leBytes 2 s.supplyStat

/-! ## The pointer space (R354–R356, R359) -/

/-- The object and the offset within it that an image address names (Table 13-2). -/
def imageAt (a : Nat) : Option (Nat × Nat) :=
  if 0x4000 ≤ a ∧ a < 0x5000 then some (portIdx ((a - 0x4000) / 0x80), (a - 0x4000) % 0x80)
  else if 0x5000 ≤ a ∧ a < 0x5800 then some (railIdx ((a - 0x5000) / 0x80), (a - 0x5000) % 0x80)
  else none

/-- Bytes of a row's type. -/
def Obj.bytes (o : Obj) : Nat := o.ty.size.getD 0

/-- The byte of an image: 0 where nothing is readable. -/
def imageByte (s : State) (c : Fin 8) (idx off : Nat) : Byte :=
  if 0x7C ≤ off then 0
  else match findObj s.variant idx (off / 4 + 1) with
    | none => 0
    | some o =>
      if o.acc = .wo ∨ o.bytes ≤ off % 4 then 0
      else BitVec.ofNat 8 (s.readNum (pathIx (.tw c)) o idx (off / 4 + 1) / 256 ^ (off % 4))

/-- The byte that a read at an address returns. -/
def twByte (s : State) (c : Fin 8) (a : Nat) : Byte :=
  if a < userSize then memRead s.ks.sram.user a
  else match imageAt a with
    | some (idx, off) => imageByte s c idx off
    | none =>
      if 0x8000 ≤ a ∧ a < 0x8100 then s.tw.ctx[c].mbox.toList.getD (a - 0x8000) 0
      else if 0xF000 ≤ a ∧ a < 0xF100 then (statusBytes s c).getD (a - 0xF000) 0
      else 0

/-- The bytes that a read of `n` bytes from a pointer returns. -/
def twBytes (s : State) (c : Fin 8) (p : U16) : Nat → List Byte
  | 0 => []
  | n + 1 => twByte s c p.toNat :: twBytes s c (p + 1) n

/-- An address of the user area lies in a tally counter, four bytes wide (R408). -/
def State.inTally (s : State) (a : Nat) : Bool :=
  (List.range 8).any fun i =>
    let b := s.reg 0x2B00 (0x0C + i)
    b != 0xFFFF && decide (b ≤ a ∧ a < b + 4)

/-- Length of the field that an address lies in, from the address to its end: a tally counter and the fields of the images stand in 4
bytes, the mailbox and the status block have some of 2 and of 4 bytes (R408, Tables 13-2 to 13-4). -/
def fieldLeft (s : State) (a : Nat) : Nat :=
  if (a < userSize ∧ s.inTally a = true) ∨ (0x4000 ≤ a ∧ a < 0x5800) then 4 - a % 4
  else if (0x8000 ≤ a ∧ a < 0x8002) ∨ (0x8006 ≤ a ∧ a < 0x8008) ∨ (0xF010 ≤ a ∧ a < 0xF012) then 2 - a % 2
  else if (0x8008 ≤ a ∧ a < 0x800C) ∨ (0xF008 ≤ a ∧ a < 0xF010) then 4 - a % 4
  else 1

/-- A transaction begun: a read takes the field at the pointer now, as its first byte is sent (R359). -/
def beginTransaction (s : State) (c : Fin 8) (read : Bool) : State :=
  let t := { s with tw := { s.tw with now := some (c, read), since := s.now64 } }
  let p := t.tw.ctx[c].pointer
  { t with tw := { t.tw with first := if read then twBytes t c p (fieldLeft t p.toNat) else [] } }

end Sys2Proof.Machine
end

