-- ==== Sys2Proof/Machine/PowerOps.lean ====
section
/-! DEFINITION. Power-down and reset (R14, R16, R58–R61, R74–R79): what the core domain loses, what the AON island keeps, what a
full reset clears, and what a core power-up restores at step 7. -/

namespace Sys2Proof.Machine
open Sys2Proof

/-! ## What survives -/

/-- Compare and capture objects, held in the AON island (R376). -/
def isTimerKey (k : Key) : Bool := 0x2810 ≤ k / 256 && k / 256 < 0x2828

/-- Registers that stay readable, or act, with the core domain off: 0x2000, the compare and capture channels, the keep store and
the heartbeat period (R75, R76, R376). (DEDUCED, log entry 13). -/
def aonKey (k : Key) : Bool := isTimerKey k || k / 256 == 0x2000 || k / 256 == 0x2B00 || k / 256 == 0x1017

/-- Registers that a core power-up leaves as they are: the compare and capture channels, WAKE_CAUSE, and the counters since the
last full reset (Table 2-7, Table 15-10, log entry 13). -/
def lastingKey (k : Key) : Bool :=
  isTimerKey k || [key 0x2000 5, key 0x2000 0x23, key 0x2B00 8].contains k

/-- The registers that a predicate names; the rest read as their defaults. -/
def keepRegs (s : State) (p : Key → Bool) : State := { s with regs := s.regs.filter fun c => p c.1 }

/-- A CAN link with the core domain off: enabled as it was, at its own rate and sample points, classical frames only, nothing queued
and no session open (R66, R76, R79). -/
def LinkState.sleep (l : LinkState) : LinkState :=
  { LinkState.reset with enabled := l.enabled, lowRate := l.enabled, rate := l.rate, nom := l.nom, spNom := l.spNom,
                         spData := l.spData }

/-- The milk round with the core domain off: the stand-in, its corrections and the loss of the rover are kept by the AON island
(R204, R205), and so is the trim of its oscillator (R200). -/
def Milk.sleep (m : Milk) : Milk :=
  { Milk.reset with standin := m.standin, standGain := m.standGain, standOffset := m.standOffset,
                    roverFailed := m.roverFailed, noSpare := m.noSpare,
                    trims := Milk.reset.trims.set 4 m.trims[(4 : Fin 5)] }

/-- Everything the core domain holds is lost (R14, R16, R19, R301, R327). Failed sense converters, the recovery window,
DS3 and the trip sources are the AON island's. -/
def coreLost (s : State) : State :=
  let s1 := keepRegs s aonKey
  { s1 with
    shadow := []
    active := []
    mirror := []
    ports := Vector.replicate 32 .reset
    rails := Vector.replicate 16 .reset
    engines := Vector.replicate 9 .reset
    sc := Vector.replicate 33 .reset
    vc := Vector.replicate 16 .reset
    milk := s.milk.sleep
    ledger := Vector.replicate 32 .reset
    sqe := .reset
    chg := .reset
    thm := { Thermal.reset with recovery := s.thm.recovery, recovRun := s.thm.recovRun, dieHard := s.thm.dieHard,
                                die := Thermal.reset.die.set 3 s.thm.die[(3 : Fin 4)] }
    flt := { Collector.reset with sc := s.flt.sc }
    cmt := .reset
    paths := Vector.replicate 10 .reset
    can := { s.can with links := Vector.ofFn fun i => s.can.links[i].sleep, linksSet := false, hbArmed := Vector.replicate 4 none,
                        rpdo := Vector.replicate 8 none, tpdoLast := Vector.replicate 8 none,
                        tpdoAt := Vector.replicate 8 none, syncCnt := Vector.replicate 8 0 }
    tw := { TwoWire.reset with base := (s.tw.next.map Prod.fst).getD s.tw.base, mask := (s.tw.next.map Prod.snd).getD s.tw.mask,
                               wakeAddr := s.tw.wakeAddr }
    wd := .reset
    irq := .reset
    adc := .reset
    herd := { Herd.reset with sent := s.herd.sent }
    md := { s.md with challenge := [], authSig := [], svcStat := 0, requal := false, svcAsked := false, stopFault := false,
                      byHoldup := false }
    ks := { s.ks with cfgStat := if s.ks.cfgStat = 1 ∨ s.ks.cfgStat = 3 ∧ s.ks.cfgOld = none then 0 else s.ks.cfgStat,
                      idStat := 0, idSign := none, idExport := false, idSig := [], exportBlob := [], keyNew := [],
                      keyWaits := s.ks.keyWaits.map fun w => { w with path := none } } }

/-- The core domain switched off: step 2 of Table 2-5 again, its monitors disarmed (R48), its clocks stopped; VCC5_OK reads 0 from then
on, after a core-regulator failure too. (DESIGN CHOICE, log entry 127). -/
def coreOff (s : State) (wanted : Bool) : State :=
  let s1 := coreLost s
  { s1 with pwr := { s1.pwr with
      step := .aonUp, coreWanted := wanted, regMon := false, vcc5Mon := false, clkMon := false, vcc5 := false,
      vcore := false, xtalOsc := false, xtalOk := false, refAon := false, pllLock := false, dllLock := false,
      gated := false, qualGap := false, owed := [], afterFull := false, entering := false } }

/-- A core reset (R58, R60): step 3 again, with the regulator up or, where it was off, to be started (R61); the crystal oscillator
stops (R56), the clock-loss detector is disarmed. A driver supply that stands counts as risen since this reset (R44; DEDUCED, log
entry 14). -/
def coreReset (s : State) (cause : Byte) : State :=
  let s1 := coreLost s
  { s1 with pwr := { s1.pwr with
      step := if s.pwr.step = .aonUp then .aonUp else .enabled, coreWanted := true, clkMon := false, xtalOsc := false, xtalOk := false, refAon := false,
      pllLock := false, dllLock := false, gated := false, qualGap := false, owed := [], afterFull := false, entering := false, resetCause := cause,
      wake := none, lateWake := none, lateOther := none, vdrvSeen := s1.pwr.vdrv } }

/-! ## A store that a loss of the AON island cuts short (R402, Table 15-5) -/

/-- A slot part-written: the first `n` payload bytes of the new copy over the old. Its CRC bytes are written last. -/
def cutCopy (n : Nat) (old new : Option RecCopy) : Option RecCopy :=
  if old = new then old
  else match new with
    | none => none
    | some c =>
      let was := (old.map RecCopy.payload).getD []
      let crc := (old.map RecCopy.crc).getD 0
      if n < c.payload.length then
        some { c with payload := c.payload.take n ++ (was.drop n).take (c.payload.length - n)
                        ++ List.replicate (c.payload.length - max n was.length) 0, crc := crc }
      else new

/-- A pair part-written; the copy in use is chosen again at the next recovery. -/
def cutPair (n : Nat) (old new : RecPair) : RecPair :=
  { a := cutCopy n old.a new.a, b := cutCopy n old.b new.b, inUse := none }

/-- The user area with the bytes below `n` from the snapshot. -/
def cutUser (n : Nat) (old new : List Host.Cell) : List Host.Cell :=
  (new.filter fun c => decide (c.1 < n)) ++ old.filter fun c => decide (n ≤ c.1)

/-- The shadow after a store that ran to a place of its address order: `part` says which area was being written, `n` how far it
had come. -/
def cutArray (part n : Nat) (old new : Array_) : Array_ :=
  match part with
  | 0 => { old with user := cutUser n old.user new.user }
  | 1 => { old with user := new.user, log := (new.log.filter fun e => e.pos < n) ++ old.log.filter fun e => n ≤ e.pos }
  | 2 => { user := new.user, log := new.log, recs := Vector.ofFn fun i => cutPair n old.recs[i] new.recs[i] }
  | _ => new

/-- Phase 3 runs on the VSTORE capacitor; whether it ends, and how far it comes, the spec leaves to the capacitor (R47): free
values (log entry 1). (DEDUCED, log entry 41). -/
def cutStore (s : State) : State :=
  match s.ks.running with
  | none => s
  | some (_, snap) =>
    let (part, s1) := s.drawNat 2
    let (n, s2) := s1.drawNat 14
    { s2 with ks := { s2.ks with shadow := cutArray part n s2.ks.shadow snap, running := none } }

/-! ## Full reset (R58) -/

/-- A pin event (R233, R468): its PIN_EVT bit, and its entry unless it is ESTOP's; with the core domain off latched with the stamp
of the first of its kind, with the core clock gated every one of them until it restarts. In SHIP PB alone is not ignored (Table 17-4). -/
def pinEvent (s : State) (b : Nat) : State :=
  if s.md.mode = .ship ∧ 3 ≤ b then s
  else if s.live then
    let s1 := s.orReg 0x2300 0x0F (2 ^ b)
    if b = 8 then s1 else logOnly s1 0x0A01 (unitCode 0 10) (BitVec.ofNat 16 b)
  else if s.aonUp && (s.coreOn || !(s.pins.latched.any fun p => p.1 == b)) then
    { s with pins := { s.pins with latched := s.pins.latched ++ [(b, s.now)] } }
  else s

/-- A trip source of the AON island that stands when its reset is released (Table 1-4, R73). (DESIGN CHOICE,
log entry 94). -/
def standingTrips (s : State) : State :=
  let s1 := if s.latch.estop then trip (aonReport (pinEvent s 8) 0x010A (unitCode 0 6)) false else s
  if s1.latch.die.getLsbD 3 then trip (aonReport s1 0x080A (unitCode 0 9)) false else s1

/-- A full reset up to step 2 of Table 2-5: every domain reset, timebase 0, latch clear. The pins, the supplies and the shadow of
the keep store are outside it; a brown-out ends with it, so step 3 waits for VSYS alone (R61); a driver supply that stands counts
as risen (log entry 14). VSTORE_OK stays as it was, also where a running store is cut short (log entry 127). (DESIGN CHOICE, log
entry 94). -/
def fullReset (s : State) (cause : Byte) : State :=
  let s0 := cutStore s
  let r : State := State.reset
  let t : State := { r with
    variant := s0.variant
    pwr := { Power.reset with
      vsys := if s0.pwr.vsys = .brownOut then .below else s0.pwr.vsys
      vin := s0.pwr.vin, vio := s0.pwr.vio, vdrv := s0.pwr.vdrv, vdrvSeen := s0.pwr.vdrv,
      vstoreOk := s0.pwr.vstoreOk, vstoreChg := true, resetCause := cause }
    latch := { Latch.reset with estop := s0.latch.estop, die := s0.latch.die }
    pins := { Pins.reset with pb := s0.pins.pb, mr := s0.pins.mr, svckey := s0.pins.svckey, door := s0.pins.door,
                              seqin := s0.pins.seqin, capin := s0.pins.capin }
    ks := { Keep.reset with sram := s0.ks.sram, shadow := s0.ks.shadow }
    herd := { Herd.reset with sent := s0.herd.sent }
    sent := s0.sent
    freeCtr := s0.freeCtr
    pending := s0.pending }
  standingTrips t

/-- The AON island lost or held: nothing but the shadow, the pins and the supplies is left. -/
def aonDown (s : State) (step : PowerStep) : State :=
  let t := fullReset { s with latch := { s.latch with estop := false, die := 0 } } 0
  { t with pwr := { t.pwr with step := step, vdrvSeen := 0 }, latch := { t.latch with estop := s.latch.estop, die := s.latch.die } }

/-! ## Record recovery (R406, R407) -/

/-- The slot that wins by number: the later under R371, or for equal numbers n the slot n mod 2. -/
def winnerB (a b : RecCopy) : Bool :=
  if a.seq = b.seq then a.seq % 2 == 1 else ahead (BitVec.ofNat 32 a.seq) (BitVec.ofNat 32 b.seq)

/-- The pair of a kind after recovery, and the fault it raises (Table 15-4). -/
def recoverPair (kind : Nat) (p : RecPair) : RecPair × Option U16 :=
  match p.a, p.b with
  | none, none => ({ p with inUse := none }, none)
  | some a, none => if a.good kind then ({ p with inUse := some false }, none) else ({ p with inUse := none }, some 0x0906)
  | none, some b => if b.good kind then ({ p with inUse := some true }, none) else ({ p with inUse := none }, some 0x0906)
  | some a, some b =>
    let w := winnerB a b
    let wGood := if w then b.good kind else a.good kind
    let oGood := if w then a.good kind else b.good kind
    if wGood then
      if a.seq = b.seq then
        ({ p with a := if w then none else some a, b := if w then some b else none, inUse := some w }, some 0x0904)
      else ({ p with inUse := some w }, none)
    else if oGood then ({ p with inUse := some (!w) }, some 0x0905)
    else ({ p with inUse := none }, some 0x0906)

/-- The faults of record recovery, with the kinds they name. -/
def recoveryFaults (s : State) : List (Nat × U16) :=
  (List.range 6).filterMap fun i => ((recoverPair (i + 1) (s.recPair (i + 1))).2).map fun f => (i + 1, f)

/-- Every kind's copy in use chosen. -/
def recoverPairs (s : State) : State :=
  (List.range 6).foldl (fun t i => t.setPair (i + 1) (recoverPair (i + 1) (t.recPair (i + 1))).1) s

/-- An entry put into a list that runs from the oldest entry to the newest, which is number `newest`. -/
def insertEntry (newest : U32) (e : LogEntry) : List LogEntry → List LogEntry
  | [] => [e]
  | x :: t => if (newest - x.seq).toNat ≤ (newest - e.seq).toNat then e :: x :: t else x :: insertEntry newest e t

/-- The log as its head locates it: the entries up to NEWEST_SEQ, in the order of their numbers; empty with no head. -/
def recoverLog (s : State) : State :=
  match s.recPayload 3 with
  | none => { s.setLog [] with seq := 0 }
  | some p =>
    let newest : U32 := BitVec.ofNat 32 (leVal (p.take 4))
    { s.setLog ((s.log.filter fun e => !ahead newest e.seq).foldr (insertEntry newest) []) with seq := newest }

/-- A signed 64-bit number at byte `i` of a payload. -/
def payI64 (p : List Byte) (i : Nat) : Int := signed 64 (leVal ((p.drop i).take 8))

/-- Every ledger resumes from its record, fractions cleared (R182). -/
def recoverLedger (s : State) : State :=
  match (s.recPair 1).used with
  | none => { s with ledger := Vector.replicate 32 .reset }
  | some c =>
    { s with ledger := Vector.ofFn fun n : Fin 32 =>
        { Ledger.reset with charge := payI64 c.payload (16 * n.1) * 2 ^ 24, energy := payI64 c.payload (16 * n.1 + 8) * 2 ^ 24,
                            restored := c.stamp } }

/-- The event counters resume (R230). -/
def recoverCounters (s : State) : State :=
  match s.recPayload 2 with
  | none => s
  | some p =>
    (List.range s.variant.rails).foldl (fun t r => (List.range 8).foldl (fun t j =>
      t.setReg (railIdx r) (0x52 + j) (leVal ((p.drop (32 * r + 4 * j)).take 4))) t) s

/-- After a full reset the AON fault record takes its FIRST and LAST fields from the stored copy, unless a report since the reset
stands in them; TRIP_CNT is not restored (R407). A restored report that the log does not hold is entered at step 8 (R311); its mode is
a free value, since the copy does not hold it. (DEDUCED, log entry 38). -/
def recoverAon (s : State) : State :=
  match s.recPayload 5 with
  | none => s
  | some p =>
    if s.aon.open_ then s
    else
      let f := fun i n => leVal ((p.drop i).take n)
      let a := { s.aon with
          firstCode := BitVec.ofNat 16 (f 2 2), firstUnit := BitVec.ofNat 16 (f 4 2), firstStamp := BitVec.ofNat 32 (f 6 4),
          lastCode := BitVec.ofNat 16 (f 10 2), lastUnit := BitVec.ofNat 16 (f 12 2), lastStamp := BitVec.ofNat 32 (f 14 4) }
      let (m1, s1) := s.drawNat 3
      let (m2, s2) := s1.drawNat 3
      let first : AonReport := { code := a.firstCode, unit := a.firstUnit, stamp := a.firstStamp, mode := modeOfCode m1 }
      let last : AonReport := { code := a.lastCode, unit := a.lastUnit, stamp := a.lastStamp, mode := modeOfCode m2 }
      let news := (if first.code = last.code ∧ first.unit = last.unit ∧ first.stamp = last.stamp then [first] else [first, last]).filter
        fun w => w.code != 0 && !(s2.ks.sram.log.any fun e => e.code == w.code && e.unit == w.unit && e.stamp == w.stamp)
      { s2 with aon := { a with waiting := a.waiting ++ news } }

/-- The recall after a full reset (R398), then the record rules on the SRAM copies; the faults they raise are entered (R406). -/
def recoverRecords (s : State) : State :=
  let s1 := if s.pwr.afterFull then
      { s with ks := { s.ks with sram := { s.ks.shadow with log := s.ks.shadow.log.map fun e => { e with held := false } } } }
    else s
  let faults := recoveryFaults s1
  let s2 := recoverCounters (recoverLedger (recoverLog (recoverPairs s1)))
  let s3 := if s2.pwr.afterFull then recoverAon s2 else s2
  faults.foldl (fun t f => logOnly t f.2 (unitCode 0x0B 0) (BitVec.ofNat 16 f.1)) s3

/-! ## Step 7 -/

/-- Factory trims loaded (R189); the rover takes the stand-in's corrections while one is in force (R204). -/
def loadTrims (s : State) : State :=
  let s1 := { s with
    sc := Vector.ofFn fun n : Fin 33 =>
      { Conv.reset with gain := (Config.scGain n.1).toInt, offset := (Config.scOffset n.1).toInt }
    vc := Vector.ofFn fun k : Fin 16 =>
      { Conv.reset with gain := (Config.vcGain k.1).toInt, offset := (Config.vcOffset k.1).toInt } }
  if s1.milk.standin.isSome then
    s1.modSc 32 fun c => { c with gain := s1.milk.standGain, offset := s1.milk.standOffset }
  else s1

/-- A loop engine that fails its self-test (R153). -/
def failSelfTest (s : State) (e : Fin 9) : State :=
  report s 0x0309 (unitCode 7 e.1) 5

/-- The self-test of every present engine: LE8 stands by unless it fails, and then covers nothing; the failures are reported in
increasing order of their unit (R29, R153). -/
def selfTest (s : State) (failed : BitVec 9) : State :=
  let bad := fun e : Fin 9 => failed.getLsbD e.1 && s.variant.hasEngine e.1
  let s1 := s.engList.foldl (fun t e => t.modEng e fun x =>
    { x with state := if e = 8 then (if bad 8 then .selftest else .standby) else .idle, covers := 0xFF }) s
  (s.engList.filter bad).foldl failSelfTest s1

/-- Ports whose sense converter stays failed stay fenced, unless the rover stands in (R301). -/
def fenceFailed (s : State) : State :=
  s.portList.foldl (fun t n =>
    if t.flt.sc.getLsbD n.1 && t.milk.standin != some n then fenceOne t n else t) s

/-- An engine's state as its work now is: ACTIVE when its group has a frame, IDLE without (Table 5-9). -/
def refreshEngines (s : State) : State :=
  s.engList.foldl (fun t e =>
    match t.engines[e].state with
    | .idle | .active =>
      t.modEng e fun x => { x with state := if (s.plan.frameRail e.1).isSome then .active else .idle }
    | _ => t) s

/-- Step 7: what the core domain starts with. -/
def releaseCore (s : State) (strap : BitVec 4) (failed : BitVec 9) : State :=
  let s1 := keepRegs s lastingKey
  let s2 := { s1 with
    paths := Vector.replicate 10 .reset
    ks := { s1.ks with cfgWork := [], cfgBuilt := false, cfgSig := [], cfgHash := [], cfgStat := 0, cfgInstall := false,
                        cfgInUse := [] }
    pwr := { s1.pwr with step := .released, strap := if s1.pwr.vio then strap else 0 } }
  fenceFailed (selfTest (recoverRecords (loadTrims s2)) failed)

end Sys2Proof.Machine
end

