-- ==== Sys2Proof/Machine/BootOps.lean ====
section
/-! DEFINITION. The configuration image (R409–R414), and step 8 of Table 2-5: the image applied to the defaults, the links up, the
records of the AON island entered, the mode at the end of a reset. -/

namespace Sys2Proof.Machine
open Sys2Proof

/-! ## The image -/

/-- Defaults that depend on the straps or the node-ID: ADDR_BASE (R350) and the COB-IDs of the first four PDOs of each kind
(Table 12-6, Table 12-9). -/
def unitDefaults (strap node : Nat) : Vals :=
  (0x2E00, 1, 0x58 + strap % 8) ::
    ((List.range 4).map fun n => (0x1400 + n, 1, 0x80000000 + 0x200 + 0x100 * n + node))
    ++ (List.range 4).map fun n => (0x1800 + n, 1, 0x80000000 + 0x180 + 0x100 * n + node)

/-- The Default of a subindex on this unit. -/
def State.defaultOf (s : State) (idx sub : Nat) : Nat :=
  ((unitDefaults s.pwr.strap.toNat s.can.nodeId).find idx sub).getD (dfltOf s.variant idx sub)

/-- Indices of Table 15-6. -/
def imageIdx (idx : Nat) : Bool :=
  [0x1005, 0x1015, 0x1016, 0x1017, 0x2300, 0x2420, 0x2500, 0x2600, 0x2900, 0x2A00, 0x2D00, 0x2E00, 0x2F00].contains idx
    || (0x1400 ≤ idx && idx < 0x1A08) || (0x2100 ≤ idx && idx < 0x2210) || (0x2340 ≤ idx && idx < 0x2380)
    || (0x2400 ≤ idx && idx < 0x2414) || (0x2810 ≤ idx && idx < 0x2828) || (0x2A40 ≤ idx && idx < 0x2A80)

/-- Subindices held in the image (Table 15-6). -/
def inImage (idx sub : Nat) : Bool :=
  if idx = 0x2000 then sub == 6 || sub == 7 || sub == 0x0C
  else if idx = 0x2B00 then sub == 4 || sub == 7 || (0x0C ≤ sub && sub ≤ 0x1B) || sub == 0x20
  else if idx = 0x3000 then sub == 1
  else imageIdx idx && !((0x2200 ≤ idx && idx < 0x2210 && sub == 3) || (0x2810 ≤ idx && idx < 0x2820 && sub == 2)
    || (idx == 0x2A00 && sub == 2) || (0x2A40 ≤ idx && idx < 0x2A80 && sub == 2) || (idx == 0x2F00 && sub == 0x0A))

/-- The RW subindices of the image that a unit has. -/
def imageObj (v : Variant) (idx sub : Nat) : Option Obj :=
  if inImage idx sub then (findObj v idx sub).filter fun o => o.acc == .rw else none

/-- What an image built now holds: pending values that differ from their Defaults, in order (R409). -/
def imageEntries (s : State) : List (Key × Nat) :=
  let plain := s.regs.filter fun c =>
    (imageObj s.variant (c.1 / 256) (c.1 % 256)).isSome && c.2 != s.defaultOf (c.1 / 256) (c.1 % 256)
  (unitDefaults s.pwr.strap.toNat s.can.nodeId).foldl (fun l v =>
    if s.reg v.1 v.2.1 = v.2.2 ∨ (findObj s.variant v.1 v.2.1).isNone = true then l
    else cellInsert l (key v.1 v.2.1) (s.reg v.1 v.2.1)) plain

/-- Bytes that bring a length to a multiple of 4. -/
def padding (n : Nat) : List Byte := List.replicate ((4 - n % 4) % 4) 0

/-- One entry of an image. -/
def entryBytes (v : Variant) (c : Key × Nat) : List Byte :=
  let len := (((findObj v (c.1 / 256) (c.1 % 256)).map fun o => o.ty.size).join).getD 0
  leBytes 2 (c.1 / 256) ++ [BitVec.ofNat 8 c.1, BitVec.ofNat 8 len] ++ leBytes len c.2 ++ padding len

/-- The image that a build makes (Table 15-7). -/
def buildImage (s : State) : List Byte :=
  let es := imageEntries s
  let body := es.flatMap (entryBytes s.variant)
  leBytes 2 1 ++ leBytes 2 es.length ++ leBytes 4 s.variant.product ++ leBytes 4 (s.reg 0x2B00 0x22)
    ++ leBytes 4 body.length ++ List.replicate 16 0 ++ body

/-- The longest image. -/
def imageMax : Nat := 20480

/-- Entries of a body: index, subindex, length, value. None for a body cut short. -/
def parseEntries : Nat → List Byte → Option (List (Nat × Nat × Nat × Nat))
  | 0, _ => none
  | n + 1, b =>
    match b with
    | [] => some []
    | b0 :: b1 :: sub :: len :: t =>
      let l := len.toNat
      if l = 0 ∨ 64 < l ∨ t.length < l + (4 - l % 4) % 4 then none
      else (parseEntries n (t.drop (l + (4 - l % 4) % 4))).map fun r =>
        (leVal [b0, b1], sub.toNat, l, leVal (t.take l)) :: r
    | _ => none

/-- The entries of an image. -/
def imageVals (img : List Byte) : Option (List (Nat × Nat × Nat × Nat)) :=
  parseEntries (img.length + 1) (img.drop 32)

/-- Entries in strictly increasing order. -/
def entriesRise : List (Nat × Nat × Nat × Nat) → Bool
  | a :: b :: t => key a.1 a.2.1 < key b.1 b.2.1 && entriesRise (b :: t)
  | _ => true

/-- One entry's own checks: the subindex is one of the image's, the length is its type's, the value is permitted. The odd port of
a BB4 pair carries 3 beside its even port. -/
def entryOk (v : Variant) (look : Look) (e : Nat × Nat × Nat × Nat) : Bool :=
  match imageObj v e.1 e.2.1 with
  | none => false
  | some o =>
    o.ty.size == some e.2.2.1 &&
      (if 0x2100 ≤ e.1 ∧ e.1 < 0x2120 ∧ e.1 % 2 = 1 ∧ e.2.1 = 1 ∧ e.2.2.2 = 3 then look (e.1 - 1) 1 == 3
        else valueOk v o e.1 e.2.1 e.2.2.2)

/-- The values of an image, as a write of them, reserved bits dropped (R12). -/
def valsOf (v : Variant) (es : List (Nat × Nat × Nat × Nat)) : Vals :=
  es.map fun e => (e.1, e.2.1, ((imageObj v e.1 e.2.1).map fun o => o.keep e.2.2.2).getD e.2.2.2)

/-- The Defaults with some values laid over them. -/
def lookOver (s : State) (vs : Vals) : Look := fun idx sub => (vs.find idx sub).getD (s.defaultOf idx sub)

/-- The checks of an install, and of step 8 (R413). -/
def imageOk (s : State) (img : List Byte) : Bool :=
  32 ≤ img.length && leVal (img.take 2) == 1 && leVal ((img.drop 4).take 4) == s.variant.product &&
    match imageVals img with
    | none => false
    | some es =>
      let vs := valsOf s.variant es
      let look := lookOver s vs
      leVal ((img.drop 2).take 2) == es.length && leVal ((img.drop 12).take 4) + 32 == img.length && entriesRise es
        && es.all (entryOk s.variant look)
        && vs.all fun v => relatedOk s look v.1 v.2.1 && mapCode s.variant look v.1 v.2.1 v.2.2 == 0

/-- SIGNED_ONLY in an image. -/
def signedOnly (v : Variant) (img : List Byte) : Bool :=
  match imageVals img with
  | none => false
  | some es => (((valsOf v es).find 0x2B00 0x20).getD 0) % 2 == 1

/-! ## Step 8 -/

/-- One value of the image in use applied: all three copies of a control-plane setting. -/
def applyStored (s : State) (v : Nat × Nat × Nat) : State :=
  if isControl v.1 v.2.1 then s.setAll v.1 v.2.1 v.2.2 else s.setReg v.1 v.2.1 v.2.2

/-- Values of the image in use that step 8 applies: those of the compare and capture channels only after a full reset (R414). -/
def bootVals (s : State) (es : List (Nat × Nat × Nat × Nat)) : Vals :=
  (valsOf s.variant es).filter fun v => s.pwr.afterFull || !(0x2810 ≤ v.1 && v.1 < 0x2828)

/-- Node-ID that NODE_ID gives (R331). -/
def nodeIdOf (s : State) : Nat := if s.reg 0x2F00 2 = 0 then 0x10 + s.pwr.strap.toNat else s.reg 0x2F00 2

/-- The Defaults of this unit, then the image in use; an image that fails its checks is left out with fault 0x0906, DETAIL 4.
(DEDUCED, log entry 40). -/
def applyImage (s : State) : State :=
  let node := fun t : State => { t with can := { t.can with nodeId := nodeIdOf t } }
  let dflts := fun t : State => (unitDefaults t.pwr.strap.toNat t.can.nodeId).foldl (fun t v => t.setReg v.1 v.2.1 v.2.2) t
  let s1 := dflts (node s)
  match s.recPayload 4 with
  | none => s1
  | some img =>
    let imgNode := ((imageVals img).map fun es => ((valsOf s.variant es).find 0x2F00 2).getD 0).getD 0
    let s2 := dflts (node (s.setReg 0x2F00 2 imgNode))
    if imageOk s2 img then
      match imageVals img with
      | none => s1
      | some es =>
        let t := ((bootVals s es).foldl applyStored s2).setReg 0x2B00 0x21 (imageVersion img)
        { t with ks := { t.ks with cfgInUse := img } }
    else
      let s3 := logOnly s1 0x0906 (unitCode 0x0B 0) 4
      { s3 with ks := { s3.ks with cfgStat := 5 } }

/-- A link present on the variant. -/
def linkThere (v : Variant) (l : Link) : Bool :=
  match l with
  | .a => true
  | .b => v.big

/-- The links that LINK_EN enables run at the rates and sample points now set; a disabled link queues nothing (R330, R333). -/
def startLinks (s : State) : State :=
  let en := fun l : Link => linkThere s.variant l && (s.reg 0x2F00 1).testBit (linkIx l).1
  let one := fun (t : State) (l : Link) => t.modLink (linkIx l) fun k =>
    if en l then
      { k with enabled := true, lowRate := false, rate := t.reg 0x2F00 4, dRate := t.reg 0x2F00 5, nom := t.reg 0x2F00 4,
               spNom := t.reg 0x2F00 6, spData := t.reg 0x2F00 7 }
    else { LinkState.reset with enabled := false }
  one (one { s with can := { s.can with linksSet := true } } .a) .b

/-- The boot-up message on each enabled link. -/
def bootUp (s : State) : State := s.emitAll (0x700 + s.can.nodeId) false [0]

/-- Events that the AON island latched with the core domain off (`aon`), or in a crystal-loss gap: PIN_EVT bits and their entries
(R233, R468). ESTOP has its own. -/
def enterPins (s : State) (aon : Bool) : State :=
  let s1 := s.pins.latched.foldl (fun t p =>
    let t1 := t.orReg 0x2300 0x0F (2 ^ p.1)
    if p.1 = 8 then t1
    else addEntry t1 { mkEntry t1 0x0A01 (unitCode 0 10) .c .a (BitVec.ofNat 16 p.1) with stamp := p.2, fromAon := aon }) s
  { s1 with pins := { s1.pins with latched := [] } }

/-- A compare value judged against the present count N (R372): late, to fire in tick N + 1, or ahead, to be compared from tick
N + 3. -/
def judgeCmp (s : State) (k : Fin 16) (value : Nat) : State :=
  let late := !ahead s.now (BitVec.ofNat 32 value)
  s.modCmp k fun c => { c with armed := true, late := late, from_ := if late then s.now + 1 else s.now + 3 }

/-- A capture channel after CTRL took value `v` (R377): one-shot arms by this write, continuous is armed whenever EDGE is not 0. -/
def armCap (s : State) (k : Fin 8) (v : Nat) : State :=
  s.modCap k fun c => { c with armed := v.testBit 2 || v % 4 != 0, from_ := s.now64 }

/-- The channel watches: owned, or armed with an edge selected; sources 8–10 need no EDGE. -/
def State.capArmed (s : State) (k : Fin 8) : Bool :=
  (s.ownerOf k.1).isSome ||
    (s.tb.cap[k].armed && (s.reg (0x2820 + k.1) 1 % 4 != 0 || 8 ≤ s.reg (0x2820 + k.1) 2))

/-- FAN_RPM from two captures of an owned channel (R121). -/
def fanCapture (s : State) (n : Fin 32) (edge : U32) : State :=
  let ppr := max 1 (s.act (portIdx n.1) 0x32)
  let s1 := match s.ports[n].tachAt with
    | none => s
    | some t =>
      if edge = t then s
      else s.setReg (portIdx n.1) 0x34 (min 0xFFFF (roundHalfUp 1500000000 (ppr * (edge - t).toNat : Nat)).toNat)
  s1.modPort n fun p => { p with tachAt := some edge }

/-- One capture. An owned channel keeps FULL and OVERRUN 0. What VALUE and OVERRUN were before it is kept for a read in the same tick
(R378). -/
def capture (s : State) (k : Fin 8) (edge : U32) : State :=
  let idx := 0x2820 + k.1
  let s1 := pendSrc ((s.setReg idx 4 edge.toNat).inc idx 7) (56 + k.1)
  match s.ownerOf k.1 with
  | some n => fanCapture ((s1.clrReg idx 6 1).modCap k fun c => { c with full := false }) n edge
  | none =>
    let s2 := if s.tb.cap[k].full then s1.hwSet idx 6 1 else s1
    let now := s.tb.cap[k].capAt == some s.now64
    s2.modCap k fun c =>
      { c with full := true, armed := c.armed && !(s.reg idx 1).testBit 2, capAt := some s.now64,
               prev := if now then c.prev else s.reg idx 4,
               ovr := if now then c.ovr else c.full && !(s.reg idx 6).testBit 0 }

/-- The end of a frame that capture source `src` names, of 8–10: an edge of the present tick on every channel that watches it (R377). -/
def captureFrom (s : State) (src : Nat) : State :=
  if s.live then
    (List.finRange 8).foldl (fun t k =>
      if t.reg (0x2820 + k.1) 2 = src ∧ t.capArmed k = true
          ∧ ((t.ownerOf k.1).isSome = true ∨ t.tb.cap[k].from_ ≤ t.now64) then capture t k t.now else t) s
  else s

/-- The channels of the timebase as the image sets them after a full reset (R376, R414). -/
def armStored (s : State) : State :=
  if s.pwr.afterFull then
    let s1 := (List.finRange 16).foldl (fun t k =>
      if (t.reg (0x2810 + k.1) 1).testBit 0 then judgeCmp t k (t.reg (0x2810 + k.1) 2) else t) s
    (List.finRange 8).foldl (fun t k => armCap t k (t.reg (0x2820 + k.1) 1)) s1
  else s

/-- The number of the entry that reports the loss of a group with no spare left; 0 with none. -/
def State.lossSeq (s : State) (g : Nat) : U32 :=
  ((s.log.find? fun e => e.code == 0x030A && e.unit == unitCode 2 g && !e.acked).map LogEntry.seq).getD 0

/-- What the fences that stand at step 8 do to the rails that the image has set up: a rail below MIN_LIVE is fenced, and so is one
whose engine is lost and whose role no other engine can take (R152, R153, R179). -/
def settleLosses (s : State) : State :=
  s.railList.foldl (fun t r =>
    let cause := t.lossSeq ((t.masterGroup r.1).getD 0)
    if t.phases r = [] ∨ (t.members r).all (fun n => t.ports[n].state != .fenced) = true then t
    else if (t.livePhases r).length < max 1 (t.act (railIdx r.1) 0x18) then fenceRailFor t r cause
    else match t.masterGroup r.1 with
      | none => t
      | some g => if t.gone.testBit g then moveMaster t r false cause else t) s

/-- Units whose state follows from settings at the end of step 8: port states, engines, sensors, charger, watchdog, two-wire
address, ADC reference. -/
def startUnits (s : State) : State :=
  let s1 := s.portList.foldl (fun t n => t.modPort n fun p =>
    if p.state = .fenced then p else { p with state := if s.pers n.1 = 0 then .off else .ready }) s
  let s2 := (List.finRange 16).foldl (fun t i => t.modTs i fun x =>
    { x with status := if t.reg (0x2400 + i.1) 1 = 0 then .off else .init }) (refreshEngines (s1.portList.foldl fencePair s1))
  armScan { s2 with
    chg := { s2.chg with state := if (s2.reg 0x2500 1).testBit 0 then .wait else .off }
    wd := { s2.wd with running := (s2.reg 0x2600 1).testBit 0, first := true, length := s2.reg 0x2600 3 * 1000, count := 0,
                       sub := 0, key := none, checked := 0 }
    tw := { s2.tw with base := BitVec.ofNat 7 (s2.reg 0x2E00 1), mask := BitVec.ofNat 7 (s2.reg 0x2E00 2) } }

/-- TRANS_CAUSE of a wake (Table 3-6). -/
def Wake.cause : Wake → Nat
  | .nmt _ => 4
  | .modeWrite => 1
  | .pb => 2
  | .twoWire => 5
  | .vin => 6

/-- The mode after step 8: STARTUP after a wake from STANDBY, SAFESTOP as before after a wake in SAFESTOP or a trip during the wake
(R75, R79), else what R73 gives. A core reset with the latch set records a transition from SAFESTOP to SAFESTOP. (DESIGN CHOICE, log
entry 111). -/
def endOfReset (s : State) : State :=
  match s.pwr.wake with
  | some w =>
    if s.md.mode = .standby ∧ s.latch.set = false then beginStartup { s with pwr := { s.pwr with wake := none } } w.cause
    else chgSettle (applyHolds (modeResets { s with pwr := { s.pwr with wake := none } } .safestop))
  | none =>
    if s.latch.set then enterMode s .safestop 0
    else if (s.reg 0x2000 6).testBit 0 then beginStartup s 0
    else enterStandby s 0

/-- The transaction that a wake stretched goes on with a slot of its own (R77), its first byte sent now. -/
def resumeTwoWire (s : State) : State :=
  match s.tw.wakeAddr with
  | none => s
  | some x => beginTransaction { noteSlots s with tw := { s.tw with wakeAddr := none } } x.1 x.2

/-- NMT state after boot-up (R335). -/
def bootNmt (s : State) : State :=
  let woke := match s.pwr.wake with
    | some (.nmt _) => true
    | _ => false
  { s with can := { s.can with nmt := if woke || s.reg 0x2F00 9 == 1 then .operational else .preop, nmtWake := false } }

/-- DIE_HARD after a 150 °C trip: from the AON island's note, or after a full reset from the fault record restored (R295). -/
def showDieHard (s : State) : State :=
  if s.thm.dieHard || (s.pwr.afterFull && (s.aon.firstCode == 0x080A || s.aon.lastCode == 0x080A)) then
    { s.orReg 0x2420 9 4 with thm := { s.thm with dieHard := false } }
  else s

/-- Every report that the collector still owes, in increasing order of its unit code (R29), each with its own stamp. -/
def reportOwed (s : State) : State :=
  let due := s.pwr.owed.foldl (fun l x => cellInsert l (x.2.1.toNat * 2 ^ 16 + x.1.toNat) x) []
  due.foldl (fun t c => reportAt t c.2.1 c.2.2.1 0 c.2.2.2) { s with pwr := { s.pwr with owed := [] } }

/-- A driver supply that was lost while the core domain was off is reported when it comes up (R17, R18). -/
def lostDrivers (s : State) : State :=
  (List.range s.variant.groups).foldl (fun t g =>
    if t.pwr.vdrvSeen.getLsbD g && !t.pwr.vdrv.getLsbD g then t.owe 0x0109 (unitCode 2 g) else t) s

/-- The interrupt controller at step 8: nothing pends and nothing is active, whatever the power-up's own reports pended (R394). -/
def quietIrq (s : State) : State := { s with irq := .reset }

/-- Step 8 of Table 2-5. -/
def openDevice (s : State) : State :=
  let s1 := startLinks (applyImage s)
  let s2 := showDieHard (enterPins (enterAon (armStored (settleLosses (startUnits s1)))) true)
  let s3 := reportOwed (lostDrivers s2)
  let s4 := tally (if s3.pwr.afterFull then tally s3 0xFD else s3) 0xFE
  let s5 := quietIrq (recause (bootNmt (bootUp { s4 with pwr := { s4.pwr with step := .running } })))
  let s6 := endOfReset s5
  resumeTwoWire (mirrorSlow (s6.railList.foldl mirrorRail (mirrorEngines (s6.portList.foldl mirrorPort s6))))

end Sys2Proof.Machine
end

