-- ==== Sys2Proof/Machine/Transfers.lean ====
section
/-! DEFINITION. What a value does when it reaches the active copies (R19–R25, R87, R161, R165), and the trips and restarts of rails (R112, R160, R170, R229). -/

namespace Sys2Proof.Machine
open Sys2Proof

/-! ## Trips and restarts -/

/-- Flags that keep a port in TRIPPED: LIMIT, OVERLOAD, RAMP_TMO, COIL_OPEN, COIL_SHORT (Tables 4-6, 4-8, 4-9). -/
def trippingFlags : Nat := 0x1 + 0x40 + 0x80 + 0x100 + 0x200

/-- Flags that a hiccup retry clears (R229). -/
def retryFlags : Nat := 0x1 + 0x40 + 0x80

/-- RAIL_FLAGS.START_FAIL. -/
def startFail : Nat := 0x10

/-- A member in TRIPPED, unless it is fenced, held or off. -/
def tripPort (s : State) (n : Fin 32) : State :=
  match s.ports[n].state with
  | .off | .fenced | .held => s
  | _ => s.modPort n fun p => p.still .tripped

/-- A rail in TRIPPED, `land` taking each member there; the hiccup retry is timed, or used up (R229). A rail that its report has fenced, or
that a trip has put in HELD, stays so. -/
def tripRailBy (land : State → Fin 32 → State) (s : State) (r : Fin 16) : State :=
  if s.rails[r].state = .fenced ∨ s.rails[r].state = .held then s else
  let old := s.railState r
  let s1 := (s.members r).foldl land s
  let s2 := railChanged (s1.modRail r fun x => { x with state := .tripped, trunc := false, heldOn := false }) r old false
  if s2.enabled r then
    let top := s2.act (railIdx r.1) 0x4D
    if s2.rails[r].hicCount < top ∨ top = 255 then s2.modRail r fun x => { x with hicWait := true }
    else judgeWaits (report (setSupFlag s2 r 0x20) 0x0408 (unitCode 3 r.1) 0)
  else judgeWaits s2

/-- A rail tripped at once, both gates of every member low (R102). -/
def tripRail (s : State) (r : Fin 16) : State := tripRailBy tripPort s r

/-- No flag keeps a rail in TRIPPED: START_FAIL and every member's tripping flags are clear. -/
def State.restartable (s : State) (r : Fin 16) : Bool :=
  (s.reg (railIdx r.1) 0x19 &&& startFail) == 0 && (s.members r).all fun n => s.tripFlags n &&& trippingFlags == 0

/-- A TRIPPED rail still enabled goes to PREBIAS, its members to PRECHARGE, once its flags are clear (Table 6-2). -/
def tryRestart (s : State) (r : Fin 16) : State :=
  if s.railState r = .tripped ∧ s.enabled r = true ∧ s.restartable r = true then startRail s r else s

/-- The hiccup retry of a rail (R229). -/
def retryRail (s : State) (r : Fin 16) : State :=
  let s1 := (s.members r).foldl (fun t n => t.clrReg (portIdx n.1) 0x12 retryFlags) s
  let s2 := (s1.clrReg (railIdx r.1) 0x19 startFail).modRail r fun x =>
    { x with hicWait := false, hicCount := satAdd 255 x.hicCount 1 }
  tryRestart s2 r

/-! ## What a transferred value does -/

/-- A personality change stops the correction ramp of the port's converter and abandons a visit to the port (R197). -/
def leaveVisit (s : State) (n : Fin 32) : State :=
  let s1 := s.modSc n.castSucc fun c => { c with ramp := none }
  if s1.milk.running && s1.milk.slot == n.1 + 1 then
    { s1 with milk := { s1.milk with visit := { s1.milk.visit with abandoned := true } } }
  else s1

/-- A personality transferred (R87, R110): OFF, or READY from where a hold may take it. -/
def persChanged (s : State) (n : Fin 32) (old : Nat) : State :=
  if s.pers n.1 = old then s
  else if s.ports[n].state = .fenced then fencePair s n
  else
    let s1 := s.modPort n fun p =>
      { p.still (if s.pers n.1 = 0 then .off else .ready) with tachAt := none, timing := none, region := 0 }
    fencePair (holdPort (leaveVisit s1 n) n) n

/-- TARGET changed (R165): a rail in REGULATING goes to SLEWING, one that slews turns toward the new goal. -/
def retarget (s : State) (r : Fin 16) : State :=
  let t := targetOf (s.act (railIdx r.1) 8) (s.act (railIdx r.1) 9)
  let s1 := s.modRail r fun x => { x with target := t }
  if s.rails[r].state = .regulating ∧ t ≠ s.rails[r].vref then toRail s1 r .slewing false else s1

/-- Every shed phase of a running rail added (rule 1 of R173); SKIM_EN transferred as 0 does so too (R174). -/
def addShed (s : State) (r : Fin 16) : State :=
  let shed := s.shedPhases r
  if shed = [] ∨ s.rails[r].state.runs = false then s else shed.foldl (fun t n => addPhase t r n) (setRailFlag s r 8)

/-- ENABLE transferred (Table 6-2). -/
def enableMoved (s : State) (r : Fin 16) : State :=
  if s.act (railIdx r.1) 3 = 1 then enableRail s r else stopRail s r false

/-- PER changed (R108): the phases move to the new offsets. A counter at or past the new PER returns to 0 in the next clock (R105). -/
def newPeriodLength (s : State) (r : Fin 16) (oldFsw : Nat) : State := if s.act (railIdx r.1) 7 = oldFsw then s else rephase s r

/-- A rail's membership changed: its master is again the engine of its lowest-numbered member, or of a surviving one where that engine is
lost with no spare (R131, R152). -/
def remaster (s : State) (r : Fin 16) : State :=
  let s1 := s.modRail r fun x => { x with moved := none, moving := 0 }
  match s1.masterGroup r.1 with
  | none => s1
  | some g => if s1.gone.testBit g then moveMaster s1 r false 0 else s1

/-- What one transferred value does; `old` was its active copy before. -/
def afterValue (s : State) (idx sub old : Nat) : State :=
  if h : 0x2100 ≤ idx ∧ idx < 0x2120 then
    let n : Fin 32 := ⟨idx - 0x2100, by omega⟩
    if sub = 1 then persChanged s n old
    else if sub = 0x31 ∧ s.act idx sub ≠ old then s.modPort n fun p => { p with tachAt := none }
    else s
  else if h : 0x2200 ≤ idx ∧ idx < 0x2210 then
    let r : Fin 16 := ⟨idx - 0x2200, by omega⟩
    if sub = 1 then refreshEngines (remaster s r)
    else if sub = 3 then enableMoved s r
    else if sub = 7 then newPeriodLength s r old
    else if sub = 8 ∨ sub = 9 then retarget s r
    else if sub = 0x10 ∧ s.act idx sub = 0 then s.modRail r fun x => { x with trunc := false, truncDac := 0 }
    else if sub = 0x12 ∧ s.act idx sub = 0 ∧ old = 1 then addShed s r
    else s
  else if idx = 0x2500 then chgSettle s
  else s

/-- The driver supplies that have never been ready reported, in the order of their groups, where a personality other than OFF is assigned
in `olds`' clock (R29, R44). -/
def reportDrivers (s : State) (olds : List (Key × Nat)) : State :=
  (List.range 8).foldl (fun t g =>
    let assigned := olds.any fun v =>
      let n := v.1 / 256 - 0x2100
      0x2100 ≤ v.1 / 256 && v.1 / 256 < 0x2120 && v.1 % 256 == 1 && n / 4 == g && s.pers n != v.2 && s.pers n != 0
    if assigned && !t.pwr.vdrvSeen.getLsbD g then report t 0x0109 (unitCode 2 g) 0 else t) s

/-- A list of values transferred in one clock, then what each of them does, in the order of the list. -/
def transferAll (s : State) (vs : List (Key × Nat)) : State :=
  let olds := vs.map fun v => (v.1, s.act (v.1 / 256) (v.1 % 256))
  let s1 := vs.foldl (fun t v => t.transfer (v.1 / 256) (v.1 % 256) v.2) s
  reportDrivers (olds.foldl (fun t v => afterValue t (v.1 / 256) (v.1 % 256) v.2) s1) olds

/-- Waits on writes: nothing that a fence of path `p` waits for is outstanding (R322). -/
def State.fenceClear (s : State) (p : PathId) (id : Nat) : Bool :=
  !(s.cmt.out.any fun o => o.path == p && o.id < id)

end Sys2Proof.Machine
end

