-- ==== Sys2Proof/Machine/Supply.lean ====
section
/-! DEFINITION. Supplies, clocks, resets and the power-on order: the events of chapter 2 and the safe-state sources of chapter 1.
An event that the spec does not let happen where the device stands changes nothing. -/

namespace Sys2Proof.Machine
open Sys2Proof

/-! ## Shared -/

/-- Unit code of a device-level source (Table 11-2). -/
def devUnit (i : Nat) : U16 := unitCode 0 i

/-- The end of a cause: what it keeps unacknowledged and the latch are judged again (R305, R306). -/
def causeEnded (s : State) : State := if s.live then tryClearLatch (recause s) else s

/-- A report of a supply the AON island watches: by the collector, or without the collector's clock by the AON record (R311, R470). -/
def supplyReport (s : State) (code unit : U16) : State :=
  if s.live then report s code unit 0 else trip (aonReport s code unit) false

/-- Loss of the core regulator (R65, Table 2-6): trip, AON record, core domain off for good, autostore, one EMCY, the links in
low-rate operation at their configured nominal rate (R66); no address is acknowledged any more, so a stretch ends. -/
def loseRegulator (s : State) : State :=
  let s1 := trip (aonReport { s with latch := { s.latch with coreReg := true } } 0x0104 (devUnit 4)) false
  let e := { mkEntry s1 0x0104 (devUnit 4) .f .h 0 with fromAon := true }
  let msg := emcyOf s1 e
  let s2 := coreOff s1 false
  let s3 := requestStore { s2 with
    pwr := { s2.pwr with regFailed := true, wake := none, lateWake := none, lateOther := none }
    tw := { s2.tw with wakeAddr := none }
    can := { s2.can with links := Vector.ofFn fun i => { s2.can.links[i] with rate := s2.can.links[i].nom } } } .regFail
  s3.emitAll (0x80 + s3.can.nodeId) false msg

/-! ## Power-on order (Table 2-5) -/

/-- VSYS rises through 5.0 V (R40, R61). No store is possible until VSTORE has charged again (R47). -/
def doVsysPowerOnReset (s : State) : State :=
  if s.pwr.step = .unpowered then fullReset { s with pwr := { s.pwr with vstoreOk := false } } 1 else s

/-- VSYS falls through 4.5 V (R40). -/
def doAonPowerLoss (s : State) : State :=
  if s.pwr.step = .unpowered then s
  else
    let t := aonDown s .unpowered
    { t with pwr := { t.pwr with vsys := .below } }

/-- Step 3: VSYS at or above 6.8 V, the core domain wanted (R48). -/
def doCoreEnable (s : State) : State :=
  if s.pwr.step = .aonUp ∧ s.pwr.coreWanted = true ∧ s.pwr.regFailed = false ∧ s.pwr.vsys ≠ .brownOut then
    { s with pwr := { s.pwr with step := .enabled, vsys := .ok } }
  else s

/-- Step 4: power-good; the supply monitors arm and the crystal oscillator starts (R48). -/
def doCorePowerGood (s : State) : State :=
  if s.pwr.step = .enabled then
    { s with pwr := { s.pwr with step := .good, regMon := true, vcc5Mon := true, vcc5 := true, vcore := true, xtalOsc := true } }
  else s

/-- No power-good within 600 µs of step 3 (R470). -/
def doCorePowerGoodTimeout (vcoreOk : Bool) (s : State) : State :=
  if s.pwr.step = .enabled then
    if vcoreOk then
      trip (aonReport { s with pwr := { s.pwr with step := .good, regMon := true, vcc5Mon := true, vcc5 := false,
                                                   vcore := true, xtalOsc := true } } 0x0103 (devUnit 3)) false
    else loseRegulator s
  else s

/-- Step 5: the crystal is valid (R53). -/
def doCrystalValid (s : State) : State :=
  if s.pwr.step = .good then { s with pwr := { s.pwr with step := .clocked, xtalOk := true, refAon := false } } else s

/-- Step 5 without a crystal: the PLL takes the AON oscillator; reported when the collector runs (R53). -/
def doCrystalStartFallback (s : State) : State :=
  if s.pwr.step = .good then
    { s with pwr := { s.pwr with step := .clocked, xtalOk := false, refAon := true } }.owe 0x0106 (devUnit 5)
  else s

/-- Step 6: PLL and DLL locked, the clock-loss detector armed (R48). -/
def doPllLock (s : State) : State :=
  if s.pwr.step = .clocked then
    { s with pwr := { s.pwr with step := .locked, pllLock := true, dllLock := true, clkMon := true },
             latch := { s.latch with clock := false } }
  else s

/-- Step 7: recall complete, core reset released. -/
def doCoreResetRelease (strap : BitVec 4) (failed : BitVec 9) (s : State) : State :=
  if s.pwr.step = .locked ∧ s.pwr.gated = false then releaseCore s strap failed else s

/-- Step 8: the stored configuration applied, the dictionary open, the end-of-reset mode entered. -/
def doConfigApply (s : State) : State := if s.pwr.step = .released then openDevice s else s

/-! ## VSYS and resets -/

/-- VSYS falls through 6.5 V (R41): class F, and the autostore in the same tick. -/
def doPowerFail (s : State) : State :=
  if s.aonUp = true ∧ s.pwr.vsys = .ok then
    let s1 := { s with pwr := { s.pwr with vsys := .powerFail } }
    requestStore (supplyReport s1 0x0101 (devUnit 1)) .powerFail
  else s

/-- VSYS falls through 6.0 V with the core domain enabled (R42): the core domain off, SAFESTOP. With the core domain already off it
is no brown-out. (DEDUCED, log entry 95). -/
def doBrownOut (s : State) : State :=
  if s.aonUp = true ∧ s.pwr.vsys = .powerFail ∧ s.pwr.step ≠ .aonUp then
    let s1 := if s.md.mode = .safestop then s else enterMode (stopSqe s) .safestop 10
    let s2 := coreOff s1 false
    { s2 with pwr := { s2.pwr with vsys := .brownOut, wake := none, lateWake := none, lateOther := none }, tw := { s2.tw with wakeAddr := none } }
  else s

/-- VSYS at or above 6.8 V for 10 ms after a brown-out: a full reset with cause VSYS_BOR (R42). -/
def doBrownOutRecovery (s : State) : State :=
  if s.aonUp = true ∧ s.pwr.vsys = .brownOut then fullReset { s with pwr := { s.pwr with vsys := .ok } } 8 else s

/-- VSYS back above 6.8 V from a power-fail: no reset (R42). -/
def doVsysRecovery (s : State) : State :=
  if s.aonUp = true ∧ s.pwr.vsys = .powerFail then causeEnded { s with pwr := { s.pwr with vsys := .ok } } else s

/-- NRST held low (R38). (DESIGN CHOICE, log entry 37). -/
def doNrstAssert (s : State) : State :=
  if s.pwr.step = .unpowered ∨ s.pwr.step = .nrstLow then s else aonDown s .nrstLow

/-- NRST released (R58, R59). -/
def doNrstRelease (s : State) : State := if s.pwr.step = .nrstLow then fullReset s 2 else s

/-! ## The other supplies -/

/-- VIO below 1.55 V for 10 µs: the straps then read 0 at step 7 (R439). The fault is reported from step 7 on (R45); in a
crystal-loss gap it waits for the collector's clock. -/
def doVioUndervoltage (s : State) : State :=
  let s1 := { s with pwr := { s.pwr with vio := false } }
  if s.live then report s1 0x0102 (devUnit 2) 0 else if s.coreOn then s1.owe 0x0102 (devUnit 2) else s1

/-- VIO back at 1.55 V or above (R305). -/
def doVioRecovery (s : State) : State := causeEnded { s with pwr := { s.pwr with vio := true } }

/-- VCC5 below 4.6 V for 2 µs, while its monitor is armed (R48, R49). -/
def doVcc5Undervoltage (s : State) : State :=
  if s.pwr.vcc5Mon = true ∧ s.pwr.vcc5 = true then
    supplyReport { s with pwr := { s.pwr with vcc5 := false } } 0x0103 (devUnit 3)
  else s

/-- VCC5 back at 4.6 V or above while the core domain is enabled. -/
def doVcc5Recovery (s : State) : State :=
  if s.pwr.vcc5Mon then causeEnded { s with pwr := { s.pwr with vcc5 := true } } else s

/-- VCORE below 0.78 V for 1 µs with VSYS at or above 6.0 V (R48, R65). -/
def doCoreRegulatorFail (s : State) : State :=
  if s.pwr.regMon = true ∧ s.pwr.vsys ≠ .brownOut then loseRegulator s else s

/-- VDRVg below 4.1 V (R18, R44): a fault of the group once it has been ready since the last reset. With the collector's clock
absent, or the core domain off, the report waits for it. A loss reported between steps 7 and 8 is not reported again at step 8
(`lostDrivers`). -/
def doVdrvUndervoltage (g : Fin 8) (s : State) : State :=
  if s.pwr.vdrv.getLsbD g.1 then
    let s1 := { s with pwr := { s.pwr with
      vdrv := clrBit s.pwr.vdrv g.1
      vdrvSeen := if s.coreOn && !s.isOpen then clrBit s.pwr.vdrvSeen g.1 else s.pwr.vdrvSeen } }
    if s1.coreOn && g.1 < s1.variant.groups && s.pwr.vdrvSeen.getLsbD g.1 then
      (if s1.live then report s1 0x0109 (unitCode 2 g.1) 0 else s1.owe 0x0109 (unitCode 2 g.1))
    else s1
  else s

/-- VDRVg rises through 4.3 V: the group is ready (R44). -/
def doVdrvReady (g : Fin 8) (s : State) : State :=
  let s1 := { s with pwr := { s.pwr with
    vdrv := setBit s.pwr.vdrv g.1
    vdrvSeen := if s.aonUp then setBit s.pwr.vdrvSeen g.1 else s.pwr.vdrvSeen } }
  if s1.ready then applyHolds s1 else s1

/-- VIN declared present (R43): a full search is due (R256) and the charger judged again. -/
def doVinPresent (s : State) : State :=
  if s.pwr.vin then s
  else
    let s1 := { s with pwr := { s.pwr with vin := true } }
    if s1.ready then chgSettle (askSearch s1) else if s1.isOpen then { s1 with chg := { s1.chg with asked := true } } else s1

/-- What an absent VIN does to the mode (R70, R81): RUN goes to HOLDUP; a re-qualification ends in STANDBY, which leaves a held on
request as it stands (DEDUCED, log entry 98). -/
def vinGone (s : State) : State :=
  if s.md.mode = .run then enterHoldup s 7
  else if s.md.requal then enterStandby (s.clrReg 0x2000 8 4) 7
  else chgSettle s

/-- VIN declared absent (R43). With the core clock gated the modes follow when it restarts. -/
def doVinAbsent (s : State) : State :=
  if s.pwr.vin then
    let s1 := { s with pwr := { s.pwr with vin := false, qualGap := false } }
    if s1.ready then vinGone s1 else s1
  else s

/-- VSTORE reaches VSTORE_OK: a store that waits starts (R403). -/
def doVstoreOkReached (s : State) : State :=
  let s1 := { s with pwr := { s.pwr with vstoreOk := true } }
  match s1.ks.waiting with
  | some c => if s1.aonUp = true ∧ s1.ks.running = none then startStore s1 c else s1
  | none => s1

/-! ## Clocks -/

/-- The crystal monitor declares loss (R54, steps 1 and 2 of Table 2-3); its report waits for step 4. -/
def doCrystalLoss (s : State) : State :=
  if s.coreOn = true ∧ s.pwr.gated = false ∧ s.pwr.xtalOk = true ∧ s.pwr.refAon = false then
    let s1 := (s.bump 0x2000 0x23 0xFFFF 1)
    applyHolds ({ s1 with pwr := { s1.pwr with xtalOk := false, gated := true, refAon := true, pllLock := false,
                                               dllLock := false } }.owe 0x0107 (devUnit 5))
  else s

/-- The modes in which a press or the door makes a request. -/
def State.takesRequests (s : State) : Bool :=
  s.ready && match s.md.mode with
    | .startup | .run | .holdup | .shutdown => true
    | _ => false

/-- What a pin event of PIN_EVT bit `b` asks of the modes: a short press is an on request, a long press a forced off request, DOOR
acts by DOOR_ACT, SVCKEY's release ends SERVICE (R83, R234, R236). -/
def pinAct (s : State) (b : Nat) : State :=
  match b with
  | 0 => if s.takesRequests then onRequest s 2 else s
  | 1 => if s.takesRequests then forcedOff s 3 else s
  | 5 => if s.ready = true ∧ s.md.mode = .service then enterStandby s 12 else s
  | 6 =>
    if s.takesRequests = true ∧ s.md.mode ≠ .shutdown then
      match s.reg 0x2300 0x0D with
      | 1 => offRequest s 14
      | 2 => forcedOff s 14
      | _ => s
    else s
  | _ => s

/-- Rails that HOLDUP turned off. -/
def State.huOffMask (s : State) : BitVec 16 :=
  BitVec.ofNat 16 (bitsOf ((List.finRange 16).map fun r => s.rails[r].huOff))

/-- RUN again from HOLDUP: every rail that HOLDUP turned off is restarted in script order (R81, R221), and a full search
starts (R270). -/
def backToRun (s : State) : State :=
  let m := s.huOffMask
  let s1 := enterMode (askSearch s) .run 6
  let s2 := s1.railList.foldl (fun t r => t.modRail r fun x => { x with huOff := false, huRun := false }) s1
  if m = 0 then s2 else callPartial s2 (.restart m)

/-- VIN_QUAL has ended: HOLDUP returns to RUN, a re-qualification goes on to STARTUP (R81). -/
def vinQualified (s : State) : State :=
  if s.md.mode = .holdup then backToRun s
  else if s.md.requal then beginStartup (s.clrReg 0x2000 8 4) 6
  else s

/-- What the AON island saw while the core clock was gated acts once it runs again, in the order of R72: VIN, forced off requests,
the other pins in the order they came. -/
def afterGap (s : State) : State :=
  if s.isOpen then
    let s0 := { s with pwr := { s.pwr with qualGap := false } }
    let s1 := if !s.pwr.vin then vinGone s0 else if s.pwr.qualGap then vinQualified s0 else s0
    let s2 := if s1.chg.asked then chgSettle (askSearch s1) else s1
    let pins := s.pins.latched.map Prod.fst
    ((pins.filter (· == 1)) ++ pins.filter (· != 1)).foldl pinAct (enterPins s2 false)
  else s

/-- The core clock restarts on the AON reference (steps 3 and 4 of Table 2-3): what the collector is owed is reported with the
stamps of the gap, the AON record's reports are entered, rails start from their present output. -/
def doCoreClockRestart (s : State) : State :=
  if s.pwr.gated then
    let s1 := { s with pwr := { s.pwr with gated := false, pllLock := true, dllLock := true },
                       latch := { s.latch with clock := false } }
    if s1.coreOn then afterGap (searchOwed (chgSettle (applyHolds (enterAon (reportOwed s1))))) else s1
  else s

/-- The main clock absent for more than 40 µs, from step 6 on and whatever its reference (R34, R48): the core has no clock. -/
def doClockLossTrip (s : State) : State :=
  if s.pwr.clkMon = true ∧ s.latch.clock = false then
    let s1 := { s with latch := { s.latch with clock := true },
                       pwr := { s.pwr with gated := true, pllLock := false, dllLock := false } }
    trip (aonReport s1 0x0105 (devUnit 5)) false
  else s

/-- The DLL loses lock (R57). -/
def doDllUnlock (s : State) : State :=
  if s.live = true ∧ s.pwr.dllLock = true then report { s with pwr := { s.pwr with dllLock := false } } 0x0108 (devUnit 5) 0
  else s

/-- The DLL relocks (R57). -/
def doDllRelock (s : State) : State :=
  if s.live = true ∧ s.pwr.pllLock = true then { s with pwr := { s.pwr with dllLock := true } } else s

/-! ## Hard-wired trip sources -/

/-- ESTOP asserted (R237): gates low whatever the latch holds; the AON island, if it runs, trips and records it, but for SHIP, where the
ball is ignored (Table 17-4). -/
def doEstopAssert (s : State) : State :=
  if s.latch.estop then s
  else
    let s1 := { s with latch := { s.latch with estop := true } }
    if s1.aonUp = true ∧ s1.md.mode ≠ .ship then supplyReport (pinEvent s1 8) 0x010A (devUnit 6) else s1

/-- ESTOP released: the latch stays set; the cause of the entry ends (R36, R305). -/
def doEstopRelease (s : State) : State := causeEnded { s with latch := { s.latch with estop := false } }

/-- A die comparator trips (R290); with the core domain off only DS3's works. -/
def doDieComparatorTrip (d : Fin 4) (s : State) : State :=
  if s.aonUp = true ∧ s.latch.die.getLsbD d.1 = false ∧ (s.coreOn = true ∨ d = 3) then
    supplyReport { s with latch := { s.latch with die := setBit s.latch.die d.1 }, thm := { s.thm with dieHard := true } } 0x080A
      (devUnit 9)
  else s

/-- A die comparator releases (R305). -/
def doDieComparatorRelease (d : Fin 4) (s : State) : State :=
  causeEnded { s with latch := { s.latch with die := clrBit s.latch.die d.1 } }

/-! ## The commands -/

/-- VSYS_POWER_ON_RESET (R61). VSYS rises through 5.0 V, so the AON LDO starts and the device runs a full reset through the
power-on order. -/
def execVsysPowerOnReset (s : State) : Out := done s (doVsysPowerOnReset s)

/-- AON_POWER_LOSS (R40). VSYS falls through 4.5 V, the AON island is lost and the outputs take their unpowered states. -/
def execAonPowerLoss (s : State) : Out := done s (doAonPowerLoss s)

/-- CORE_ENABLE (R48). With VSYS at or above 6.8 V and the device not in SHIP or STANDBY, the core regulator and VCC5 start
and keep-store recall begins (step 3). -/
def execCoreEnable (s : State) : Out := done s (doCoreEnable s)

/-- CORE_POWER_GOOD (R61). VCORE and VCC5 reach power-good, the core monitors arm and the crystal oscillator starts (step 4). -/
def execCorePowerGood (s : State) : Out := done s (doCorePowerGood s)

/-- CORE_POWER_GOOD_TIMEOUT (R470). Power-good is not reached within 600 µs of step 3, and the device treats this as a
core-regulator failure or a VCC5 undervoltage. -/
def execCorePowerGoodTimeout (vcoreOk : Bool) (s : State) : Out := done s (doCorePowerGoodTimeout vcoreOk s)

/-- CRYSTAL_VALID (R53). The crystal passes 1024 ticks without a loss condition, and the PLL locks to it (step 5). -/
def execCrystalValid (s : State) : Out := done s (doCrystalValid s)

/-- CRYSTAL_START_FALLBACK (R53). The crystal is not valid within 10 ms of power-good, so the PLL uses the AON oscillator and
a class U fault is raised. -/
def execCrystalStartFallback (s : State) : Out := done s (doCrystalStartFallback s)

/-- PLL_LOCK (R61). The PLL and the DLL lock at 400 MHz (step 6). -/
def execPllLock (s : State) : Out := done s (doPllLock s)

/-- CORE_RESET_RELEASE (R61). Recall completes, the core reset is released and factory trims are loaded into every converter
(step 7). -/
def execCoreResetRelease (strap : BitVec 4) (selfTestFailed : BitVec 9) (s : State) : Out :=
  done s (doCoreResetRelease strap selfTestFailed s)

/-- CONFIG_APPLY (R414). The stored image is applied through the commit point, the dictionary opens and the device enters its
end-of-reset mode (step 8). -/
def execConfigApply (s : State) : Out := done (doConfigApply s) (doConfigApply s)

/-- POWER_FAIL (R41). VSYS falls through 6.5 V, a class F power-fail fault is reported and an autostore starts. -/
def execPowerFail (s : State) : Out := done s (doPowerFail s)

/-- BROWN_OUT (R42). VSYS falls through 6.0 V, and the AON island switches the core domain off with the device in SAFESTOP. -/
def execBrownOut (s : State) : Out := done s (doBrownOut s)

/-- BROWN_OUT_RECOVERY (R42). VSYS stays at or above 6.8 V for 10 ms after a brown-out, and the AON island performs a full
reset with cause VSYS_BOR. -/
def execBrownOutRecovery (s : State) : Out := done s (doBrownOutRecovery s)

/-- NRST_ASSERT (R38). NRST is held low, every domain is held in reset and the timebase is stopped and cleared. -/
def execNrstAssert (s : State) : Out := done s (doNrstAssert s)

/-- NRST_RELEASE (R59). NRST is released after at least 1 µs low, which starts a full reset. -/
def execNrstRelease (s : State) : Out := done s (doNrstRelease s)

/-- VIO_UNDERVOLTAGE (R45). VIO stays below 1.55 V for 10 µs with the core domain on, which raises a class F fault. -/
def execVioUndervoltage (s : State) : Out := done s (doVioUndervoltage s)

/-- VCC5_UNDERVOLTAGE (R49). VCC5 stays below 4.6 V for 2 µs, which raises a class F fault. -/
def execVcc5Undervoltage (s : State) : Out := done s (doVcc5Undervoltage s)

/-- CORE_REGULATOR_FAIL (R65). VCORE stays below 0.78 V for 1 µs while VSYS is at or above 6.0 V, and the AON island takes
over in SAFESTOP. -/
def execCoreRegulatorFail (s : State) : Out := done s (doCoreRegulatorFail s)

/-- CRYSTAL_LOSS (R54). The crystal monitor declares loss, pulses stop, the core clock is gated and the PLL switches to the
AON reference. -/
def execCrystalLoss (s : State) : Out := done s (doCrystalLoss s)

/-- CORE_CLOCK_RESTART (R54). The core clock restarts on the AON reference, the crystal-loss fault is reported and rails
soft-start pre-biased. -/
def execCoreClockRestart (s : State) : Out := done s (doCoreClockRestart s)

/-- CLOCK_LOSS_TRIP (R34). The main clock has been absent for more than 40 µs, and the AON clock-loss detector trips the
safe-state logic. -/
def execClockLossTrip (s : State) : Out := done s (doClockLossTrip s)

/-- DLL_UNLOCK (R57). The DLL loses lock, so edges fall at 2.5 ns resolution and a class C fault is raised. -/
def execDllUnlock (s : State) : Out := done s (doDllUnlock s)

/-- DLL_RELOCK (R57). The DLL relocks and fine edge placement resumes. -/
def execDllRelock (s : State) : Out := done s (doDllRelock s)

/-- VDRV_UNDERVOLTAGE (R18). VDRVg falls below its threshold, the group's gates are held low and the group is fenced. -/
def execVdrvUndervoltage (g : Fin 8) (s : State) : Out := done s (doVdrvUndervoltage g s)

/-- VDRV_READY (R44). VDRVg rises through 4.3 V and the group becomes ready. -/
def execVdrvReady (g : Fin 8) (s : State) : Out := done s (doVdrvReady g s)

/-- VIN_PRESENT (R43). VIN has stayed above 8.5 V for 100 µs and is declared present. -/
def execVinPresent (s : State) : Out := done s (doVinPresent s)

/-- VIN_ABSENT (R43). VIN has stayed below 8.0 V for 100 µs and is declared absent. -/
def execVinAbsent (s : State) : Out := done s (doVinAbsent s)

/-- ESTOP_ASSERT (R237). ESTOP is asserted, and the hard-wired path trips the safe-state logic. -/
def execEstopAssert (s : State) : Out := done s (doEstopAssert s)

/-- ESTOP_RELEASE (R36). ESTOP is released, the trip latch stays set and the cause of the ESTOP entry ends. -/
def execEstopRelease (s : State) : Out := done s (doEstopRelease s)

/-- DIE_COMPARATOR_TRIP (R290). A 150 °C die comparator trips the safe-state logic directly. -/
def execDieComparatorTrip (d : Fin 4) (s : State) : Out := done s (doDieComparatorTrip d s)

/-- VSYS_RECOVERY (R42). VSYS returns above 6.8 V after a power-fail without reaching 6.0 V, so VSYS_OK is set again and no
reset occurs. -/
def execVsysRecovery (s : State) : Out := done s (doVsysRecovery s)

/-- VIO_RECOVERY (R305). VIO rises back to 1.55 V or above, so VIO_OK is set and the cause of a VIO undervoltage entry ends. -/
def execVioRecovery (s : State) : Out := done s (doVioRecovery s)

/-- VCC5_RECOVERY (R305). VCC5 rises back to 4.6 V or above, so VCC5_OK is set and the cause of a VCC5 undervoltage entry
ends. -/
def execVcc5Recovery (s : State) : Out := done s (doVcc5Recovery s)

/-- DIE_COMPARATOR_RELEASE (R305). The 150 °C die comparator deasserts, so the trip source and the cause of the 0x080A entry
end. -/
def execDieComparatorRelease (d : Fin 4) (s : State) : Out := done s (doDieComparatorRelease d s)

/-- VSTORE_OK_REACHED (R403). VSTORE rises through VSTORE_OK, so a store waiting for it starts and VSTORE_OK is set in
SUPPLY_STAT. -/
def execVstoreOkReached (s : State) : Out := done s (doVstoreOkReached s)

end Sys2Proof.Machine
end

