-- ==== Sys2Proof/Machine/Ports.lean ====
section
/-! DEFINITION. Power ports (chapter 4): periods, pulse edges, comparator trips, precharge, LSW, COIL and FAN events. The gates
stand here as they do between events: an event that ends a pulse takes the main gate low and lets the other gate follow. -/

namespace Sys2Proof.Machine
open Sys2Proof

/-! ## Gates (Table 4-2) -/

/-- GLn is the main gate. -/
def mainLow (pers : Nat) : Bool := pers == 2 || pers == 5 || pers == 6

/-- The odd port of a BB4 pair, from its even port; any other port itself. -/
def State.mate (s : State) (n : Fin 32) : Fin 32 := if s.pers n.1 = 3 then ⟨(n.1 + 1) % 32, Nat.mod_lt _ (by decide)⟩ else n

/-- The main gate is on: the even GHn of a BB4 pair in the buck and buck-boost regions, its odd GLn in the boost region. -/
def State.mainOn (s : State) (n : Fin 32) : Bool :=
  if s.pers n.1 = 3 ∧ s.ports[n].region = 2 then s.ports[s.mate n].gl
  else if mainLow (s.pers n.1) then s.ports[n].gl else s.ports[n].gh

/-- A port's gates set at a clock of its period; how long GLn stays on is measured (R94). -/
def Port.gates (p : Port) (gh gl : Bool) (clock : Nat) : Port :=
  { p with gh := gh, gl := gl, glAt := if gl && !p.gl then clock else p.glAt,
           lowTime := if p.gl && !gl then max p.lowTime (clock - p.glAt) else p.lowTime }

/-- Core clocks of a dead time in 156.25 ps. -/
def deadClocks (dt : Nat) : Nat := (dt + 15) / 16

/-- The two ports of a BB4 pair, from its even port; any other port alone. -/
def State.pairOf (s : State) (n : Fin 32) : List (Fin 32) := if s.pers n.1 = 3 then [n, s.mate n] else [n]

/-- The half-bridges of a port that switch in its periods: a BB4 pair's by its region; the other's GHn is held on by the charge pump
(R115). -/
def State.legs (s : State) (n : Fin 32) : List (Fin 32) :=
  if s.pers n.1 = 3 then
    match s.ports[n].region with
    | 0 => [n]
    | 1 => [n, s.mate n]
    | _ => [s.mate n]
  else [n]

/-- The settings a port latches at its period start (R22). -/
def State.timingNow (s : State) (n : Fin 32) : PortTiming :=
  let a := fun sub => s.act (portIdx n.1) sub
  { dtHL := a 0x0B, dtLH := a 0x0C, tOffMin := a 0x0E, slope := a 9, light := a 0x0F, tripMode := a 7, backstop := a 0x0A,
    bstRefresh := a 0x10, tRefresh := a 0x11 }

/-- The timing in force: what the last period start latched, else the active copies. -/
def State.timing (s : State) (n : Fin 32) : PortTiming := (s.ports[n].timing).getD (s.timingNow n)

/-- A limit trip on a port acts cycle by cycle: TRIP_MODE 0, or a converter rail in PREBIAS or SOFT_START; LSW always latches
(R102, R170). -/
def State.byCycle (s : State) (n : Fin 32) : Bool :=
  if s.pers n.1 = 4 then false
  else (s.timing n).tripMode == 0 ||
    match s.railOf n with
    | none => false
    | some r => isConverter (s.pers n.1) && (s.rails[r].state == .prebias || s.rails[r].state == .softStart)

/-- The clock of a period at which an edge's compare value stands (R94, R106): an inserted refresh brings the end of the main-gate pulse
forward. -/
def State.edgeAt (s : State) (n : Fin 32) (e : PulseEdge) : Nat :=
  let t := s.timing n
  let per := s.portPer n
  let top := s.act (portIdx n.1) 0x0D * per / 256
  match e with
  | .blank => s.ports[n].onAt + s.act (portIdx n.1) 8
  | .maxOn => if (s.pairOf n).any fun q => s.ports[q].refreshNow then min top (per - (t.tRefresh + deadClocks t.dtHL + deadClocks t.dtLH)) else top
  | .fanDuty => s.act (portIdx n.1) 0x30 * per / 100

/-- The main gate turned off at a clock of the period. The other gate follows as synchronous rectifier, unless it is off for the period; a
COIL's GHn stays on. In a BB4 pair the half-bridge that does not switch stays as its region holds it, and in the buck-boost region the
odd one follows the boost duty (R113, R115). -/
def endMain (s : State) (n : Fin 32) (clock : Nat) : State :=
  let p := s.ports[n]
  let t := s.timing n
  let low := clock + deadClocks t.dtHL
  match s.pers n.1 with
  | 2 => s.modPort n fun q => q.gates (!q.rectOff && !q.bstLow) false clock
  | 3 =>
    match p.region with
    | 0 | 1 => s.modPort n fun q => q.gates false (!q.rectOff) low
    | _ => s.modPort (s.mate n) fun q => q.gates (!p.rectOff && !q.bstLow) false clock
  | 4 | 6 => s.modPort n fun q => q.gates false false clock
  | 5 => s.modPort n fun q => q.gates true false clock
  | _ => s.modPort n fun q => q.gates false (!q.rectOff) low

/-- Both gates of a port, and of its pair, low for the rest of the period. -/
def gatesLow (s : State) (n : Fin 32) : State :=
  let at_ := s.ports[n].count
  (s.modPort n fun q => { q.gates false false at_ with rectOff := true, bstLow := true, onDue := false }).modPort (s.mate n) fun q =>
    q.gates false false at_

/-- The gates between a period's start and its main-gate turn-on (R107, R113): the pulse or the rectifier of the period before has ended,
and what its personality or region holds on stays on. -/
def restGates (s : State) (n : Fin 32) : State :=
  match s.pers n.1 with
  | 3 =>
    (s.modPort n fun q => q.gates (s.ports[n].region == 2) false 0).modPort (s.mate n) fun q =>
      q.gates (s.ports[n].region == 0 && !q.bstLow) false 0
  | 4 => s
  | 5 => s.modPort n fun q => q.gates true false 0
  | _ => s.modPort n fun q => q.gates false false 0

/-- The gates at the clock of the main-gate turn-on (Table 4-2, R113, R115): the main gate on unless its pulse is skipped or forbidden, in
which case the port's gates are low until its maximum-duty edge (DESIGN CHOICE, log entry 103). A LSW's GHn is on throughout, a COIL's GHn
too, a FAN's GLn by its duty; a BB4 pair by its region. -/
def beginMain (s : State) (n : Fin 32) (duty : Nat) (pulse : Bool) : State :=
  let at_ := s.ports[n].onAt
  let odd := deadClocks (s.timing n).dtHL
  match s.pers n.1 with
  | 2 => s.modPort n fun q => q.gates false pulse at_
  | 3 =>
    match s.ports[n].region with
    | 0 => (s.modPort n fun q => q.gates pulse false at_).modPort (s.mate n) fun q => q.gates (!q.bstLow) false at_
    | 1 => (s.modPort n fun q => q.gates pulse false at_).modPort (s.mate n) fun q => q.gates (!pulse && !q.bstLow) pulse (max odd at_)
    | _ => (s.modPort n fun q => q.gates true false at_).modPort (s.mate n) fun q => q.gates false pulse at_
  | 4 => s.modPort n fun q => q.gates true false at_
  | 5 => s.modPort n fun q => q.gates true pulse at_
  | 6 => s.modPort n fun q => q.gates false (duty != 0) at_
  | _ => s.modPort n fun q => q.gates pulse false at_

/-! ## Trips of a port -/

/-- A port and its rail tripped: the flag, the report, the rail's overcurrent count when it is one (R102, R116–R119). -/
def tripBy (s : State) (n : Fin 32) (flag : Nat) (code : U16) (overcurrent : Bool) : State :=
  let s1 := report (setTrip s n flag) code (unitCode 1 n.1) 0
  match s1.railOf n with
  | none => s1.modPort n fun p => p.still .tripped
  | some r => tripRail (if overcurrent then countRail s1 r 0x54 else s1) r

/-- A single port moved to a state; its LSW, COIL or FAN rail follows (R160). -/
def movePort (s : State) (n : Fin 32) (f : Port → Port) : State :=
  match s.railOf n with
  | none => s.modPort n f
  | some r => railChanged (s.modPort n f) r (s.railState r) false

/-- DISCHARGE or RELEASE has ended: the port goes to READY, and an ENABLE = 1 that waited for it starts its rail again (R162). -/
def releaseEnd (s : State) (n : Fin 32) : State :=
  let s1 := movePort s n fun p => p.still .ready
  match s1.railOf n with
  | none => s1
  | some r => if s1.rails[r].heldOn then startRail s1 r else s1

/-! ## BB4 regions (R115) -/

/-- Which way a pair's duty commands ask it to go: `some true` to the next higher region. Commands in 1/65536. -/
def regionAsk (region buck boost : Nat) : Option Bool :=
  match region with
  | 0 => if 55706 ≤ buck then some true else none
  | 1 => if 9831 ≤ boost then some true else if buck ≤ 49152 then some false else none
  | _ => if boost ≤ 3276 then some false else none

/-- The region of a pair after one more period: it changes after eight in a row that ask the same. -/
def Port.stepRegion (p : Port) (buck boost : Nat) : Port :=
  match regionAsk p.region buck boost with
  | none => { p with regRun := 0 }
  | some up =>
    let run := if p.regSide == up then p.regRun + 1 else 1
    if run < 8 then { p with regRun := run, regSide := up }
    else { p with regRun := 0, regSide := up, region := if up then p.region + 1 else p.region - 1 }

/-! ## Periods -/

/-- A period refreshed the bootstrap of a half-bridge: GLn was on for T_REFRESH; where GLn is the main gate or the boost leg's, a pulse
was given (R94). -/
def Port.refreshed (p : Port) (byPulse : Bool) (tRefresh per : Nat) : Bool :=
  byPulse || decide (tRefresh ≤ (if p.gl then max p.lowTime (per - p.glAt) else p.lowTime))

/-- The periods since each half-bridge of a port was last refreshed, as the period that ends leaves them; one that does not switch needs
none (R94, R115). -/
def countRefresh (s : State) (n : Fin 32) : State :=
  let t := (s.timing n).tRefresh
  let pulsed := s.ports[n].pulsed
  (s.pairOf n).foldl (fun u q => u.modPort q fun p =>
    let byPulse := pulsed && (mainLow (s.pers n.1) || q != n)
    { p with refresh := if (s.legs n).contains q && !p.refreshed byPulse t (s.portPer n) then p.refresh + 1 else 0 }) s

/-- What the period that ends leaves: its backstop and short runs. -/
def Port.endPeriod (p : Port) : Port :=
  { p with backRun := if p.backNow then p.backRun + 1 else 0, backNow := false,
           shortRun := if p.shortNow then p.shortRun + 1 else 0, shortNow := false }

/-- The DAC level `clocks` after the main-gate turn-on, in 1/256 code: SLOPE taken away in every clock, stopping at −512 (R98). -/
def rampTo (dac : Int) (slope clocks : Nat) : Int := max (-512 * 256) (dac * 256 - (slope * clocks : Nat))

/-- The DAC output in codes: the integer part. -/
def Port.dacNow (p : Port) : Int := p.ramp / 256

/-- The DAC level `clocks` further on (R98). -/
def Port.lower (p : Port) (slope clocks : Nat) : Int := max (-512 * 256) (p.ramp - (slope * clocks : Nat))

/-- A new period: edges re-armed, its main-gate turn-on still to come (R106, R113). A LSW's gate stays on, so its blanking, its crossing and
the limit trip that waits for its blanking's end stand. The counter starts from 0, or goes on from where it has come since it returned to
0 (R105). (DESIGN CHOICE, log entry 61). -/
def Port.newPeriod (p : Port) (pers onAt : Nat) : Port :=
  let on := pers == 4
  { p with count := if p.wrapped then p.count else 0, wrapped := false, hold := 0, fired := [], blanked := on && p.blanked,
           crossed := on && p.crossed, limitNow := false, limPend := on && p.limPend, filt := on && p.filt, rectOff := false,
           bstLow := false, refreshNow := false, onAt := onAt, onDue := true, glAt := 0, lowTime := 0, pulsed := false }

/-- The command released since the last turn-on, clamped for the DAC with the LIMIT_CODE of the update that computed it, the pulse skipped
below −LIMIT_CODE (R22, R98, R134); `live` is the LIMIT_CODE of a port that no update has commanded yet. -/
def Port.takeCmd (p : Port) (live : Nat) : Port :=
  let q := match p.newCmd with
    | none => p
    | some (c, l) => { p with newCmd := none, cmd := c, lim := some l }
  let limit : Nat := q.lim.getD live
  { q with dac := clampInt (-limit) limit q.cmd, skip := decide (q.cmd < -(limit : Int)) }

/-- Whether the period gives a pulse; the DAC takes its level at the turn-on (R98). -/
def Port.takePulse (p : Port) (pulse : Bool) (slope : Nat) : Port :=
  { p with onDue := false, pulsed := pulse, ramp := if pulse then rampTo p.dac slope (p.count - p.onAt) else p.ramp }

/-- A refresh inserted in the period and counted (R94). -/
def refreshPort (s : State) (n : Fin 32) : State :=
  (s.inc (portIdx n.1) 0x15).modPort n fun p => { p with refresh := 0, refreshNow := true }

/-- The bootstrap check at the turn-on of a half-bridge's GHn: below 3.6 V, GHn stays off for the period and a refresh is inserted; eight
in a row fence the port (R95). -/
def bstCheck (s : State) (q : Fin 32) (below : Bool) : State :=
  if below then
    let s1 := (refreshPort (setTrip s q 0x20) q).modPort q fun p => { p with bstRun := p.bstRun + 1, bstLow := true }
    if 8 ≤ s1.ports[q].bstRun then report s1 0x0206 (unitCode 1 q.1) 0 else s1
  else s.modPort q fun p => { p with bstRun := 0 }

/-- The refresh that R94 asks for, on a half-bridge that has none yet in the period. A LSW's GHn is held on by the charge pump, a FAN's
stays low. -/
def refreshDue (s : State) (n : Fin 32) (q : Fin 32) : State :=
  if s.pers n.1 ≠ 4 ∧ s.pers n.1 ≠ 6 ∧ s.ports[q].refreshNow = false ∧ (s.timing n).bstRefresh ≤ s.ports[q].refresh then refreshPort s q
  else s

/-- The bootstraps at the start of a period: the port's own check, where its half-bridge switches, then the refreshes that are due
(R94, R95). The odd port of a pair has its own check in its own PERIOD_START. -/
def bstStart (s : State) (n : Fin 32) (below : Bool) : State :=
  let s1 := if isConverter (s.pers n.1) && (s.legs n).contains n then bstCheck s n below else s
  (s1.legs n).foldl (fun t q => refreshDue t n q) s1

/-- The two runs of Table 4-3 and R119 that reach eight. -/
def runCheck (s : State) (n : Fin 32) : State :=
  let s1 := if 8 ≤ s.ports[n].backRun then report s 0x0204 (unitCode 1 n.1) 0 else s
  if s1.pers n.1 = 5 ∧ 8 ≤ s1.ports[n].shortRun ∧ s1.pulsing n = true then
    tripBy (s1.modPort n fun p => { p with shortRun := 0 }) n 0x200 0x020A false
  else s1

/-- The duty that DUTY shows: for a BB4 pair the low 17 bits carry the buck-duty command and the rest the boost-duty command.
(DESIGN CHOICE, log entry 59). -/
def dutyShown (pers region duty : Nat) : Nat :=
  min 0xFFFF (if pers = 3 then (if region = 2 then duty / 2 ^ 17 else duty % 2 ^ 17) else duty)

/-- The words of the period taken as the last complete one. -/
def Port.closeWords (p : Port) : Port :=
  { p with pSum := p.sum, pNum := p.num, pMin := p.wMin, pMax := p.wMax, sum := 0, num := 0 }

/-- At a period boundary of its rail, which the master phase makes, the VCk words of the rail and the SCn words of every member become
those of the last complete period (R133, R138, R139); a port without a rail closes its own. -/
def closeStats (s : State) (n : Fin 32) : State :=
  match s.railOf n with
  | none => s.modPort n Port.closeWords
  | some r =>
    if s.beatPhase r = some n then
      let s1 := s.modRail r fun x => { x with pSum := x.sum, pNum := x.num, sum := 0, num := 0 }
      (s1.members r).foldl (fun t m => t.modPort m Port.closeWords) s1
    else s

/-- At the period start of a rail's master phase its update and those of its ports fall due (R133). A rail whose role has moved has lost an
update that is still due (R152). -/
def markDue (s : State) (n : Fin 32) : State :=
  match s.railOf n with
  | none => s
  | some r =>
    if s.beatPhase r = some n then
      let x := s.rails[r]
      let s0 := if x.due ∧ 0 < x.moving then countMoved (s.modRail r fun y => { y with moving := y.moving - 1 }) r 1 else s
      let s1 := s0.modRail r fun x => { x with due := true }
      (s1.members r).foldl (fun t m => t.modPort m fun p => { p with due := true }) s1
    else s

/-- The status copied at a period boundary, the period's limit trip among it (R27, R102): the port's, a BB4 pair's both, and at the boundary
of its rail, which its master phase makes, the rail's and its engine's. -/
def mirrorPeriod (s : State) (n : Fin 32) : State :=
  let s1 := (s.pairOf n).foldl mirrorPort s
  match s.railOf n with
  | none => s1
  | some r => if s.beatPhase r = some n then mirrorEngines (mirrorRail s1 r) else s1

/-- The LIMIT_CODE that the port's command was computed with (R22, R98). -/
def State.limitOf (s : State) (n : Fin 32) : Nat := (s.ports[n].lim).getD (s.limit n.1)

/-- A phase's next period lengthened or shortened by at most PER / 4 (R108). A counter near its end takes what is left of a shortening at
the next of the master's period starts. -/
def Port.move (p : Port) (per : Nat) : Port :=
  let most : Int := (per / 4 : Nat)
  let by_ := clampInt (-most) most p.nudge
  let short := min (-by_).toNat (per - 1 - p.count)
  { p with nudge := p.nudge - by_.toNat + short, hold := p.hold + by_.toNat, count := p.count + short }

/-- At a period start of the rail master, each other phase moves toward its offset (R108). -/
def movePhases (s : State) (n : Fin 32) : State :=
  match s.railOf n with
  | none => s
  | some r =>
    if s.beatPhase r = some n then
      (s.actives r).foldl (fun t m => if m = n then t else t.modPort m fun p => p.move (s.per r)) s
    else s

/-- Whether the pulse of the period that begins is forbidden: skipped, truncated, its rail in PREBIAS, its pair still in PRECHARGE, or GHn as
main gate off for want of bootstrap (R95, R98, R168, R171). -/
def State.noPulse (s : State) (n : Fin 32) : Bool :=
  let p := s.ports[n]
  let pers := s.pers n.1
  p.skip || s.ports[s.mate n].state == .precharge || (p.bstLow && (pers == 1 || (pers == 3 && p.region != 2))) ||
    match s.railOf n with
    | none => false
    | some r => s.rails[r].trunc || (isConverter pers && s.rails[r].state == .prebias)

/-- The members that a turn-off reaches at this period start: a pair both its ports. -/
def landPort (s : State) (n : Fin 32) : State :=
  match s.ports[n].ending with
  | none => s
  | some .precharge => s.modPort n fun p => p.begin (s.pers n.1)
  | some st => s.modPort n fun p => p.still st

/-- The clock of a period's main-gate turn-on: the dead time where the other gate switches too, T_OFF_MIN as well after a pulse that the
period's end cut, and what is left of a wait that outlasts the period before (R90, R107). A LSW's gate and a FAN's at 100 % stay on. -/
def State.turnOnAt (s : State) (n : Fin 32) (cut : Bool) (region : Nat) : Nat :=
  let pers := s.pers n.1
  let t := s.timingNow n
  let dead := deadClocks (if mainLow pers || (pers == 3 && region == 2) then t.dtHL else t.dtLH)
  let left := if s.ports[n].onDue then s.ports[n].onAt - s.portPer n else 0
  if pers = 4 ∨ (pers = 6 ∧ s.act (portIdx n.1) 0x30 = 100) then 0
  else if cut then max dead t.tOffMin else max left (if pers = 5 ∨ pers = 6 then 0 else dead)

/-- The main-gate turn-on of a period (R98, R113, R134): the command released by now taken, the pulse given or not. -/
def turnOn (s : State) (n : Fin 32) : State :=
  let s1 := s.modPort n fun p => p.takeCmd (s.limit n.1)
  let pulse := !s1.noPulse n
  beginMain (s1.modPort n fun p => p.takePulse pulse (s.timing n).slope) n (s1.act (portIdx n.1) 0x30) pulse

/-- The turn-on made where its clock has come; `ends` says that the whole period has passed. -/
def turnOnBy (s : State) (n : Fin 32) (ends : Bool) : State :=
  let p := s.ports[n]
  if p.onDue ∧ p.onAt < max 1 (s.portPer n) ∧ (ends = true ∨ p.wrapped = true ∨ p.onAt ≤ p.count) then turnOn s n else s

/-- The period of a port that runs on: settings latched, region, refresh, gates. -/
def runPeriod (s : State) (n : Fin 32) (bstBelow : Bool) (duty : Nat) : State :=
  let pers := s.pers n.1
  let t := s.timingNow n
  let s0 := if pers = 3 then s.modPort n fun p => { p.stepRegion (duty % 2 ^ 17) (duty / 2 ^ 17) with boostDuty := duty / 2 ^ 17 } else s
  let onAt := s.turnOnAt n (s.mainOn n) s0.ports[n].region
  let s1 := (s0.setReg (portIdx n.1) 0x17 (dutyShown pers s.ports[n].region duty)).modPort n fun p =>
    { (p.newPeriod pers onAt) with timing := some t }
  let s2 := if pers = 3 then s1.modPort (s1.mate n) fun p =>
      { p with bstLow := false, refreshNow := false, glAt := 0, lowTime := 0, ghNew := s0.ports[n].region == 0 && !p.gh }
    else s1
  let s3 := bstStart (movePhases (markDue s2 n) n) n bstBelow
  if s3.pulsing n then turnOnBy (if onAt = 0 then s3 else restGates s3 n) n false else s3

/-- The bootstrap check of the odd half-bridge of a BB4 pair (R95, R115): in every period where it switches, and in the buck region in a
period that turns its GHn on. A GHn that must stay off is low. (DESIGN CHOICE, log entry 123). -/
def oddStart (s : State) (n : Fin 32) (bstBelow : Bool) : State :=
  let lead : Fin 32 := ⟨s.pairLead n.1, Nat.lt_of_le_of_lt (by unfold State.pairLead; split <;> omega) n.2⟩
  if s.pulsing lead && ((s.legs lead).contains n || s.ports[n].ghNew) then
    let s1 := bstCheck s n bstBelow
    if bstBelow then s1.modPort n fun q => q.gates false q.gl s.ports[lead].count else s1
  else s

/-- A port's period counter reaches PER (R105): the ended period settles; a port turned off in it goes low; any other begins its next
period. The odd port of a BB4 pair has no period of its own (R89): its bootstrap is checked. (DESIGN CHOICE, log entry 61). -/
def doPeriodStart (n : Fin 32) (bstBelow : Bool) (duty : Nat) (s : State) : State :=
  if s.live = true ∧ s.leads n = false then oddStart s n bstBelow
  else if s.live = true ∧ s.pulsing n = true ∧ s.leads n = true then
    let s0 := turnOnBy s n true
    let m := mirrorPeriod (closeStats ((countRefresh s0 n).modPort n Port.endPeriod) n) n
    let s1 := runCheck (if s.byCycle n then m.clrReg (portIdx n.1) 0x12 1 else m) n
    if s1.ports[n].ending.isSome then
      (s1.portList.filter fun q => s1.pairLead q.1 == n.1).foldl landPort s1
    else if s1.pulsing n then runPeriod s1 n bstBelow duty
    else s1
  else s

/-- The overcurrent trip of a port whose filter did not accept the crossing: the trip without its report (R101). -/
def tripQuiet (s : State) (n : Fin 32) : State :=
  match s.railOf n with
  | none => s.modPort n fun p => p.still .tripped
  | some r => tripRail (countRail s r 0x54) r

/-- A limit trip (R101, R102): the report once per period when the filter accepts it; what TRIP_MODE makes of the trip either way. -/
def limitTrip (s : State) (n : Fin 32) (filtered : Bool) : State :=
  let s1 := if filtered && !s.ports[n].limitNow then
      ((setTrip s n 1).inc (portIdx n.1) 0x13).modPort n fun p => { p with limitNow := true }
    else s
  if s1.byCycle n then s1 else if filtered then tripBy s1 n 1 0x0207 true else tripQuiet s1 n

/-- A compare value fires its edge, once in a period (R106). A crossing during blanking ends the pulse here, and its limit trip acts here
(R99). In a refresh GLn is turned on at the end of the pulse (R94), also where a backstop within blanking has taken both gates low
(DESIGN CHOICE, log entry 113). -/
def doPulseCompareFire (n : Fin 32) (e : PulseEdge) (s : State) : State :=
  if s.live = true ∧ s.pulsing n = true ∧ s.leads n = true ∧ s.ports[n].fired.contains e = false then
    let pers := s.pers n.1
    let at_ := s.edgeAt n e
    let goal := if s.ports[n].wrapped then s.ports[n].count else max s.ports[n].count (min at_ (s.portPer n - 1))
    let s1 := turnOnBy (s.modPort n fun p =>
      { p with fired := e :: p.fired, count := goal, ramp := p.lower (s.timing n).slope (goal - p.count) }) n false
    match e with
    | .blank =>
      let p := s1.ports[n]
      let s2 := s1.modPort n fun q => { q with blanked := true, limPend := false, filt := false }
      let s3 := if p.crossed && s2.mainOn n then endMain s2 n at_ else s2
      if p.limPend then limitTrip s3 n p.filt else s3
    | .maxOn =>
      if pers = 4 ∨ pers = 6 then s1
      else
        let s2 := endMain (s1.modPort n fun p => { p with onDue := false }) n at_
        (s2.pairOf n).foldl (fun u q => if u.ports[q].refreshNow then
          u.modPort q fun p => p.gates (pers == 5) true (at_ + deadClocks (s.timing n).dtHL) else u) s2
    | .fanDuty =>
      if pers = 6 ∧ s.act (portIdx n.1) 0x30 < 100 then s1.modPort n fun p => { p.gates p.gh false at_ with onDue := false } else s1
  else s

/-- The comparator crosses the trip DAC level (R99–R102): within blanking the pulse ends, and a limit trip acts, at blanking's end. A
crossing while the DAC holds the limit code, or a ramped value of it, is a limit trip. -/
def doComparatorTrip (n : Fin 32) (clocks : Nat) (filtered : Bool) (s : State) : State :=
  let s0 := if s.live = true ∧ s.pulsing n = true ∧ s.leads n = true then turnOnBy s n true else s
  if s.live = true ∧ s.pulsing n = true ∧ s.leads n = true ∧ s0.mainOn n = true then
    let pers := s.pers n.1
    let slope := (s.timing n).slope
    let s1 := s0.modPort n fun p =>
      { p with crossed := true, shortNow := p.shortNow || (pers == 5 && clocks ≤ 80), ramp := rampTo p.dac slope clocks }
    let atLimit := pers == 4 || pers == 6 || s1.ports[n].dac == (s1.limitOf n : Int)
    if clocks < s.act (portIdx n.1) 8 then
      s1.modPort n fun p => { p with limPend := p.limPend || atLimit, filt := p.filt || (atLimit && filtered) }
    else
      let s2 := endMain s1 n (s1.ports[n].onAt + clocks)
      if atLimit then limitTrip s2 n filtered else s2
  else s

/-- A period counter some clocks on: it becomes 0 where count + 1 ≥ PER (R105). -/
def countOn (per count clocks : Nat) : Nat :=
  if clocks = 0 then count
  else if per ≤ count + 1 then (clocks - 1) % max 1 per
  else (count + clocks) % max 1 per

/-- A port's period counter and DAC after one tick, 16 core clocks: the counter waits out a lengthening, and notes that it has returned
to 0 (R98, R105, R108). (DESIGN CHOICE, log entry 61). -/
def Port.tick (p : Port) (per slope : Nat) : Port :=
  let by_ := 16 - min 16 p.hold
  let goal := countOn per p.count by_
  let wraps := decide (0 < by_) && decide (per ≤ p.count + by_)
  { p with hold := p.hold - 16, count := goal, wrapped := p.wrapped || wraps,
           ramp := p.lower slope 16 }

/-- The counters of a pulsing port after one tick; in the buck-boost region the odd GLn falls at the end of the boost duty (R115). -/
def tickPort (s : State) (n : Fin 32) : State :=
  if s.pulsing n && s.leads n then
    let s1 := turnOnBy (s.modPort n fun p => p.tick (s.portPer n) (s.timing n).slope) n false
    let p := s1.ports[n]
    if s.pers n.1 = 3 ∧ p.region = 1 ∧ (p.wrapped = true ∨ p.boostDuty * s.portPer n ≤ 65536 * p.count) then
      s1.modPort (s1.mate n) fun q => if q.gl && !(q.refreshNow && p.fired.contains .maxOn) then q.gates (!p.rectOff && !q.bstLow) false p.count else q
    else s1
  else s

/-- The other gate stays above 1.0 V for 200 ns (R91). -/
def doGateInterlockTimeout (n : Fin 32) (s : State) : State :=
  if s.live = true ∧ s.isSwitching n = true then report (setTrip s n 0x10) 0x0205 (unitCode 1 n.1) 0 else s

/-- The last word of a port's VCk, as a reference (8 fraction bits). -/
def State.vLast (s : State) (n : Fin 32) : Int :=
  match s.railOf n with
  | none => 0
  | some r => ((s.vc[r].lastWord * 256 : Nat) : Int)

/-- The bootstrap reaches 4.0 V (R93): the port leaves PRECHARGE by its personality. A LSW's ramp starts from the voltage its load has
(R117). -/
def doPrechargeDone (n : Fin 32) (s : State) : State :=
  if s.live = true ∧ s.ports[n].state = .precharge then
    movePort s n fun p =>
      match s.pers n.1 with
      | 4 => { p with state := .ramp, gh := true, blanked := false, rampRef := s.vLast n }
      | 5 => { p with state := .pullIn, gh := true }
      | _ => { p with state := .switching, count := s.startCount n }
  else s

/-- The bootstrap does not reach 4.0 V within 2 ms (R93). -/
def doPrechargeTimeout (n : Fin 32) (s : State) : State :=
  if s.live = true ∧ s.ports[n].state = .precharge then report (setTrip s n 0x20) 0x0206 (unitCode 1 n.1) 0 else s

/-! ## LSW, COIL, FAN -/

/-- RAMP ends with the FET fully enhanced (Table 4-8). -/
def doLswFullyEnhanced (n : Fin 32) (s : State) : State :=
  if s.live = true ∧ s.ports[n].state = .ramp then movePort s n fun p => { p with state := .on, gh := true } else s

/-- LSW_RAMP_TMO elapses in RAMP (Table 4-8). -/
def doLswRampTimeout (n : Fin 32) (s : State) : State :=
  if s.live = true ∧ s.ports[n].state = .ramp then tripBy s n 0x80 0x0208 false else s

/-- An overload in ON cuts off (R117). -/
def doLswOverload (n : Fin 32) (s : State) : State :=
  if s.live = true ∧ s.ports[n].state = .on ∧ s.act (portIdx n.1) 0x23 ≠ 0 then tripBy s n 0x40 0x0207 true else s

/-- PULL_IN ends (Table 4-9). -/
def doCoilPullDone (n : Fin 32) (s : State) : State :=
  if s.live = true ∧ s.ports[n].state = .pullIn then movePort s n fun p => { p with state := .hold, pulled := true } else s

/-- 90 % of COIL_I_PULL is not reached within COIL_T_RISE (Table 4-9). -/
def doCoilRiseTimeout (n : Fin 32) (s : State) : State :=
  if s.live = true ∧ s.ports[n].state = .pullIn ∧ s.ports[n].pulled = false then tripBy s n 0x100 0x0209 false else s

/-- The hold current stays below 25 % at maximum duty for 10 ms (Table 4-9). -/
def doCoilHoldOpen (n : Fin 32) (s : State) : State :=
  if s.live = true ∧ s.ports[n].state = .hold then tripBy s n 0x100 0x0209 false else s

/-- COIL_T_REL elapses in RELEASE (Table 4-9). -/
def doCoilReleaseTimeout (n : Fin 32) (s : State) : State :=
  if s.live = true ∧ s.ports[n].state = .release then
    report (releaseEnd (setTrip s n 0x400) n) 0x020B (unitCode 1 n.1) 0
  else s

/-- A FAN port at work at 20 % duty or more (R121). -/
def State.fanDriven (s : State) (n : Fin 32) : Bool :=
  s.live && s.pers n.1 == 6 && s.ports[n].state == .switching && 20 ≤ s.act (portIdx n.1) 0x30

/-- No tach capture for FAN_STALL_TMO (R121). -/
def doFanStall (n : Fin 32) (s : State) : State :=
  if s.fanDriven n = true ∧ s.act (portIdx n.1) 0x31 ≠ 0xFF then report (setTrip s n 0x800) 0x020C (unitCode 1 n.1) 0 else s

/-- The fan current stays below FAN_I_OPEN for 100 ms (R121). -/
def doFanOpen (n : Fin 32) (s : State) : State :=
  if s.fanDriven n then report (setTrip s n 0x1000) 0x020D (unitCode 1 n.1) 0 else s

/-- No capture for 1.2 × FAN_STALL_TMO: FAN_RPM reads 0 (R121). -/
def doFanRpmTimeout (n : Fin 32) (s : State) : State :=
  if s.live = true ∧ s.pers n.1 = 6 then (s.setReg (portIdx n.1) 0x34 0).modPort n fun p => { p with tachAt := none } else s

/-! ## The commands -/

/-- PERIOD_START (R105). A port's period counter reaches PER and starts a new period with its gate sequence. -/
def execPeriodStart (n : Fin 32) (bstBelow : Bool) (duty : Nat) (s : State) : Out := done s (doPeriodStart n bstBelow duty s)

/-- PULSE_COMPARE_FIRE (R106). A compare value fires its edge: end of blanking, maximum on-time or FAN duty. -/
def execPulseCompareFire (n : Fin 32) (e : PulseEdge) (s : State) : Out := done s (doPulseCompareFire n e s)

/-- COMPARATOR_TRIP (R100). After blanking, the shunt voltage crosses the trip DAC level and turns the main gate off. -/
def execComparatorTrip (n : Fin 32) (clocksSinceOn : Nat) (filtered : Bool) (s : State) : Out :=
  done s (doComparatorTrip n clocksSinceOn filtered s)

/-- GATE_INTERLOCK_TIMEOUT (R91). The other gate has not fallen below 1.0 V within 200 ns, so an interlock fault fences the
port. -/
def execGateInterlockTimeout (n : Fin 32) (s : State) : Out := done s (doGateInterlockTimeout n s)

/-- PRECHARGE_DONE (R93). BSTn − SWn reaches 4.0 V, and the port leaves PRECHARGE. -/
def execPrechargeDone (n : Fin 32) (s : State) : Out := done s (doPrechargeDone n s)

/-- PRECHARGE_TIMEOUT (R93). The bootstrap has not reached 4.0 V within 2 ms, and a bootstrap fault fences the port. -/
def execPrechargeTimeout (n : Fin 32) (s : State) : Out := done s (doPrechargeTimeout n s)

/-- LSW_FULLY_ENHANCED (R116). The LSW gate reaches VDRVg − 1.0 V, and the port goes from RAMP to ON. -/
def execLswFullyEnhanced (n : Fin 32) (s : State) : Out := done s (doLswFullyEnhanced n s)

/-- LSW_RAMP_TIMEOUT (R116). LSW_RAMP_TMO elapses in RAMP, and the port trips with RAMP_TMO set. -/
def execLswRampTimeout (n : Fin 32) (s : State) : Out := done s (doLswRampTimeout n s)

/-- LSW_OVERLOAD (R117). The averaged current stays at or above LSW_I_OL for LSW_T_OL, and the port cuts off. -/
def execLswOverload (n : Fin 32) (s : State) : Out := done s (doLswOverload n s)

/-- COIL_PULL_DONE (R118). COIL_T_PULL elapses after 90 % pull-in current, and the port moves to HOLD. -/
def execCoilPullDone (n : Fin 32) (s : State) : Out := done s (doCoilPullDone n s)

/-- COIL_RISE_TIMEOUT (R118). The coil current does not reach 90 % of COIL_I_PULL within COIL_T_RISE, so COIL_OPEN is set. -/
def execCoilRiseTimeout (n : Fin 32) (s : State) : Out := done s (doCoilRiseTimeout n s)

/-- COIL_HOLD_OPEN (R118). The current stays below 25 % of COIL_I_HOLD for 10 ms at maximum duty, so COIL_OPEN is set. -/
def execCoilHoldOpen (n : Fin 32) (s : State) : Out := done s (doCoilHoldOpen n s)

/-- COIL_RELEASE_TIMEOUT (R118). COIL_T_REL elapses in RELEASE, so the port goes to READY with COIL_REL_SLOW set. -/
def execCoilReleaseTimeout (n : Fin 32) (s : State) : Out := done s (doCoilReleaseTimeout n s)

/-- FAN_STALL (R121). No tach capture arrives for FAN_STALL_TMO at a duty of 20 % or more, so FAN_STALL is set. -/
def execFanStall (n : Fin 32) (s : State) : Out := done s (doFanStall n s)

/-- FAN_OPEN (R121). The fan current stays below FAN_I_OPEN for 100 ms, so FAN_OPEN is set. -/
def execFanOpen (n : Fin 32) (s : State) : Out := done s (doFanOpen n s)

/-- FAN_RPM_TIMEOUT (R121). No tach capture arrives for 1.2 × FAN_STALL_TMO, so FAN_RPM reads 0. -/
def execFanRpmTimeout (n : Fin 32) (s : State) : Out := done s (doFanRpmTimeout n s)

end Sys2Proof.Machine
end

