-- ==== Sys2Proof/Machine/Fabric.lean ====
section
/-! DEFINITION. Converter words and what each receiver does with a sense word (R125–R130, R143, R144, R180, R188, R194), and lanes
that go dead. -/

namespace Sys2Proof.Machine
open Sys2Proof

/-! ## Words (R127, R188) -/

/-- A sense word corrected. -/
def correctSense (c : Conv) (raw : Int) : Int :=
  if raw = -32768 ∨ raw = 32767 then raw
  else clampInt (-32767) 32766 (roundHalfUp (raw * c.gain + c.offset * 65536) 16777216)

/-- A voltage word corrected. -/
def correctVolt (c : Conv) (raw : Nat) : Nat :=
  if raw = 65535 then raw else (clampInt 0 65534 (roundHalfUp (raw * c.gain + c.offset * 65536) 16777216)).toNat

/-- Whether 17 bits hold an odd number of ones. -/
def oddParity (w : BitVec 17) : Bool := ones 17 w.toNat % 2 == 1

/-- The 17-bit word a converter makes of 16 data bits. -/
def fabricWord (data : Nat) : BitVec 17 :=
  let d := data % 65536
  BitVec.ofNat 17 (if ones 16 d % 2 = 1 then d else d + 65536)

/-- How a word reached its receiver: at once, after a re-fetch, or not at all. -/
inductive Arrival where
  | direct (w : BitVec 17)
  | refetched (w : BitVec 17)
  | dropped
  deriving DecidableEq, Repr

/-- The word as received, `flip1` and `flip2` being the bits that the first transfer and the re-fetch turn over. -/
def arrive (w flip1 flip2 : BitVec 17) : Arrival :=
  if oddParity (w ^^^ flip1) then .direct (w ^^^ flip1)
  else if oddParity (w ^^^ flip2) then .refetched (w ^^^ flip2) else .dropped

/-- The data of an arrival. -/
def Arrival.data : Arrival → Option Nat
  | .direct w | .refetched w => some (w.toNat % 65536)
  | .dropped => none

/-- A converter with a word in its holding buffer. -/
def Conv.push (c : Conv) (w : BitVec 17) : Conv := { c with buffer := (w :: c.buffer).take 4 }

/-- The engine that works for a group. -/
def State.engineFor (s : State) (g : Nat) : Option (Fin 9) := s.engList.find? fun e => s.engGroup e == some g

/-- Clocks of an update (R136). -/
def Task.cost : Task → Nat
  | .rail _ => 24
  | .port _ => 32

/-- Work that remains planned. -/
def workLeft (ts : List Task) : Nat := (ts.map Task.cost).sum

/-- Two stamps at most 1 ms apart. -/
def within1ms (a : Option U32) (b : U32) : Bool :=
  match a with
  | none => false
  | some x => (b - x).toNat ≤ ticksPerMs

/-- The results of a frame without those of an update. -/
def FrameRun.without (f : FrameRun) : Task → FrameRun
  | .port n => { f with ports := f.ports.filter fun x => x.1 != n.1 }
  | .rail r => { f with rails := f.rails.filter fun x => x.1 != r.1, lost := r :: f.lost }

/-- A held cycle of a port (R146). -/
def holdCycle (s : State) (e : Fin 9) (n : Fin 32) : State :=
  report ((s.inc (engIdx e.1) 0x0B).modPort n fun p => { p with heldNext := false }) 0x0303 (unitCode 1 n.1) 0

/-- A rail whose ports lie in more than one group (R135). -/
def State.spans (s : State) (r : Fin 16) : Bool := decide (1 < (s.plan.groupsOf r.1).length)

/-- A port whose update is not run: the rail update that feeds it was abandoned (R146). -/
def State.starved (s : State) (f : FrameRun) (n : Fin 32) : Bool :=
  s.ports[n].heldNext || ((s.railOf n).map fun r => f.lost.contains r && !s.spans r).getD false

/-- Work of the updates that will be run. -/
def State.planned (s : State) (f : FrameRun) (ts : List Task) : Nat :=
  workLeft (ts.filter fun t => match t with
    | .rail _ => true
    | .port n => !s.starved f n)

/-- An update abandoned, its replay failed (R146, R147): a port holds; a rail's ports hold, those of a spanning rail in the next frame, where
they would have used it. Two within 1 ms fence the port or the rail. -/
def abandonUpdate (s : State) (e : Fin 9) (t : Task) (at_ : U32) : State :=
  let s1 := s.inc (engIdx e.1) 0x0C
  match t with
  | .port n =>
    let twice := within1ms s1.ports[n].failAt at_
    let s2 := holdCycle (s1.modPort n fun p => { p with failAt := some at_ }) e n
    if twice then report s2 0x0307 (unitCode 1 n.1) 0 else s2
  | .rail r =>
    let twice := within1ms s1.rails[r].failAt at_
    let s2 := s1.modRail r fun x => { x with failAt := some at_ }
    let s3 := if s2.spans r then (s2.members r).foldl (fun t n => t.modPort n fun p => { p with heldNext := true }) s2 else s2
    if twice then report s3 0x0308 (unitCode 3 r.1) 0 else s3

/-- The engine of a running frame stalled for 8 clocks by the re-fetch of a word that comes in (R143): the word belongs to the present period,
so the update in hand has not used it. -/
def stallFrame (s : State) (e : Fin 9) : State :=
  s.modEng e fun x => { x with frame := x.frame.map fun f => if f.time ≤ f.clock then f else { f with time := f.time + 8 } }

/-- The fit check of R146 before a word that comes in is fetched again: an engine between its updates has the room. -/
def State.refetchFits (s : State) (e : Fin 9) : Bool :=
  match s.engines[e].frame with
  | none => true
  | some f => decide (f.time ≤ f.clock) || decide (f.time + 8 + s.planned f f.tasks ≤ f.length)

/-- The update in hand abandoned for a replay that does not fit (R146). -/
def abandonCur (s : State) (e : Fin 9) : State :=
  match s.engines[e].frame with
  | none => s
  | some f =>
    match f.cur with
    | none => s
    | some t => abandonUpdate (s.modEng e fun x => { x with frame := some { f.without t with time := f.clock, cur := none } }) e t s.now

/-- The arrival that the engine makes of a word with a parity error: with no room for the replay there is none, and the word is lost (R146).
(DEDUCED, log entry 62). -/
def State.fetched (s : State) (e : Option (Fin 9)) (a : Arrival) : Option Arrival :=
  match a, e with
  | .direct _, _ | _, none => some a
  | _, some e => if s.refetchFits e then some a else none

/-- A sample replay and a dropped word counted and reported (R143, R144), or the replay not done (R146). -/
def noteArrival (s : State) (e : Option (Fin 9)) (unit : U16) (a : Option Arrival) : State :=
  match a, e with
  | some (.direct _), _ => s
  | some (.refetched _), none => s
  | some (.refetched _), some e => stallFrame (report (s.inc (engIdx e.1) 9) 0x0301 (unitCode 7 e.1) 0) e
  | some .dropped, none => report s 0x0304 unit 0
  | some .dropped, some e =>
    report (stallFrame (report ((s.inc (engIdx e.1) 9).inc (engIdx e.1) 0x0D) 0x0301 (unitCode 7 e.1) 0) e) 0x0304 unit 0
  | none, none => s
  | none, some e => abandonCur s e

/-- A sense converter is out of service. -/
def State.scFailed (s : State) (n : Fin 33) : Bool := if n = 32 then s.milk.roverFailed else s.flt.sc.getLsbD n.1

/-- A dropped sense word: two within 1 ms fail the converter, once (R144, R205). -/
def dropSense (s : State) (n : Fin 33) : State :=
  let twice := within1ms s.sc[n].dropAt s.now && !s.scFailed n
  let s1 := s.modSc n fun c => { c with dropAt := some s.now }
  if twice then (if n = 32 then report s1 0x0502 (unitCode 5 32) 0 else report s1 0x0305 (unitCode 5 n.1) 0) else s1

/-- A dropped voltage word: two within 1 ms fail the converter, once (R144). -/
def dropVolt (s : State) (k : Fin 16) : State :=
  let twice := within1ms s.vc[k].dropAt s.now && !s.flt.vc.getLsbD k.1
  let s1 := s.modVc k fun c => { c with dropAt := some s.now }
  if twice then report s1 0x0306 (unitCode 6 k.1) 0 else s1

/-! ## The ledger (R180) -/

/-- The output path conducts at the sample (Table 6-6). A BB4 pair's account is its even port's, whose converter it uses (R89).
(DEDUCED, log entry 104). -/
def State.conducts (s : State) (n : Fin 32) : Bool :=
  match s.pers n.1 with
  | 1 | 4 => true
  | 2 => s.ports[n].gh
  | 3 => s.leads n && (s.ports[n].region == 0 || !s.ports[s.mate n].gl)
  | 5 | 6 => s.ports[n].gl
  | _ => false

/-- One word of 50 ns integrated: µC and µJ with 24 fraction bits. A port of no rail has no VCk: its energy is not counted (DESIGN
CHOICE, log entry 105). -/
def addLedger (s : State) (n : Fin 32) (w : Int) : State :=
  match s.ports[n].state with
  | .off | .fenced => s
  | _ =>
    if s.conducts n then
      let shunt : Int := max 1 (s.act (portIdx n.1) 4)
      let (v, div) := match s.railOf n with
        | none => (0, 1)
        | some r => (s.vc[r].lastWord, max 1 (s.act (railIdx r.1) 9))
      s.modLedger n fun l =>
        { l with charge := l.charge + roundHalfUp (w * 3200000) shunt
                 energy := l.energy + roundHalfUp (w * 3200000 * v * 2048) (shunt * 1000 * div) }
    else s

/-! ## A sense word at its port -/

/-- The case of Table 4-3 that a sample at the backstop level belongs to. -/
def State.backstopCase (s : State) (n : Fin 32) : Backstop :=
  if s.mainOn n then (if s.ports[n].blanked then .miss else .blank) else .offTime

/-- The backstop fires (R104, R119): both gates low for the rest of the period. -/
def fireBackstop (s : State) (n : Fin 32) (b : Backstop) : State :=
  let s1 := (gatesLow (s.inc (portIdx n.1) 0x14) n).modPort n fun p => { p with backArm := none }
  match b with
  | .miss => report (setTrip s1 n 4) 0x0201 (unitCode 1 n.1) 0
  | .offTime => report (setTrip s1 n 8) 0x0202 (unitCode 1 n.1) 0
  | .blank =>
    if s1.pers n.1 = 5 then tripBy s1 n 0x200 0x020A false
    else report ((setTrip s1 n 2).modPort n fun p => { p with backNow := true }) 0x0203 (unitCode 1 n.1) 0

/-- The backstop's look at a sample: it fires on the second in a row, as the first one's case. -/
def backstop (s : State) (n : Fin 32) (w : Int) : State :=
  if s.pulsing n = true ∧ s.leads n = true then
    if backstopCode (s.act (portIdx n.1) 5) (s.act (portIdx n.1) 4) (s.timing n).backstop ≤ w then
      match s.ports[n].backArm with
      | none => s.modPort n fun p => { p with backArm := some (s.backstopCase n) }
      | some b => fireBackstop s n b
    else s.modPort n fun p => { p with backArm := none }
  else s

/-- The synchronous rectifier of a port is on: of a BB4 pair that of the half-bridge that switches. -/
def State.rectOn (s : State) (n : Fin 32) : Bool :=
  match s.pers n.1 with
  | 1 => s.ports[n].gl
  | 2 => s.ports[n].gh
  | 3 => if s.ports[n].region = 2 then s.ports[s.mate n].gh else s.ports[n].gl
  | _ => false

/-- The synchronous rectifier off to the end of the period. -/
def rectStop (s : State) (n : Fin 32) : State :=
  let p := s.ports[n]
  let s1 := s.modPort n fun q => { q with rectOff := true }
  if s.pers n.1 = 3 then
    let s2 := if p.region = 2 then s1 else s1.modPort n fun q => q.gates q.gh false q.count
    if p.region = 0 then s2 else s2.modPort (s.mate n) fun q => q.gates false q.gl p.count
  else s1.modPort n fun q => q.gates false false q.count

/-- The first sample at or below 0 A turns the synchronous rectifier off: with LIGHT_MODE = 1 on a BUCK or BOOST port (R114), and on every
phase in a soft start (R169). (DESIGN CHOICE, log entry 106). -/
def lightMode (s : State) (n : Fin 32) (w : Int) : State :=
  let soft : Bool := match s.railOf n with
    | none => false
    | some r => !s.rails[r].ssDone
  if s.ports[n].state = .switching ∧ s.mainOn n = false ∧ s.rectOn n = true ∧ w ≤ 0
      ∧ ((s.pers n.1 ≠ 3 ∧ (s.timing n).light = 1) ∨ soft = true) then
    rectStop s n
  else s

/-- What a COIL reads from its current (Table 4-9): 90 % of the pull-in current reached; the end of RELEASE. -/
def coilWord (s : State) (n : Fin 32) (w : Int) : State :=
  let i := codeMa w 1 (s.act (portIdx n.1) 4)
  match s.ports[n].state with
  | .pullIn =>
    if ((s.act (portIdx n.1) 0x28 : Nat) : Int) * 90 ≤ i * 100 then s.modPort n fun p => { p with pulled := true } else s
  | .release =>
    if i * 100 < ((s.act (portIdx n.1) 0x2A : Nat) : Int) * 2 then releaseEnd s n else s
  | _ => s

/-- A word taken into the words that the updates of the frame use. -/
def Port.feed (p : Port) (w : Int) : Port :=
  { p with uSum := p.uSum + w, uNum := p.uNum + 1, uMin := if p.uNum = 0 then w else min p.uMin w,
           uMax := if p.uNum = 0 then w else max p.uMax w }

/-- A word taken into a port's period statistics; the first one since the enable also serves an update that waits for it (R141). -/
def Port.take (p : Port) (w : Int) : Port :=
  let q := if p.uNum = 0 then p.feed w else p
  { q with sum := p.sum + w, num := p.num + 1, wMin := if p.num = 0 then w else min p.wMin w,
           wMax := if p.num = 0 then w else max p.wMax w, last := some w, heard := p.heard + 1 }

/-- A word fetched again for an update that had used it: it joins the words of that update and those of the last complete period (R143). -/
def Port.takeUsed (p : Port) (w : Int) : Port :=
  if p.pNum = 0 then (p.take w).feed w
  else { p.feed w with pSum := p.pSum + w, pNum := p.pNum + 1, pMin := min p.pMin w, pMax := max p.pMax w, last := some w,
                       heard := p.heard + 1 }

/-- A word taken into a rail's period statistics; the first one since the enable also serves an update that waits for it (R141). -/
def Rail.take (x : Rail) (w : Nat) : Rail :=
  let y := if x.uNum = 0 then { x with uSum := w, uNum := 1 } else x
  { y with words := (w :: x.words).take 16, sum := x.sum + w, num := x.num + 1 }

/-- A word fetched again for an update that had used it; it is one of the last 16 (R168). -/
def Rail.takeUsed (x : Rail) (w : Nat) : Rail :=
  if x.pNum = 0 then { x.take w with uSum := x.uSum + w, uNum := x.uNum + 1 }
  else { x with uSum := x.uSum + w, uNum := x.uNum + 1, pSum := x.pSum + w, pNum := x.pNum + 1, words := (w :: x.words).take 16 }

/-- A valid word at port `n`. -/
def portWord (s : State) (n : Fin 32) (w : Int) : State :=
  let s1 := addLedger (s.modPort n fun p => p.take w) n w
  coilWord (lightMode (backstop s1 n w) n w) n w

/-- A dropped word at port `n`: the ledger repeats the one before. -/
def portDrop (s : State) (n : Fin 32) : State :=
  match s.ports[n].last with
  | none => s
  | some w => addLedger s n w

/-! ## The rover's words in a slot (R193, R194) -/

/-- Words of one third of slot 0. -/
def calThird : Nat := 13652

/-- A rover word in slot 0: zero, +100 mV, −100 mV in turn, the last input to the slot's end. (DESIGN CHOICE, log entry 133). -/
def Visit.calWord (v : Visit) (raw : Int) : Visit :=
  let u := { v with words := v.words + 1 }
  if v.words < calThird then { u with cal0 := (v.cal0.1 + raw, v.cal0.2 + 1) }
  else if v.words < 2 * calThird then { u with calP := (v.calP.1 + raw, v.calP.2 + 1) }
  else { u with calN := (v.calN.1 + raw, v.calN.2 + 1) }

/-- A pair of a visit: raw SCn word `x`, rover word `r`; the first 32 settle the crossbar. -/
def Visit.pair (v : Visit) (x : Option Int) (r : Option Int) : Visit :=
  let u := { v with words := v.words + 1 }
  match x, r with
  | some x, some r =>
    if v.words < 32 then u
    else { u with n := v.n + 1, ss := v.ss + x, sr := v.sr + r, sss := v.sss + x * x, srr := v.srr + r * r, ssr := v.ssr + x * r }
  | _, _ => u

/-- A rover word while it visits. -/
def roverWord (s : State) (raw : Int) (a : Arrival) : State :=
  if s.milk.running then
    if s.milk.slot = 0 then
      match a with
      | .dropped => { s with milk := { s.milk with visit := { s.milk.visit with words := s.milk.visit.words + 1 } } }
      | _ => { s with milk := { s.milk with visit := s.milk.visit.calWord raw } }
    else
      let x := (List.finRange 33).findSome? fun c => if c.1 + 1 = s.milk.slot then s.sc[c].lastRaw else none
      let r := match a with
        | .direct w => some (signed 16 (w.toNat % 65536))
        | _ => none
      let s1 := if s.milk.visit.idle then s else { s with milk := { s.milk with visit := s.milk.visit.pair x r } }
      (List.finRange 33).foldl (fun t c => if c.1 + 1 = s.milk.slot then t.modSc c fun q => { q with lastRaw := none } else t) s1
  else s

/-! ## Commands -/

/-- A sense converter delivers a word (R125–R129). The words of a failed SCn are discarded; the rover's go to the port it stands
in for, else to the milk round. (DESIGN CHOICE, log entry 84). -/
def doSenseWord (n : Fin 33) (raw : U16) (flip1 flip2 : BitVec 17) (s : State) : State :=
  let present : Bool := n = 32 || decide (n.1 < s.variant.ports)
  if s.live && present then
    let x := raw.toInt
    let w := fabricWord (unsignedOf 16 (correctSense s.sc[n] x))
    let a := arrive w flip1 flip2
    let s1 := s.modSc n fun c => { c.push w with lastRaw := match a with
      | .direct _ => some x
      | _ => none }
    let port : Option (Fin 32) :=
      if h : n.1 < 32 then (if s.flt.sc.getLsbD n.1 then none else some ⟨n.1, h⟩) else s.milk.standin
    match port with
    | some p =>
      let e := s1.engineFor (p.1 / 4)
      let got := s1.fetched e a
      let s2 := noteArrival s1 e (unitCode 5 n.1) got
      match got with
      | none => portDrop s2 p
      | some b =>
        match b.data with
        | some d => portWord s2 p (signed 16 d)
        | none => dropSense (portDrop s2 p) n
    | none =>
      if n = 32 ∧ s.milk.roverFailed = false then
        let s2 := noteArrival s1 none (unitCode 5 32) (some a)
        let s3 := roverWord s2 x a
        if a = .dropped then dropSense s3 32 else s3
      else s1
  else s

/-- No word with correct parity for four word times (R130): the converter is failed. -/
def doLaneDead (c : Converter) (s : State) : State :=
  if s.live then
    match c with
    | .sense n =>
      if n = 32 then (if s.milk.roverFailed then s else report s 0x0502 (unitCode 5 32) 0)
      else if s.flt.sc.getLsbD n.1 || decide (s.variant.ports ≤ n.1) then s
      else report s 0x0305 (unitCode 5 n.1) 0
    | .volt k =>
      if s.flt.vc.getLsbD k.1 || decide (s.variant.rails ≤ k.1) then s else report s 0x0306 (unitCode 6 k.1) 0
  else s

/-! ## The commands -/

/-- SENSE_WORD (R125). A sense converter delivers a 17-bit word to its receivers. -/
def execSenseWord (n : Fin 33) (raw : U16) (flip1 flip2 : BitVec 17) (s : State) : Out :=
  done s (doSenseWord n raw flip1 flip2 s)

/-- LANE_DEAD (R130). No word with correct parity arrives on a lane for 4 word times, so the converter is failed. -/
def execLaneDead (c : Converter) (s : State) : Out := done s (doLaneDead c s)

end Sys2Proof.Machine
end

