-- ==== Sys2Proof/Machine/Frames.lean ====
section
/-! DEFINITION. Loop-engine frames: the rail update and the port update (R138–R141, R163–R176), replays and held cycles
(R143–R147), failure detectors and the takeover by LE8 (R148–R151). A frame's arithmetic is exact and each result is rounded once
to its format, halves up (log entry 10). -/

namespace Sys2Proof.Machine
open Sys2Proof

/-! ## The slew generator (R164, R168, R169) -/

/-- Mean of a list of words with 8 fraction bits. -/
def meanWords (ws : List Nat) : Int := roundHalfUp ((ws.sum * 256 : Nat) : Int) (max 1 ws.length : Nat)

/-- V[k] of R138 with 8 fraction bits, over the words that the update uses; a rail of single ports with none yet since the enable, the newest
word (DESIGN CHOICE, log entry 124). -/
def State.vNow (s : State) (r : Fin 16) : Int :=
  let x := s.rails[r]
  if 0 < x.uNum then roundHalfUp ((x.uSum * 256 : Nat) : Int) (x.uNum : Nat) else meanWords (x.words.take 1)

/-- STEP of a rail in a motion: SLEW in SLEWING, SS_SLEW otherwise. -/
def State.stepNow (s : State) (r : Fin 16) (st : RailState) : Int :=
  stepOf (s.act (railIdx r.1) (if st = .slewing then 0x0A else 0x0B)) (s.per r) (s.act (railIdx r.1) 9)

/-- VREF one step nearer its goal. -/
def slewTo (vref goal step : Int) : Int :=
  if (goal - vref).natAbs ≤ step.toNat then goal else if vref < goal then vref + step else vref - step

/-- Every member of a rail has left PRECHARGE (R168). -/
def State.risen (s : State) (r : Fin 16) : Bool :=
  !((s.members r).any (fun n => s.ports[n].state == .precharge || s.ports[n].ending.isSome) || s.actives r == [])

/-- TARGET by the active copies. -/
def State.goalOf (s : State) (r : Fin 16) : Int := targetOf (s.act (railIdx r.1) 8) (s.act (railIdx r.1) 9)

/-- The reference at a rail update that found the rail in state `was` when it began, and the state it leads to; `goal` is TARGET at its end.
An update steps by what it read at its start: toward the goal of that time, and not at all in a motion that began since (R22, R165, R166). A
rail that has come to its goal goes on to REGULATING unless TARGET has moved meanwhile. -/
def slewRail (s : State) (r : Fin 16) (was : RailState) (ready : Bool) (goal : Int) : State :=
  let x := s.rails[r]
  match was with
  | .prebias =>
    if x.state = .prebias ∧ ready = true ∧ s.risen r = true then
      let v := meanWords x.words
      let s1 := toRail (s.modRail r fun x => { x with vref := v, target := goal, seeded := false }) r .softStart false
      if goal < v then setRailFlag s1 r 0x20 else s1
    else s
  | .softStart | .slewing =>
    let v := slewTo x.vref (s.goalOf r) (s.stepNow r was)
    if x.state = was then
      let s1 := s.modRail r fun x => { x with vref := v, target := goal, ssDone := x.ssDone || v == goal }
      if v = goal then toRail s1 r .regulating false else s1
    else if x.state = .rampDown then s.modRail r fun x => { x with vref := v }
    else s
  | .rampDown =>
    if x.state = .rampDown then
      let v := slewTo x.vref 0 (s.stepNow r was)
      let s1 := s.modRail r fun x => { x with vref := v }
      if v = 0 then railOff s1 r else s1
    else s
  | _ => s

/-! ## The compensator (R138, R141, R142) -/

/-- IR_MAX of R138, mA. -/
def State.irMax (s : State) (r : Fin 16) : Int := (((s.actives r).map fun n => s.act (portIdx n.1) 5).sum : Nat)

/-- What a rail update computes: e[k], e[k−1] and y[k], y[k−1]. A truncating period lets y rise no further (R172). -/
def compensate (s : State) (r : Fin 16) : (Int × Int) × (Int × Int) :=
  let x := s.rails[r]
  let c := fun sub => s.actI (railIdx r.1) sub
  let e := x.vref - s.vNow r
  let e1 := if x.seeded then x.eHist.1 else e
  let e2 := if x.seeded then x.eHist.2 else e
  let y1 := if x.seeded then x.yHist.1 else 0
  let y2 := if x.seeded then x.yHist.2 else 0
  let raw := roundHalfUp ((c 0x20 * e + c 0x21 * e1 + c 0x22 * e2) * 4096 - c 0x23 * y1 - c 0x24 * y2) 1048576
  let top := s.irMax r * 1048576
  let y := clampInt (-top) top raw
  ((e, e1), (if x.truncPer then min y y1 else y, y1))

/-! ## Skimming (R173) -/

/-- Iavg of a port in mA with 16 fraction bits, over the words that the update uses. -/
def State.iAvg16 (s : State) (n : Fin 32) : Int :=
  let p := s.ports[n]
  if p.uNum = 0 then 0
  else roundHalfUp (p.uSum * 125000000 * 65536) (32768 * p.uNum * max 1 (s.act (portIdx n.1) 4) : Nat)

/-- Ibar of a rail, 16 fraction bits. -/
def State.iBar16 (s : State) (r : Fin 16) : Int :=
  let a := s.actives r
  if a = [] then 0 else roundHalfUp ((a.map s.iAvg16).sum) (a.length : Nat)

/-- The highest-numbered active phase other than the master. -/
def State.shedCandidate (s : State) (r : Fin 16) : Option (Fin 32) := ((s.actives r).drop 1).getLast?

/-- A phase shed: READY at its next period start, its charge pump on (R92, R173). -/
def shedPhase (s : State) (r : Fin 16) (n : Fin 32) : State :=
  let s1 := s.modRail r fun x => { x with shed := setBit x.shed n.1 }
  let s2 := (s1.members r).foldl (fun t m => if s1.pairLead m.1 = n.1 then endPort .ready t m else t) s1
  restartDwell (countRail s2 r 0x57) r

/-- A phase's peak at or above ADD_ALL / 256 of its I_LIM. -/
def State.peakHigh (s : State) (r : Fin 16) (n : Fin 32) : Bool :=
  decide (((s.act (railIdx r.1) 0x16 * s.act (portIdx n.1) 5 : Nat) : Int)
    ≤ 256 * codeMa s.ports[n].uMax 1 (s.act (portIdx n.1) 4)) && s.ports[n].uNum != 0

/-- Skimming at a rail update. -/
def skim (s : State) (r : Fin 16) : State :=
  let x := s.rails[r]
  if s.act (railIdx r.1) 0x12 ≠ 1 ∨ (x.state ≠ .regulating ∧ x.state ≠ .slewing) then s.modRail r fun x => { x with dwell := 0 }
  else
    let ibar := s.iBar16 r
    let low := decide (ibar < (s.act (railIdx r.1) 0x13 : Nat) * 65536)
    let s1 := s.modRail r fun x =>
      { x with spacing := x.spacing + 1, dwell := if low then x.dwell + s.per r else 0 }
    let x1 := s1.rails[r]
    if (s1.actives r).any (s1.peakHigh r) && s1.shedPhases r != [] then addShed s1 r
    else if decide (((s.act (railIdx r.1) 0x14 * 65536 : Nat) : Int) < ibar) && decide (32 ≤ x1.spacing) && s1.shedPhases r != [] then
      match s1.shedPhases r with
      | n :: _ => addPhase s1 r n
      | [] => s1
    else if low && decide (s.act (railIdx r.1) 0x15 * 400000 ≤ x1.dwell) && x1.state == .regulating
        && decide (s.act (railIdx r.1) 0x17 < (s1.actives r).length) && decide (32 ≤ x1.spacing) then
      match s1.shedCandidate r with
      | some n => shedPhase s1 r n
      | none => s1
    else s1

/-- The lowest-numbered shed phase added at the first rail update after an active phase was lost, whatever the spacing (R177). -/
def addLost (s : State) (r : Fin 16) : State :=
  if s.rails[r].addDue then
    let s1 := s.modRail r fun x => { x with addDue := false }
    match s1.shedPhases r with
    | n :: _ => if s1.rails[r].state.runs then addPhase s1 r n else s1
    | [] => s1
  else s

/-- The truncation DAC loaded at a rail update (R171): VREF plus TRUNC_THR at the sense pins, in steps of 0.5 mV, rounded up; 12 bits. One
step is 4096 of the reference's units. -/
def loadTrunc (s : State) (r : Fin 16) : State :=
  let thr := s.act (railIdx r.1) 0x10
  let level := s.rails[r].vref + (ceilDiv (thr * s.act (railIdx r.1) 9 * 256) 2048000 : Nat)
  s.modRail r fun x => { x with truncDac := if thr = 0 then 0 else min 4095 (ceilDiv level.toNat 4096) }

/-! ## The port update (R139, R141, R176) -/

/-- What a port update computes: the command code, S_i, and the run of updates at the sharing clamp. -/
def shareOf (s : State) (r : Fin 16) (n : Fin 32) (y : Int) : Int × Int × Nat :=
  let p := s.ports[n]
  let top : Int := s.act (railIdx r.1) 0x26 * 65536
  let si := clampInt (-top) top
    (p.share + roundHalfUp (s.act (railIdx r.1) 0x25 * (s.iBar16 r - s.iAvg16 n)) 65536)
  let shunt : Int := max 1 (s.act (portIdx n.1) 4)
  let ripple := roundHalfUp ((p.uMax - p.uMin) * 125000000 * 65536) (2 * 32768 * shunt)
  let share := roundHalfUp y (16 * max 1 (s.actives r).length : Nat)
  let code := roundHalfUp ((share + si + ripple) * shunt * 512) (100000000 * 65536)
  (code, si, if si = top ∨ si = -top then p.satRun + 1 else 0)

/-- A gate current in µA, within the range of Table 18-5. -/
def gateAmps (x : Nat) : Nat := max 5 (min 5000 x)

/-- The law of a LSW, COIL or FAN port. A LSW port in RAMP takes the lower of the two gate currents of R117; its command, like a FAN's, is the
limit code. A COIL's is a peak that the engine chooses to regulate the average, which the spec does not compute (log entry 1).
(DESIGN CHOICE, log entries 60 and 107). -/
def lawOf (s : State) (r : Fin 16) (n : Fin 32) : Int × State :=
  if s.pers n.1 = 5 then
    let (v, s1) := s.drawNat 10
    (v - 512, s1)
  else if s.ports[n].state = .ramp then
    let bySlope := Config.slewGate (s.ports[n].rampRef - s.vNow r)
    let byCap := Config.inrushGate (((s.act (portIdx n.1) 0x21 * 65536 : Nat) : Int) - s.iAvg16 n)
    (s.limit n.1, s.modPort n fun p => { p with gateCmd := gateAmps (min bySlope.toNat byCap.toNat), capped := decide (byCap.toNat < bySlope.toNat) })
  else (s.limit n.1, s)

/-- The rail update of a LSW rail whose port is in RAMP: the voltage that LSW_SLEW asks for goes up by one step (R117, R138). -/
def rampRail (s : State) (r : Fin 16) : State :=
  (s.phases r).foldl (fun t n =>
    if t.pers n.1 = 4 ∧ t.ports[n].state = .ramp then
      t.modPort n fun p => { p with rampRef := p.rampRef + stepOf (s.act (portIdx n.1) 0x20) (s.per r) (s.act (railIdx r.1) 9) }
    else t) s

/-! ## Tasks of a frame -/

/-- The updates due in an engine's frame: rails, then ports, in increasing number (R133).
(DEDUCED, log entry 62). -/
def State.tasksOf (s : State) (e : Fin 9) : List Task :=
  ((s.mastersOf e).filter fun r => s.rails[r].due).map .rail ++ ((s.servesOf e).filter fun n => s.ports[n].due).map .port

/-- Clock of an event. -/
def evClock : FrameEvent → Nat
  | .badWord c _ _ _ => c
  | .detector c _ => c

/-- A reloaded word's address noted; four different ones within 1 ms are RAM wear-out (Table 5-6). -/
def noteReload (s : State) (e : Fin 9) (addr : Nat) (at_ : U32) : State × Bool :=
  let ws := (addr, at_) :: (s.engines[e].words.filter fun w => w.1 != addr && (at_ - w.2).toNat ≤ ticksPerMs)
  (s.modEng e fun x => { x with words := ws }, decide (4 ≤ ws.length))

/-- FAULT_CAUSE of a detector (Table 5-9). -/
def detCode : EngineDetector → Nat
  | .programParity => 1
  | .residue => 2
  | .overrun => 3

/-- An engine failed by a detector at a clock of its frame, stamped `at_` (R148, R149). -/
def failEngine (s : State) (e : Fin 9) (cause clock : Nat) (at_ : U32) : State :=
  let s1 := s.modEng e fun x => { x with frame := x.frame.map fun f => { f with clock := clock }, blocked := true }
  (collectAt s1 0x0309 (unitCode 7 e.1) (BitVec.ofNat 16 cause) at_).modEng e fun x => { x with frame := none }

/-- The outcome of the bad words that fall within one attempt at a task. -/
inductive Attempt where
  | done | abandoned | dead (cause : Nat)
  deriving DecidableEq, Repr

/-- The converter whose words an update uses, as the unit of its faults: port `n`'s own or the rover in its place, or VCk (R129, R205). -/
def State.wordUnit (s : State) : Task → Converter
  | .port n => .sense (if s.flt.sc.getLsbD n.1 && s.milk.standin == some n then 32 else n.castSucc)
  | .rail r => .volt r

/-- The word of an age in a converter's holding buffer, 0 the newest (R128); free where the buffer has none (log entry 62). -/
def State.drawHeld (s : State) (c : Converter) (age : Nat) : Nat × State :=
  let held := match c with
    | .sense n => s.sc[n].buffer[age]?
    | .volt k => s.vc[k].buffer[age]?
  match held with
  | some w => (w.toNat % 65536, s)
  | none => s.drawNat 16

/-- A converter word that came in with a parity error during an update (R143, R144). Re-fetched it takes its place in the statistics, of the
update's own words where the update had used it, and reaches the sample tap (R28): the word of its age in the holding buffer, free where the
buffer has none (log entry 62). A second failure, or four words made since, drops it: the ledger repeats the word before (R180). Its pair
leaves the visit (R194). -/
def badSample (s : State) (e : Fin 9) (t : Task) (used : Bool) (age : Nat) (again : Bool) : State :=
  let s1 := report (s.inc (engIdx e.1) 9) 0x0301 (unitCode 7 e.1) 0
  if again ∨ 4 ≤ age then
    let s2 := s1.inc (engIdx e.1) 0x0D
    match s.wordUnit t with
    | .sense c =>
      let s3 := match t with
        | .port n => portDrop s2 n
        | .rail _ => s2
      dropSense ((report s3 0x0304 (unitCode 5 c.1) 0).modSc c fun q => { q with lastRaw := none }) c
    | .volt k => dropVolt (report s2 0x0304 (unitCode 6 k.1) 0) k
  else
    let (v, s2) := s1.drawHeld (s.wordUnit t) age
    match t with
    | .port n =>
      let w := signed 16 v
      let s3 := addLedger (s2.modPort n fun p => if used then p.takeUsed w else p.take w) n w
      match s.wordUnit t with
      | .sense c => s3.modSc c fun q => { q with lastRaw := none }
      | .volt _ => s3
    | .rail r =>
      (s2.modRail r fun x => if used then x.takeUsed v else x.take v).modVc r fun c => { c with lastWord := v }

/-- The count at which a frame in progress started. -/
def State.frameBase (s : State) (f : FrameRun) : U32 := s.now - BitVec.ofNat 32 (f.clock / 16)

/-- The bad words of one task, in order (R143–R147). `base` is the count at the frame's start, `start` the clock at which the present
attempt began, `stop` that at which it ends. A converter word that fails within the first 24 clocks of the attempt has been used, and the
update restarts; a later one only stalls it. The stalls do not count toward the 48 clocks of the overrun detector, which is the sender's
(DESIGN CHOICE, log entry 132). -/
def runWords (e : Fin 9) (t : Task) (base : U32) (left frame : Nat) :
    List FrameEvent → State → Nat → Nat → State × Nat × Attempt × List FrameEvent
  | [], s, _, stop => (s, stop, .done, [])
  | ev :: evs, s, start, stop =>
    let c := evClock ev
    if stop ≤ c then (s, stop, .done, ev :: evs)
    else
      let at_ := base + BitVec.ofNat 32 (c / 16)
      match ev with
      | .detector _ d => (s, c, .dead (detCode d), evs)
      | .badWord _ .sample age again =>
        let stop1 := if c < start + 24 then c + 8 + t.cost else stop + 8
        if frame < stop1 + left then (abandonUpdate s e t at_, c, .abandoned, evs)
        else runWords e t base left frame evs (badSample s e t (decide (c < start + 24)) age again) (if c < start + 24 then c + 8 else start) stop1
      | .badWord _ _ addr again =>
        if frame < c + 4 + t.cost + left then (abandonUpdate s e t at_, c, .abandoned, evs)
        else
          let s1 := report (s.inc (engIdx e.1) 0x0A) 0x0302 (unitCode 7 e.1) 0
          let (s2, worn) := noteReload s1 e addr at_
          if worn then (s2, c, .dead 4, evs)
          else if again then (abandonUpdate s2 e t at_, c + 4, .abandoned, evs)
          else runWords e t base left frame evs s2 (c + 4) (c + 4 + t.cost)

/-- The words that an update uses have come since the enable: of its rail, of every active phase, whose mean it shares (R138, R139, R141). -/
def State.worded (s : State) : Task → Bool
  | .rail r => decide (0 < s.rails[r].uNum)
  | .port n =>
    match s.railOf n with
    | none => true
    | some r =>
      if isConverter (s.pers n.1) then
        (s.spans r || decide (0 < s.rails[r].uNum)) && (s.actives r).all fun m => decide (0 < s.ports[m].uNum)
      else s.ports[n].state != .ramp || (decide (0 < s.rails[r].uNum) && decide (0 < s.ports[n].uNum))

/-- What an update computes (R138, R139), with the LIMIT_CODE that goes with a command (R22, R98). The ports of a spanning rail use the rail
update of the frame before (R135). -/
def resultOf (s : State) (t : Task) (f : FrameRun) : State × FrameRun :=
  match t with
  | .rail r =>
    let (eh, yh) := compensate s r
    (s, { f with rails := f.rails ++ [(r.1, eh, yh)] })
  | .port n =>
    match s.railOf n with
    | none => (s, f)
    | some r =>
      if isConverter (s.pers n.1) then
        let fresh := if s.spans r then none else (f.rails.find? fun x => x.1 == r.1).map fun x => x.2.2.1
        let (code, si, run) := shareOf s r n (fresh.getD s.rails[r].yHist.1)
        (s, { f with ports := f.ports ++ [(n.1, (code, s.limit n.1), si, run)] })
      else
        let (code, s1) := lawOf s r n
        (s1, { f with ports := f.ports ++ [(n.1, (code, s.limit n.1), 0, 0)] })

/-- The result of an update, or the update put with those that wait for the first word of the run (R141). -/
def resultOrWait (s : State) (t : Task) (f : FrameRun) : State × FrameRun :=
  if s.worded t then resultOf s t f else (s, { f with wait := f.wait ++ [(t, s.active)] })

/-- An update ended: the rail update's reference and compensator, or the port update's command. `goal` is TARGET of a rail update's rail as
it stands now. A port that the rover stands in for holds while it has no word (R203). -/
def finishTask (s : State) (e : Fin 9) (t : Task) (goal : Int) (f : FrameRun) : State × FrameRun :=
  match t with
  | .rail r =>
    if isConverter (s.railPers r) then
      let s1 := skim (addLost (slewRail s r f.was f.ready goal) r) r
      let (s2, f2) := resultOrWait s1 t f
      (loadTrunc (s2.modRail r fun x => { x with truncPer := x.trunc }) r, f2)
    else (rampRail s r, f)
  | .port n =>
    if s.railOf n = none ∨ s.pairLead n.1 ≠ n.1 then (s, f)
    else if s.ports[n].fed = false ∧ s.milk.standin = some n then (s.inc (engIdx e.1) 0x0B, f)
    else resultOrWait s t f

/-- The update in hand ended, with the active copies that it read at its start (R22, R133). -/
def finishCur (s : State) (e : Fin 9) (f : FrameRun) : State × FrameRun :=
  match f.cur with
  | none => (s, f)
  | some t =>
    let goal := match t with
      | .rail r => s.goalOf r
      | .port _ => 0
    let (s1, f1) := finishTask { s with active := f.snap } e t goal f
    ({ s1 with active := s.active }, { f1 with cur := none, snap := [] })

/-- The updates that waited for their first word, in their order: each has its result if the word has come, and else is not completed (R134,
R141). (DESIGN CHOICE, log entry 124). -/
def finishWaits (s : State) (f : FrameRun) : State × FrameRun :=
  f.wait.foldl (fun x w =>
    if x.1.worded w.1 then
      let (s1, f1) := resultOf { x.1 with active := w.2 } w.1 x.2
      ({ s1 with active := x.1.active }, f1)
    else x) (s, { f with wait := [] })

/-- An update begun: its active copies, and for a rail update the state of its rail (R22, R166, R168). -/
def FrameRun.start (f : FrameRun) (s : State) (t : Task) : FrameRun :=
  match t with
  | .rail r => { f with cur := some t, snap := s.active, was := s.rails[r].state, ready := s.risen r }
  | .port _ => { f with cur := some t, snap := s.active }

/-- The updates that start before clock `upto` of the frame, in order, with the events that hit them: a detector ends the frame with the
failure's cause. An update takes effect when its clocks have passed, so that a stall can still abandon it. -/
def runTasks (e : Fin 9) (upto : Nat) : List Task → State → FrameRun → State × FrameRun × Option (Nat × Nat)
  | [], s, f =>
    match f.events.find? (fun ev => match ev with | .detector c _ => decide (c < upto) | _ => false) with
    | some (.detector c d) => (s, f, some (detCode d, c))
    | _ =>
      let (s1, f1) := if f.time < upto then finishCur s e f else (s, f)
      (s1, { f1 with tasks := [] }, none)
  | t :: rest, s, f =>
    if upto ≤ f.time then (s, { f with tasks := t :: rest }, none)
    else
      let (s0, f0) := finishCur s e f
      let skip := match t with
        | .port n => s0.starved f0 n
        | .rail _ => false
      if skip then
        (match t with
          | .port n => runTasks e upto rest (holdCycle s0 e n) f0
          | .rail _ => runTasks e upto rest s0 f0)
      else
        match runWords e t (s0.frameBase f0) (s0.planned f0 rest) f0.length f0.events s0 f0.time (f0.time + t.cost) with
        | (s1, time, .dead cause, evs) => (s1, { f0 with time := time, events := evs }, some (cause, time))
        | (s1, time, .abandoned, evs) =>
          runTasks e upto rest s1 { f0.without t with time := time, events := evs }
        | (s1, time, .done, evs) =>
          runTasks e upto rest s1 { (f0.start s0 t) with time := time, events := evs }

/-- An engine's frame carried on to a clock: what has been run stays in the frame; the most clocks used are kept. -/
def advance (s : State) (e : Fin 9) (upto : Nat) : State :=
  match s.engines[e].frame with
  | none => s
  | some f =>
    match runTasks e upto f.tasks s f with
    | (s1, f1, none) =>
      let s2 := s1.setReg (engIdx e.1) 8 (max (s1.reg (engIdx e.1) 8) (min 0xFFFF f1.time))
      if s2.engines[e].blocked then s2 else s2.modEng e fun y => { y with frame := some f1 }
    | (s1, _, some (cause, clock)) => failEngine s1 e cause clock (s.frameBase f + BitVec.ofNat 32 (clock / 16))

/-- One tick of a frame: 16 core clocks pass, and the updates that start within the next 16 are run. -/
def tickFrame (s : State) (e : Fin 9) : State :=
  match s.engines[e].frame with
  | none => s
  | some f => advance (s.modEng e fun x => { x with frame := some { f with clock := f.clock + 16 } }) e (f.clock + 32)

/-! ## Commands -/

/-- The words that a rail's updates use in a frame: those of its last complete period, or in the first period after the enable those received
so far, or the first one to come (R133, R141). (DESIGN CHOICE, log entry 124). -/
def latchWords (s : State) (r : Fin 16) : State :=
  let s1 := s.modRail r fun x =>
    { x with uSum := if 0 < x.pNum then x.pSum else x.sum, uNum := if 0 < x.pNum then x.pNum else x.num }
  (s1.members r).foldl (fun t n => t.modPort n fun p =>
    if 0 < p.pNum then { p with uSum := p.pSum, uNum := p.pNum, uMin := p.pMin, uMax := p.pMax }
    else if 0 < p.num then { p with uSum := p.sum, uNum := p.num, uMin := p.wMin, uMax := p.wMax }
    else { p with uSum := 0, uNum := 0, uMin := 0, uMax := 0 }) s1

/-- The rails that have an update in a frame, theirs or their ports'. -/
def State.railsIn (s : State) (ts : List Task) : List (Fin 16) :=
  s.railList.filter fun r => ts.any fun t => match t with
    | .rail q => q == r
    | .port n => s.railOf n == some r

/-- The updates of a plan fall due no more until their rail's next period start (R133). -/
def takeDue (s : State) (ts : List Task) : State :=
  ts.foldl (fun u t => match t with
    | .rail r => u.modRail r fun x => { x with due := false, moving := 0 }
    | .port n => u.modPort n fun p => { p with due := false }) s

/-- An engine's frame starts (R133): the updates due are its plan; those that start in this tick are run. LE8's first frame is the shorter
by what its load took (R149). A word of a port counts for the frame that runs its update when it came between the frame start before and
this one (R203; DESIGN CHOICE, log entry 117). -/
def doFrameStart (e : Fin 9) (events : List FrameEvent) (s : State) : State :=
  let x := s.engines[e]
  if s.live = true ∧ x.blocked = false ∧ (x.state = .active ∨ (e = 8 ∧ x.state = .covering)) ∧ 0 < s.engFrame e then
    let tasks := s.tasksOf e
    let s1 := (s.railsIn tasks).foldl latchWords (takeDue s tasks)
    let run : FrameRun :=
      { length := s.engFrame e - x.late, clock := 0, time := 0, cur := none, snap := [], was := .off, ready := false, wait := [], tasks := tasks,
        events := events, ports := [], rails := [], lost := [] }
    let s2 := (s1.servesOf e).foldl (fun t n => t.modPort n fun p => { p with fed := p.heard != 0, heard := 0 }) s1
    advance (s2.modEng e fun y => { y with frame := some run, late := 0 }) e 16
  else s

/-- A rail's state words released. -/
def releaseRail (s : State) (x : Nat × (Int × Int) × (Int × Int)) : State :=
  (List.finRange 16).foldl (fun t r => if r.1 = x.1 then
    t.modRail r fun q => { q with eHist := x.2.1, yHist := x.2.2, shHist := x.2, seeded := true } else t) s

/-- The share-saturation runs of a release that have reached 1 000, reported in the order of their rails (R29, R176). -/
def noteSats (s : State) (xs : List (Nat × (Int × Nat) × Int × Nat)) : State :=
  s.railList.foldl (fun t r =>
    if xs.any fun x => x.2.2.2 == 1000 && (s.members r).any fun n => n.1 == x.1 && s.isSwitching n then
      report (setRailFlag t r 2) 0x0402 (unitCode 3 r.1) 0 else t) s

/-- A port's command released: it governs from the next main-gate turn-on (R134). -/
def releaseCmd (s : State) (x : Nat × (Int × Nat) × Int × Nat) : State :=
  (List.finRange 32).foldl (fun t n => if n.1 = x.1 ∧ t.isSwitching n = true then
    t.modPort n fun p => { p with newCmd := some x.2.1, share := x.2.2.1, shareSh := x.2.2.1, satRun := x.2.2.2 }
    else t) s

/-- The end of a frame: the updates that remain are run; every command and state word is released in one clock, unless a failure blocked it
(R134, R149). -/
def doFrameEnd (e : Fin 9) (s : State) : State :=
  match s.engines[e].frame with
  | none => s
  | some f =>
    if s.live then
      let s1 := advance s e f.length
      match s1.engines[e].frame with
      | none => s1
      | some g1 =>
        let (s3, g) := if s1.engines[e].blocked then (s1, g1) else
          let (s2, g2) := finishCur s1 e g1
          finishWaits s2 g2
        let s2 := s3.modEng e fun x => { x with frame := none }
        if s1.engines[e].blocked then s2 else noteSats (g.ports.foldl releaseCmd (g.rails.foldl releaseRail s2)) g.ports
    else s.modEng e fun x => { x with frame := none }

/-- LE8 starts for the group it covers, at a frame start of the failed engine (R149, R150): each port it serves has held one cycle. -/
def doSpareTakeover (s : State) : State :=
  let x := s.engines[(8 : Fin 9)]
  if s.live = true ∧ x.state = .covering ∧ x.blocked = true then
    let s1 := s.modEng 8 fun y => { y with blocked := false, frame := none }
    (s1.setReg (engIdx 8) 0x10 s1.now.toNat).setReg (engIdx 8) 0x11 (s1.servesOf 8).length
  else s

/-! ## The commands -/

/-- FRAME_START (R133). An engine frame starts and runs the due rail updates, then the due port updates. -/
def execFrameStart (e : Fin 9) (events : List FrameEvent) (s : State) : Out := done s (doFrameStart e events s)

/-- FRAME_END (R134). At the end of a frame, the engine releases all its commands and state shadows in one clock. -/
def execFrameEnd (e : Fin 9) (s : State) : Out := done s (doFrameEnd e s)

/-- SPARE_TAKEOVER (R149). LE8 starts covering the failed engine at that engine's first frame start after loading its
context. -/
def execSpareTakeover (s : State) : Out := done s (doSpareTakeover s)

end Sys2Proof.Machine
end

