-- ==== Sys2Proof/Machine/Rails.lean ====
section
/-! DEFINITION. The window supervisor over VCk words (R222–R228), and the rail events of chapters 6 and 8. -/

namespace Sys2Proof.Machine
open Sys2Proof

/-! ## The supervisor's judgement of a word -/

/-- A threshold of a rail in VC steps. -/
def State.thr (s : State) (r : Fin 16) (sub : Nat) : Nat :=
  vcSteps (s.act (railIdx r.1) sub) (s.act (railIdx r.1) 9)

/-- A threshold with the hysteresis added or taken away, converted to VC steps as one voltage (R222; DESIGN CHOICE, log entry 118). -/
def State.thrHyst (s : State) (r : Fin 16) (sub : Nat) (up : Bool) : Nat :=
  let h := s.act (railIdx r.1) 0x43
  let t := s.act (railIdx r.1) sub
  vcSteps (if up then t + h else t - h) (s.act (railIdx r.1) 9)

/-- A run of consecutive words that satisfy a condition. -/
def runOf (b : Bool) (n : Nat) : Nat := if b then min 0xFFFF (n + 1) else 0

/-- The overvoltage fault (R224): reported once until a word lies below OV_FAULT again. -/
def judgeOv (s : State) (r : Fin 16) (w : Nat) : State :=
  let filt := s.act (railIdx r.1) 0x47
  let run := runOf (decide (s.thr r 0x40 ≤ w)) s.rails[r].ovRun
  let s1 := s.modRail r fun x => { x with ovRun := run, ovSaid := x.ovSaid && run != 0 }
  if filt ≤ run ∧ 0 < run ∧ s1.rails[r].ovSaid = false then
    report (setSupFlag (countRail (s1.modRail r fun x => { x with ovSaid := true }) r 0x52) r 1) 0x0404 (unitCode 3 r.1) 0
  else s1

/-- The overvoltage warning, off at 0 (R224). -/
def judgeOvWarn (s : State) (r : Fin 16) (w : Nat) : State :=
  if s.act (railIdx r.1) 0x41 = 0 then s
  else
    let filt := s.act (railIdx r.1) 0x47
    let on := runOf (decide (s.thr r 0x41 ≤ w)) s.rails[r].ovwRun
    let off := runOf (decide (w < s.thrHyst r 0x41 false)) s.rails[r].ovwOff
    let s1 := s.modRail r fun x => { x with ovwRun := on, ovwOff := off, ovWarn := x.ovWarn && !(filt ≤ off && 0 < off) }
    if filt ≤ on ∧ 0 < on ∧ s1.rails[r].ovWarn = false then
      setSupFlag (s1.modRail r fun x => { x with ovWarn := true }) r 2
    else s1

/-- The undervoltage fault, in REGULATING (R225). -/
def judgeUv (s : State) (r : Fin 16) (w : Nat) : State :=
  let filt := s.act (railIdx r.1) 0x48
  let run := runOf (decide (w ≤ s.thr r 0x45)) s.rails[r].uvRun
  let clr := runOf (decide (s.thr r 0x45 < w)) s.rails[r].uvClr
  let s1 := s.modRail r fun x => { x with uvRun := run, uvClr := clr, uvSaid := x.uvSaid && !(filt ≤ clr && 0 < clr) }
  if filt ≤ run ∧ 0 < run ∧ s1.rails[r].uvSaid = false then
    report (setSupFlag (countRail (s1.modRail r fun x => { x with uvSaid := true }) r 0x53) r 4) 0x0405 (unitCode 3 r.1) 0
  else s1

/-- The undervoltage warning, off at 0 (R225). -/
def judgeUvWarn (s : State) (r : Fin 16) (w : Nat) : State :=
  if s.act (railIdx r.1) 0x44 = 0 then s
  else
    let filt := s.act (railIdx r.1) 0x48
    let on := runOf (decide (w ≤ s.thr r 0x44)) s.rails[r].uvwRun
    let off := runOf (decide (s.thrHyst r 0x44 true < w)) s.rails[r].uvwOff
    let s1 := s.modRail r fun x => { x with uvwRun := on, uvwOff := off, uvWarn := x.uvWarn && !(filt ≤ off && 0 < off) }
    if filt ≤ on ∧ 0 < on ∧ s1.rails[r].uvWarn = false then
      setSupFlag (s1.modRail r fun x => { x with uvWarn := true }) r 8
    else s1

/-- Power-good of a converter or LSW rail (R226, R228). -/
def judgePg (s : State) (r : Fin 16) (w : Nat) : State :=
  if (s.railState r).pgState = false ∨ s.railPers r = 5 ∨ s.railPers r = 6 then s
  else
    let filt := s.act (railIdx r.1) 0x49
    let on := runOf (decide (s.thr r 0x42 ≤ w)) s.rails[r].pgRun
    let off := runOf (decide (w < s.thrHyst r 0x42 false)) s.rails[r].pgOff
    let s1 := s.modRail r fun x => { x with pgRun := on, pgOff := off }
    if s1.rails[r].pg then
      if filt ≤ off ∧ 0 < off then withdrawPg s1 r (s1.railState r).lossState else s1
    else if filt ≤ on ∧ 0 < on then s1.modRail r fun x => { x with pg := true } else s1

/-- Below FALL, judged in every state (R227): it ends a RAMP_DOWN and a LSW's DISCHARGE. -/
def judgeFall (s : State) (r : Fin 16) (w : Nat) : State :=
  let run := runOf (decide (w < s.thr r 0x46)) s.rails[r].fallRun
  let below := decide (s.act (railIdx r.1) 0x48 ≤ run) && run != 0
  let s1 := s.modRail r fun x => { x with fallRun := run, belowFall := below }
  if below then
    if s1.rails[r].state = .rampDown ∧ isConverter (s1.railPers r) = true then railOff s1 r
    else (s1.phases r).foldl (fun t n => if t.ports[n].state = .discharge then releaseEnd t n else t) s1
  else s1

/-- A word judged by its rail's supervisor: the warnings before the faults, which may fence the rail and so end its warnings (R224, R225). -/
def superviseWord (s : State) (r : Fin 16) (w : Nat) : State :=
  let s1 := match s.railState r with
    | .off | .fenced => s
    | _ => judgeOv (judgeOvWarn s r w) r w
  let s2 := if s1.railState r = .regulating then judgeUv (judgeUvWarn s1 r w) r w else s1
  judgeFall (judgePg s2 r w) r w

/-- A voltage word received: the statistics of its rail's update, the last 16 words (R168), the supervisor. -/
def railWord (s : State) (k : Fin 16) (w : Nat) : State :=
  let s1 := s.modVc k fun c => { c with lastWord := w }
  superviseWord (s1.modRail k fun x => x.take w) k w

/-- The engine that masters a rail. -/
def State.masterOf (s : State) (r : Fin 16) : Option (Fin 9) :=
  (s.masterGroup r.1).bind s.engineFor

/-! ## Commands -/

/-- A voltage converter delivers a word (R126–R129). -/
def doVoltageWord (k : Fin 16) (raw : U16) (flip1 flip2 : BitVec 17) (s : State) : State :=
  if s.live = true ∧ k.1 < s.variant.rails then
    let w := fabricWord (correctVolt s.vc[k] raw.toNat)
    let a := arrive w flip1 flip2
    let e := s.masterOf k
    let got := s.fetched e a
    let s1 := noteArrival (s.modVc k fun c => c.push w) e (unitCode 6 k.1) got
    match got with
    | none => s1
    | some b =>
      match b.data with
      | some d => if s1.flt.vc.getLsbD k.1 then s1 else railWord s1 k d
      | none => dropVolt s1 k
  else s

/-- Power-good is not reached within SS_TMO (R170). -/
def doSoftStartTimeout (r : Fin 16) (s : State) : State :=
  let st := s.rails[r].state
  if s.live = true ∧ isConverter (s.railPers r) = true ∧ s.rails[r].pg = false
      ∧ (st = .prebias ∨ st = .softStart ∨ st = .regulating) then
    tripRailBy (endPort .tripped) (report (countRail (setRailFlag s r startFail) r 0x55) 0x0401 (unitCode 3 r.1) 0) r
  else s

/-- The output crosses the truncation level (R171, R172). -/
def doTruncationCross (r : Fin 16) (rising : Bool) (s : State) : State :=
  if s.live = true ∧ isConverter (s.railPers r) = true ∧ s.act (railIdx r.1) 0x10 ≠ 0 ∧ s.actives r ≠ [] then
    if rising then
      let s1 := ((setRailFlag s r 1).inc (railIdx r.1) 0x11).modRail r fun x => { x with trunc := true, truncPer := true }
      (s1.actives r).foldl (fun t n => if t.mainOn n then endMain t n t.ports[n].count else t) s1
    else s.modRail r fun x => { x with trunc := false }
  else s

/-- HIC_INTERVAL elapses for a tripped rail (R229). -/
def doHiccupRetry (r : Fin 16) (s : State) : State :=
  if s.live = true ∧ s.rails[r].hicWait = true ∧ s.railState r = .tripped then retryRail s r else s

/-- Power-good held for HIC_CLEAR (R229). -/
def doHicClearExpire (r : Fin 16) (s : State) : State :=
  if s.live = true ∧ s.rails[r].pg = true then s.modRail r fun x => { x with hicCount := 0 } else s

/-! ## The commands -/

/-- VOLTAGE_WORD (R126). A voltage converter delivers a word to its master engine, LE8, the tap and the supervisor. -/
def execVoltageWord (k : Fin 16) (raw : U16) (flip1 flip2 : BitVec 17) (s : State) : Out :=
  done s (doVoltageWord k raw flip1 flip2 s)

/-- SOFT_START_TIMEOUT (R170). Power-good is not reached within SS_TMO, so the rail trips with START_FAIL set. -/
def execSoftStartTimeout (r : Fin 16) (s : State) : Out := done s (doSoftStartTimeout r s)

/-- TRUNCATION_CROSS (R171). The output crosses the truncation level, and every active main gate of the rail falls. -/
def execTruncationCross (r : Fin 16) (rising : Bool) (s : State) : Out := done s (doTruncationCross r rising s)

/-- HICCUP_RETRY (R229). HIC_INTERVAL elapses for a tripped rail, whose flags are cleared before it restarts through PREBIAS. -/
def execHiccupRetry (r : Fin 16) (s : State) : Out := done s (doHiccupRetry r s)

/-- HIC_CLEAR_EXPIRE (R229). Power-good held continuously for HIC_CLEAR returns HIC_COUNT to 0. -/
def execHicClearExpire (r : Fin 16) (s : State) : Out := done s (doHicClearExpire r s)

end Sys2Proof.Machine
end

