-- ==== Sys2Proof/Machine/MilkRound.lean ====
section
/-! DEFINITION. The milk round (R191–R197, R202, R205), the stolen samples of the voltage converters (R198, R199) and the
temperature trims (R200, R201). -/

namespace Sys2Proof.Machine
open Sys2Proof

/-- 1.0 in a GAIN. -/
def unity : Int := 16777216

/-- A GAIN within 0.98–1.02 and an OFFSET within a bound of codes. -/
def corrInRange (gain offset codes : Int) : Bool :=
  decide (98 * unity ≤ 100 * gain) && decide (100 * gain ≤ 102 * unity) && decide (offset.natAbs ≤ (codes * 256).toNat)

/-! ## Self-calibration (R193) -/

/-- The rover's own correction from the sums of its three inputs: GAIN and OFFSET, none when it fails; the spans are compared to
their mean. -/
def selfCal (v : Visit) : Option (Int × Int) :=
  let n0 : Int := v.cal0.2
  let nP : Int := v.calP.2
  let nN : Int := v.calN.2
  let up := v.calP.1 * n0 * nN - v.cal0.1 * nP * nN
  let down := v.cal0.1 * nP * nN - v.calN.1 * n0 * nP
  let span := up + down
  if span ≤ 0 then none
  else
    let gain := roundHalfUp (524288 * n0 * nP * nN * unity) (10 * span)
    let offset := roundHalfUp (-(v.cal0.1) * gain) (n0 * 65536)
    if decide ((up - down).natAbs * 4000 ≤ span.toNat) && corrInRange gain offset 1024 then some (gain, offset) else none

/-- The end of slot 0. A slot in which some input gave no word leaves the rover as it was (log entry 11). -/
def endSelfCal (s : State) : State :=
  let v := s.milk.visit
  if v.cal0.2 = 0 ∨ v.calP.2 = 0 ∨ v.calN.2 = 0 then s
  else match selfCal v with
    | none => report s 0x0502 (unitCode 5 32) 0
    | some (g, o) =>
      let s1 := s.modSc 32 fun c => { c with gain := g, offset := o }
      { s1 with milk := { s1.milk with calGain := g, calOffset := o } }

/-! ## The fit of a visit (R195) -/

/-- α in 1/2^24 and β in 1/256 code: least squares, or with too little ripple the present gain. -/
def fitVisit (v : Visit) (gain : Int) : Int × Int :=
  let n : Int := v.n
  let flat := n * v.srr - v.sr * v.sr < 328 * 328 * n * n
  let den := n * v.sss - v.ss * v.ss
  let a := if flat ∨ den ≤ 0 then gain else roundHalfUp ((n * v.ssr - v.ss * v.sr) * unity) den
  (a, roundHalfUp ((v.sr * unity - a * v.ss) * 256) (n * unity))

/-- The sum of squared residuals of a fit, times 2^48. -/
def residual48 (v : Visit) (a b : Int) : Int :=
  v.srr * 2 ^ 48 - 2 * a * v.ssr * 2 ^ 24 - 2 * b * v.sr * 2 ^ 40 + a * a * v.sss + 2 * a * b * v.ss * 2 ^ 16
    + v.n * b * b * 2 ^ 32

/-- A visit rejected (R195, R196): three in a row fail its converter, four visits in a row fail the rover, whichever ports they went to
and also across the end of a round (DESIGN CHOICE, log entry 115). -/
def rejectVisit (s : State) (n : Fin 32) : State :=
  let s1 := logOnly (s.inc 0x3000 0x0F) 0x0501 (unitCode 5 n.1) 0
  let s2 := (s1.modSc (Fin.castSucc n) fun c => { c with rejects := c.rejects + 1 })
  let s3 := { s2 with milk := { s2.milk with rejectRow := s2.milk.rejectRow + 1, clean := false } }
  if 4 ≤ s3.milk.rejectRow then report s3 0x0502 (unitCode 5 32) 0
  else if 3 ≤ s3.sc[Fin.castSucc n].rejects then report s3 0x0305 (unitCode 5 n.1) 0
  else s3

/-- The step of a visit before its bound, in 1/256 code (R195). -/
def visitStep (c : Conv) (a b : Int) : Int := roundHalfUp (a - c.gain).natAbs 2 + (b - c.offset).natAbs

/-- The RMS residual of `n` pairs in 1/256 code, from the sum of their squared residuals times 2^48, to the nearest (log entry 10). -/
def rmsResidual (resid : Int) (n : Nat) : Nat := (isqrt 17 (4 * resid.toNat / (max 1 n * 2 ^ 32)) + 1) / 2

/-- LAST_PORT, LAST_STEP, LAST_RESIDUAL and LAST_STAMP of a completed visit, accepted or not (R209). A visit with no pair at all has no fit:
its step and its residual are free values (log entry 1). -/
def noteVisit (s : State) (n : Fin 32) (a b resid : Int) : State :=
  let put := fun (t : State) (step rms : Nat) =>
    (((t.setReg 0x3000 0x0B n.1).setReg 0x3000 0x0C (min 0xFFFF step)).setReg 0x3000 0x0D (min 0xFFFF rms)).setReg 0x3000 0x0E t.now.toNat
  if s.milk.visit.n = 0 then
    let (step, s1) := s.drawNat 16
    let (rms, s2) := s1.drawNat 16
    put s2 step rms
  else put s (visitStep s.sc[n.castSucc] a b).toNat (rmsResidual resid s.milk.visit.n)

/-- A visit accepted: its step bounded and then counted in CLAMP_CNT, which no other visit is (DESIGN CHOICE, log entry 114), its ramp of
256 increments begun, or its converter failed (R195–R197). -/
def acceptVisit (s : State) (n : Fin 32) (a b : Int) : State :=
  let c := s.sc[Fin.castSucc n]
  let dG := a - c.gain
  let dO := b - c.offset
  let step := visitStep c a b
  let s0 := { s with milk := { s.milk with rejectRow := 0 } }
  if !corrInRange a b 1024 then report s0 0x0305 (unitCode 5 n.1) 0
  else
    let big := decide (32768 < step)
    let r : Ramp := { left := 256, total := 256, gain0 := c.gain, offset0 := c.offset
                      dGain := if big then roundHalfUp (dG * 32768) step else dG
                      dOffset := if big then roundHalfUp (dO * 32768) step else dO
                      converges := !big }
    let s1 := s0.modSc (Fin.castSucc n) fun c => { c with ramp := some r, rejects := 0 }
    if big then s1.inc 0x3000 0x10 else s1

/-- The end of a visit to port `n`. -/
def endVisit (s : State) (n : Fin 32) : State :=
  let v := s.milk.visit
  if v.idle ∨ s.ports[n].state = .fenced ∨ s.flt.sc.getLsbD n.1 = true then s
  else if v.abandoned then
    let s1 := breakRun s
    { s1 with milk := { s1.milk with clean := false } }
  else
    let (a, b) := fitVisit v s.sc[Fin.castSucc n].gain
    let resid := residual48 v a b
    let s1 := noteVisit s n a b resid
    if v.n < 40000 ∨ 64 * 64 * (v.n : Int) * 2 ^ 48 < resid then rejectVisit s1 n else acceptVisit s1 n a b

/-- Every present port that is not fenced has converged. -/
def State.allConverged (s : State) : Bool :=
  s.portList.all fun n => s.ports[n].state == .fenced || (s.reg 0x3000 7).testBit n.1

/-- The end of the present slot. (DEDUCED, log entry 64). -/
def endSlot (s : State) : State :=
  if s.milk.slot = 0 then
    let s1 := endSelfCal s
    if s1.milk.roundOne && (s1.milk.clean || s1.allConverged) then { s1 with milk := { s1.milk with firstDone := true } } else s1
  else s.portList.foldl (fun t n => if n.1 + 1 = s.milk.slot then endVisit t n else t) s

/-- The slot after the present one, idle where its port is fenced or its converter failed (R191); past the last, a round is complete. -/
def nextSlot (s : State) : State :=
  if s.milk.slot < s.variant.ports then
    let idle := s.portList.any fun n => n.1 == s.milk.slot && (s.ports[n].state == .fenced || s.flt.sc.getLsbD n.1)
    { s with milk := { s.milk with slot := s.milk.slot + 1, visit := { Visit.reset with idle := idle } } }
  else
    let s1 := (s.inc 0x3000 4).setReg 0x3000 5 s.now.toNat
    { s1 with milk := { s1.milk with slot := 0, visit := .reset, roundOne := true } }

/-- A slot ends and the next begins (R191). -/
def doMrSlotStart (s : State) : State :=
  if s.live = true ∧ s.milk.running = true then
    let s1 := endSlot s
    if s1.milk.running then nextSlot s1 else s1
  else s

/-! ## Ramps (R197, R199) -/

/-- A ramp's next increment. -/
def Conv.stepRamp (c : Conv) : Conv :=
  match c.ramp with
  | none => c
  | some r =>
    let j : Int := r.total - r.left + 1
    { c with gain := r.gain0 + roundHalfUp (r.dGain * j) (max 1 r.total : Nat)
             offset := r.offset0 + roundHalfUp (r.dOffset * j) (max 1 r.total : Nat)
             ramp := if r.left ≤ 1 then none else some { r with left := r.left - 1 } }

/-- The ramp ends with its next increment and its converter converges. -/
def Conv.settles (c : Conv) : Bool :=
  match c.ramp with
  | none => false
  | some r => r.left ≤ 1 && r.converges

/-- One of the 256 increments of a sense converter's ramp; a voltage converter's increments fall in its stolen slots. -/
def doCorrectionIncrement (c : Converter) (s : State) : State :=
  match c with
  | .sense n =>
    if s.live then
      let s1 := if s.sc[n].settles then s.orReg 0x3000 7 (2 ^ n.1) else s
      s1.modSc n Conv.stepRamp
    else s
  | .volt _ => s

/-- 256 stolen samples make an update (R199): 1.600 V is 51 200 codes; the largest change at any input in 0–65 535, here in
1/(256 × 65 536) code, is bounded to 32 codes. -/
def stolenUpdate (s : State) (k : Fin 16) : State :=
  let c := s.vc[k]
  let span : Int := (c.refSum : Int) - c.zeroSum
  let s0 := s.modVc k fun x => { x with zeroSum := 0, refSum := 0, stolen := 0 }
  if span ≤ 0 then report s0 0x0306 (unitCode 6 k.1) 0
  else
    let gain := roundHalfUp (51200 * 128 * unity) span
    let offset := roundHalfUp (-(c.zeroSum : Int) * gain) (128 * 65536)
    if !corrInRange gain offset 256 then report s0 0x0306 (unitCode 6 k.1) 0
    else
      let dG := gain - c.gain
      let dO := offset - c.offset
      let step : Int := dG.natAbs * 65535 + dO.natAbs * 65536
      let most : Int := 8192 * 65536
      let big := decide (most < step)
      s0.modVc k fun x =>
        { x with ramp := some { left := 64, total := 64, gain0 := c.gain, offset0 := c.offset
                                dGain := if big then roundHalfUp (dG * most) step else dG
                                dOffset := if big then roundHalfUp (dO * most) step else dO
                                converges := !big } }

/-- A stolen slot: zero and reference in turn; the converter's word before, also one that never arrived, is repeated to every receiver and
stands in its holding buffer (R198). A half-collected set of samples is kept while no slot is stolen. (DESIGN CHOICE, log entry 135). -/
def doStolenSample (k : Fin 16) (raw : U16) (s : State) : State :=
  if s.live = true ∧ (s.reg 0x3000 1).testBit 1 = true ∧ (s.md.mode = .run ∨ s.md.mode = .holdup) ∧ k.1 < s.variant.rails
      ∧ s.flt.vc.getLsbD k.1 = false then
    let s1 := if s.vc[k].settles then s.orReg 0x3000 8 (2 ^ k.1) else s
    let s2 := s1.modVc k fun c =>
      let d := c.stepRamp
      { d with zeroSum := if c.stolen % 2 = 0 then c.zeroSum + raw.toNat else c.zeroSum
               refSum := if c.stolen % 2 = 0 then c.refSum else c.refSum + raw.toNat
               stolen := c.stolen + 1 }
    let s3 := if 256 ≤ s2.vc[k].stolen then stolenUpdate s2 k else s2
    if s3.flt.vc.getLsbD k.1 then s3
    else match s3.vc[k].buffer.head? with
      | none => s3
      | some w => railWord (s3.modVc k fun c => c.push w) k (w.toNat % 65536)
  else s

/-! ## Trims (R200, R201) -/

/-- A die sensor's temperature if it is VALID; a fenced one is not (Table 11-3). -/
def State.dieValid (s : State) (d : Fin 4) : Option Int :=
  if s.thm.die[d].status = .valid ∧ s.flt.sensors.getLsbD (16 + d.1) = false then s.thm.die[d].reading else none

/-- Mean of the valid die sensors. -/
def State.dieMean (s : State) : Option Int :=
  let v := (List.finRange 4).filterMap s.dieValid
  if v = [] then none else some (roundHalfUp v.sum (v.length : Nat))

/-- The temperature a trim uses: its own sensor, else DS2, else the mean. -/
def State.trimTemp (s : State) (d : Fin 4) : Option Int := (s.dieValid d).or ((s.dieValid 2).or s.dieMean)

/-- A trim interpolated between the 17 fused points (R200); below −48 °C and above 144 °C the table's end value stands. (DESIGN CHOICE,
log entry 108). -/
def trimAt (t : Nat) (temp : Int) : Int :=
  let x := clampInt (-480) 1440 temp + 480
  let i := min 15 (x.toNat / 120)
  let a := Config.trimTable t i
  let b := Config.trimTable t (i + 1)
  roundHalfUp (a * 120 + (b - a) * (x - 120 * i)) 120

/-- One trim moved by at most one step. -/
def moveTrim (s : State) (t : Fin 5) (temp : Option Int) : State :=
  match temp with
  | none => s
  | some x =>
    let now := s.milk.trims[t]
    { s with milk := { s.milk with trims := s.milk.trims.set t.1 (now + clampInt (-1) 1 (trimAt t.1 x - now)) t.2 } }

/-- Every 1 ms (R200). With no valid sensor the trims hold and are reported frozen once.
(DEDUCED, log entry 65). -/
def doTrimUpdate (s : State) : State :=
  if s.live then
    if s.dieMean = none then
      if s.milk.frozen then s
      else report { s with milk := { s.milk with frozen := true } } 0x0503 (devUnit 9) 0
    else
      let s1 := { s with milk := { s.milk with frozen := false } }
      moveTrim (moveTrim (moveTrim (moveTrim s1 0 (s.trimTemp 2)) 1 (s.trimTemp 0)) 2 (s.trimTemp 1)) 3 (s.trimTemp 2)
  else s

/-- Every 10 ms: the AON oscillator's trim from DS3, which has no substitute (R201). -/
def doAonTrimUpdate (s : State) : State :=
  if s.aonUp = true ∧ s.md.mode ≠ .ship then moveTrim s 4 (s.dieValid 3) else s

/-- A write of MR_CTRL (R191, R192, R198). -/
def writeMrCtrl (s : State) (v : Nat) : State :=
  let was := (s.reg 0x3000 1).testBit 0
  let s1 := s.setReg 0x3000 1 v
  if v.testBit 0 then (if was then s1 else startRound s1) else stopRound s1

/-! ## The commands -/

/-- MR_SLOT_START (R191). A 2.048 ms milk-round slot ends and the next slot's self-calibration or visit begins. -/
def execMrSlotStart (s : State) : Out := done s (doMrSlotStart s)

/-- CORRECTION_INCREMENT (R197). One of the 256 correction-ramp increments is transferred to a converter every 8 µs. -/
def execCorrectionIncrement (c : Converter) (s : State) : Out := done s (doCorrectionIncrement c s)

/-- STOLEN_SAMPLE (R198). A voltage converter gives one slot to a zero or 1.600 V reference measurement and repeats its last
word. -/
def execStolenSample (k : Fin 16) (raw : U16) (s : State) : Out := done s (doStolenSample k raw s)

/-- TRIM_UPDATE (R200). Every 1 ms, the temperature trims of the references move toward the interpolated value. -/
def execTrimUpdate (s : State) : Out := done s (doTrimUpdate s)

/-- AON_TRIM_UPDATE (R200). Every 10 ms, the AON oscillator trim is updated from DS3. -/
def execAonTrimUpdate (s : State) : Out := done s (doAonTrimUpdate s)

end Sys2Proof.Machine
end

