-- ==== Sys2Proof/Machine/ModesReq.lean ====
section
/-! DEFINITION. Mode requests, wakes, SHIP, hold-up and SERVICE (chapter 3), the sequence engine's commands, and the front-panel
inputs (chapter 8). -/

namespace Sys2Proof.Machine
open Sys2Proof

/-! ## Wakes (R75, R78, R79) -/

/-- A wake's bit in WAKE_CAUSE. -/
def Wake.bits : Wake → Nat
  | .nmt .a => 1
  | .nmt .b => 2
  | .modeWrite => 4
  | .pb => 8
  | .twoWire => 16
  | .vin => 32

/-- Wakes act here: STANDBY, or SAFESTOP with the core domain off, the regulator not failed and no power-up in progress. -/
def State.canWake (s : State) : Bool :=
  !s.pwr.regFailed && (s.fallingAsleep || (s.asleep && (s.md.mode == .standby || s.md.mode == .safestop)))

/-- A wake event: recorded; with the core domain still on it waits for the entry to end; else the core domain is wanted.
(DEDUCED, log entry 36). -/
def wakeBy (s : State) (w : Wake) : State :=
  if s.canWake then
    let s1 := s.orReg 0x2000 5 w.bits
    if s1.coreOn then { s1 with pwr := { s1.pwr with
      lateWake := s1.pwr.lateWake.or (some w)
      lateOther := s1.pwr.lateOther.or (if w = .modeWrite then none else some w) } }
    else { s1 with pwr := { s1.pwr with coreWanted := true, wake := s1.pwr.wake.or (some w) } }
  else s

/-! ## MODE writes (R62, R71, R82) -/

/-- SHIP entered (R63). -/
def enterShip (s : State) : State :=
  let s1 := enterMode (stopSqe s) .ship 1
  requestStore { s1 with
    pwr := { s1.pwr with entering := true, coreWanted := false, wake := none, lateWake := none, lateOther := none }
    tw := { s1.tw with wakeAddr := none } } .ship

/-- A MODE write of 1. -/
def modeStandby (s : State) : State :=
  match s.md.mode with
  | .safestop =>
    if s.latch.set then s.orReg 0x2000 8 2
    else if s.herdFollows then offRequest s 1
    else enterStandby (s.clrReg 0x2000 8 1) 1
  | .service => enterStandby (s.clrReg 0x2000 8 1) 1
  | _ => offRequest s 1

/-- A MODE write of 3. -/
def modeRun (s : State) : State :=
  match s.md.mode with
  | .standby => wakeBy s .modeWrite
  | .safestop => if s.latch.set then s.orReg 0x2000 8 2 else onRequest s 1
  | _ => onRequest s 1

/-- A MODE write of 7: the authorisation is used up; RUN goes through SHUTDOWN, SAFESTOP directly. The challenge stands,
as R82 ends the authorisation alone (DEDUCED, log entry 53). A follower in RUN asks its master for the power-down and enters SERVICE at
its end (DESIGN CHOICE, log entry 125). -/
def modeService (s : State) : State :=
  let s1 := { s with md := { s.md with svcStat := 0 } }
  if s1.md.mode = .run ∧ s1.herdFollows = true then offRequest { s1 with md := { s1.md with svcAsked := true } } 1
  else if s1.md.mode = .run then
    let s2 := beginPowerDown s1 1
    { s2 with md := { s2.md with svcAsked := true } }
  else enterService s1 1

/-- A MODE write of 6: the host's trip source, class F (R71). -/
def modeSafestop (s : State) : State :=
  if s.live then report s 0x010B (devUnit 7) 0 else trip (aonReport s 0x010B (devUnit 7)) false

/-- A write of MODE that passed its checks. -/
def writeMode (s : State) (v : Nat) : State :=
  match v with
  | 0 => enterShip s
  | 1 => modeStandby s
  | 3 => modeRun s
  | 6 => modeSafestop s
  | 7 => modeService s
  | _ => s

/-- REQ_STAT cleared (R71, R81): a cleared RESTART ends the re-qualification in STANDBY.
(DEDUCED, log entry 52). -/
def clearReqStat (s : State) (m : Nat) : State :=
  let s1 := s.clrReg 0x2000 8 m
  if m.testBit 2 && s.md.requal then enterStandby s1 1 else s1

/-- SVC_AUTH (R82): verification starts when a challenge stands. (DEDUCED, log entry 53). With no key enrolled SVC_STAT comes to read 3 in
every case (R417). -/
def writeSvcAuth (s : State) (sig : List Byte) : State :=
  if s.md.svcStat = 0 ∧ s.md.challenge ≠ [] then { s with md := { s.md with authSig := sig, svcStat := 1 } }
  else if s.keyGen = 0 ∧ s.md.svcStat ≠ 1 then { s with md := { s.md with svcStat := 3 } }
  else s

/-- SVC_PORT (R83). -/
def writeSvcPort (s : State) (v : Nat) : State := applyHolds (s.setReg 0x2000 0x0D v)

/-- The key of a core reset (R60). -/
def writeCoreReset (s : State) : State := coreReset s 0x10

/-! ## SHIP, STANDBY and wakes -/

/-- The SHIP store has its snapshot or was skipped: the core domain goes off (R63). -/
def doShipCoreOff (s : State) : State :=
  if s.md.mode = .ship ∧ s.pwr.entering = true ∧ s.storePending .ship = false then coreOff s false else s

/-- Phase 3 has ended: the AON island is held in reset but for its wake comparators (R63). -/
def doShipAonHold (s : State) : State :=
  if s.md.mode = .ship ∧ s.pwr.step = .aonUp ∧ s.pwr.entering = false ∧ s.ks.running = none then
    { s with pwr := { s.pwr with step := .shipHold }, tb := { s.tb with running := false } }
  else s

/-- PB seen released for 50 ms in SHIP (R64). -/
def doShipPbWakeArm (s : State) : State :=
  if s.md.mode = .ship then { s with pwr := { s.pwr with pbArmed := true } } else s

/-- The end of SHIP, before the AON island is held too (R64): a full reset. VIN is declared present only when it has stood for
100 µs (R43). -/
def doShipExit (byVin : Bool) (s : State) : State :=
  if s.md.mode = .ship ∧ (byVin = true ∨ s.pwr.pbArmed = true) then
    fullReset s 4
  else s

/-- The STANDBY store has its snapshot or was skipped: the core domain goes off (R74), also when a trip has meanwhile made the mode
SAFESTOP (R79). After STANDBY the links run at 125 kbit/s (R76). -/
def doStandbyCoreOff (s : State) : State :=
  if (s.md.mode = .standby ∨ s.md.mode = .safestop) ∧ s.coreOn = true ∧ s.pwr.entering = true ∧ s.storePending .standby = false then
    let s1 := coreOff s false
    (List.finRange 2).foldl (fun t i => t.modLink i fun l => { l with rate := 0 }) s1
  else s

/-- The wake latched during STANDBY entry that counts: the first, in SAFESTOP the first that is no MODE write (R78, R79). -/
def State.latchedWake (s : State) : Option Wake :=
  if s.pwr.lateWake = some .modeWrite ∧ s.md.mode = .safestop then s.pwr.lateOther else s.pwr.lateWake

/-- A wake latched during STANDBY entry acts (R78), in SAFESTOP unless it is a MODE write (R79). -/
def doLatchedWake (s : State) : State :=
  if s.coreOn then s
  else match s.latchedWake with
    | none => { s with pwr := { s.pwr with lateWake := none, lateOther := none } }
    | some w => { s with pwr := { s.pwr with lateWake := none, lateOther := none, coreWanted := true, wake := some w } }

/-! ## VIN and hold-up (R80, R81, R268, R269) -/

/-- VIN has been present for VIN_QUAL; with the core clock gated the mode follows when it restarts. -/
def doVinQualified (s : State) : State :=
  if s.pwr.vin then
    if s.isOpen = true ∧ (s.md.mode = .holdup ∨ s.md.requal = true) then
      if s.pwr.gated then { s with pwr := { s.pwr with qualGap := true } } else vinQualified s
    else if (s.reg 0x2000 6).testBit 1 then wakeBy s .vin
    else s
  else s

/-- The hold-up time expired (R81, R268): SHUTDOWN, or a follower's off request, which stays in HOLDUP till its master's frames.
(DESIGN CHOICE, log entry 128). -/
def holdupExpired (s : State) : State :=
  if s.herdFollows then offRequest s 8
  else
    let s1 := beginPowerDown s 8
    { s1 with md := { s1.md with byHoldup := true } }

/-- HU_TIME has elapsed since entry to HOLDUP. -/
def State.huElapsed (s : State) : Bool :=
  s.chgSet 0x24 != 0 && decide (s.chg.holdAt + s.chgSet 0x24 * 1000 * ticksPerMs ≤ s.coreNow)

/-- HU_TIME elapses in HOLDUP. -/
def doHoldupTimeExpired (s : State) : State :=
  if s.ready = true ∧ s.md.mode = .holdup ∧ s.huElapsed = true then holdupExpired s else s

/-- VSYS below HU_VCELL_MIN × CELLS for 100 ms in HOLDUP. -/
def doHoldupLowBattery (s : State) : State :=
  if s.ready = true ∧ s.md.mode = .holdup then holdupExpired (s.orReg 0x2500 0x1B 0x100) else s

/-- A rail turned off by HOLDUP: a partial run, and a restart to come. -/
def huTurnOff (s : State) (r : Fin 16) : State :=
  callPartial (s.modRail r fun x => { x with huOff := true, huRun := false }) (.turnOff r)

/-- HU_TIMED of a TIMED rail elapses. -/
def doHuTimedExpired (r : Fin 16) (s : State) : State :=
  if s.ready = true ∧ s.md.mode = .holdup ∧ s.rails[r].huRun = true ∧ s.enabled r = true
      ∧ s.chg.holdAt + s.act (railIdx r.1) 0x61 * 1000 * ticksPerMs ≤ s.coreNow then huTurnOff s r
  else s

/-- VSYS below HU_VOFF for 100 ms in HOLDUP. -/
def doHuVoffTurnoff (r : Fin 16) (s : State) : State :=
  if s.ready = true ∧ s.md.mode = .holdup ∧ s.act (railIdx r.1) 0x62 ≠ 0 ∧ s.enabled r = true then huTurnOff s r else s

/-- A HU_TIME write acts at once in every copy on the hold-up time in progress (R268). -/
def writeHuTime (s : State) (v : Nat) : State :=
  let s1 := s.setAll 0x2500 0x24 v
  if s1.md.mode = .holdup ∧ s1.huElapsed = true then holdupExpired s1 else s1

/-! ## SERVICE (R82, R83) -/

/-- The check of a service signature ends: over the challenge and the unique ID, by the enrolled key. -/
def doSvcVerifyDone (s : State) : State :=
  if s.ready = true ∧ s.md.svcStat = 1 then
    let good := s.keyGen != 0
      && ecdsaVerify s.cfgKey (sha256 (s.md.challenge ++ Config.uid.toList)) s.md.authSig
    { s with md := { s.md with svcStat := if good then 2 else 3, authAt := s.coreNow } }
  else s

/-- An authorisation unused for 10 s expires. -/
def doSvcAuthExpire (s : State) : State :=
  if s.md.svcStat = 2 ∧ s.md.authAt + 10000 * ticksPerMs ≤ s.coreNow then { s with md := { s.md with svcStat := 4 } } else s

/-- No dictionary access for SVC_IDLE_TMO. -/
def doSvcIdleTimeout (s : State) : State :=
  if s.ready = true ∧ s.md.mode = .service then enterStandby s 13 else s

/-- SVCKEY asserted. -/
def doSvckeyAssert (s : State) : State :=
  if s.pins.svckey then s
  else
    let s1 := { s with pins := { s.pins with svckey := true }, md := { s.md with keySince := s.now64 } }
    pinEvent s1 4

/-- SVCKEY released: SERVICE ends. -/
def doSvckeyRelease (s : State) : State :=
  if s.pins.svckey then
    pinAct (pinEvent { s with pins := { s.pins with svckey := false } } 5) 5
  else s

/-! ## The sequence engine (R212–R221, R247) -/

/-- A step starts. The first step of a power-up waits until every sensor has been read (R287). -/
def doSeqStepStart (s : State) : State :=
  if s.ready = true ∧ s.pos.phase = .start ∧ s.runner ≠ none ∧ s.firstWaits = false then startStep s else s

/-- An evaluation of the wait in progress. -/
def doStepComplete (s : State) : State := if s.ready = true ∧ s.runner ≠ none then evaluate s else s

/-- A step's TMO expires (R214): a condition that is met wins; a time wait has no timeout. -/
def doStepTimeout (s : State) : State :=
  if s.ready = true ∧ s.runner ≠ none ∧ s.pos.phase = .wait ∧ s.stepSet s.pos.step 5 ≠ 0 ∧ s.sqe.forced = false
      ∧ s.sqe.stat ≠ .reversal ∧ (s.stepSet s.pos.step 3 ≠ 2 ∨ s.runner = some .partial_) then
    if s.metNow && (s.runner != some .script || s.herdReady) then nextStep s else failStep s 1
  else s

/-- A rail's FALL_TMO expires in a fall wait (R217); a rail that has satisfied the wait, OFF or FENCED and below FALL, has no timeout. -/
def doFallTimeout (r : Fin 16) (s : State) : State :=
  if s.ready = true ∧ s.pos.phase = .fall ∧ s.pos.named.getLsbD r.1 = true ∧ s.fallenRail r = false then
    let s1 := if s.railState r = .rampDown then
        (if isConverter (s.railPers r) then railOff s r else stopRail s r true)
      else s
    let s2 := { s1 with sqe := { s1.sqe with fallen := setBit s1.sqe.fallen r.1 } }
    report (setSupFlag (s2.orReg 0x2300 8 2) r 0x40) 0x0407 (unitCode 3 r.1) 0
  else s

/-- A queued partial run starts (R221). -/
def doPartialRunQueuedStart (s : State) : State :=
  if s.ready = true ∧ s.sqe.stat = .idle then
    match s.sqe.queue with
    | [] => s
    | p :: t => { s with sqe := { s.sqe with queue := t, stat := .partialRun, partial_ := some p, step := 0xFF, phase := .start,
                                             named := 0, restart := 0 } }
  else s

/-- SEQ_CMD 1: the wait again with a fresh TMO (Table 8-3), a fall wait before it as it stands (R216); a power-good wait on a rail that cannot
meet it fails at once (R215). -/
def seqRetry (s : State) : State :=
  let falls := s.sqe.phase = .fall
  judgeWaits { s with sqe := { s.sqe with stat := .powerUp, phase := if falls then .fall else .wait, since := s.coreNow,
                                          named := if falls then s.sqe.named else 0 },
                      herd := { s.herd with failed := 0 } }

/-- SEQ_CMD 2: the next step. -/
def seqSkip (s : State) : State := nextStep { s with sqe := { s.sqe with stat := .powerUp } }

/-- SEQ_CMD 3: abort. -/
def seqAbort (s : State) : State := abortUp { s with sqe := { s.sqe with stat := .powerUp } }

/-- A write of SEQ_CMD to a halted script. -/
def writeSeqCmd (s : State) (v : Nat) : State :=
  match v with
  | 1 => seqRetry s
  | 2 => seqSkip s
  | _ => seqAbort s

/-! ## Front-panel inputs (R233–R236) -/

/-- PB released after 50 ms–2 s. -/
def doPbShortPress (s : State) : State :=
  let s1 := pinEvent { s with pins := { s.pins with pb := false, pressAt := some s.now64 } } 0
  if s1.takesRequests then pinAct s1 0 else wakeBy s1 .pb

/-- PB held for PB_LONG. (DESIGN CHOICE, log entry 96). -/
def doPbLongPress (s : State) : State :=
  pinAct (pinEvent { s with pins := { s.pins with pb := true, pressAt := some s.now64 } } 1) 1

/-- PB released between the two. -/
def doPbIgnored (s : State) : State := pinEvent { s with pins := { s.pins with pb := false, pressAt := some s.now64 } } 2

/-- A 200 ms pulse on both reset outputs, in every mode with the AON island running (R84, R235, R308). -/
def pulseResets (s : State) : State := if s.aonUp then { s with pins := { s.pins with pulse := true } } else s

/-- MR pressed; it is ignored in SHIP (Table 17-4). -/
def doMrPress (s : State) : State :=
  let s1 := pinEvent { s with pins := { s.pins with mr := true, mrAt := some s.now64 } } 3
  if s.md.mode = .ship then s1 else pulseResets s1

/-- The pulse ends. -/
def doRstoutPulseEnd (s : State) : State := { s with pins := { s.pins with pulse := false } }

/-- DOOR opens (R236). -/
def doDoorOpen (s : State) : State :=
  pinAct (pinEvent { s with pins := { s.pins with door := true } } 6) 6

/-- DOOR closes. -/
def doDoorClose (s : State) : State := pinEvent { s with pins := { s.pins with door := false } } 7

/-- A SEQIN pin changes level. -/
def doSeqinChange (i : Fin 4) (high : Bool) (s : State) : State :=
  if s.coreOn = true ∧ s.md.mode ≠ .ship then
    { s with pins := { s.pins with seqin := if high then setBit s.pins.seqin i.1 else clrBit s.pins.seqin i.1 } }
  else s

/-! ## The port of TRIP_FLAGS, RAIL_FLAGS and SUP_FLAGS clears (R124, R160, R229) -/

/-- TRIP_FLAGS cleared: a port that they alone kept in TRIPPED restarts with its rail. -/
def clearTripFlags (s : State) (n : Fin 32) (m : Nat) : State :=
  let s1 := s.clrReg (portIdx n.1) 0x12 m
  match s1.railOf n with
  | none => s1
  | some r => tryRestart s1 r

/-- A flag register of a rail cleared. -/
def clearRailFlags (s : State) (r : Fin 16) (sub m : Nat) : State :=
  let s1 := s.clrReg (railIdx r.1) sub m
  if sub = 0x19 then tryRestart s1 r else s1

/-- CNT_CLEAR (R230). -/
def writeCntClear (s : State) (r : Fin 16) : State :=
  (List.range 8).foldl (fun t j => t.setReg (railIdx r.1) (0x52 + j) 0) s

/-- SNAP (R181). -/
def writeSnap (s : State) : State :=
  s.portList.foldl (fun t n => t.modLedger n fun l =>
    { l with snapCharge := whole l.charge, snapEnergy := whole l.energy, snapStamp := s.now }) s

/-- CLEAR (R183). -/
def writeLedgerClear (s : State) (n : Fin 32) : State := s.modLedger n fun l => { l with charge := 0, energy := 0 }

/-! ## The commands -/

/-- SHIP_CORE_OFF (R63). Once the SHIP store has taken its snapshot or been skipped, the core regulator and VCC5 are switched
off. -/
def execShipCoreOff (s : State) : Out := done s (doShipCoreOff s)

/-- SHIP_AON_HOLD (R63). After phase 3 of the store ends, the AON island is held in reset except the PB and VIN wake
comparators. -/
def execShipAonHold (s : State) : Out := done s (doShipAonHold s)

/-- SHIP_PB_WAKE_ARM (R64). PB has been seen released for 50 ms in SHIP, and the PB wake arms. -/
def execShipPbWakeArm (s : State) : Out := done s (doShipPbWakeArm s)

/-- SHIP_EXIT (R64). PB held for 50 ms, or VIN rising through 8.5 V, causes a full reset with cause SHIP_EXIT. -/
def execShipExit (byVin : Bool) (s : State) : Out := done s (doShipExit byVin s)

/-- STANDBY_CORE_OFF (R74). Once the STANDBY store has taken its snapshot or been skipped, the core domain is switched off. -/
def execStandbyCoreOff (s : State) : Out := done s (doStandbyCoreOff s)

/-- LATCHED_WAKE (R78). A wake event latched during STANDBY entry wakes the device once the entry is complete. -/
def execLatchedWake (s : State) : Out := done s (doLatchedWake s)

/-- VIN_QUALIFIED (R81). VIN has been present for VIN_QUAL, which returns the device from HOLDUP to RUN or starts STARTUP. -/
def execVinQualified (s : State) : Out := done s (doVinQualified s)

/-- HOLDUP_TIME_EXPIRED (R268). HU_TIME elapses in HOLDUP, and SHUTDOWN starts. -/
def execHoldupTimeExpired (s : State) : Out := done s (doHoldupTimeExpired s)

/-- HOLDUP_LOW_BATTERY (R268). VSYS stays below HU_VCELL_MIN × CELLS for 100 ms, so the hold-up time counts as expired and
HU_LOWBATT is set. -/
def execHoldupLowBattery (s : State) : Out := done s (doHoldupLowBattery s)

/-- HU_TIMED_EXPIRED (R269). The HU_TIMED time of a TIMED rail elapses, and the rail is turned off by a partial run. -/
def execHuTimedExpired (r : Fin 16) (s : State) : Out := done s (doHuTimedExpired r s)

/-- HU_VOFF_TURNOFF (R269). VSYS stays below a rail's HU_VOFF for 100 ms in HOLDUP, and the rail is turned off by a partial
run. -/
def execHuVoffTurnoff (r : Fin 16) (s : State) : Out := done s (doHuVoffTurnoff r s)

/-- SVC_VERIFY_DONE (R82). The service signature check ends, and SVC_STAT reads 2 or 3. -/
def execSvcVerifyDone (s : State) : Out := done s (doSvcVerifyDone s)

/-- SVC_AUTH_EXPIRE (R82). An unused authorisation reaches 10 s and expires, so SVC_STAT reads 4. -/
def execSvcAuthExpire (s : State) : Out := done s (doSvcAuthExpire s)

/-- SVC_IDLE_TIMEOUT (R83). No dictionary access arrives for SVC_IDLE_TMO, and the device leaves SERVICE for STANDBY. -/
def execSvcIdleTimeout (s : State) : Out := done s (doSvcIdleTimeout s)

/-- SVCKEY_ASSERT (R236). The filtered SVCKEY assertion is recorded and serves SERVICE entry and step waits. -/
def execSvckeyAssert (s : State) : Out := done s (doSvckeyAssert s)

/-- SVCKEY_RELEASE (R83). SVCKEY is released, which takes the device from SERVICE to STANDBY. -/
def execSvckeyRelease (s : State) : Out := done s (doSvckeyRelease s)

/-- SEQ_STEP_START (R212). The sequence engine starts a step and applies its action. -/
def execSeqStepStart (s : State) : Out := done s (doSeqStepStart s)

/-- STEP_COMPLETE (R212). An evaluation finds the step's wait condition met, and the step completes. -/
def execStepComplete (s : State) : Out := done s (doStepComplete s)

/-- STEP_TIMEOUT (R214). A step's TMO expires before its wait is met. -/
def execStepTimeout (s : State) : Out := done s (doStepTimeout s)

/-- FALL_TIMEOUT (R217). A rail's FALL_TMO expires, and the rail is forced OFF and treated as fallen. -/
def execFallTimeout (r : Fin 16) (s : State) : Out := done s (doFallTimeout r s)

/-- PARTIAL_RUN_QUEUED_START (R221). A queued partial run starts after the one before it ends. -/
def execPartialRunQueuedStart (s : State) : Out := done s (doPartialRunQueuedStart s)

/-- PB_SHORT_PRESS (R234). PB is released after 50 ms–2 s, which is an on request or a wake. -/
def execPbShortPress (s : State) : Out := done s (doPbShortPress s)

/-- PB_LONG_PRESS (R234). PB is held for PB_LONG, which is a forced off request. -/
def execPbLongPress (s : State) : Out := done s (doPbLongPress s)

/-- PB_IGNORED (R234). PB is released after more than 2 s and before PB_LONG, and PB_IGNORED is set. -/
def execPbIgnored (s : State) : Out := done s (doPbIgnored s)

/-- MR_PRESS (R235). A filtered MR assertion pulses RSTOUTA and RSTOUTB for 200 ms. -/
def execMrPress (s : State) : Out := done s (doMrPress s)

/-- RSTOUT_PULSE_END (R235). The 200 ms reset-output pulse ends. -/
def execRstoutPulseEnd (s : State) : Out := done s (doRstoutPulseEnd s)

/-- DOOR_OPEN (R236). DOOR opens, which acts as DOOR_ACT sets in STARTUP, RUN and HOLDUP. -/
def execDoorOpen (s : State) : Out := done s (doDoorOpen s)

/-- DOOR_CLOSE (R236). DOOR closes, which is recorded only. -/
def execDoorClose (s : State) : Out := done s (doDoorClose s)

/-- SEQIN_CHANGE (R233). A filtered SEQIN input changes level, which shows in PIN_STAT and serves step waits. -/
def execSeqinChange (i : Fin 4) (high : Bool) (s : State) : Out := done s (doSeqinChange i high s)

end Sys2Proof.Machine
end

