-- ==== Sys2Proof/Machine/Herd.lean ====
section
/-! DEFINITION. The herd bus (R238–R246): frames received by a follower and by the master, frames the master sends, lost nodes
and collisions. -/

namespace Sys2Proof.Machine
open Sys2Proof

/-! ## Frames -/

/-- Bytes of a frame by its type (Table 8-9); none for a reserved type. -/
def herdLen (ty : Nat) : Option Nat :=
  if 1 ≤ ty ∧ ty ≤ 5 then some 3 else if ty = 8 then some 5 else none

/-- TYPE of a frame. -/
def herdType (bytes : List Byte) : Nat := ((bytes.head?).map fun b => b.toNat / 16).getD 0

/-- NODE of a frame. -/
def herdNode (bytes : List Byte) : Nat := ((bytes.head?).map fun b => b.toNat % 16).getD 0

/-- Content byte `i` of a frame, after its header. -/
def herdByte (bytes : List Byte) (i : Nat) : Nat := ((bytes[i + 1]?).map BitVec.toNat).getD 0

/-- A frame whose type, length and CRC are good (R240). -/
def herdGood (bytes : List Byte) : Bool :=
  herdLen (herdType bytes) == some bytes.length && some (crc8 bytes.dropLast) == bytes.getLast?

/-- A valid master frame seen by a node that had lost its master: it follows again once no script of its own runs. -/
def rejoin (s : State) : State :=
  if s.herd.alone = true ∧ s.sqe.stat = .idle then { s with herd := { s.herd with alone := false } } else s

/-- A frame of type `ty` from the master taken by a follower; a bad one is discarded and counted. -/
def fromMaster (s : State) (ty : Nat) (bytes : List Byte) (f : State → State) : State :=
  if s.herdRuns = true ∧ s.herdRole = 2 then
    if !herdGood bytes then s.inc 0x2D00 7
    else if herdType bytes = ty then
      let s1 := rejoin s
      if s1.herdFollows then f s1 else s1
    else s
  else s

/-! ## Frames that a follower receives -/

/-- SYNC: the master's mode, and capture source 10 (R377), also for a follower whose own script still runs after it lost its master. -/
def doHerdSyncFrame (bytes : List Byte) (s : State) : State :=
  if s.herdRuns = true ∧ s.herdRole = 2 then
    if !herdGood bytes then s.inc 0x2D00 7
    else if herdType bytes = 1 then
      let s1 := rejoin s
      captureFrom { s1 with herd := { s1.herd with masterMode := herdByte bytes 0 } } 10
    else s
  else s

/-- The step that a STEP frame names, run or undone (R243, R244). The first step of a power-up waits until every sensor has been read and
while a stop cause is reached (R287). A disable action whose fall wait goes on is completed before its step is undone (R219). -/
def takeStep (s : State) (v : Nat) : State :=
  let stat : SeqStat := if v.testBit 7 then .reversal else if s.md.mode = .startup then .powerUp else .powerDown
  let falls := stat = .reversal ∧ s.sqe.stat = .reversal ∧ s.sqe.phase = .fall ∧ s.sqe.step = v % 64 ∧ s.herd.stepDone = 0
  let s1 := { s with
    sqe := if falls then s.sqe else { s.sqe with stat := stat, step := v % 64, phase := .start, named := 0, second := 0 }
    herd := { s.herd with stepDone := 1 } }
  let s2 := if v.testBit 6 && !s.sqe.forced then forceTiming s1 else s1
  if falls ∨ s2.firstWaits = true then s2 else startStep s2

/-- STEP. -/
def doHerdStepFrame (bytes : List Byte) (s : State) : State :=
  fromMaster s 2 bytes fun s =>
    if (s.md.mode = .startup ∧ (herdByte bytes 0).testBit 7 = false) ∨ s.md.mode = .shutdown then takeStep s (herdByte bytes 0)
    else s

/-- EVENT. -/
def doHerdEventFrame (bytes : List Byte) (s : State) : State :=
  fromMaster s 3 bytes fun s => seeEvent s (herdByte bytes 0 % 16)

/-- The status byte of Table 8-10. -/
def State.herdStatus (s : State) : Nat :=
  s.herd.stepDone % 4
    + 4 * bitsOf [s.herd.onReq, s.herd.offReq, s.herd.forcedReq, s.herd.stopFault, s.latch.set]

/-- STATUS sent: it carries each request once, and the oldest event not yet sent. -/
def answerPoll (s : State) : State :=
  let ev := match s.herd.sendEvt with
    | n :: _ => 0x80 + n
    | [] => 0
  let frame := herdFrame 8 s.pwr.strap.toNat
    [BitVec.ofNat 8 s.sqe.step, BitVec.ofNat 8 s.herdStatus, BitVec.ofNat 8 ev]
  { s with herd := { s.herd with sent := s.herd.sent ++ [frame], sendEvt := s.herd.sendEvt.tail, onReq := false, offReq := false,
                                 forcedReq := false, stopFault := false } }

/-- POLL to this node: a follower answers at once, one that runs its own script after losing its master too (R241). -/
def doHerdPollFrame (bytes : List Byte) (s : State) : State :=
  if s.herdRuns = true ∧ s.herdRole = 2 then
    if !herdGood bytes then s.inc 0x2D00 7
    else if herdType bytes = 4 then
      let s1 := rejoin s
      if herdNode bytes = s1.pwr.strap.toNat then answerPoll s1 else s1
    else s
  else s

/-- TRANS_CAUSE of a transition that a herd frame makes: Table 3-6 has no code for it, a free value. -/
def herdCause (s : State) : Nat × State := s.drawNat 8

/-- A script that runs brought to its end (R218), as the master's MODE frame says. -/
def endScript (s : State) : State := if s.md.mode = .shutdown then idleSqe (endDown s) else idleSqe s

/-- The mode that a MODE frame gives, taken (R243). (DEDUCED, log entry 75). -/
def takeMode (s : State) (m : Nat) : State :=
  let c := (herdCause s).1
  let s0 := (herdCause s).2
  match m with
  | 1 =>
    if s.md.mode = .safestop ∧ s.latch.set = true then s
    else if s.md.mode = .shutdown ∧ s.md.svcAsked = true then enterService (endScript s0) c
    else enterStandby (endScript s0) c
  | 2 =>
    match s.md.mode with
    | .safestop => if s.latch.set then s else beginStartup s0 c
    | .shutdown => beginStartup (endScript s0) c
    | _ => s
  | 3 => if s.md.mode = .startup then afterUp s else s
  | 5 => offNow s0 c
  | 6 =>
    if s.md.mode = .safestop then s
    else enterMode { endScript s0 with md := { s0.md with requal := false } } .safestop c
  | _ => s

/-- MODE. -/
def doHerdModeFrame (bytes : List Byte) (s : State) : State :=
  fromMaster s 5 bytes fun s =>
    let v := herdByte bytes 0
    let s1 := takeMode s (v % 8)
    let s2 := if s1.md.mode = s.md.mode then s1 else { s1 with herd := { s1.herd with stepDone := 0 } }
    if v.testBit 7 && s2.md.mode == .shutdown && !s2.sqe.forced then forceTiming s2 else s2

/-! ## The master -/

/-- A step of the master's script is in progress. -/
def State.stepRuns (s : State) : Bool :=
  s.runner == some .script && (s.pos.phase == .wait || s.pos.phase == .fall)

/-- A member's STEP_STATE for the running step: complete, or failed with cause 4 (R244). -/
def memberStep (s : State) (node step st : Nat) : State :=
  if step ≠ s.sqe.step then s
  else if st = 2 then { s with herd := { s.herd with done := setBit s.herd.done node } }
  else if st = 3 ∧ s.herd.failed.getLsbD node = false then
    let s1 := { s with herd := { s.herd with failed := setBit s.herd.failed node } }
    if s1.stepRuns then failStep s1 4 else s1
  else s

/-- An off request of a follower, acted on as a MODE write of 1 to the master (R71). -/
def memberOff (s : State) (cause : Nat) : State :=
  match s.md.mode with
  | .safestop => if s.latch.set then s.orReg 0x2000 8 2 else enterStandby (s.clrReg 0x2000 8 1) cause
  | _ => offNow s cause

/-- A follower's requests, each acted on as the master's own (R243). -/
def memberAsks (s : State) (st : Nat) : State :=
  let c := (herdCause s).1
  let s0 := (herdCause s).2
  let s1 := if st.testBit 5 || (st.testBit 6 && (s.reg 0x2D00 1).testBit 1) then stopNow s0 else s0
  let s2 := if st.testBit 4 then forcedNow s1 c else s1
  let s3 := if st.testBit 3 then memberOff s2 c else s2
  if st.testBit 2 then onNow s3 c else s3

/-- STATUS of a follower. The MODE and STEP frames that it leads to go before the EVENT frame that passes its event on (R242). -/
def doHerdStatusFrame (bytes : List Byte) (s : State) : State :=
  if s.herdLeads then
    if !herdGood bytes then s.inc 0x2D00 7
    else if herdType bytes = 8 then
      let node := herdNode bytes
      let st := herdByte bytes 1
      let ev := herdByte bytes 2
      let s1 := { s with herd := { s.herd with
        present := setBit s.herd.present node
        miss := s.herd.miss.set (node % 16) 0 (Nat.mod_lt _ (by decide))
        answered := s.herd.answered || node == s.herd.last } }
      let s2 := if ev.testBit 7 then seeEvent s1 (ev % 16) else s1
      let s3 := memberStep (memberAsks s2 st) node (herdByte bytes 0) (st % 4)
      if ev.testBit 7 then herdSend s3 (herdFrame 3 0 [BitVec.ofNat 8 (ev % 16)]) else s3
    else s
  else s

/-- SYNC sent, which is capture source 10 (R377). -/
def doHerdSyncSend (s : State) : State :=
  let t := herdSend s (herdFrame 1 0 [BitVec.ofNat 8 s.md.mode.code])
  if s.herdLeads then captureFrom t 10 else t

/-- A follower declared lost (R246): LOST, fault 0x0603, the step in progress fails. -/
def loseMember (s : State) (node : Nat) : State :=
  let s1 := report (s.orReg 0x2D00 6 (2 ^ node)) 0x0603 (unitCode 0x0A node) (BitVec.ofNat 16 node)
  if s1.stepRuns then failStep s1 5 else s1

/-- The POLL before this one found no valid STATUS. -/
def missedPoll (s : State) : State :=
  let n := s.herd.last
  if s.herd.answered = true ∨ s.herdMembers.testBit n = false then s
  else
    let k := satAdd 255 (s.herd.miss[n % 16]'(Nat.mod_lt _ (by decide))) 1
    let s1 := { s with herd := { s.herd with present := clrBit s.herd.present n,
                                             miss := s.herd.miss.set (n % 16) k (Nat.mod_lt _ (by decide)) } }
    if k = 3 then loseMember s1 n else s1

/-- The member after `n` in round-robin order. -/
def nextMember (members n : Nat) : Option Nat :=
  ((List.range 16).map fun i => (n + 1 + i) % 16).find? fun i => members.testBit i

/-- The next member polled (R242). -/
def doHerdPollSend (s : State) : State :=
  if s.herdLeads then
    let s1 := missedPoll s
    match nextMember s1.herdMembers s1.herd.last with
    | none => { s1 with herd := { s1.herd with last := 0, answered := true } }
    | some n => herdSend { s1 with herd := { s1.herd with last := n, answered := false } } (herdFrame 4 n [0])
  else s

/-! ## Loss of the master, collision (R246) -/

/-- A SHUTDOWN that waited for the master's frames goes on alone. (DEDUCED, log entry 74). -/
def goOnAlone (s : State) : State :=
  if s.md.mode = .shutdown ∧ s.md.requal = false ∧ s.sqe.phase = .none_ then
    if s.herd.stepDone = 0 then { s with sqe := { s.sqe with phase := .start } } else nextStep s
  else s

/-- The master is lost: fault 0x0604, and the follower's own orderly stop. -/
def doHerdMasterLost (s : State) : State :=
  if s.herdFollows then
    let s0 := { s with
      herd := { s.herd with alone := true }
      sqe := { s.sqe with phase := if s.md.mode = .startup ∧ s.herd.stepDone = 0 then .start else s.sqe.phase } }
    let s1 := report s0 0x0604 (unitCode 0x0A 0) 0
    if s.md.mode = .shutdown then goOnAlone (stopNow s1) else stopNow s1
  else s

/-- The master reads back another bit than it sent: fault 0x0605, the bus stopped on this node. -/
def doHerdCollision (s : State) : State :=
  if s.herdLeads then
    report { s with herd := { s.herd with collided := true } } 0x0605 (unitCode 0x0A s.pwr.strap.toNat) 0
  else s

/-! ## The commands -/

/-- HERD_SYNC_FRAME (R241). A follower receives a SYNC frame giving the master's mode. -/
def execHerdSyncFrame (bytes : List Byte) (s : State) : Out := done s (doHerdSyncFrame bytes s)

/-- HERD_STEP_FRAME (R243). A follower receives a STEP frame and runs or undoes its own step. -/
def execHerdStepFrame (bytes : List Byte) (s : State) : Out := done s (doHerdStepFrame bytes s)

/-- HERD_EVENT_FRAME (R244). A node receives an EVENT frame and latches the herd event. -/
def execHerdEventFrame (bytes : List Byte) (s : State) : Out := done s (doHerdEventFrame bytes s)

/-- HERD_POLL_FRAME (R241). A follower receives a POLL addressed to it and answers with STATUS. -/
def execHerdPollFrame (bytes : List Byte) (s : State) : Out := done s (doHerdPollFrame bytes s)

/-- HERD_MODE_FRAME (R243). A follower receives a MODE frame and takes the mode it gives. -/
def execHerdModeFrame (bytes : List Byte) (s : State) : Out := done s (doHerdModeFrame bytes s)

/-- HERD_STATUS_FRAME (R244). The master receives a follower's STATUS and acts on its requests, step state and event. -/
def execHerdStatusFrame (bytes : List Byte) (s : State) : Out := done s (doHerdStatusFrame bytes s)

/-- HERD_SYNC_SEND (R242). The master sends a SYNC frame at least every 100 µs. -/
def execHerdSyncSend (s : State) : Out := done s (doHerdSyncSend s)

/-- HERD_POLL_SEND (R242). The master polls the next member round-robin. -/
def execHerdPollSend (s : State) : Out := done s (doHerdPollSend s)

/-- HERD_MASTER_LOST (R246). A follower sees no valid master frame for 1 ms, or for 50 ms after entering STARTUP, and stops
in order. -/
def execHerdMasterLost (s : State) : Out := done s (doHerdMasterLost s)

/-- HERD_COLLISION (R246). A master reads back a different HBD bit and stops using the bus. -/
def execHerdCollision (s : State) : Out := done s (doHerdCollision s)

end Sys2Proof.Machine
end

