-- ==== Sys2Proof/Machine/Charger.lean ====
section
/-! DEFINITION. The charger (R251–R267): CHG_CTRL and CHG_CMD, the input search, the state machine's events, the timers, removal
and return of the battery, the watchdog. -/

namespace Sys2Proof.Machine
open Sys2Proof

/-- Unit code of the charger. -/
def chgUnit : U16 := unitCode 8 0

/-- CHG_FLAGS bits set (R273). -/
def setChgFlag (s : State) (m : Nat) : State := s.orReg 0x2500 0x1B m

/-! ## CHG_CTRL and CHG_CMD -/

/-- CHG_EN as it now stands acted on: OFF and WAIT (Table 9-5); its rise asks for a full search (R256). -/
def chgEnMoved (s : State) (was : Bool) : State :=
  if s.chgEn = was then s
  else if s.chgEn then
    let s1 := askSearch s
    if s1.chg.state = .off then chgSettle (toChg s1 .wait) else s1
  else if s.flt.charger then s
  else toChg s .off

/-- SEARCH_EN as it now stands acted on (R256): cleared, IIN_LIM is IIN_MAX and no search runs; set, a search that is due runs. -/
def searchEnMoved (s : State) (was : Bool) : State :=
  let now := (s.reg 0x2500 1).testBit 1
  if now = was then s
  else
    let s1 := { s with chg := { s.chg with iinLim := s.chgSet 0x15, searching := false } }
    if now then (if s1.chg.asked then askSearch s1 else if s1.chg.periodicDue then askPeriodic s1 else s1) else s1

/-- A CHG_CTRL write: a charger that it turns off starts no search. -/
def writeChgCtrl (s : State) (v : Nat) : State :=
  let old := s.reg 0x2500 1
  let s1 := s.setReg 0x2500 1 v
  if v.testBit 0 then chgEnMoved (searchEnMoved s1 (old.testBit 1)) (old.testBit 0)
  else searchEnMoved (chgEnMoved s1 (old.testBit 0)) (old.testBit 1)

/-- A CHG_CMD write: 1 clears FAULT, 2 starts a full search. -/
def writeChgCmd (s : State) (v : Nat) : State := if v = 1 then leaveFault s else askSearch s

/-! ## The search (R256–R258) -/

/-- VIN at or below the sag level of the last reference. -/
def State.sagAt (s : State) (vin : Nat) : Bool := vin * 100 ≤ s.chg.vinRef * (100 - s.chgSet 0x16)

/-- The reference taken at the floor; the climb starts there, or one step below the last result, and stays at or below IIN_MAX, so that
the result is at most IIN_MAX − 50 mA. -/
def takeRef (s : State) (vin : Nat) : State :=
  let from_ := if s.chg.periodic then max 100 (s.chg.lastResult - 50) else 100
  { s with chg := { s.chg with vinRef := vin, vinMv := vin, refTaken := true, iinLim := min (from_ + 50) (s.chgSet 0x15) } }

/-- One climb: back off and end, or go on. An IIN_MAX lowered meanwhile bounds the result. -/
def climb (s : State) (vin iin : Nat) : State :=
  let c := { s.chg with vinMv := vin, iin := iin }
  if s.sagAt vin || s.chgSet 0x15 ≤ c.iinLim then
    let result := min c.iinLim (s.chgSet 0x15) - 50
    { s with chg := { c with iinLim := result, lastResult := result, searching := false, periodicDue := false } }
  else { s with chg := { c with demandLtd := iin + 100 < c.iinLim, iinLim := c.iinLim + 50 } }

/-- A search step, with the means measured at its end. -/
def doSearchStep (vinMv iinMa : Nat) (s : State) : State :=
  if s.ready = true ∧ s.chg.searching = true then
    if s.chg.refTaken then climb s vinMv iinMa else takeRef s vinMv
  else s

/-- 60 s since the last search ended. -/
def doPeriodicSearch (s : State) : State :=
  if s.ready = true ∧ s.chgEn = true ∧ (s.reg 0x2500 1).testBit 1 = true then askPeriodic s else s

/-- VIN sags between searches, in any state that switches (R257). -/
def doSagGuard (vinMv : Nat) (s : State) : State :=
  if s.ready = true ∧ s.chg.state.switching = true ∧ s.chg.searching = false ∧ (s.reg 0x2500 1).testBit 1 = true
      ∧ s.sagAt vinMv = true then
    setChgFlag { s with chg := { s.chg with iinLim := max 100 (s.chg.iinLim - 50), vinMv := vinMv } } 0x40
  else s

/-! ## VIN_LOW (R255) -/

/-- The mean of VIN over 1 ms has fallen below the level, which sets VIN_LOW. -/
def doVinLowSet (s : State) : State :=
  if s.ready then
    let s1 := vinIn s 0 (s.vinLowLevel - 1)
    chgSettle { s1 with chg := { s1.chg with vinLow := true } }
  else s

/-- The mean of VIN has stayed at or above the level for 100 ms, which clears VIN_LOW. -/
def doVinLowClear (s : State) : State :=
  if s.ready then
    let s1 := vinIn s s.vinLowLevel 0xFFFF
    chgSettle { s1 with chg := { s1.chg with vinLow := false } }
  else s

/-! ## The state machine (Table 9-5) -/

/-- VSYS has been at or above V_PRE for 1 s. -/
def doChgPrechargeDone (s : State) : State :=
  if s.ready = true ∧ s.chg.state = .precharge then toChg (vbatIn s (s.packMv 8) 0xFFFF) .fastCC else s

/-- VSYS has reached the voltage target. -/
def doChgCvEntry (s : State) : State :=
  if s.ready = true ∧ s.chg.state = .fastCC then toChg (vbatIn s s.chgTarget 0xFFFF) .fastCV else s

/-- CV_HOLD in units of 100 ms. -/
def State.cvTop (s : State) : Nat := s.chgSet 0x0C * 600

/-- The charge current as an event bounds it, from 0 to below `top` mA. -/
def outBelow (s : State) (top : Nat) : State :=
  let (i, s1) := s.drawIn 0 (top - 1)
  { s1 with chg := { s1.chg with iOut := Int.ofNat i } }

/-- CV_HOLD has elapsed in FAST_CV, or else the charge current has stayed below I_TERM for 60 s. -/
def doChgTerminate (s : State) : State :=
  if s.ready = true ∧ s.chg.state = .fastCV then
    toChg (if s.cvTop ≤ s.chg.tCv then s else outBelow s (s.chgSet 0x0B)) .done
  else s

/-- VSYS has been below V_RECHG for 1 s in DONE. -/
def doChgRecharge (s : State) : State :=
  if s.ready = true ∧ s.chg.state = .done then startCycle (vbatIn s 0 (s.packMv 7 - 1)) else s

/-- The charger in FAULT with a flag, as a class U fault. -/
def failCharge (s : State) (flags : Nat) (code : U16) : State := report (chgFault (setChgFlag s flags)) code chgUnit 0

/-- The battery overvoltage level, (V_CHG_CELL + 100 mV) × CELLS. -/
def State.overLevel (s : State) : Nat := s.packMv 5 + 100 * s.chgSet 3

/-- VSYS has been above that level for 10 ms. -/
def doBatteryOvervoltage (s : State) : State :=
  if s.ready = true ∧ s.chg.state.searches = true then failCharge (vbatIn s (s.overLevel + 1) 0xFFFF) 0x10 0x0703 else s

/-! ## Timers (R262, R263) -/

/-- T_PRE in units of 100 ms, T_SAFE in units of 50 ms. -/
def State.tPreTop (s : State) : Nat := s.chgSet 0x0D * 600

/-- T_SAFE in units of 50 ms. -/
def State.tSafeTop (s : State) : Nat := s.chgSet 0x0E * 1200

/-- The pre-charge timer has reached T_PRE. -/
def doPrechargeTimerExpire (s : State) : State :=
  if s.ready = true ∧ s.chg.state = .precharge ∧ s.tPreTop ≤ s.chg.tPre then failCharge s 2 0x0702 else s

/-- A tick of 100 ms: the charge time, at half rate when the current is limited, and the time in FAST_CV, or the pre-charge time.
(DEDUCED, log entry 76). -/
def doSafetyTimerTick (limInput limThermal : Bool) (s : State) : State :=
  if s.ready then
    let lt : Bool := limThermal && s.reduces
    match s.chg.state with
    | .fastCC | .fastCV =>
      { s with chg := { s.chg with tSafe := s.chg.tSafe + (if limInput || lt then 1 else 2), limInput := limInput,
                                   limThermal := lt, tCv := s.chg.tCv + (if s.chg.state = .fastCV then 1 else 0) } }
    | .precharge => { s with chg := { s.chg with tPre := s.chg.tPre + 1, limInput := limInput, limThermal := false } }
    | _ => s
  else s

/-- The charge time has reached T_SAFE; a limited expiring tick names each cause that binds. -/
def doSafetyTimerExpire (limInput limThermal : Bool) (s : State) : State :=
  if s.ready = true ∧ (s.chg.state = .fastCC ∨ s.chg.state = .fastCV) ∧ s.tSafeTop ≤ s.chg.tSafe then
    let lt : Bool := limThermal && s.reduces
    failCharge s (1 + (if limInput then 4 else 0) + (if lt then 8 else 0)) 0x0701
  else s

/-! ## Removal and return of the battery (R265, R267) -/

/-- The battery gone (R265): BATT_REMOVED, the hold-up lost, both timers cleared, NO_BATT; a fenced charger stays in FAULT
(Table 11-3). -/
def batteryGone (s : State) : State :=
  if s.chg.state = .off then s
  else
    let s1 := setChgFlag { s with chg := { s.chg with batt := false, holdupLost := true, tSafe := 0, tPre := 0 } } 0x20
    if s.flt.charger then s1 else toChg s1 .noBatt

/-- A removal detected in any state but OFF and NO_BATT (Table 9-5): the battery gone, and fault 0x0704; a fenced charger takes it once.
(DEDUCED, log entry 78). -/
def removeBattery (s : State) : State :=
  if s.chg.state = .off ∨ s.chg.state = .noBatt ∨ (s.flt.charger = true ∧ s.chg.batt = false) then s
  else report (batteryGone s) 0x0704 chgUnit 0

/-- VSYS has risen by more than 150 mV × CELLS within 1 ms. -/
def doBattRemovalJump (s : State) : State :=
  if s.ready = true ∧ (s.chg.state = .precharge ∨ s.chg.state = .fastCC) then removeBattery s else s

/-- The battery is back: the hold-up stands again and a new cycle starts, as far as charging is allowed. -/
def returnBattery (s : State) : State :=
  chgSettle (newCycle { s with chg := { s.chg with batt := true, holdupLost := false } })

/-- The sensor in the battery role is VALID. -/
def State.battValid (s : State) : Bool :=
  match s.battSensor with
  | none => false
  | some i => s.thm.ts[i].status == .valid

/-- A response probe: VSYS fell by `dropMv` in its 5 ms; `sensorValid` says that the battery-role sensor has read valid for 1 s. -/
def doBattProbe (dropMv : Nat) (sensorValid : Bool) (s : State) : State :=
  if s.ready then
    match s.chg.state with
    | .fastCV | .done => if s.chargerOn = true ∧ 50 * s.chgSet 3 < dropMv then removeBattery s else s
    | .noBatt => if dropMv ≤ 50 * s.chgSet 3 ∧ sensorValid = true ∧ s.battValid = true then returnBattery s else s
    | _ => s
  else s

/-! ## The watchdog (R264) -/

/-- A CHG_KICK write of 0x4B43. -/
def writeChgKick (s : State) : State := { s with chg := { s.chg with wdStopped := false } }

/-- Values of Table 9-8. -/
def safeValues (s : State) : Vals :=
  let chem := (chemDefaults (s.chgSet 2)).filter fun v => v.2.1 != 0x25
  [(0x2500, 9, min (s.chgSet 9) 500), (0x2500, 0x0A, min (s.chgSet 0x0A) 100), (0x2500, 0x15, min (s.chgSet 0x15) 1000)]
    ++ chem.map (fun v => (v.1, v.2.1, if v.2.1 = 8 then v.2.2 else v.2.2 - 100))
    ++ ([0x0B, 0x0C, 0x0D, 0x0E, 0x0F, 0x10, 0x11, 0x12, 0x13, 0x14, 0x16]).map fun sub =>
        (0x2500, sub, dfltOf s.variant 0x2500 sub)

/-- No kick within CHG_WD: the safe values in every copy, fault 0x0705, and the watchdog stands still.
(DEDUCED, log entry 79). -/
def doChgWdExpire (s : State) : State :=
  if s.ready = true ∧ s.chg.wdStopped = false then
    let s1 := (safeValues s).foldl (fun t v => (supersede t v.1 v.2.1).setAll v.1 v.2.1 v.2.2) s
    let s2 := { s1 with chg := { s1.chg with wdStopped := true, iinLim := min s1.chg.iinLim (s1.chgSet 0x15 - 50) } }
    chgSettle (report (setChgFlag s2 0x80) 0x0705 chgUnit 0)
  else s

/-! ## The commands -/

/-- SEARCH_STEP (R256). Every 2 ms, the search raises IIN_LIM by 50 mA or backs off and ends. -/
def execSearchStep (vinMv iinMa : Nat) (s : State) : Out := done s (doSearchStep vinMv iinMa s)

/-- PERIODIC_SEARCH (R256). 60 s after the last search, a periodic search starts. -/
def execPeriodicSearch (s : State) : Out := done s (doPeriodicSearch s)

/-- SAG_GUARD (R257). VIN sags between searches, so IIN_LIM falls by 50 mA per 1 ms and SAG is set. -/
def execSagGuard (vinMv : Nat) (s : State) : Out := done s (doSagGuard vinMv s)

/-- VIN_LOW_SET (R255). Mean VIN falls below 1.1 × target, so VIN_LOW is set and the charger stops switching. -/
def execVinLowSet (s : State) : Out := done s (doVinLowSet s)

/-- VIN_LOW_CLEAR (R255). Mean VIN has stayed at or above the level for 100 ms, and VIN_LOW clears. -/
def execVinLowClear (s : State) : Out := done s (doVinLowClear s)

/-- CHG_PRECHARGE_DONE (R260). VSYS stays at or above V_PRE for 1 s, and the charger goes to FAST_CC. -/
def execChgPrechargeDone (s : State) : Out := done s (doChgPrechargeDone s)

/-- CHG_CV_ENTRY (R260). VSYS reaches the voltage target, and the charger goes to FAST_CV. -/
def execChgCvEntry (s : State) : Out := done s (doChgCvEntry s)

/-- CHG_TERMINATE (R260). The current stays below I_TERM for 60 s, or CV_HOLD elapses, and the charger goes to DONE. -/
def execChgTerminate (s : State) : Out := done s (doChgTerminate s)

/-- CHG_RECHARGE (R260). VSYS stays below V_RECHG for 1 s in DONE, which starts a new cycle. -/
def execChgRecharge (s : State) : Out := done s (doChgRecharge s)

/-- BATTERY_OVERVOLTAGE (R260). VSYS stays above the overvoltage level for 10 ms, and the charger enters FAULT with BATT_OV
set. -/
def execBatteryOvervoltage (s : State) : Out := done s (doBatteryOvervoltage s)

/-- PRECHARGE_TIMER_EXPIRE (R262). The pre-charge timer reaches T_PRE, and the charger enters FAULT with PRE_TMO set. -/
def execPrechargeTimerExpire (s : State) : Out := done s (doPrechargeTimerExpire s)

/-- SAFETY_TIMER_TICK (R263). Each 100 ms tick adds 100 ms, or 50 ms if limited, to the charge time. -/
def execSafetyTimerTick (limInput limThermal : Bool) (s : State) : Out := done s (doSafetyTimerTick limInput limThermal s)

/-- SAFETY_TIMER_EXPIRE (R263). The charge time reaches T_SAFE, and the charger enters FAULT with TMR_EXP and the limiting
causes set. -/
def execSafetyTimerExpire (limInput limThermal : Bool) (s : State) : Out := done s (doSafetyTimerExpire limInput limThermal s)

/-- BATT_REMOVAL_JUMP (R265). VSYS rises by more than 150 mV × CELLS within 1 ms, which detects a battery removal. -/
def execBattRemovalJump (s : State) : Out := done s (doBattRemovalJump s)

/-- BATT_PROBE (R265). The charger lowers its target for 5 ms as a response probe for battery presence. -/
def execBattProbe (dropMv : Nat) (sensorValid : Bool) (s : State) : Out := done s (doBattProbe dropMv sensorValid s)

/-- CHG_WD_EXPIRE (R264). No kick arrives within CHG_WD, so the charger settings take their safe values and WD_FALLBACK is
set. -/
def execChgWdExpire (s : State) : Out := done s (doChgWdExpire s)

end Sys2Proof.Machine
end

