-- ==== Sys2Proof/Machine/Thermal.lean ====
section
/-! DEFINITION. Temperature sensing and thermal management (R275–R291): conversions, the cross-check, the thresholds and their
actions, the die sensors, the recovery window. -/

namespace Sys2Proof.Machine
open Sys2Proof

/-- Unit code of TS sensor `i`, or of die sensor `i` − 16. -/
def tsUnit (i : Nat) : U16 := unitCode 4 i

/-- THR_FLAGS bits set. -/
def setTsFlag (s : State) (i : Fin 16) (m : Nat) : State := s.orReg (0x2400 + i.1) 0x19 m

/-- THERM_FLAGS bits set. -/
def setThermFlag (s : State) (m : Nat) : State := s.orReg 0x2420 9 m

/-- Policy in force (Table 10-2). -/
def State.policy (s : State) : Nat := s.policyOf s.md.mode

/-! ## INIT (R279) -/

/-- A sensor in INIT: no reading, filters from zero; its reached thresholds stay. -/
def Sensor.initial (x : Sensor) (mode : Nat) : Sensor :=
  { x with status := if mode = 0 then .off else .init, raw := none, eff := none, src := 0, suspect := false,
           setRun := Vector.replicate 5 0, clrRun := Vector.replicate 5 0 }

/-- MODE or a conversion parameter transferred, or the sensor unfenced. -/
def initSensor (s : State) (i : Fin 16) : State :=
  let s1 := if s.tsSet i 1 = 0 then { s with thm := { s.thm with armed := clrBit s.thm.armed i.1 } } else s
  rezone (s1.modTs i fun x => x.initial (s.tsSet i 1))

/-! ## Conversions (R275–R279) -/

/-- Raw reading in 0.1 °C. -/
def State.rawOf (s : State) (i : Fin 16) (m : TsMeas) : Int :=
  let ofs := signed 16 (s.tsSet i 7)
  clampInt (-32767) 32767 (ofs +
    (if s.tsSet i 1 = 1 then diodeDeci m.dVbe (s.tsSet i 2) (s.tsSet i 3)
     else ntcDeci m.frac (s.tsSet i 6) (s.tsSet i 4) (s.tsSet i 5)))

/-- The electrical tests of Table 10-1; the first that matches decides. -/
def State.statusOf (s : State) (i : Fin 16) (m : TsMeas) (raw : Int) : TsStatus :=
  let isOpen : Bool := if s.tsSet i 1 = 1 then 1200 < m.pinHi
    else 970000 ≤ m.frac || decide (30 * (s.tsSet i 6 : Int) < m.vUp - m.vDown)
  let isShort : Bool := if s.tsSet i 1 = 1 then m.pinLo < 150 else m.frac ≤ 5000 || decide (m.vUp - m.vDown < 400)
  if isOpen then .open_
  else if isShort then .short
  else if raw < -550 ∨ 1500 < raw then .range
  else .valid

/-- Every slot of the scan from the next one up to, not including, pin `i` has passed idle: its pin's MODE is 0, or was 0 at some
moment of this scan, which that slot may have been (R275). -/
def State.idleTo (s : State) (i : Nat) : Bool :=
  (List.finRange 16).all fun j => j.1 < s.thm.slot || i ≤ j.1 || s.tsSet j 1 == 0 || !s.thm.armed.getLsbD j.1

/-- Pin `i` has the next slot of the scan that is not idle (R275). -/
def State.slotOf (s : State) (i : Fin 16) : Bool := s.thm.slot ≤ i.1 && s.idleTo i.1

/-- A conversion of a TS pin, in its slot of the scan. TEMP_RAW of an OPEN or SHORT sensor is none. (DESIGN CHOICE, log entry 120).
(DEDUCED, log entry 80). -/
def doTsConversion (i : Fin 16) (m : TsMeas) (s0 : State) : State :=
  if s0.ready = true ∧ s0.policy ≠ 0 ∧ s0.tsSet i 1 ≠ 0 ∧ s0.slotOf i = true then
    let s := { s0 with thm := { s0.thm with slot := i.1 + 1 } }
    let raw := s.rawOf i m
    let st := s.statusOf i m raw
    let old := s.thm.ts[i].status
    let s1 := s.modTs i fun x => { x with status := st, raw := if st = .open_ ∨ st = .short then none else some raw }
    let s2 := if st.broken && st != old then
        report (setTsFlag s1 i 0x40) 0x0801 (tsUnit i.1) (BitVec.ofNat 16 (tempCode s1.thm.ts[i].eff))
      else s1
    if st = .open_ ∧ s.tsSet i 1 = 2 ∧ s.reg 0x2420 1 = i.1 ∧ s.chgEn = true then removeBattery s2 else s2
  else s0

/-! ## The cross-check (R281, R282) -/

/-- Raw reading of neighbour `n` if it counts: VALID, not fenced, not suspect before this check. -/
def State.counting (s : State) (n : Nat) : Option Int :=
  if h : n < 16 then
    let x := s.thm.ts[n]
    if x.status = .valid ∧ x.suspect = false ∧ s.flt.sensors.getLsbD n = false then x.raw else none
  else none

/-- Configured neighbours of a sensor. -/
def State.neighbours (s : State) (i : Fin 16) : List Nat := [s.tsSet i 8, s.tsSet i 9].filter fun n => decide (n < 16)

/-- Whether two readings differ by more than CROSS_DELTA. -/
def State.differ (s : State) (a b : Int) : Bool := decide (s.reg 0x2420 2 < (a - b).natAbs)

/-- A sensor's verdict under the normal policy: the highest counting neighbour when it is suspect. -/
def State.suspectBy (s : State) (i : Fin 16) : Option Int :=
  let nb := s.neighbours i
  let cnt := nb.filterMap s.counting
  let top := cnt.foldl (fun a x => max a x) (cnt.head?.getD 0)
  let own := s.thm.ts[i].raw.getD 0
  if s.tsBroken i then (if cnt = [] then none else some top)
  else match nb.length, cnt with
    | 2, [a, b] => if s.differ own a && s.differ own b then some top else none
    | 1, [a] => if s.differ own a && decide (own < a) then some top else none
    | _, _ => none

/-- One sensor's effective reading set, judged on `snap`, the state before the check; the policy is the one still in force. -/
def crossCheck (snap : State) (s : State) (i : Fin 16) : State :=
  if snap.scanned i then
    match (if snap.policy = 2 ∧ s.policy = 2 then snap.suspectBy i else none) with
    | some t =>
      let s1 := setEff s i (some t) 1 true
      if snap.thm.ts[i].suspect then s1
      else report (setTsFlag s1 i 0x20) 0x0802 (tsUnit i.1) (BitVec.ofNat 16 (tempCode (some t)))
    | none => setEff s i (snap.ownReading i).1 (snap.ownReading i).2 false
  else s

/-! ## Thresholds (R283–R286) -/

/-- Fault code of a threshold. -/
def thrCode (b : Nat) : U16 := if b = 4 then 0x0805 else if b = 0 ∨ b = 3 then 0x0804 else 0x0803

/-- Rails that reached limits block (R285). -/
def State.blockMask (s : State) : Nat := bitsOf ((List.finRange 16).map fun r => r.1 < s.variant.rails && s.blocked r)

/-- Rail blocks as the thresholds and settings now stand; `old` is what was blocked before. -/
def reblock (s : State) (old : Nat) : State :=
  let m := s.blockMask
  let s1 := if m - (m &&& old) = 0 then s else setThermFlag s 0x20
  judgeWaits ((maskRails m).foldl (fun t r => if t.enabled r then devDisable t r false else t) s1)

/-- An orderly stop that a sensor asks for. -/
def sensorStop (s : State) : State := orderlyStop (setThermFlag s 0x10)

/-- A threshold reached (Table 10-3). -/
def reach (s : State) (i : Fin 16) (b : Fin 5) : State :=
  let s1 := setTsFlag (s.modTs i fun x => { x with reached := setBit x.reached b.1 }) i (2 ^ b.1)
  let s2 := report s1 (thrCode b.1) (tsUnit i.1) (BitVec.ofNat 16 (tempCode s.thm.ts[i].eff))
  if b = 4 ∨ ((b = 0 ∨ b = 3) ∧ s.tsSet i 0x12 = 2) then sensorStop s2 else s2

/-- One threshold judged on TEMP_EFF. -/
def judgeThreshold (s : State) (i : Fin 16) (b : Fin 5) : State :=
  let x := s.thm.ts[i]
  match x.eff with
  | none => s
  | some t =>
    let thr := signed 16 (s.tsSet i (0x0A + b.1))
    let hyst : Int := s.tsSet i 0x10
    let high := decide (2 ≤ b.1)
    let hit := if high then decide (thr ≤ t) else decide (t ≤ thr)
    let back := if high then decide (t ≤ thr - hyst) else decide (thr + hyst ≤ t)
    if (s.tsSet i 0x0F).testBit b.1 = false then
      s.modTs i fun y => { y with setRun := y.setRun.set b.1 0 b.2, clrRun := y.clrRun.set b.1 0 b.2 }
    else if x.reached.getLsbD b.1 then
      let n := if back then x.clrRun[b] + 1 else 0
      if s.tsSet i 0x11 ≤ n then
        s.modTs i fun y => { y with reached := clrBit y.reached b.1, clrRun := y.clrRun.set b.1 0 b.2,
                                    setRun := y.setRun.set b.1 0 b.2 }
      else s.modTs i fun y => { y with clrRun := y.clrRun.set b.1 n b.2 }
    else
      let n := if hit then x.setRun[b] + 1 else 0
      if s.tsSet i 0x11 ≤ n then
        reach (s.modTs i fun y => { y with setRun := y.setRun.set b.1 0 b.2, clrRun := y.clrRun.set b.1 0 b.2 }) i b
      else s.modTs i fun y => { y with setRun := y.setRun.set b.1 n b.2 }

/-- One sensor's thresholds. -/
def judgeSensor (s : State) (i : Fin 16) : State :=
  if s.scanned i then (List.finRange 5).foldl (fun t b => judgeThreshold t i b) s
  else s

/-- The end of a scan (R282, R283): every slot has passed, each sensor is cross-checked and its thresholds judged, in unit order
(R29), and the next scan begins with TS0. (DEDUCED, log entry 80). -/
def doTsScanEnd (s : State) : State :=
  if s.ready = true ∧ s.policy ≠ 0 ∧ s.idleTo 16 = true then
    let was := s.blockMask
    let s1 := (List.finRange 16).foldl (fun t i => judgeSensor (crossCheck s t i) i) (armScan (s.inc 0x2420 0x0A))
    causeEnded (rezone (reblock s1 was))
  else s

/-- THR_EN written (R283): a cleared bit releases its threshold at once. -/
def writeThrEn (s : State) (i : Fin 16) (v : Nat) : State :=
  let was := s.blockMask
  let s1 := (s.setReg (0x2400 + i.1) 0x0F v).modTs i fun x => { x with reached := x.reached &&& BitVec.ofNat 5 v }
  causeEnded (reblock s1 was)

/-- LIMIT_ACT or LIMIT_RAILS written: rail blocks follow (R285). -/
def writeBlock (s : State) (i : Fin 16) (sub v : Nat) : State :=
  let was := s.blockMask
  reblock (s.setReg (0x2400 + i.1) sub v) was

/-- SAFESTOP not reached within STOP_TMO, the cause still reached (R286). (DEDUCED, log entry 82). -/
def doStopTimeout (s : State) : State :=
  if s.live = true ∧ s.thm.stopping = true ∧ s.md.mode ≠ .safestop then
    let s1 := { s with thm := { s.thm with stopping := false } }
    if s1.stopCause then report (setThermFlag s1 8) 0x0806 (devUnit 0) 0 else s1
  else s

/-! ## Die sensors (R288–R290) -/

/-- A conversion added to a die sensor: its reading is the mean of the last four. -/
def DieSensor.add (d : DieSensor) (t : Int) : DieSensor :=
  let h := (t :: d.hist).take 4
  { d with hist := h, reading := some (roundHalfUp h.sum (max 1 h.length : Nat)) }

/-- A reading in range. -/
def dieInRange (t : Option Int) : Option Int :=
  match t with
  | some x => if -550 ≤ x ∧ x ≤ 1750 then some x else none
  | none => none

/-- Twice the median of up to three readings; none of none. -/
def median2 : List Int → Option Int
  | [a] => some (2 * a)
  | [a, b] => some (a + b)
  | [a, b, c] => some (2 * max (min a b) (min (max a b) c))
  | _ => none

/-- Validity of a die sensor. (DEDUCED, log entry 81). -/
def State.dieStatus (s : State) (d : Fin 4) : TsStatus :=
  match dieInRange s.thm.die[d].reading with
  | none => .range
  | some x =>
    match median2 (((List.finRange 4).filter fun e => e != d).filterMap fun e => dieInRange s.thm.die[e].reading) with
    | none => .valid
    | some m => if (2 * x - m).natAbs ≤ 160 then .valid else .deviates

/-- A die sensor's status and MAX_SEEN set. -/
def setDie (snap : State) (s : State) (d : Fin 4) : State :=
  noteMax (s.modDie d fun x => { x with status := snap.dieStatus d }) (0x2410 + d.1) snap.thm.die[d].reading

/-- A die sensor that has become invalid reported, DS3 also where it became so with the core domain off. -/
def reportDie (was : State) (s : State) (d : Fin 4) : State :=
  let bad := was.dieStatus d != .valid
  let s1 := s.modDie d fun x => { x with said := bad }
  if bad && !was.thm.die[d].said then report s1 0x0807 (tsUnit (16 + d.1)) (BitVec.ofNat 16 (tempCode was.thm.die[d].reading)) else s1

/-- DIE_TEMP and NO_VALID. -/
def setDieTemp (s : State) : State :=
  let v := (List.finRange 4).filterMap s.dieValid
  { s with thm := { s.thm with
    dieTemp := if v = [] then none else some (v.foldl (fun a x => max a x) (v.head?.getD 0))
    noValid := v = [] } }

/-- The 125 °C threshold. -/
def judge125 (s : State) : State :=
  match s.thm.dieTemp with
  | none => { s with thm := { s.thm with run125 := 0, clr125 := 0 } }
  | some t =>
    let a := if 1250 ≤ t then s.thm.run125 + 1 else 0
    let b := if t ≤ 1150 then s.thm.clr125 + 1 else 0
    let s1 := { s with thm := { s.thm with run125 := min a 4, clr125 := min b 4 } }
    if !s.thm.die125 && 4 ≤ a then
      report (setThermFlag { s1 with thm := { s1.thm with die125 := true } } 1) 0x0808 (devUnit 9) 0
    else if s.thm.die125 && 4 ≤ b then { s1 with thm := { s1.thm with die125 := false } }
    else s1

/-- The 140 °C threshold: an orderly stop. -/
def judge140 (s : State) : State :=
  match s.thm.dieTemp with
  | none => { s with thm := { s.thm with run140 := 0, clr140 := 0 } }
  | some t =>
    let a := if 1400 ≤ t then s.thm.run140 + 1 else 0
    let b := if t ≤ 1300 then s.thm.clr140 + 1 else 0
    let s1 := { s with thm := { s.thm with run140 := min a 4, clr140 := min b 4 } }
    if !s.thm.die140 && 4 ≤ a then
      orderlyStop (report (setThermFlag { s1 with thm := { s1.thm with die140 := true } } 2) 0x0809 (devUnit 9) 0)
    else if s.thm.die140 && 4 ≤ b then causeEnded { s1 with thm := { s1.thm with die140 := false } }
    else s1

/-- The die sensors converted, their reports in unit order (R29); with the core domain off, DS3 alone (R200, R290). -/
def doDieConversion (t0 t1 t2 t3 : Int) (s : State) : State :=
  if s.live then
    let s1 := (((s.modDie 0 fun d => d.add t0).modDie 1 fun d => d.add t1).modDie 2 fun d => d.add t2).modDie 3 fun d => d.add t3
    let s2 := setDieTemp ((List.finRange 4).foldl (setDie s1) s1)
    (List.finRange 4).foldl (reportDie s1) (judge140 (judge125 s2))
  else if s.aonUp = true ∧ s.coreOn = false then
    let s1 := s.modDie 3 fun d => d.add t3
    s1.modDie 3 fun d =>
      let ok := (dieInRange d.reading).isSome
      { d with status := if ok then .valid else .range, said := d.said && !ok }
  else s

/-! ## The recovery window (R280) -/

/-- RECOV_TIME has elapsed since the first entry to RUN or HOLDUP after the window opened; the time runs on in every mode, its state
being in the AON island. -/
def doRecoveryWindowClose (s : State) : State :=
  if s.md.mode = .run ∨ s.md.mode = .holdup ∨ s.thm.recovRun = true then
    { s with thm := { s.thm with recovery := false, recovRun := false } }
  else s

/-! ## The commands -/

/-- TS_CONVERSION (R275). A 1 ms slot converts one TS pin and sets its STATUS. -/
def execTsConversion (i : Fin 16) (m : TsMeas) (s : State) : Out := done s (doTsConversion i m s)

/-- TS_SCAN_END (R282). At the end of a scan, the cross-check and the threshold judgement run for every sensor. -/
def execTsScanEnd (s : State) : Out := done s (doTsScanEnd s)

/-- STOP_TIMEOUT (R286). SAFESTOP is not reached within STOP_TMO while the cause remains, which raises a class F fault. -/
def execStopTimeout (s : State) : Out := done s (doStopTimeout s)

/-- DIE_CONVERSION (R288). The die sensors are converted every 250 µs, and their validity and DIE_TEMP are updated. -/
def execDieConversion (t0 t1 t2 t3 : Int) (s : State) : Out := done s (doDieConversion t0 t1 t2 t3 s)

/-- RECOVERY_WINDOW_CLOSE (R280). RECOV_TIME elapses after entry to RUN or HOLDUP, and the normal thermal policy applies. -/
def execRecoveryWindowClose (s : State) : Out := done s (doRecoveryWindowClose s)

end Sys2Proof.Machine
end

