-- ==== Sys2Proof/Machine/CollectorCmds.lean ====
section
/-! DEFINITION. Commands of the fault collector (R29, R31, R300, R305, R306): a report, an acknowledgement, an unfence, its own
parity. -/

namespace Sys2Proof.Machine
open Sys2Proof

/-! ## Reports (R29, R296–R304, R308) -/

/-- The rail of the port that a unit code names tripped. -/
def tripUnitPort (s : State) (unit : U16) : State :=
  if h : unitIndex unit < 32 then
    match s.railOf ⟨unitIndex unit, h⟩ with
    | none => s
    | some r => tripRail s r
  else s

/-- The fault's own reaction beyond a fence (the Rule column of Table 11-4, R308). -/
def ownReaction (s : State) (code unit : U16) : State :=
  match code.toNat with
  | 0x0207 | 0x0208 | 0x0209 | 0x020A => if unitKind unit = 1 then tripUnitPort s unit else s
  | 0x0401 =>
    if h : unitKind unit = 3 ∧ unitIndex unit < 16 then tripRail s ⟨unitIndex unit, h.2⟩ else s
  | 0x0602 | 0x0604 | 0x0805 | 0x0809 => orderlyStop s
  | 0x0605 => { s with herd := { s.herd with collided := true } }
  | 0x0701 | 0x0702 | 0x0703 => if s.chg.state = .off then s else chgFault s
  | 0x0704 => batteryGone s
  | 0x0901 | 0x0902 | 0x0903 => pulseResets s
  | _ => s

/-- A report reaches the collector: classed, recorded, its unit fenced or the safe-state logic tripped, its own reaction made. A
reserved code is no report. (DEDUCED, log entry 50). -/
def doFaultReport (code unit detail : U16) (s : State) : State :=
  if s.live = true ∧ (faultRow code).isSome = true then ownReaction (report s code unit detail) code unit
  else report s code unit detail

/-- A parity error in the collector (R31): recorded, and the safe-state logic tripped directly, with no escalation. -/
def doCollectorParity (s : State) : State :=
  if s.live then
    let s1 := addEntry s (mkEntry s 0x010C (devUnit 8) .f .h 0)
    trip (aonNote s1 0x010C (devUnit 8) s.now) false
  else s

/-! ## Acknowledgement (R305, R313) -/

/-- Whether an ACK write of `n` names an entry. -/
def ackNames (n : U32) (e : LogEntry) : Bool := !e.acked && e.ack != .a && (n - e.seq).toNat < 2 ^ 31

/-- An entry after an ACK write. -/
def ackEntry (s : State) (n : U32) (e : LogEntry) : LogEntry :=
  if ackNames n e then (if s.causePresent e then { e with held := true } else { e with acked := true }) else e

/-- An ACK write: the entries, the message that no fault remains, CAUSE_ACTIVE and the latch. -/
def writeAck (s : State) (n : U32) : State :=
  let s1 := s.setLog (s.log.map (ackEntry s n))
  let s2 := if s.unacked ≠ [] ∧ s1.unacked = [] then queueEmcy s1 (List.replicate 8 0) else s1
  tryClearLatch (recause s2)

/-! ## UNFENCE (R300) -/

/-- A port whose sense converter stays failed with no rover in its place: it stays fenced until a full reset (R205, R301). -/
def State.senseless (s : State) (n : Fin 32) : Bool := s.flt.sc.getLsbD n.1 && s.milk.standin != some n

/-- A port unfenced, with the other port of its BB4 pair; not while a sense converter of theirs stays failed. -/
def unfencePort (s : State) (n : Fin 32) : State :=
  if s.portList.any fun m => s.pairLead m.1 == s.pairLead n.1 && s.senseless m then s
  else s.portList.foldl (fun t m =>
    if s.pairLead m.1 = s.pairLead n.1 ∧ t.ports[m].state = .fenced then
      let t1 := t.modPort m fun p => p.still (if t.pers m.1 = 0 then .off else .ready)
      holdPort { t1 with flt := { t1.flt with ports := clrBit t1.flt.ports m.1 } } m
    else t) s

/-- A rail unfenced: OFF, its fenced ports still fenced. -/
def unfenceRail (s : State) (r : Fin 16) : State :=
  if s.rails[r].state = .fenced then
    let s1 := { s with flt := { s.flt with rails := clrBit s.flt.rails r.1 } }
    railChanged (s1.modRail r fun x => { x with state := .off }) r .fenced false
  else s

/-- An UNFENCE write that passed its checks; a unit that is not fenced is left as it is. -/
def writeUnfence (s : State) (x : Nat) : State :=
  let k := x / 256
  let i := x % 256
  if s.isFenced k i then
    match k with
    | 1 => if h : i < 32 then unfencePort s ⟨i, h⟩ else s
    | 2 =>
      let s1 := { s with flt := { s.flt with groups := clrBit s.flt.groups i } }
      s1.portList.foldl (fun t n => if (groupOf n).1 = i then unfencePort t n else t) s1
    | 3 => if h : i < 16 then unfenceRail s ⟨i, h⟩ else s
    | 4 =>
      let s1 := { s with flt := { s.flt with sensors := clrBit s.flt.sensors i } }
      if h : i < 16 then initSensor s1 ⟨i, h⟩ else s1
    | 8 =>
      let s1 := { s with flt := { s.flt with charger := false } }
      chgSettle (toChg s1 (if s1.chgEn then .wait else .off))
    | _ => s
  else s

/-! ## The commands -/

/-- FAULT_REPORT (R29). The collector receives a fault report, classifies it, and orders a fence, a trip, a log record and an
alert. -/
def execFaultReport (code unit detail : U16) (s : State) : Out := done s (doFaultReport code unit detail s)

/-- COLLECTOR_PARITY (R31). A parity error in the collector goes directly to the safe-state logic as class F. -/
def execCollectorParity (s : State) : Out := done s (doCollectorParity s)

end Sys2Proof.Machine
end

