-- ==== Sys2Proof/Machine/Adc.lean ====
section
/-! DEFINITION. The housekeeping ADC (R420–R429). -/

namespace Sys2Proof.Machine
open Sys2Proof

/-- Channels of a scan mask, in increasing number. -/
def adcChannels (mask : Nat) : List Nat := (List.range 48).filter fun c => mask.testBit c

/-- OW_UP or OW_DOWN names a channel (R427). -/
def State.owBit (s : State) (c : Nat) : Bool := decide (c < 32) && ((s.reg 0x2900 8).testBit c || (s.reg 0x2900 9).testBit c)

/-- The channels still to convert; the first of them starts, with its open-wire current if it has one: from its OW_SETTLE wait, which in
COMPAT operation follows the 20 µs of the power-up, to the end of the 0.6 µs of its acquisition, 15 ticks (R423, R424, R427; DESIGN CHOICE,
log entry 73). -/
def setLeft (s : State) (l : List Nat) : State :=
  let from_ := s.now64 + if (s.reg 0x2900 1).testBit 1 then 500 else 0
  { s with adc := { s.adc with left := l, owOn := (l.head?.map s.owBit).getD false
                               owUp := (l.head?.map fun c => (s.reg 0x2900 8).testBit c).getD false
                               owFrom := from_, owTo := from_ + s.reg 0x2900 7 * 25 + 15 } }

/-- A scan started (R424). -/
def startScan (s : State) : State := setLeft s (adcChannels (s.reg 0x2900 3))

/-- A compare trigger (R425): one that can start nothing is counted. -/
def adcTrigger (s : State) : State :=
  if (s.reg 0x2900 1).testBit 0 && s.reg 0x2900 3 != 0 && !s.adcBusy then startScan s else s.inc 0x2900 0x0D

/-- An ADC_CTRL write (R421, R426): EN = 1 starts the settling again, EN = 0 abandons the scan. -/
def writeAdcCtrl (s : State) (v : Nat) : State :=
  let s1 := s.setReg 0x2900 1 v
  if v.testBit 0 then { s1 with adc := { s1.adc with refRdy := false } } else setLeft s1 []

/-- A REF_SEL write (R421): a change starts the settling. -/
def writeRefSel (s : State) (v : Nat) : State :=
  let s1 := s.setReg 0x2900 2 v
  if s.reg 0x2900 2 = v then s1 else { s1 with adc := { s1.adc with refRdy := false } }

/-- The chosen reference has settled. -/
def doAdcRefReady (s : State) : State :=
  if s.live = true ∧ (s.reg 0x2900 1).testBit 0 = true then { s with adc := { s.adc with refRdy := true } } else s

/-- The factor that undoes a channel's divider (Table 16-1). -/
def adcFactor (c : Nat) : Nat :=
  if c < 32 then 1
  else if c = 32 then 16
  else if c = 33 then 32
  else if c = 34 ∨ c = 36 then 4
  else if c = 37 ∨ c = 38 then 2
  else if 40 ≤ c then 8
  else 1

/-- V_ref in nV: 2.500 V, REFIN_MV, or the VCC5 that stands (R421, R428). -/
def State.vRef (s : State) (vcc5Nv : Nat) : Nat :=
  match s.reg 0x2900 2 with
  | 0 => 2500000000
  | 1 => s.reg 0x2900 0x0A * 1000000
  | _ => vcc5Nv

/-- CODE of R428. -/
def adcCode (channelNv refNv : Nat) : Nat := min 0xFFFF (roundHalfUp (channelNv * 65536 : Nat) (max 1 refNv : Nat)).toNat

/-- V_ref of VALUE in µV, or 1 000 000 parts per million of VCC5 (R428). -/
def State.adcRef (s : State) : Nat :=
  match s.reg 0x2900 2 with
  | 0 => 2500000
  | 1 => s.reg 0x2900 0x0A * 1000
  | _ => 1000000

/-- Flags of SAMPLE beside CODE: REF_UNSETTLED, OW_ACTIVE, OVER (Table 16-4). -/
def State.adcFlags (s : State) (code : Nat) : Nat :=
  (if (s.reg 0x2900 1).testBit 1 = false ∧ s.adc.refRdy = false then 0x20000 else 0)
    + (if s.adc.owOn then 0x40000 else 0)
    + (if code = 0xFFFF then 0x80000 else 0)

/-- Ticks between a sample instant and the end of its conversion: 1.4 µs (R424).
(DESIGN CHOICE, log entry 73). -/
def adcHoldTicks : U32 := 35

/-- A result stored: SAMPLE, VALUE, STAMP and CONV_CNT together, FRESH on every path. -/
def storeResult (s : State) (c code : Nat) : State :=
  let idx := 0x2940 + c
  let value := roundHalfUp (code * s.adcRef * adcFactor c : Nat) 65536
  let s1 := ((s.setReg idx 1 (code + s.adcFlags code)).setReg idx 2 (unsignedOf 32 value)).setReg idx 3 (s.now - adcHoldTicks).toNat
  (List.finRange 10).foldl (fun t p => t.modPath p fun q => { q with fresh := setBit q.fresh c }) (s1.inc idx 4)

/-- The end of a scan: counted, stamped, source ADC; the next one starts at once while CONT is 1. -/
def endScan (s : State) : State :=
  let s1 := pendSrc ((s.inc 0x2900 0x0B).setReg 0x2900 0x0C s.now.toNat) 33
  if (s1.reg 0x2900 1).testBit 2 then startScan s1 else s1

/-- A conversion ends with the channel's voltage after its divider; `refNv` is the voltage on VCC5, the reference of REF_SEL 2. -/
def doAdcConversionEnd (channelNv refNv : Nat) (s : State) : State :=
  if s.live then
    match s.adc.left with
    | [] => s
    | c :: t =>
      let s1 := setLeft (storeResult s c (adcCode channelNv (s.vRef refNv))) t
      if t = [] then endScan s1 else s1
  else s

/-! ## The commands -/

/-- ADC_REF_READY (R421). The chosen reference settles and REF_RDY is set. -/
def execAdcRefReady (s : State) : Out := done s (doAdcRefReady s)

/-- ADC_CONVERSION_END (R426). A channel conversion ends and its result is stored. -/
def execAdcConversionEnd (channelNv refNv : Nat) (s : State) : Out := done s (doAdcConversionEnd channelNv refNv s)

end Sys2Proof.Machine
end

