-- ==== Sys2Proof/Machine/Timebase.lean ====
section
/-! DEFINITION. The timebase, the compare and the capture channels (R370–R379). -/

namespace Sys2Proof.Machine
open Sys2Proof

/-! ## Ticks -/

/-- The timebase runs (R370). -/
def State.tbRuns (s : State) : Bool := s.aonUp && s.tb.running

/-- The count wraps from 0xFFFF FFFF to 0. -/
def doTimebaseWrap (s : State) : State :=
  if s.tbRuns = true ∧ s.tb.count = 0xFFFFFFFF then { s with tb := { s.tb with count := 0, wraps := s.tb.wraps + 1 } } else s

/-- The watchdog's count after one more tick, in µs of 25 ticks. -/
def Watchdog.tick (w : Watchdog) : Watchdog :=
  if w.running then (if w.sub + 1 < 25 then { w with sub := w.sub + 1 } else { w with sub := 0, count := w.count + 1 }) else w

/-- One tick of the AON oscillator (log entry 8): the timebase, and the watchdog while the core domain runs. -/
def tick (s : State) : State :=
  if s.tbRuns then
    let s0 := if s.tb.count = 0xFFFFFFFF then doTimebaseWrap s else { s with tb := { s.tb with count := s.tb.count + 1 } }
    let s1 := idleMirror { s0 with tb := { s0.tb with
      gapTicks := if s.coreOn && s.pwr.gated then s0.tb.gapTicks + 1 else s0.tb.gapTicks, fresh := [] } }
    if s.live then
      let s2 := s1.portList.foldl tickPort { s1 with wd := s1.wd.tick }
      tickCharger (s2.engList.foldl tickFrame s2)
    else s1
  else s

/-- What a step does with no command waiting: a tick passes while the timebase runs, and the interrupt controller acts on what came of it.
(DESIGN CHOICE, log entry 8). -/
def execTick (s : State) : Out := if s.tbRuns then done s (tick s) else .next s

/-! ## Compare channels (R372–R376) -/

/-- VALUE of a compare channel. -/
def State.cmpValue (s : State) (k : Fin 16) : U32 := BitVec.ofNat 32 (s.reg (0x2810 + k.1) 2)

/-- A start action loaded channel `k` in the present tick (R375). -/
def State.startedNow (s : State) (k : Fin 16) : Bool := s.tb.cmp[k].startAt == some s.now64

/-- A VALUE write: only stored while EN is 0, else judged. It is discarded in the tick of a start action on the channel, whose
value stands (R375). -/
def writeCmpValue (s : State) (k : Fin 16) (v : Nat) : State :=
  let s1 := s.setReg (0x2810 + k.1) 2 v
  if s.startedNow k then s else if (s.reg (0x2810 + k.1) 1).testBit 0 then judgeCmp s1 k v else s1

/-- A CTRL write: EN = 1 judges the stored value, EN = 0 disarms. -/
def writeCmpCtrl (s : State) (k : Fin 16) (v : Nat) : State :=
  let s1 := s.setReg (0x2810 + k.1) 1 v
  if v.testBit 0 then judgeCmp s1 k (s1.reg (0x2810 + k.1) 2) else s1.modCmp k fun c => { c with armed := false }

/-- A channel is due to fire in the present tick: armed, its comparator sees the value, and the value is late or reached. -/
def State.cmpDue (s : State) (k : Fin 16) : Bool :=
  let c := s.tb.cmp[k]
  c.armed && !ahead s.now c.from_ && (c.late || !ahead s.now (s.cmpValue k))

/-- Reload of a periodic channel that fired at `c` (R373): the first multiple of INTERVAL past it that is ahead of the count; the
others are skipped and counted. -/
def reloadCmp (s : State) (k : Fin 16) (c : U32) : State :=
  let idx := 0x2810 + k.1
  let i := max 1 (s.reg idx 3)
  let skips := (s.now - c).toNat / i
  let s1 := s.setReg idx 2 (c + BitVec.ofNat 32 ((skips + 1) * i)).toNat
  let s2 := if skips = 0 then s1 else (s1.bump idx 0x0B top32 skips).hwSet idx 8 2
  s2.modCmp k fun x => { x with late := false, from_ := s.now + 1 }

/-- A core-domain action lost (R376). -/
def loseAction (s : State) (k : Fin 16) : State := s.hwSet (0x2810 + k.1) 8 4

/-- The start action of channel `k` on channel `j` (R375): of two in one tick the lower-numbered starting channel's value is
loaded, whichever is taken first. -/
def startCmp (s : State) (k j : Fin 16) (c : U32) : State :=
  let idx := 0x2810 + j.1
  let v := c + BitVec.ofNat 32 (s.reg idx 6)
  let s1 := (s.setReg idx 2 v.toNat).modCmp j fun x => { x with startAt := some s.now64, startBy := k.1 }
  if s.startedNow j = true ∧ s.tb.cmp[j].startBy < k.1 then s
  else if (s.reg idx 1).testBit 0 then
    s1.modCmp j fun x => { x with armed := true, late := !ahead s.now v, from_ := s.now + 1 }
  else s1

/-- The action of a fire at value `c` (Table 14-2). (DEDUCED, log entry 70). -/
def cmpAction (s : State) (k : Fin 16) (c : U32) : State :=
  let arg := s.reg (0x2810 + k.1) 5
  match s.reg (0x2810 + k.1) 4 with
  | 1 => if s.coreOn then adcTrigger s else loseAction s k
  | 2 =>
    if s.coreOn then (if h : arg < 8 then s.modGroup ⟨arg, h⟩ fun q => { q with bySrc := some k.1 } else s) else loseAction s k
  | 3 => if h : arg < 16 then startCmp s k ⟨arg, h⟩ c else s
  | 4 => if h : arg < 8 then (if s.capArmed ⟨arg, h⟩ then s else s.modCap ⟨arg, h⟩ fun x => { x with armed := true, from_ := s.now64 + 1 }) else s
  | _ => s

/-- A channel fires (R374). -/
def fireCmp (s : State) (k : Fin 16) : State :=
  let idx := 0x2810 + k.1
  let c := s.cmpValue k
  let s1 := ((s.hwSet idx 8 1).inc idx 9).setReg idx 0x0A s.now.toNat
  let s2 := pendSrc s1 (40 + k.1)
  let s3 := if k.1 < 8 then reloadCmp s2 k c else s2.modCmp k fun x => { x with armed := false }
  cmpAction s3 k c

/-- A compare channel fires when it is due. -/
def doCmpFire (k : Fin 16) (s : State) : State := if s.tbRuns = true ∧ s.cmpDue k = true then fireCmp s k else s

/-! ## Capture channels (R377–R379) -/

/-- A CTRL write of a capture channel. -/
def writeCapCtrl (s : State) (k : Fin 8) (v : Nat) : State := armCap (s.setReg (0x2820 + k.1) 1 v) k v

/-- The channel watches a ball: the frames of sources 8–10 are captured by their own commands (R377). -/
def State.capBall (s : State) (k : Fin 8) : Bool := decide (s.reg (0x2820 + k.1) 2 < 8)

/-- EDGE takes an edge of this polarity, 1 rising, 2 falling, 3 both; an owned channel takes rising edges (R377, R379). -/
def State.capEdge (s : State) (k : Fin 8) (rising : Bool) : Bool :=
  if (s.ownerOf k.1).isSome then rising else (s.reg (0x2820 + k.1) 1).testBit (if rising then 0 else 1)

/-- An edge that the filter passed reached its ball in tick `edge`: neither before the channel was armed nor in the future. The balls are
ignored in SHIP (Table 17-4). (DESIGN CHOICE, log entry 116). -/
def doCaptureEdge (k : Fin 8) (rising : Bool) (edge : U32) (s : State) : State :=
  if s.tbRuns = true ∧ s.md.mode ≠ .ship ∧ s.capBall k = true ∧ ahead s.now edge = false then
    let ball := s.reg (0x2820 + k.1) 2
    let s1 := { s with pins := { s.pins with capin := if rising then setBit s.pins.capin ball else clrBit s.pins.capin ball } }
    if s.capArmed k = true ∧ s.capEdge k rising = true ∧ ((s.ownerOf k.1).isSome = true ∨ s.tb.cap[k].from_ ≤ s.count64 edge) then
      capture s1 k edge
    else s1
  else s

/-! ## The commands -/

/-- TIMEBASE_WRAP (R370). The timebase wraps from 0xFFFF FFFF to 0, and WRAPS increments: the tick that follows the top count. -/
def execTimebaseWrap (s : State) : Out := done s (if s.tb.count = 0xFFFFFFFF then tick s else s)

/-- CMP_FIRE (R374). A compare channel fires: it sets FIRED, counts, stamps, pends and performs its ACTION. -/
def execCmpFire (k : Fin 16) (s : State) : Out := done s (doCmpFire k s)

/-- CAPTURE_EDGE (R377). An edge on the capture source stores VALUE, sets FULL or OVERRUN and pends the source. -/
def execCaptureEdge (k : Fin 8) (edge : BallEdge) (s : State) : Out := done s (doCaptureEdge k edge.rising edge.count s)

end Sys2Proof.Machine
end

