-- ==== Sys2Proof/Machine/WatchdogOps.lean ====
section
/-! DEFINITION. The watchdog (R383–R385, R308). -/

namespace Sys2Proof.Machine
open Sys2Proof

/-- Unit code of the watchdog. -/
def wdUnit : U16 := unitCode 0x0C 0

/-- A period started: COUNT 0, CHECKED and the key sequence clear. -/
def startPeriod (s : State) (first : Bool) : State :=
  { s with wd := { running := true, first := first, length := s.reg 0x2600 (if first then 3 else 2) * 1000, count := 0, sub := 0,
                   key := none, checked := 0 } }

/-- A WD_CTRL write: every EN = 1 starts a first period. (DEDUCED, log entry 72). -/
def writeWdCtrl (s : State) (v : Nat) : State :=
  let s1 := s.setReg 0x2600 1 v
  if v.testBit 0 then startPeriod s1 true else { s1 with wd := { s1.wd with running := false, key := none } }

/-- A watchdog fault: reported, source WATCHDOG, both reset outputs pulsed, a first period begun. -/
def wdFault (s : State) (code : U16) (detail : Nat) : State :=
  startPeriod (pulseResets (report (pendSrc s 37) code wdUnit (BitVec.ofNat 16 detail))) true

/-- COUNT at which the window opens; a first period has no closed window. -/
def State.wdOpen (s : State) : Nat := if s.wd.first then 0 else s.wdOpens

/-- A service accepted. -/
def serviceWd (s : State) : State := startPeriod (s.inc 0x2600 0x0C) false

/-- The second key judged (Table 14-7). -/
def secondKey (s : State) (p : HostPath) : State :=
  let missing := s.reg 0x2600 6 % 256 - (s.reg 0x2600 6 % 256 &&& s.wd.checked.toNat)
  if s.wd.length ≤ s.wd.count then wdFault s 0x0901 s.wd.checked.toNat
  else if s.wd.key ≠ some p then wdFault s 0x0903 0x0100
  else if s.wd.count < s.wdOpen then wdFault s 0x0902 (s.wd.count / 1000)
  else if missing = 0 then serviceWd s
  else wdFault s 0x0903 missing

/-- A KEY write of a key; no effect while EN is 0. -/
def writeWdKey (s : State) (p : HostPath) (v : Nat) : State :=
  if s.wd.running then
    if v = 0x3CA5 then
      (if s.wd.count < s.wd.length then { s with wd := { s.wd with key := some p } } else s)
    else secondKey s p
  else s

/-- A CHECKIN write: each bit set already counts as a duplicate (R384). -/
def writeCheckin (s : State) (v : Nat) : State :=
  let dup := ones 8 (v &&& s.wd.checked.toNat)
  let s1 := if dup = 0 then s else s.bump 0x2600 0x0B top32 dup
  { s1 with wd := { s1.wd with checked := s1.wd.checked ||| BitVec.ofNat 8 v } }

/-- COUNT reaches TIMEOUT. -/
def doWdTimeout (s : State) : State :=
  if s.live = true ∧ s.wd.running = true ∧ s.wd.length ≤ s.wd.count then wdFault s 0x0901 s.wd.checked.toNat else s

/-! ## The commands -/

/-- WD_TIMEOUT (R385). COUNT reaches TIMEOUT without a service, so fault 0x0901 is raised and the watchdog restarts. -/
def execWdTimeout (s : State) : Out := done s (doWdTimeout s)

end Sys2Proof.Machine
end

