-- ==== Sys2Proof/Machine/Interrupts.lean ====
section
/-! DEFINITION. Writes of the interrupt controller's registers and the start of handlers (R388, R392, R393). Delivery to hosts A
and B stands in Flags. -/

namespace Sys2Proof.Machine
open Sys2Proof

/-- All 64 pending bits replaced in one clock; a bit written 1 that was clear pends its source (R388).
(DEDUCED, log entry 69). -/
def writePend (s : State) (v : Nat) : State :=
  let was := s.irq.pend
  let s1 := { s with irq := { s.irq with pend := was &&& BitVec.ofNat 64 v } }
  ((List.range 64).filter fun n => v.testBit n && !was.getLsbD n).foldl pendSrc s1

/-- One source's pending bit. -/
def writeSourcePend (s : State) (n : Fin 64) (v : Nat) : State :=
  if v = 0 then { s with irq := { s.irq with pend := clrBit s.irq.pend n.1 } }
  else if s.irq.pend.getLsbD n.1 then s
  else pendSrc s n.1

/-- A GDIS write: setting a target's bit empties its register, clearing it delivers at once; both happen as the command settles. -/
def writeGdis (s : State) (v : Nat) : State := s.setReg 0x2A00 6 v

/-- An enable mask. -/
def writeEnable64 (s : State) (m : EnMask) (v : Nat) : State := s.setReg 0x2A00 (enSub m) v

/-- The source whose handler the SQE would start now: the best of those pending and enabled, if it may nest. -/
def State.handlerDue (s : State) : Option (Fin 64) :=
  if (s.reg 0x2A00 6).testBit 2 then none
  else match s.best (s.reg 0x2A00 5) with
    | none => none
    | some n =>
      match s.sqe.handlers with
      | [] => some n
      | h :: t => if s.level n.1 < s.level h.src.1 ∧ t.length < 3 then some n else none

/-- A handler started: the source's pending bit cleared and its delivery counted; one with no steps ends at once.
(DESIGN CHOICE, log entry 68). -/
def startHandler (s : State) (n : Fin 64) : State :=
  let s1 := ({ s with irq := { s.irq with pend := clrBit s.irq.pend n.1 } }).inc (0x2A40 + n.1) 5
  let left := s.reg (0x2A40 + n.1) 4
  if left = 0 then s1
  else
    let h : Handler := { src := n, first := s.reg (0x2A40 + n.1) 3, step := s.reg (0x2A40 + n.1) 3, left := left, phase := .start, since := s.coreNow, named := 0 }
    { s1 with sqe := { s1.sqe with handlers := h :: s1.sqe.handlers } }

/-- The SQE starts a handler, or pre-empts into one (R393). -/
def doSqeHandlerStart (s : State) : State :=
  if s.ready = true ∧ (s.md.mode = .run ∨ s.md.mode = .holdup) ∧ s.sqe.stat = .idle ∧ s.sqe.queue = [] then
    match s.handlerDue with
    | none => s
    | some n => startHandler s n
  else s

/-! ## The commands -/

/-- SQE_HANDLER_START (R393). The SQE starts, or pre-empts into, a source's handler and clears its pending bit. -/
def execSqeHandlerStart (s : State) : Out := done s (doSqeHandlerStart s)

end Sys2Proof.Machine
end

