-- ==== Sys2Proof/Machine/KeepStore.lean ====
section
/-! DEFINITION. The keep store's commands, the configuration commands, identity and the configuration-signing key (R397–R417). -/

namespace Sys2Proof.Machine
open Sys2Proof

/-! ## Stores (R402, R403) -/

/-- STORE_INTERVAL expires with the core domain on. -/
def doStoreIntervalExpire (s : State) : State :=
  if s.coreOn = true ∧ s.reg 0x2B00 7 ≠ 0 then requestStore s .interval else s

/-- Phase 3 completes. -/
def doStoreEnd (s : State) : State := endStore s

/-- The queued store starts once VSTORE has recovered; further requests have joined it. -/
def doStoreQueuedStart (s : State) : State :=
  match s.ks.running, s.ks.queued with
  | none, c :: _ => if s.pwr.vstoreOk then startStore s c else s
  | _, _ => s

/-- VSTORE does not recover within 100 ms: the waiting or queued store, and what joined it, is skipped. -/
def doStoreVstoreWaitExpire (s : State) : State :=
  match s.ks.waiting with
  | none =>
    if s.pwr.vstoreOk || s.ks.running.isSome || s.ks.queued.isEmpty then s
    else skipStore { s with ks := { s.ks with queued := [] } } s.ks.queued
  | some c =>
    if s.pwr.vstoreOk then s
    else skipStore { s with ks := { s.ks with waiting := none, queued := [] } } (c :: s.ks.queued)

/-! ## The user area (R399–R401) -/

/-- First protected address of a BLOCK_PROT value. -/
def protFrom (v : Nat) : Nat :=
  match v with
  | 0 => userSize
  | 1 => 0x3000
  | 2 => 0x2000
  | _ => 0

/-- A host write of `n` bytes from `a` touches a protected byte. -/
def State.touchesProt (s : State) (a n : Nat) : Bool := n != 0 && decide (protFrom (s.reg 0x2B00 4) < a + n)

/-- Bytes committed to the user area through the pail. -/
def pailCommit (s : State) (a : Nat) (bytes : List Byte) : State :=
  { s with ks := { s.ks with sram := { s.ks.sram with user := memWriteN s.ks.sram.user a bytes } } }

/-! ## Configuration commands (R411–R413) -/

/-- A command failed with a cause. -/
def cfgFail (s : State) (code : Nat) : State :=
  ({ s with ks := { s.ks with cfgStat := 5 } }).setReg 0x2B00 0x28 code

/-- CFG_HASH of a work buffer. -/
def hashOf (bytes : List Byte) : List Byte := sha256 bytes

/-- The build ends: the image stands in the work buffer, or is too long. -/
def doCfgBuildDone (s : State) : State :=
  if s.ks.cfgStat = 1 then
    let img := buildImage s
    if imageMax < img.length then cfgFail s 0x08000020
    else { s with ks := { s.ks with cfgWork := img, cfgBuilt := true, cfgHash := hashOf img, cfgStat := 2 } }
  else s

/-- A commit needs a signature: SIGNED_ONLY in the image that step 8 put in use, or in the new one (R412; log entry 44). -/
def State.needsSig (s : State) : Bool := signedOnly s.variant s.ks.cfgInUse || signedOnly s.variant s.ks.cfgWork

/-- The image written as a record of kind 4, and its store asked for. -/
def writeImage (s : State) : State :=
  let old := s.recPair 4
  let s1 := { s with ks := { s.ks with cfgOld := some (s.ks.cfgOld.getD old), cfgStat := 3 } }
  requestStore (s1.writeRec 4 s.ks.cfgWork) .config

/-- A commit past its checks: verified first when a signature is needed. -/
def beginCommit (s : State) (install : Bool) : State :=
  let s1 := { s with ks := { s.ks with cfgStat := 3, cfgInstall := install } }
  if s1.needsSig then s1 else writeImage s1

/-- The verification ends (R412). -/
def doCfgVerifyDone (s : State) : State :=
  if s.ready = true ∧ s.ks.cfgStat = 3 ∧ s.ks.cfgOld = none then
    if s.keyGen != 0 && s.ks.cfgSig != [] && ecdsaVerify s.cfgKey (hashOf s.ks.cfgWork) s.ks.cfgSig then writeImage s
    else cfgFail s 0x08000020
  else s

/-- A CFG_CMD write that passed its checks. -/
def writeCfgCmd (s : State) (v : Nat) : State :=
  match v with
  | 1 => { s with ks := { s.ks with cfgStat := 1 } }
  | 2 => beginCommit s false
  | 3 => if imageOk s s.ks.cfgWork then beginCommit s true else cfgFail s 0x06090030
  | 4 => { s with ks := { s.ks with cfgWork := [], cfgBuilt := false, cfgSig := [], cfgStat := 0 } }
  | _ => s

/-- A CFG_IMAGE write: the work buffer replaced (R413). (DEDUCED, log entry 44). -/
def writeCfgImage (s : State) (bytes : List Byte) : State :=
  { s with ks := { s.ks with cfgWork := bytes, cfgBuilt := false, cfgHash := hashOf bytes, cfgStat := 2 } }

/-! ## Identity (R415, R416) -/

/-- A signature may be asked for: none is being made and no verification runs. -/
def State.idFree (s : State) : Bool := s.ks.idStat != 1 && !s.verifying

/-- A CHALLENGE write. -/
def writeChallenge (s : State) (bytes : List Byte) : State :=
  { s with ks := { s.ks with idStat := 1, idExport := false, idSign := some (0x01 :: bytes ++ Config.uid.toList) } }

/-- Entries of an export: from EXPORT_FROM upward, at most EXPORT_COUNT (R416). -/
def State.exportEntries (s : State) : List LogEntry :=
  (s.log.dropWhile fun e => e.seq.toNat != s.reg 0x2C00 8).take (s.reg 0x2C00 9)

/-- Every byte of an export before its signature (Table 15-9). -/
def exportBody (s : State) (nonce : List Byte) : List Byte :=
  let es := s.exportEntries
  Config.uid.toList ++ nonce ++ leBytes 8 s.now64 ++ leBytes 4 (s.reg 0x2C00 8) ++ [BitVec.ofNat 8 es.length, 0, 0, 0]
    ++ es.flatMap LogEntry.bytes

/-- An EXPORT_NONCE write. -/
def writeExportNonce (s : State) (nonce : List Byte) : State :=
  { s with ks := { s.ks with idStat := 1, idExport := true, idSign := some (0x02 :: exportBody s nonce) } }

/-- The signing ends. -/
def doIdSignDone (s : State) : State :=
  match s.ks.idSign with
  | none => s
  | some m =>
    if s.ready then
      let sig := ecdsaSign s.ks.sha (hashOf m)
      { s with ks := { s.ks with
        idStat := 2, idSign := none, sha := s.ks.sha + 1
        idSig := if s.ks.idExport then s.ks.idSig else sig
        exportBlob := if s.ks.idExport then m.tail ++ sig else s.ks.exportBlob } }
    else s

/-! ## The configuration-signing key (R417) -/

/-- A key written as a record of kind 6, and its store asked for; the write is answered when the store ends. -/
def writeKey (s : State) (p : HostPath) (key : List Byte) (gen : Nat) : State :=
  let s1 := { s with ks := { s.ks with keyWaits := s.ks.keyWaits ++ [({ path := some p, old := s.recPair 6 } : KeyWait)] } }
  requestStore (s1.writeRec 6 (key ++ leBytes 2 gen)) .key_

/-- A CFG_KEY write while none is enrolled. -/
def enrolKey (s : State) (p : HostPath) (key : List Byte) : State := writeKey s p key 1

/-- A KEY_NEW write. -/
def writeKeyNew (s : State) (key : List Byte) : State := { s with ks := { s.ks with keyNew := key } }

/-- The signature of a replacement verifies with the present key. -/
def State.keySigOk (s : State) (sig : List Byte) : Bool :=
  s.keyGen != 0 && s.ks.keyNew != [] &&
    ecdsaVerify s.cfgKey (hashOf (s.ks.keyNew ++ Config.uid.toList ++ leBytes 2 s.keyGen)) sig

/-- A KEY_NEW_SIG write that verified. (DEDUCED, log entry 45). -/
def installKey (s : State) (p : HostPath) : State := writeKey s p s.ks.keyNew (if s.keyGen = 0xFFFF then 1 else s.keyGen + 1)

/-! ## The commands -/

/-- STORE_INTERVAL_EXPIRE (R402). STORE_INTERVAL expires and a store starts. -/
def execStoreIntervalExpire (s : State) : Out := done s (doStoreIntervalExpire s)

/-- STORE_END (R402). Phase 3 completes, STORE_CNT increments and KEEP pends. -/
def execStoreEnd (s : State) : Out := done s (doStoreEnd s)

/-- STORE_QUEUED_START (R403). A queued store starts once the running store ends and VSTORE has recovered. -/
def execStoreQueuedStart (s : State) : Out := done s (doStoreQueuedStart s)

/-- STORE_VSTORE_WAIT_EXPIRE (R403). VSTORE does not recover within 100 ms, so the store is skipped. -/
def execStoreVstoreWaitExpire (s : State) : Out := done s (doStoreVstoreWaitExpire s)

/-- CFG_BUILD_DONE (R411). The build ends, CFG_HASH is set and CFG_STAT reads 2. -/
def execCfgBuildDone (s : State) : Out := done s (doCfgBuildDone s)

/-- CFG_VERIFY_DONE (R412). The signature verification of a commit or install ends. -/
def execCfgVerifyDone (s : State) : Out := done s (doCfgVerifyDone s)

/-- ID_SIGN_DONE (R416). The signing operation ends and ID_STAT reads 2. -/
def execIdSignDone (s : State) : Out := done s (doIdSignDone s)

end Sys2Proof.Machine
end

