-- ==== Sys2Proof/Machine/Puts.lean ====
section
/-! DEFINITION. What an accepted value does that no transfer carries, object by object, and what a string does. -/

namespace Sys2Proof.Machine
open Sys2Proof

/-! ## Values -/

/-- A value of a write with its row. -/
structure Item where
  idx   : Nat
  sub   : Nat
  obj   : Obj
  val   : Nat
  bytes : List Byte
  deriving DecidableEq, Repr

/-- A number, not a string. -/
def Item.isNum (i : Item) : Bool :=
  match i.obj.ty with
  | .num _ _ => true
  | _ => false

/-- The numbers of a write. -/
def numsOf (is : List Item) : Vals := (is.filter Item.isNum).map fun i => (i.idx, i.sub, i.val)

/-! ## What an accepted value does -/

/-- A number written to the standard objects: a consumer entry is disarmed, a PDO's sent data forgotten. -/
def putStd (s : State) (idx sub v : Nat) : State :=
  let s1 := s.setReg idx sub v
  if h : idx = 0x1016 ∧ 1 ≤ sub ∧ sub ≤ 4 then
    { s1 with can := { s1.can with hbArmed := s1.can.hbArmed.set (sub - 1) none } }
  else if h : 0x1800 ≤ idx ∧ idx < 0x1808 then
    { s1 with can := { s1.can with tpdoLast := s1.can.tpdoLast.set (idx - 0x1800) none (by omega)
                                   syncCnt := s1.can.syncCnt.set (idx - 0x1800) 0 (by omega) } }
  else s1

/-- A number written to 0x2000. -/
def putDev (s : State) (sub v : Nat) : State :=
  match sub with
  | 0x01 => writeMode s v
  | 0x08 => clearReqStat s v
  | 0x0D => writeSvcPort s v
  | 0x25 => writeCoreReset s
  | _ => s.setReg 0x2000 sub v

/-- A number written to a rail that no transfer carries: flags, and the counters' key. -/
def putRail (s : State) (r : Fin 16) (sub v : Nat) : State :=
  match sub with
  | 0x5A => writeCntClear s r
  | _ => clearRailFlags s r sub v

/-- A number written to the sequencer. -/
def putSeq (s : State) (sub v : Nat) : State :=
  match sub with
  | 0x07 => writeSeqCmd s v
  | 0x08 | 0x0F => s.clrReg 0x2300 sub v
  | _ => s.setReg 0x2300 sub v

/-- A number written to a TS sensor: MODE and the conversion parameters start it afresh (R279). -/
def putTs (s : State) (i : Fin 16) (sub v : Nat) : State :=
  let idx := 0x2400 + i.1
  match sub with
  | 0x0F => writeThrEn s i v
  | 0x12 | 0x13 => writeBlock s i sub v
  | 0x19 => s.clrReg idx sub v
  | _ => if sub ≤ 7 then initSensor (s.setReg idx sub v) i else s.setReg idx sub v

/-- A number written to the thermal object. -/
def putThermal (s : State) (sub v : Nat) : State :=
  match sub with
  | 0x01 => rezone (s.setReg 0x2420 1 v)
  | 0x09 => s.clrReg 0x2420 9 v
  | _ => s.setReg 0x2420 sub v

/-- A number written to the charger that no transfer carries. -/
def putChg (s : State) (sub v : Nat) : State :=
  match sub with
  | 0x01 => writeChgCtrl s v
  | 0x19 => writeChgKick s
  | 0x1B => s.clrReg 0x2500 0x1B v
  | 0x24 => writeHuTime s v
  | _ => writeChgCmd s v

/-- A number written to the watchdog. -/
def putWd (s : State) (p : HostPath) (sub v : Nat) : State :=
  match sub with
  | 0x01 => writeWdCtrl s v
  | 0x05 => writeWdKey s p v
  | 0x07 => writeCheckin s v
  | _ => s.setReg 0x2600 sub v

/-- A number written to a compare channel. -/
def putCmp (s : State) (k : Fin 16) (sub v : Nat) : State :=
  match sub with
  | 0x01 => writeCmpCtrl s k v
  | 0x02 => writeCmpValue s k v
  | 0x08 => s.hostClr (0x2810 + k.1) 8 v
  | _ => s.setReg (0x2810 + k.1) sub v

/-- A number written to a capture channel. -/
def putCap (s : State) (k : Fin 8) (sub v : Nat) : State :=
  match sub with
  | 0x01 => writeCapCtrl s k v
  | 0x06 => s.hostClr (0x2820 + k.1) 6 v
  | _ => s.setReg (0x2820 + k.1) sub v

/-- A number written to the housekeeping ADC. -/
def putAdc (s : State) (sub v : Nat) : State :=
  match sub with
  | 0x01 => writeAdcCtrl s v
  | 0x02 => writeRefSel s v
  | 0x04 => startScan s
  | _ => s.setReg 0x2900 sub v

/-- A number written to the interrupt controller. -/
def putIrq (s : State) (sub v : Nat) : State :=
  match sub with
  | 0x02 => writePend s v
  | 0x03 => writeEnable64 s .a v
  | 0x04 => writeEnable64 s .b v
  | 0x05 => writeEnable64 s .s v
  | 0x06 => writeGdis s v
  | _ => s.setReg 0x2A00 sub v

/-- A number written to the keep store. -/
def putKeep (s : State) (p : HostPath) (sub v : Nat) : State :=
  match sub with
  | 0x01 => s.modPath (pathIx p) fun q => { q with ksAddr := v }
  | 0x02 => s.modPath (pathIx p) fun q => { q with ksLen := v }
  | 0x05 => requestStore s .command
  | 0x23 => writeCfgCmd s v
  | _ => s.setReg 0x2B00 sub v

/-- A number written to the herd bus. -/
def putHerd (s : State) (sub v : Nat) : State :=
  match sub with
  | 0x06 | 0x09 => s.clrReg 0x2D00 sub v
  | 0x08 => signalEvent s (v % 16)
  | _ => s.setReg 0x2D00 sub v

/-- A write of 0 to the fence: complete at once when nothing earlier of its path is outstanding, else it waits (R322).
(DEDUCED, log entry 25). -/
def putFence (s : State) (p : HostPath) : State :=
  if s.fenceClear (.host p) s.cmt.nextId then s
  else
    let t := s.modPath (pathIx p) fun q => { q with owed := true }
    { t with cmt := { t.cmt with fences := t.cmt.fences ++ [(.host p, t.cmt.nextId)] } }

/-- RELEASE or DISCARD of a group written (R327). -/
def putGroup (s : State) (g : Fin 8) (sub : Nat) : State :=
  if sub = 2 then s.modGroup g fun q => { q with byWrite := true } else s.modGroup g fun q => { q with staged := [] }

/-- A number accepted that no transfer carries takes effect. -/
def putNum (s : State) (p : HostPath) (idx sub v : Nat) : State :=
  if idx < 0x2000 then putStd s idx sub v
  else if idx = 0x2000 then putDev s sub v
  else if h : 0x2100 ≤ idx ∧ idx < 0x2120 then clearTripFlags s ⟨idx - 0x2100, by omega⟩ v
  else if h : 0x2200 ≤ idx ∧ idx < 0x2210 then putRail s ⟨idx - 0x2200, by omega⟩ sub v
  else if idx = 0x2300 then putSeq s sub v
  else if h : 0x2400 ≤ idx ∧ idx < 0x2410 then putTs s ⟨idx - 0x2400, by omega⟩ sub v
  else if idx = 0x2420 then putThermal s sub v
  else if idx = 0x2500 then putChg s sub v
  else if idx = 0x2600 then putWd s p sub v
  else if idx = 0x2700 then (if sub = 1 then writeAck s (BitVec.ofNat 32 v) else writeUnfence s v)
  else if idx = 0x2710 then s.modPath (pathIx p) fun q => { q with select := v }
  else if h : 0x2810 ≤ idx ∧ idx < 0x2820 then putCmp s ⟨idx - 0x2810, by omega⟩ sub v
  else if h : 0x2820 ≤ idx ∧ idx < 0x2828 then putCap s ⟨idx - 0x2820, by omega⟩ sub v
  else if idx = 0x2900 then putAdc s sub v
  else if idx = 0x2A00 then putIrq s sub v
  else if h : 0x2A40 ≤ idx ∧ idx < 0x2A80 then
    (if sub = 2 then writeSourcePend s ⟨idx - 0x2A40, by omega⟩ v else s.setReg idx sub v)
  else if idx = 0x2B00 then putKeep s p sub v
  else if idx = 0x2D00 then putHerd s sub v
  else if idx = 0x2F00 then
    (if sub = 0x0A then s.modPath (pathIx p) fun q => { q with tag := v } else s.setReg idx sub v)
  else if idx = 0x2F01 then putFence s p
  else if h : 0x2F02 ≤ idx ∧ idx < 0x2F0A then putGroup s ⟨idx - 0x2F02, by omega⟩ sub
  else if idx = 0x3000 then writeMrCtrl s v
  else if h : 0x3200 ≤ idx ∧ idx < 0x3220 then
    (if sub = 3 then writeSnap s else writeLedgerClear s ⟨idx - 0x3200, by omega⟩)
  else s.setReg idx sub v

/-- A string accepted takes effect. -/
def putBlob (s : State) (p : HostPath) (idx sub : Nat) (bytes : List Byte) : State :=
  if idx = 0x2000 then writeSvcAuth s bytes
  else if idx = 0x2B00 then
    (match sub with
      | 0x03 => pailCommit s s.paths[pathIx p].ksAddr bytes
      | 0x26 => { s with ks := { s.ks with cfgSig := bytes } }
      | _ => writeCfgImage s bytes)
  else match sub with
    | 0x05 => writeChallenge s bytes
    | 0x0A => writeExportNonce s bytes
    | 0x0C => enrolKey (s.modPath (pathIx p) fun q => { q with owed := true }) p bytes
    | 0x0D => writeKeyNew s bytes
    | _ => installKey (s.modPath (pathIx p) fun q => { q with owed := true }) p

/-- One value that no transfer carries takes effect. -/
def putItem (p : HostPath) (s : State) (i : Item) : State :=
  if i.isNum then putNum s p i.idx i.sub i.val else putBlob s p i.idx i.sub i.bytes

end Sys2Proof.Machine
end

