-- ==== Sys2Proof/Machine/CommitPoint.lean ====
section
/-! DEFINITION. The commit point: the write transfer and the group release (R20–R25, R321, R327), with the two commands. -/

namespace Sys2Proof.Machine
open Sys2Proof

/-- The indices of a write that waits. -/
def Outstanding.idxs (o : Outstanding) : List Nat := (o.vals ++ o.acts).map fun v => v.1 / 256

/-- The oldest outstanding write that holds a value of an index. -/
def State.oldestFor (s : State) (idx : Nat) : Option Outstanding := s.cmt.out.find? fun o => o.idxs.contains idx

/-- An outstanding write removed. -/
def dropOut (s : State) (id : Nat) : State :=
  { s with cmt := { s.cmt with out := s.cmt.out.filter fun o => o.id != id } }

/-- Of some outstanding writes, newest first, those that name one of some indices, with the earlier ones that share an index with
them, in the order of acceptance (R321). -/
def sharing : List Outstanding → List Nat → List Outstanding
  | [], _ => []
  | o :: t, idxs =>
    if o.idxs.any idxs.contains then sharing t (o.idxs ++ idxs) ++ [o] else sharing t idxs

/-- A subindex is the personality of a port that switches (R25). -/
def State.persBusy (s : State) (idx sub : Nat) : Bool :=
  if h : 0x2100 ≤ idx ∧ idx < 0x2120 then sub == 1 && s.isSwitching ⟨idx - 0x2100, by omega⟩ else false

/-- A write holds a personality of a port that switches: its transfer waits (R25). -/
def State.persWaits (s : State) (o : Outstanding) : Bool := o.vals.any fun v => s.persBusy (v.1 / 256) (v.1 % 256)

/-- The untagged values that reach the active copies noted with their acceptance number, for a release in the same core clock (R24). -/
def noteMoved (s : State) (id : Nat) (vs : List (Key × Nat)) : State :=
  let new := vs.map fun v => (v.1, id)
  { s with cmt := { s.cmt with moved := if s.cmt.movedAt = s.now64 then new ++ s.cmt.moved else new, movedAt := s.now64 } }

/-- A value that no transfer carries acts, after what was accepted for its index before it (R321). -/
def act1 (p : PathId) (s : State) (v : Key × Nat) : State :=
  match p with
  | .host p => putNum s p (v.1 / 256) (v.1 % 256) v.2
  | _ => s

/-- A write that waits takes effect whole: its settings in one clock, then the rest of it. -/
def moveWrite (s : State) (o : Outstanding) : State := o.acts.foldl (act1 o.path) (transferAll (dropOut s o.id) o.vals)

/-- One outstanding write transferred whole, as it now stands. -/
def transferOne (s : State) (id : Nat) : State :=
  match s.cmt.out.find? fun o => o.id == id with
  | none => s
  | some o => moveWrite (noteMoved s id o.vals) o

/-- The write transfer (R20): the oldest outstanding write that names an index is transferred whole, after every earlier one that
shares an index with it (R321); none of them while one holds the personality of a port that switches (R25).
(DEDUCED, log entry 86). -/
def transferWrite (s : State) (idx : Nat) : State :=
  match s.oldestFor idx with
  | none => s
  | some o =>
    let ws := sharing (s.cmt.out.filter fun w => decide (w.id ≤ o.id)).reverse [idx]
    if ws.any s.persWaits then s else (ws.map Outstanding.id).foldl transferOne s

/-- An index that holds settings of the control plane (R19): those of a port, a rail or the charger. -/
def hasSettings (idx : Nat) : Bool :=
  decide (0x2100 ≤ idx ∧ idx < 0x2120 ∨ 0x2200 ≤ idx ∧ idx < 0x2210 ∨ idx = 0x2500)

/-- The outstanding writes of some indices, with the earlier ones that share an index with them. -/
def State.olderOf (s : State) (idxs : List Nat) : List Outstanding := sharing s.cmt.out.reverse (idxs.filter hasSettings)

/-- What was accepted before for some indices waits for a port to stop switching (R25). -/
def State.olderWait (s : State) (idxs : List Nat) : Bool := (s.olderOf idxs).any s.persWaits

/-- The outstanding writes of some indices transferred, so that what acts now on one of them comes after what was accepted for it
before (R321); none that waits for a port to stop switching, nor with one (R25). -/
def transferOlder (s : State) (idxs : List Nat) : State :=
  if s.olderWait idxs then s else ((s.olderOf idxs).map Outstanding.id).foldl transferOne s

/-- Values staged in a group taken out of it. -/
def emptyGroup (s : State) (g : Fin 8) : State := s.modGroup g fun _ => .reset

/-- Acceptance number of a staged value. -/
def Group.idOf (q : Group) (k : Key) : Nat := cellGet q.ids k 0

/-- A staged value gives way to an untagged one accepted later that reached the active copy in the same core clock: two transfers
at one count of the timebase are taken as one clock (R24). (DESIGN CHOICE, log entry 100). -/
def State.outrun (s : State) (q : Group) (k : Key) : Bool :=
  s.cmt.movedAt == s.now64 && s.cmt.moved.any fun m => m.1 == k && q.idOf k < m.2

/-- An outstanding untagged write of a key was accepted after its staged value. -/
def State.laterOut (s : State) (q : Group) (k : Key) : Bool :=
  s.cmt.out.any fun o => q.idOf k < o.id && o.vals.any fun v => v.1 == k

/-- A released value in its copies: in all three, taking the place of what was accepted before it; the pending copy keeps what was
accepted after it and is still to be transferred (R19, R24). -/
def releaseOne (q : Group) (s : State) (v : Key × Nat) : State :=
  let idx := v.1 / 256
  let sub := v.1 % 256
  if s.laterOut q v.1 then
    let out := s.cmt.out.map fun (o : Outstanding) =>
      if q.idOf v.1 < o.id then o else { o with vals := o.vals.filter fun w => w.1 != v.1 }
    let t : State := { s with cmt := { s.cmt with out := out.filter fun o => o.vals != [] || o.acts != [] } }
    t.transfer idx sub v.2
  else (supersede s idx sub).setAll idx sub v.2

/-- What was accepted before a release clock acts before it: every outstanding write, in the order of acceptance, but one that waits for
a port to stop switching, and with it the later ones of its indices (R25, R321, R327). (DEDUCED, log entry 71). -/
def actFirst (s : State) : State :=
  (s.cmt.out.foldl (fun (a : State × List Nat) o =>
    if a.1.persWaits o || o.idxs.any a.2.contains then (a.1, o.idxs ++ a.2) else (moveWrite a.1 o, a.2)) (s, [])).1

/-- The release of a group (R23, R24, R327): every staged value in one clock. REL_CAUSE is 1 for a RELEASE write, 2 for a compare
channel, which REL_SRC names, 3 for both. (DEDUCED, log entry 71). -/
def releaseGroup (s0 : State) (g : Fin 8) : State :=
  let s := actFirst s0
  let q := s.cmt.groups[g]
  let idx := 0x2F02 + g.1
  let s1 := emptyGroup s g
  let s2 := (s1.inc idx 4).setReg idx 5 s1.now.toNat
  let s3 := match q.bySrc with
    | some k => (s2.setReg idx 6 (if q.byWrite then 3 else 2)).setReg idx 7 k
    | none => s2.setReg idx 6 1
  let vs := q.staged.filter fun v => !s.outrun q v.1
  let olds := vs.map fun v => (v.1, s3.act (v.1 / 256) (v.1 % 256))
  let s4 := vs.foldl (releaseOne q) s3
  pendSrc (olds.foldl (fun t v => afterValue t (v.1 / 256) (v.1 % 256) v.2) s4) 35

/-! ## The commands -/

/-- The write transfer of an index (R20). -/
def doWriteTransfer (idx : U16) (s : State) : State := if s.live then transferWrite s idx.toNat else s

/-- A commit group's release clock (R23, R327): it takes place when the core clock runs and something triggered it. -/
def doGroupRelease (g : Fin 8) (s : State) : State :=
  if s.live = true ∧ (s.cmt.groups[g].byWrite = true ∨ s.cmt.groups[g].bySrc ≠ none) then releaseGroup s g else s

/-- WRITE_TRANSFER (R20). The commit point transfers an accepted untagged write into the shadow and active copies. -/
def execWriteTransfer (idx : U16) (s : State) : Out := done s (doWriteTransfer idx s)

/-- GROUP_RELEASE (R327). In its release clock, a commit group transfers every staged write and empties. -/
def execGroupRelease (g : Fin 8) (s : State) : Out := done s (doGroupRelease g s)

end Sys2Proof.Machine
end

