-- ==== Sys2Proof/Machine/Access.lean ====
section
/-! DEFINITION. One access of a host path to the dictionary: the checks of Table 12-2 in their order (R318, R469), what an accepted
write does, the staging of tagged writes (R323–R326), the fence (R322), reads, and the answer each path is given. -/

namespace Sys2Proof.Machine
open Sys2Proof

/-! ## Answers and slots -/

/-- An access refused because no slot is free to a host path (R317). -/
def refuseSlot (s : State) : State := if s.coreOn then s.inc 0x2F00 0x0F else s

/-- One slot granted for the length of an access (R317). (DEDUCED, log entry 17). -/
def takeSlot (s : State) : State := if s.coreOn then noteSlots s else s

/-! ## What the AON island serves with the core domain off (R66, R76, R79, R469) -/

/-- The core domain is off and the AON island answers: in STANDBY, in SAFESTOP, and after loss of the core regulator; not once a
power-up has begun (R61). (DEDUCED, log entry 20). -/
def State.aonAnswers (s : State) : Bool := s.asleep && (s.md.mode == .standby || s.md.mode == .safestop)

/-- Only the diagnostic reads of R66 are served. -/
def State.diagOnly (s : State) : Bool := s.pwr.regFailed || s.md.mode == .safestop

/-- The objects of R66: supplies, clocks, reset cause and the AON fault record. -/
def isDiag (idx sub : Nat) : Bool :=
  (idx == 0x2000 && 0x20 ≤ sub && sub ≤ 0x24) || (idx == 0x2700 && 0x10 ≤ sub && sub ≤ 0x16)

/-- A read that the AON island serves. `seg` marks a segmented transfer. -/
def State.aonReads (s : State) (seg : Bool) (idx sub : Nat) : Bool :=
  if s.diagOnly then !seg && isDiag idx sub
  else isDiag idx sub || idx == 0x1000 || idx == 0x1001 || idx == 0x1017 || idx == 0x1018
    || (idx == 0x2000 && 1 ≤ sub && sub ≤ 8) || idx == 0x2B00

/-- A row accepts writes (R9). -/
def Obj.writable (o : Obj) : Bool := o.acc == .rw || o.acc == .wo || o.acc == .w1c

/-- A write that the AON island serves. -/
def State.aonWrites (s : State) (idx sub : Nat) : Bool :=
  !s.diagOnly && ((idx == 0x2000 && (sub == 1 || sub == 6 || sub == 7))
    || (idx == 0x2B00 && ((findObj s.variant idx sub).map Obj.writable).getD false))

/-- The check that R469 makes before check 3, with the core domain off. -/
def State.aonCode (s : State) (isWrite seg : Bool) (idx sub : Nat) : Nat :=
  if s.coreOn then 0
  else if (if isWrite then s.aonWrites idx sub else s.aonReads seg idx sub) then 0 else notNow

/-! ## Checks 3–6 -/

/-- Checks 3 and 4: the abort code of a subindex that does not exist. -/
def missingCode (v : Variant) (idx : Nat) : Nat := if (rowsOf v idx).isSome then 0x06090011 else 0x06020000

/-- Check 6: the data length matches the type. A DOMAIN takes 1–256 bytes (KS_DATA) or at most a whole image.
(DEDUCED, log entry 24). -/
def lengthOk (idx sub : Nat) (o : Obj) (n : Nat) : Bool :=
  match o.ty.size with
  | some k => n == k
  | none => 1 ≤ n && n ≤ (if idx = 0x2B00 ∧ sub = 3 then 256 else imageMax)

/-- Checks 3–6 of one value: its abort code, or 0 and the value with its row, reserved bits dropped (R12). -/
def itemOf (v : Variant) (w : Nat × Nat × List Byte) : Nat × List Item :=
  match findObj v w.1 w.2.1 with
  | none => (missingCode v w.1, [])
  | some o =>
    if !o.writable then (0x06010002, [])
    else if !lengthOk w.1 w.2.1 o w.2.2.length then (0x06070010, [])
    else (0, [{ idx := w.1, sub := w.2.1, obj := o, val := o.keep (leVal w.2.2), bytes := w.2.2 }])

/-- Checks 3–6 of a whole write: the first abort code, or 0 and every value. -/
def itemsOf (v : Variant) : List (Nat × Nat × List Byte) → Nat × List Item
  | [] => (0, [])
  | w :: t =>
    let a := itemOf v w
    let b := itemsOf v t
    if a.1 ≠ 0 then (a.1, []) else if b.1 ≠ 0 then (b.1, []) else (0, a.2 ++ b.2)

/-! ## What a write carries with it -/

/-- A value with the values that its acceptance sets beside it: CHEM loads the chemistry defaults (R251), a PORT_MASK lowers MIN_PHASES and
MIN_LIVE (R185), personality 3 takes the odd port into the pair (R89), and any other personality of the even port, not OFF alone, frees the
odd port at once. (DESIGN CHOICE, log entry 131). -/
def expand1 (s : State) (v : Nat × Nat × Nat) : Vals :=
  if v.1 = 0x2500 ∧ v.2.1 = 2 then v :: chemDefaults v.2.2
  else if 0x2200 ≤ v.1 ∧ v.1 < 0x2210 ∧ v.2.1 = 1 then
    let n := max 1 (ones 32 v.2.2)
    v :: ([0x17, 0x18].filter fun sub => decide (n < s.reg v.1 sub)).map fun sub => (v.1, sub, n)
  else if 0x2100 ≤ v.1 ∧ v.1 < 0x2120 ∧ v.2.1 = 1 ∧ v.1 % 2 = 0 then
    if v.2.2 = 3 then [v, (v.1 + 1, 1, 3)]
    else if s.reg v.1 1 = 3 then [v, (v.1 + 1, 1, 0)] else [v]
  else [v]

/-- Every value of a write with what it carries. -/
def expand (s : State) (vs : Vals) : Vals := vs.flatMap (expand1 s)

/-- A control-plane setting, transferred later: but CHG_CTRL is no setting of the control plane, and HU_TIME acts at once
(R268). -/
def isLater (idx sub : Nat) (o : Obj) : Bool := isControl idx sub && o.acc == .rw && !(idx == 0x2500 && sub == 0x24)

/-! ## Tags (R323–R326) -/

/-- Subindices that a tagged write may stage (R324). (DEDUCED, log entry 23). -/
def stageable (idx sub : Nat) (o : Obj) : Bool :=
  o.acc == .rw &&
    ((0x2100 ≤ idx && idx < 0x2120 && sub != 1)
      || (0x2200 ≤ idx && idx < 0x2210 && !([1, 7, 9, 0x60, 0x61, 0x62].contains sub)))

/-- The group that a path's TAG names; none untagged. -/
def State.tagOf (s : State) (p : HostPath) : Option (Fin 8) :=
  let t := s.paths[pathIx p].tag
  if h : 1 ≤ t ∧ t ≤ 8 then some ⟨t - 1, by omega⟩ else none

/-- A group holds a staged value of an index. -/
def State.holdsIdx (s : State) (g : Fin 8) (idx : Nat) : Bool := s.cmt.groups[g].staged.any fun c => c.1 / 256 == idx

/-- The group that holds staged values of an index. -/
def State.groupOfIdx (s : State) (idx : Nat) : Option (Fin 8) := (List.finRange 8).find? fun g => s.holdsIdx g idx

/-- Staged values of every index that a write names, of the groups that hold them; ports and rails alone are staged (R324). -/
def State.stagedFor (s : State) (vs : Vals) : List (Key × Nat) :=
  vs.flatMap fun v =>
    if 0x2100 ≤ v.1 ∧ v.1 < 0x2210 then
      match s.groupOfIdx v.1 with
      | none => []
      | some g => s.cmt.groups[g].staged
    else []

/-- The views over which check 7 is made: a tagged write laid over the staged values of its group; an untagged one over the pending
values alone, and with the staged values laid over it, as their release will leave them (R326). (DEDUCED, log entry 21). -/
def looksOf (s : State) (g : Option (Fin 8)) (vs : Vals) : List Look :=
  match g with
  | some g => [s.lookStaged s.cmt.groups[g].staged vs]
  | none =>
    let st := s.stagedFor vs
    if st = [] then [s.lookWith vs] else [s.lookWith vs, s.lookUnder st vs]

/-- Check 8: the subindices that a write would add to a group find room (R325). -/
def roomCode (s : State) (g : Option (Fin 8)) (is : List Item) : Nat :=
  match g with
  | none => 0
  | some g =>
    let st := s.cmt.groups[g].staged
    let new := is.filter fun i => stageable i.idx i.sub i.obj && !st.any fun c => c.1 == key i.idx i.sub
    if 64 < st.length + new.length then noStore else 0

/-- Check 9 of a tagged write: only stageable subindices, no index staged in another group. -/
def tagCode (s : State) (g : Option (Fin 8)) (is : List Item) : Nat :=
  match g with
  | none => 0
  | some g =>
    if is.all fun i => stageable i.idx i.sub i.obj && ((s.groupOfIdx i.idx).getD g == g) then 0 else notNow

/-! ## Checks 7–9 of strings and of what a number alone does not say -/

/-- Check 7 of a string: KS_DATA within the user area (R400). -/
def rangeCode (s : State) (p : HostPath) (i : Item) : Nat :=
  if i.idx = 0x2B00 ∧ i.sub = 3 ∧ userSize < s.paths[pathIx p].ksAddr + i.bytes.length then badValue else 0

/-- Check 9 of a string, and of the configuration commands: block protection (R401), the version of a commit (R412), one signature
at a time and a log export's first entry (R416), the signing key (R417). -/
def stateCode (s : State) (p : HostPath) (i : Item) : Nat :=
  if i.idx = 0x2B00 then
    if i.sub = 3 ∧ s.touchesProt s.paths[pathIx p].ksAddr i.bytes.length = true then noStore
    else if i.sub = 0x23 ∧ (i.val = 2 ∨ i.val = 3) ∧ imageVersion s.ks.cfgWork ≤ s.reg 0x2B00 0x21 then notNow
    else 0
  else if i.idx = 0x2C00 then
    if (i.sub = 5 ∨ i.sub = 0x0A) ∧ s.idFree = false then notNow
    else if i.sub = 0x0A ∧ (s.log.any fun e => e.seq.toNat == s.reg 0x2C00 8) = false then noData
    else if i.sub = 0x0C ∧ s.keyGen ≠ 0 then notNow
    else if i.sub = 0x0E ∧ s.keySigOk i.bytes = false then noStore
    else 0
  else 0

/-- The first code of a list that is not 0. -/
def firstCode : List Nat → Nat
  | [] => 0
  | c :: t => if c ≠ 0 then c else firstCode t

/-- Checks 7–9 over a whole write. -/
def lateCode (s : State) (p : HostPath) (g : Option (Fin 8)) (is : List Item) : Nat :=
  let vs := numsOf is
  firstCode ([valuesCode s (looksOf s g (expand s vs)) vs] ++ is.map (rangeCode s p)
    ++ [roomCode s g is, tagCode s g is, nowCode s (s.lookWith vs) vs] ++ is.map (stateCode s p))

/-! ## Acceptance -/

/-- A tagged write staged in its group (R325), under its own acceptance number. -/
def stage (s : State) (g : Fin 8) (is : List Item) : State :=
  let t := s.modGroup g fun q => { q with
    staged := is.foldl (fun l i => cellInsert l (key i.idx i.sub) i.val) q.staged
    ids := is.foldl (fun l i => cellInsert l (key i.idx i.sub) s.cmt.nextId) q.ids }
  { t with cmt := { t.cmt with nextId := t.cmt.nextId + 1 } }

/-- The control-plane values of a write, with what they carry. -/
def laterVals (s : State) (is : List Item) : Vals :=
  expand s (((is.filter fun i => isLater i.idx i.sub i.obj)).map fun i => (i.idx, i.sub, i.val))

/-- Values put in their pending copies (R19). -/
def setPending (s : State) (vs : Vals) : State := vs.foldl (fun t v => t.setReg v.1 v.2.1 v.2.2) s

/-- Control-plane values accepted as one write, to be transferred together (R20, R21), with what acts after them. -/
def acceptWrite (s : State) (p : PathId) (vs : Vals) (acts : List (Key × Nat)) : State :=
  if vs = [] ∧ acts = [] then s
  else
    let t := setPending s vs
    { t with cmt := { t.cmt with
        nextId := t.cmt.nextId + 1
        out := t.cmt.out ++ [{ id := t.cmt.nextId, path := p, vals := vs.map fun v => (key v.1 v.2.1, v.2.2), acts := acts }] } }

/-- Control-plane values accepted as one write, with nothing else to do. -/
def acceptLater (s : State) (p : PathId) (vs : Vals) : State := acceptWrite s p vs []

/-- A value that no transfer carries, of an index whose earlier writes wait: it waits with them (R321). -/
def State.actsLater (s : State) (i : Item) : Bool := hasSettings i.idx && s.olderWait [i.idx]

/-- Values of a write act: the settings `later` wait for their transfer, the rest takes effect in its order, after what was accepted
before for the same indices (R321). -/
def actNow (s : State) (p : HostPath) (later : Vals) (now : List Item) : State :=
  let s1 := (now.map Item.idx).foldl (fun t idx => transferOlder t [idx]) s
  let s2 := acceptWrite s1 (.host p) later ((now.filter s1.actsLater).map fun i => (key i.idx i.sub, i.val))
  (now.filter fun i => !s1.actsLater i).foldl (putItem p) s2

/-- An untagged write accepted (R20, R321). -/
def acceptNow (s : State) (p : HostPath) (is : List Item) : State :=
  actNow s p (laterVals s is) (is.filter fun i => !isLater i.idx i.sub i.obj)

/-- The group a write is staged in: that of the path's TAG, but a TAG write itself is never staged (R323). -/
def groupFor (s : State) (p : HostPath) (ws : List (Nat × Nat × List Byte)) : Option (Fin 8) :=
  if ws.any fun w => w.1 == 0x2F00 && w.2.1 == 0x0A then none else s.tagOf p

/-- A request of a signature refused: ID_STAT reads 3 unless a signature is being made (Table 15-11). (DEDUCED, log entry 122). -/
def noteRefusal (s : State) (is : List Item) : State :=
  if (is.any fun i => i.idx == 0x2C00 && (i.sub == 5 || i.sub == 0x0A)) && s.ks.idStat != 1 then
    { s with ks := { s.ks with idStat := 3 } }
  else s

/-- A write on a path past checks 1 and 2: the abort code, 0 for accepted, and the state. `g` is the group that stages it. -/
def writeCore (s : State) (p : HostPath) (g : Option (Fin 8)) (ws : List (Nat × Nat × List Byte)) : Nat × State :=
  let gate := firstCode (ws.map fun w => s.aonCode true false w.1 w.2.1)
  if gate ≠ 0 then (gate, s)
  else
    let a := itemsOf s.variant ws
    if a.1 ≠ 0 then (a.1, s)
    else
      let c := lateCode s p g a.2
      if c ≠ 0 then (c, noteRefusal s a.2)
      else match g with
        | some g => (0, stage s g a.2)
        | none => (0, acceptNow s p a.2)

/-- A read on a path past checks 1 and 2: the abort code, the bytes and the state. -/
def readCore (s : State) (p : HostPath) (seg : Bool) (idx sub : Nat) : Nat × List Byte × State :=
  let gate := s.aonCode false seg idx sub
  if gate ≠ 0 then (gate, [], s)
  else match findObj s.variant idx sub with
    | none => (missingCode s.variant idx, [], s)
    | some o => if o.acc = .wo then (0x06010001, [], s) else readObj s (pathIx p) o idx sub

/-! ## Accesses of a path -/

/-- A CAN link carries requests that are answered: the dictionary open, or the AON island in its place; not in the NMT state
stopped, but for the one exception of R335. -/
def State.linkServes (s : State) (l : Link) : Bool :=
  s.linkUp l && s.md.mode != .ship && (if s.coreOn then s.ready && s.can.nmt != .stopped
    else s.aonAnswers && (s.diagOnly || s.can.nmt != .stopped))

/-- A path reaches the dictionary. -/
def State.pathServes (s : State) (p : HostPath) : Bool :=
  s.hasPath p && match p with
    | .canA => s.linkServes .a
    | .canB => s.linkServes .b
    | .tw _ => s.ready && s.md.mode != .ship

/-- A path that brings its slot with it: a two-wire context, whose transaction holds one.
(DESIGN CHOICE, log entry 31). -/
def isTw : HostPath → Bool
  | .tw _ => true
  | _ => false

/-- A service that returns SLOTS_MIN: its own slot does not count for the value, which reads 47 after the clear (Table 12-10).
(DEDUCED, log entry 17). -/
def Service.seesMin (v : Service) (k : Key) : Bool := (v == .read || v == .beginRead) && k == key 0x2F00 0x0E

/-- An access of a path with its slot: refused without one (check 1). `quiet` marks one whose slot SLOTS_MIN does not count. -/
def withSlotFor (quiet : Bool) (s : State) (p : HostPath) (k : State → State) : State :=
  if s.pathServes p then
    if isTw p || s.slotFree then k (if isTw p || quiet then s else takeSlot s)
    else answer (refuseSlot s) p 0x05040005 []
  else s

/-- An access of a path with its slot. -/
def withSlot (s : State) (p : HostPath) (k : State → State) : State := withSlotFor false s p k

/-- A fence or a key change that waits for its end, and with it the answer to its write. -/
def waitsOn (s t : State) (ws : List (Nat × Nat × List Byte)) : Bool :=
  decide (s.cmt.fences.length < t.cmt.fences.length)
    || (ws.any (fun w => w.1 == 0x2C00 && (w.2.1 == 0x0C || w.2.1 == 0x0E)) && decide (s.ks.keyWaits.length < t.ks.keyWaits.length))

/-- LAST_RESULT and LAST_ABORT of a context whose access has ended (R362). -/
def noteTw (s : State) (p : HostPath) (code : Nat) : State :=
  match p with
  | .tw c => setResult s c (if code = 0 then 1 else 2) code
  | _ => s

/-- A write answered, unless its answer waits; its request is then kept for the end of what it waits for (R319). -/
def answerWrite (s : State) (r : Nat × State) (p : HostPath) (ws : List (Nat × Nat × List Byte)) : State :=
  if r.1 = 0 && waitsOn s r.2 ws then holdAsked r.2 p (decide (s.cmt.fences.length < r.2.cmt.fences.length))
  else noteTw (answer r.2 p r.1 []) p r.1

/-- A host's write of some values as one request. -/
def hostWrite (s : State) (p : HostPath) (ws : List (Nat × Nat × List Byte)) : State :=
  withSlot s p fun t => answerWrite t (writeCore t p (groupFor t p ws) ws) p ws

/-- A host's write of one number of `n` bytes. -/
def hostPut (s : State) (p : HostPath) (idx sub n v : Nat) : State := hostWrite s p [(idx, sub, leBytes n v)]

/-- A host's read of one subindex. -/
def hostRead (s : State) (p : HostPath) (idx sub : Nat) : State :=
  withSlotFor (Service.seesMin .read (key idx sub)) s p fun t =>
    let r := readCore t p false idx sub
    noteTw (answer r.2.2 p r.1 (if r.1 = 0 then r.2.1 else [])) p r.1

end Sys2Proof.Machine
end

