-- ==== Sys2Proof/Machine/TwoWire.lean ====
section
/-! DEFINITION. The two-wire target (R348–R369): address match, transactions and the pail, the mailbox, attention. -/

namespace Sys2Proof.Machine
open Sys2Proof

/-! ## Reads (R359) -/

/-- Whether a read of `n` bytes from a pointer covers `k` bytes at `a`. -/
def covers (p : U16) (n a k : Nat) : Bool := (List.range k).all fun j => decide ((BitVec.ofNat 16 (a + j) - p).toNat < n)

/-- Read-clear fields of the images: object, subindex, address (R123, R185). -/
def imageRc (s : State) : List (Nat × Nat × Nat) :=
  (s.portList.flatMap fun n => [0x13, 0x14, 0x15].map fun sub => (portIdx n.1, sub, 0x4000 + 0x80 * n.1 + 4 * (sub - 1)))
    ++ s.railList.map fun r => (railIdx r.1, 0x11, 0x5000 + 0x80 * r.1 + 4 * (0x11 - 1))

/-- A read-clear field gives up what a read returned of it; counts made since stay (R359, Table 0-3). -/
def giveUp (s : State) (idx sub v : Nat) : State :=
  let t := s.setReg idx sub (s.reg idx sub - v)
  if portMirrors.contains sub ∧ idx < 0x2200 then t.copyStatus idx sub (s.mirrored idx sub - v) else t

/-- Read-clear fields read to their last byte are cleared (R359), by what the bytes returned. -/
def clearRead (s : State) (p : U16) (bytes : List Byte) : State :=
  if bytes = [] then s
  else (imageRc s).foldl (fun t f =>
    if covers p bytes.length f.2.2 4 then
      giveUp t f.1 f.2.1 (leVal ((bytes.drop (BitVec.ofNat 16 f.2.2 - p).toNat).take 4))
    else t) s

/-- A context's pointer moved. (DEDUCED, log entry 32). -/
def setPointer (s : State) (c : Fin 8) (p : U16) : State := s.modCtx c fun x => { x with pointer := p }

/-- The bytes that a read of `n` bytes returns: those of the field at the pointer as they stood when its first byte was sent, at the
address match; those of later fields, whose times no command gives, as they stand at the end. (DESIGN CHOICE, log entry 89). -/
def readBytes (s : State) (c : Fin 8) (p : U16) (n : Nat) : List Byte :=
  let f := s.tw.first.take n
  f ++ twBytes s c (p + BitVec.ofNat 16 f.length) (n - f.length)

/-- A read of `n` bytes at the pointer. -/
def twRead (s : State) (c : Fin 8) (n : Nat) : State :=
  let p := s.tw.ctx[c].pointer
  let bs := readBytes s c p n
  setPointer (clearRead (answer s (.tw c) 0 bs) p bs) c (p + BitVec.ofNat 16 n)

/-! ## Results -/

/-- A write transaction applied, its pointer moved past the bytes applied. -/
def applied (s : State) (c : Fin 8) (n : Nat) : State :=
  setResult (setPointer s c (s.tw.ctx[c].pointer + BitVec.ofNat 16 n)) c 1 0

/-- A write transaction refused whole (R357). -/
def refused (s : State) (c : Fin 8) (code : Nat) : State := setResult (s.inc 0x2E00 0x0B) c 2 code

/-! ## Writes into the images (R356, R357) -/

/-- The value of a field after a write of some bytes from offset `off`: bytes that it does not cover keep the pending value, or 0
in a field whose ones clear. None if it covers no byte of the type. -/
def fieldWrite (s : State) (idx off : Nat) (d : List Byte) (sub : Nat) : Option (Nat × Nat × List Byte) :=
  match findObj s.variant idx sub with
  | none => none
  | some o =>
    let at_ := 4 * (sub - 1)
    let hit := fun j => decide (off ≤ at_ + j ∧ at_ + j < off + d.length)
    let old := if o.acc = .w1c then 0 else s.reg idx sub
    if o.writable && (List.range o.bytes).any hit then
      some (idx, sub, (List.range o.bytes).map fun j =>
        if hit j then d.getD (at_ + j - off) 0 else BitVec.ofNat 8 (old / 256 ^ j))
    else none

/-- The values that a write of some bytes into an image carries. (DEDUCED, log entry 33). -/
def imageWrites (s : State) (idx off : Nat) (d : List Byte) : List (Nat × Nat × List Byte) :=
  (List.range 31).filterMap fun i => fieldWrite s idx off d (i + 1)

/-- A write into an image as one write transaction. -/
def writeImageBytes (s : State) (c : Fin 8) (idx off : Nat) (d : List Byte) : State :=
  let ws := imageWrites s idx off d
  if ws = [] then applied s c d.length
  else
    let r := writeCore s (.tw c) (s.tagOf (.tw c)) ws
    if r.1 = 0 then applied r.2 c d.length else refused s c r.1

/-! ## The mailbox (R360, R361) -/

/-- Mailbox bytes that a controller may write. -/
def mbWritable (o : Nat) : Bool := o ≤ 4 || o == 6 || o == 7 || 0x10 ≤ o

/-- A mailbox with bytes laid from an offset up. -/
def mbPut (m : Vector Byte 256) (o : Nat) : List Byte → Vector Byte 256
  | [] => m
  | b :: t => mbPut (if mbWritable o then m.setIfInBounds o b else m) (o + 1) t

/-- A field of `n` bytes of a mailbox. -/
def mbField (m : Vector Byte 256) (o n : Nat) : Nat := leVal ((m.toList.drop o).take n)

/-- The byte that a write of some bytes from `off` puts at `o`. -/
def writtenAt (off : Nat) (d : List Byte) (o : Nat) : Option Byte := if off ≤ o then d[o - off]? else none

/-- A write into the mailbox: a nonzero MB_CMD starts an access, refused while a fence waits; a reserved command or length refuses
the transaction (R13). -/
def writeMailboxBytes (s : State) (c : Fin 8) (off : Nat) (d : List Byte) : State :=
  let cmd := ((writtenAt off d 3).map BitVec.toNat).getD 0
  let len := ((writtenAt off d 4).map BitVec.toNat).getD 0
  if 2 < cmd ∨ 240 < len then refused s c badValue
  else if cmd ≠ 0 ∧ s.tw.ctx[c].busy = true then refused s c notNow
  else
    let t := applied (s.modCtx c fun x => { x with mbox := mbPut x.mbox off d }) c d.length
    if cmd = 0 then t else t.modCtx c fun x => { x with run := some cmd, mbox := x.mbox.set 5 1 }

/-- A mailbox command whose fence or key change waits: MB_STAT reads 1 (R361). -/
def mailboxWaits (s : State) (c : Fin 8) : State :=
  s.modCtx c fun x => { x with run := none, busy := true, owns := true, mbox := (x.mbox.set 3 0).set 5 1 }

/-- The chunks gathered so far discarded. -/
def dropChunks (s : State) (c : Fin 8) : State := s.modCtx c fun x => { x with chunk := [], chunkKey := none }

/-- A mailbox read. -/
def readMailbox (s : State) (c : Fin 8) : State :=
  let m := s.tw.ctx[c].mbox
  if s.tw.ctx[c].chunkKey ≠ none then endMailbox (dropChunks s c) c 0x05040001
  else
    let r := readCore s (.tw c) false (mbField m 0 2) (mbField m 2 1)
    if r.1 ≠ 0 then endMailbox (answer r.2.2 (.tw c) r.1 []) c r.1
    else
      let d := (r.2.1.drop (mbField m 6 2)).take 240
      endMailbox ((answer r.2.2 (.tw c) 0 r.2.1).modCtx c fun x =>
        { x with mbox := mbSet (x.mbox.set 4 (BitVec.ofNat 8 d.length)) 0x10 d }) c 0

/-- The length of an object that a mailbox writes in chunks: none for one written at once, 0 while not yet known. KS_DATA is as long
as the path's KS_LEN, an image as its header says. -/
def longTotal (s : State) (c : Fin 8) (idx sub : Nat) (got : List Byte) : Option Nat :=
  if idx = 0x2B00 ∧ sub = 3 ∧ 240 < s.paths[pathIx (.tw c)].ksLen then some s.paths[pathIx (.tw c)].ksLen
  else if idx = 0x2B00 ∧ sub = 0x27 then
    if got.length < 16 then some 0 else some (32 + leVal ((got.drop 12).take 4))
  else none

/-- A mailbox write past its gathering. A fence or a key change that waits keeps MB_STAT at 1. -/
def writeWhole (s : State) (c : Fin 8) (idx sub : Nat) (d : List Byte) : State :=
  let ws := [(idx, sub, d)]
  let r := writeCore s (.tw c) (groupFor s (.tw c) ws) ws
  if r.1 = 0 ∧ waitsOn s r.2 ws = true then mailboxWaits r.2 c
  else endMailbox (answerWrite s r (.tw c) ws) c r.1

/-- A mailbox write. -/
def writeMailbox (s : State) (c : Fin 8) : State :=
  let x := s.tw.ctx[c]
  let idx := mbField x.mbox 0 2
  let sub := mbField x.mbox 2 1
  let off := mbField x.mbox 6 2
  let d := (x.mbox.toList.drop 0x10).take (mbField x.mbox 4 1)
  let got := x.chunk ++ d
  match longTotal s c idx sub got with
  | none =>
    if off ≠ 0 ∨ x.chunkKey ≠ none then endMailbox (dropChunks s c) c 0x05040001 else writeWhole s c idx sub d
  | some n =>
    if off ≠ x.chunk.length ∨ (x.chunkKey ≠ none ∧ x.chunkKey ≠ some (key idx sub)) then
      endMailbox (dropChunks s c) c 0x05040001
    else if d = [] then endMailbox (dropChunks s c) c 0x06070010
    else if n = 0 ∨ got.length < n then
      endMailbox (s.modCtx c fun y => { y with chunk := got, chunkKey := some (key idx sub) }) c 0
    else writeWhole (dropChunks s c) c idx sub got

/-- The access that a mailbox command asked for, if one is due. -/
def runMailbox (s : State) (c : Fin 8) : State :=
  match s.tw.ctx[c].run with
  | none => s
  | some 1 => readMailbox s c
  | some _ => writeMailbox s c

/-! ## Transactions (R352–R358) -/

/-- The data bytes of a write transaction, at the pointer: what its page holds of them is one write.
(DESIGN CHOICE, log entry 89). -/
def twData (s : State) (c : Fin 8) (data : List Byte) : State :=
  let a := s.tw.ctx[c].pointer.toNat
  let d := data.take (0x20 - a % 0x20)
  if a < userSize then
    if (s.tagOf (.tw c)).isSome then refused s c notNow
    else if s.touchesProt a d.length then refused s c noStore
    else applied (pailCommit s a d) c d.length
  else match imageAt a with
    | some (idx, off) => writeImageBytes s c idx off d
    | none => if 0x8000 ≤ a ∧ a < 0x8100 then writeMailboxBytes s c (a - 0x8000) d else applied s c d.length

/-- The bytes of a write transaction: the pointer, high byte first, then data. -/
def twWrite (s : State) (c : Fin 8) (bytes : List Byte) : State :=
  match bytes with
  | hi :: lo :: data =>
    let t := setPointer s c (hi ++ lo)
    if data = [] then t else twData t c data
  | _ => s

/-- An address and a mask in force, in the AON island's copy too (R351). -/
def setAddr (s : State) (a : BitVec 7 × BitVec 7) : State := { s with tw := { s.tw with base := a.1, mask := a.2, next := none } }

/-- No transaction in progress: its slot is free, and an address that waited for its end is in force (R351). -/
def leaveBus (s : State) : State :=
  let t := { s with tw := { s.tw with now := none, first := [] } }
  match s.tw.next with
  | none => t
  | some a => setAddr t a

/-- The transaction in progress ended by a STOP. -/
def endTransaction (s : State) (bytes : List Byte) (nRead : Nat) : State :=
  match s.tw.now with
  | none => s
  | some (c, read) =>
    if read then leaveBus (twRead s c nRead) else twWrite (leaveBus s) c bytes

/-- The transaction in progress abandoned before its STOP: nothing is written, the pointer has its value, fields read to their last
byte are read (R357, R359); one that carried data to write leaves LAST_RESULT 3 (R362). -/
def abandon (s : State) (bytes : List Byte) (nRead : Nat) : State :=
  match s.tw.now with
  | none => s
  | some (c, read) =>
    if read then leaveBus (twRead s c nRead)
    else
      let t := twWrite (leaveBus s) c (bytes.take 2)
      if bytes.length ≤ 2 then t else setResult t c 3 0

/-- A matched address acknowledged, with a slot (R363); a read takes the field at the pointer now (R359). -/
def acknowledge (s : State) (c : Fin 8) (read : Bool) : State :=
  let t := takeSlot s
  beginTransaction { t with tw := { t.tw with attn := false } } c read

/-- A wake from STANDBY or in SAFESTOP is in progress, its step 8 not yet ended. -/
def State.waking (s : State) : Bool := s.pwr.wake.isSome && s.aonUp && !s.isOpen && !s.pwr.regFailed

/-- An address on the bus: acknowledged once the context's earlier write has settled and a slot is free; with the core domain off
it wakes the device and is stretched, as it is during the entry to STANDBY and during a wake (R77, R78, R363, R365). -/
def doTwAddressMatch (addr : BitVec 7) (read : Bool) (s : State) : State :=
  match s.ctxOf addr with
  | none => s
  | some c =>
    if s.canWake then
      if s.tw.wakeAddr.isSome then s else wakeBy { s with tw := { s.tw with wakeAddr := some (c, read) } } .twoWire
    else if s.waking then
      { s with tw := { s.tw with wakeAddr := s.tw.wakeAddr.or (some (c, read)) } }
    else if s.ready = true ∧ s.md.mode ≠ .ship then
      if s.tw.now = none ∧ s.tw.ctx[c].run = none ∧ s.slotFree = true then acknowledge s c read else s
    else s

/-- No slot within SLOT_WAIT: the address is refused. -/
def doTwSlotWaitExpire (addr : BitVec 7) (s : State) : State :=
  if s.ready = true ∧ (s.ctxOf addr).isSome = true ∧ s.tw.now = none ∧ s.slotFree = false then
    refuseSlot (s.inc 0x2E00 9)
  else s

/-- STOP. -/
def doTwStop (bytes : List Byte) (nRead : Nat) (s : State) : State := if s.ready then endTransaction s bytes nRead else s

/-- Repeated START: the transaction ends, and the address after it is matched once what it wrote has settled (R353).
(DEDUCED, log entry 34). -/
def doTwRepeatedStart (bytes : List Byte) (nRead : Nat) (addr : BitVec 7) (read : Bool) (s : State) : State :=
  if s.ready = true ∧ s.tw.now ≠ none then
    let t := endTransaction s bytes nRead
    match t.ctxOf addr with
    | none => t
    | some c => doTwAddressMatch addr read (runMailbox t c)
  else s

/-- The access of MB_CMD 1. -/
def doMailboxRead (c : Fin 8) (s : State) : State :=
  if s.ready = true ∧ s.tw.ctx[c].run = some 1 then readMailbox s c else s

/-- The access of MB_CMD 2. -/
def doMailboxWrite (c : Fin 8) (s : State) : State :=
  if s.ready = true ∧ s.tw.ctx[c].run = some 2 then writeMailbox s c else s

/-- SCL held low for t_TIMEOUT (R366): LAST_RESULT 3, in a read too. -/
def doTwTimeout (bytes : List Byte) (nRead : Nat) (s : State) : State :=
  match s.tw.now with
  | none => s
  | some (c, _) => if s.ready then (setResult (abandon s bytes nRead) c 3 0).inc 0x2E00 8 else s

/-- A controller stopped in the middle of a transaction (R367). -/
def doTwBusRecovery (bytes : List Byte) (nRead : Nat) (s : State) : State :=
  if s.linksWork = true ∧ s.tw.now ≠ none then (abandon s bytes nRead).inc 0x2E00 0x0A else s

/-- ATTN_REPEAT has passed since the last attention request (R364). -/
def State.attnFree (s : State) : Bool :=
  match s.tw.attnAt with
  | none => true
  | some t => decide (t + s.reg 0x2E00 6 * ticksPerMs ≤ s.coreNow)

/-- An attention request: SDA low for 5 µs (R364). -/
def doAttnRequest (s : State) : State :=
  if s.linksWork = true ∧ s.attention = true ∧ s.tw.now = none ∧ s.attnFree = true then
    { s with tw := { s.tw with attn := true, attnAt := some s.coreNow } }
  else s

/-- A new ADDR_BASE or ADDR_MASK takes effect, in the AON island's copy too; a transaction in progress completes under the old address
(R351). (DEDUCED, log entry 35). -/
def doTwAddrUpdate (s : State) : State :=
  let a := (BitVec.ofNat 7 (s.reg 0x2E00 1), BitVec.ofNat 7 (s.reg 0x2E00 2))
  if !s.ready then s
  else if s.tw.now.isSome then { s with tw := { s.tw with next := some a } }
  else setAddr s a

/-! ## Fences (R322) -/

/-- The oldest fence of a path, if nothing it waits for is outstanding. -/
def State.fenceDue (s : State) (p : HostPath) : Option (PathId × Nat) :=
  (s.cmt.fences.find? fun f => f.1 == .host p).filter fun f => s.fenceClear f.1 f.2

/-- A fence completes: its slot is free, its answer is given, MB_STAT reads 2. -/
def doFenceComplete (p : HostPath) (s : State) : State :=
  match s.fenceDue p with
  | none => s
  | some f =>
    if s.live then
      endOwed { s with cmt := { s.cmt with fences := s.cmt.fences.erase f } } p true 0
    else s

/-! ## The commands -/

/-- FENCE_COMPLETE (R322). The fence completes and its response is queued. -/
def execFenceComplete (p : HostPath) (s : State) : Out := done s (doFenceComplete p s)

/-- TW_ADDRESS_MATCH (R363). A matched two-wire address is acknowledged after the previous write settles and a slot is
granted. -/
def execTwAddressMatch (addr : BitVec 7) (read : Bool) (s : State) : Out := done s (doTwAddressMatch addr read s)

/-- TW_SLOT_WAIT_EXPIRE (R363). No slot is granted within SLOT_WAIT, so the address is NACKed. -/
def execTwSlotWaitExpire (addr : BitVec 7) (s : State) : Out := done s (doTwSlotWaitExpire addr s)

/-- TW_STOP (R357). At STOP, the pail applies the transaction's bytes as one write, or refuses it whole. -/
def execTwStop (bytes : List Byte) (nRead : Nat) (s : State) : Out := done s (doTwStop bytes nRead s)

/-- TW_REPEATED_START (R353). A repeated START ends the transaction before it, as a STOP does, and begins a new one. -/
def execTwRepeatedStart (bytes : List Byte) (nRead : Nat) (addr : BitVec 7) (read : Bool) (s : State) : Out :=
  done s (doTwRepeatedStart bytes nRead addr read s)

/-- MAILBOX_READ (R361). MB_CMD 1 copies up to 240 bytes of an object into MB_DATA. -/
def execMailboxRead (c : Fin 8) (s : State) : Out := done s (doMailboxRead c s)

/-- MAILBOX_WRITE (R361). MB_CMD 2 writes MB_LEN bytes from MB_DATA to an object, in chunks for long objects. -/
def execMailboxWrite (c : Fin 8) (s : State) : Out := done s (doMailboxWrite c s)

/-- TW_TIMEOUT (R366). SCL is held low for t_TIMEOUT, so the device releases the bus and abandons the transaction. -/
def execTwTimeout (bytes : List Byte) (nRead : Nat) (s : State) : Out := done s (doTwTimeout bytes nRead s)

/-- TW_BUS_RECOVERY (R367). A controller stops mid-transaction and the device releases SDA and abandons the transaction. -/
def execTwBusRecovery (bytes : List Byte) (nRead : Nat) (s : State) : Out := done s (doTwBusRecovery bytes nRead s)

/-- ATTN_REQUEST (R364). After ATTN_IDLE with the chosen alert asserted, the device pulls SDA low for 5 µs. -/
def execAttnRequest (s : State) : Out := done s (doAttnRequest s)

/-- TW_ADDR_UPDATE (R351). A new ADDR_BASE or ADDR_MASK takes effect, and the AON copy is updated. -/
def execTwAddrUpdate (s : State) : Out := done s (doTwAddrUpdate s)

end Sys2Proof.Machine
end

