-- ==== Sys2Proof/Machine/CanOpen.lean ====
section
/-! DEFINITION. The CAN links and the CANopen services that run on them (R329–R345): SDO and USDO sessions, NMT, PDOs and SYNC,
EMCY, heartbeat, bus-off. -/

namespace Sys2Proof.Machine
open Sys2Proof

/-! ## SDO and USDO (R317–R319, R334, R342) -/

/-- A link carries SDO requests, or USDO requests, that are answered: USDO only with the core domain on (Table 12-7). -/
def State.serves (s : State) (l : Link) (usdo : Bool) : Bool := s.linkServes l && (s.coreOn || !usdo)

/-- A request that reached the dictionary: check 1, then check 2. -/
def sdoRequest (s : State) (l : Link) (valid : Bool) (q : Asked) (k : State → State) : State :=
  if s.serves l q.usdo then
    withSlotFor (q.service.seesMin q.key) (ask s l q) (linkPath l) fun t => if valid then k t else answer t (linkPath l) 0x05040001 []
  else s

/-- An expedited read. -/
def doSdoExpeditedRead (l : Link) (usdo valid : Bool) (idx : U16) (sub : Byte) (s : State) : State :=
  sdoRequest s l valid { usdo := usdo, key := key idx.toNat sub.toNat, service := .read } fun t =>
    let r := readCore t (linkPath l) false idx.toNat sub.toNat
    answer r.2.2 (linkPath l) r.1 (if r.1 = 0 then r.2.1 else [])

/-- A write answered on a link. -/
def sdoWrite (s : State) (l : Link) (ws : List (Nat × Nat × List Byte)) : State :=
  answerWrite s (writeCore s (linkPath l) (groupFor s (linkPath l) ws) ws) (linkPath l) ws

/-- An expedited write. -/
def doSdoExpeditedWrite (l : Link) (usdo valid : Bool) (idx : U16) (sub : Byte) (data : List Byte) (s : State) : State :=
  sdoRequest s l valid { usdo := usdo, key := key idx.toNat sub.toNat, service := .write } fun t => sdoWrite t l [(idx.toNat, sub.toNat, data)]

/-- A session set or ended. (DEDUCED, log entry 18). -/
def setSession (s : State) (l : Link) (x : Option Session) : State := s.modLink (linkIx l) fun k => { k with session := x }

/-- Reading changes the subindex, or what it shows to the path: done when the last segment has gone (R10). -/
def readsLate (idx sub : Nat) (o : Obj) : Bool :=
  o.acc == .rc || (0x2820 ≤ idx && idx < 0x2828 && sub == 4) || (0x2940 ≤ idx && idx < 0x2970 && sub == 1)

/-- A segmented upload begun: the value is taken now. -/
def beginUpload (s : State) (l : Link) (usdo : Bool) (idx sub : Nat) : State :=
  let r := readCore s (linkPath l) true idx sub
  if r.1 ≠ 0 then answer s (linkPath l) r.1 []
  else
    let late := ((findObj s.variant idx sub).map (readsLate idx sub)).getD false
    answer (setSession (if late then s else r.2.2) l
      (some { usdo := usdo, download := false, key := key idx sub, toggle := false, data := r.2.1 })) (linkPath l) 0 []

/-- Checks 3–5 of a segmented download. -/
def downloadCode (s : State) (idx sub : Nat) : Nat :=
  if s.aonCode true true idx sub ≠ 0 then notNow
  else match findObj s.variant idx sub with
    | none => missingCode s.variant idx
    | some o => if o.writable then 0 else 0x06010002

/-- A segmented download begun. -/
def beginDownload (s : State) (l : Link) (usdo : Bool) (idx sub : Nat) : State :=
  let c := downloadCode s idx sub
  if c ≠ 0 then answer s (linkPath l) c []
  else answer (setSession s l (some { usdo := usdo, download := true, key := key idx sub, toggle := false, data := [] }))
    (linkPath l) 0 []

/-- A segmented transfer initiated; an open session of the link gives way to it. -/
def doSdoInitiate (l : Link) (usdo valid download : Bool) (idx : U16) (sub : Byte) (s : State) : State :=
  sdoRequest s l valid { usdo := usdo, key := key idx.toNat sub.toNat, service := if download then .beginWrite else .beginRead } fun t =>
    let t1 := setSession t l none
    if download then beginDownload t1 l usdo idx.toNat sub.toNat else beginUpload t1 l usdo idx.toNat sub.toNat

/-- Bytes that a segment of an upload carries. -/
def segLen (usdo : Bool) : Nat := if usdo then Config.usdoSegLen.1 + 1 else 7

/-- A segment of an upload: the next bytes, and at the last of them what the read changes. -/
def uploadSegment (s : State) (l : Link) (x : Session) : State :=
  let n := segLen x.usdo
  let rest := x.data.drop n
  let idx := x.key / 256
  let sub := x.key % 256
  let t := if rest ≠ [] then setSession s l (some { x with data := rest, toggle := !x.toggle })
    else
      let late := ((findObj s.variant idx sub).map (readsLate idx sub)).getD false
      setSession (if late then (readCore s (linkPath l) true idx sub).2.2 else s) l none
  answer (ask t l { usdo := x.usdo, key := x.key, service := .readSegment x.toggle (rest = []) }) (linkPath l) 0 (x.data.take n)

/-- A segment of a download: gathered, and written whole at the last. -/
def downloadSegment (s : State) (l : Link) (x : Session) (last : Bool) (data : List Byte) : State :=
  let got := x.data ++ data
  let s1 := ask s l { usdo := x.usdo, key := x.key, service := .writeSegment x.toggle }
  if last then sdoWrite (setSession s1 l none) l [(x.key / 256, x.key % 256, got)]
  else answer (setSession s1 l (some { x with data := got, toggle := !x.toggle })) (linkPath l) 0 []

/-- A session aborted by the device: its code is sent if the link's requests are answered (R335). -/
def abortSession (s : State) (l : Link) (x : Session) (code : Nat) : State :=
  let t := setSession s l none
  if s.linkServes l then answer (ask t l { usdo := x.usdo, key := x.key, service := .write }) (linkPath l) code [] else t

/-- A segment without a session: it names no object, and its abort is classical (PRESUMED, log entry 126). -/
def noSession : Asked := { usdo := false, key := 0, service := .write }

/-- One segment (R318, R342): out of place without a session, and ended by a toggle bit that did not alternate. -/
def doSdoSegment (l : Link) (toggle last : Bool) (data : List Byte) (s : State) : State :=
  if s.linkServes l then
    match s.can.links[linkIx l].session with
    | none => withSlot (ask s l noSession) (linkPath l) fun t => answer t (linkPath l) 0x05040001 []
    | some x =>
      if toggle ≠ x.toggle then abortSession s l x 0x05030000
      else if x.download then downloadSegment s l x last data else uploadSegment s l x
  else s

/-- A client abort: the session ends and is not answered (R334). -/
def doSdoClientAbort (l : Link) (s : State) : State := if s.linkServes l then setSession s l none else s

/-- SDO_TMO without a segment (R342): the transfer is aborted and its slot freed in every NMT state, on a link that is off the bus too
(Table 12-1). -/
def doSdoTimeout (l : Link) (s : State) : State :=
  match s.can.links[linkIx l].session with
  | none => s
  | some x => abortSession s l x 0x05040000

/-! ## NMT (R335) -/

/-- An NMT command reaches this device: on an enabled link, to its node-ID or to all. -/
def State.nmtReaches (s : State) (l : Link) (node : Byte) : Bool :=
  s.linkUp l && (node == 0 || node.toNat == s.can.nodeId) && (s.linksWork || s.aonAnswers)

/-- The NMT state set. -/
def setNmt (s : State) (n : Nmt) : State := { s with can := { s.can with nmt := n } }

/-- Commands other than a start act here: with the core domain on, or in STANDBY. -/
def State.nmtActs (s : State) : Bool := s.ready || (s.aonAnswers && !s.diagOnly)

/-- Start: operational, or a wake. -/
def doNmtStart (l : Link) (node : Byte) (s : State) : State :=
  if s.nmtReaches l node then
    let t := if s.ready then setNmt s .operational else s
    wakeBy t (.nmt l)
  else s

/-- Stop. -/
def doNmtStop (l : Link) (node : Byte) (s : State) : State :=
  if s.nmtReaches l node && s.nmtActs then setNmt s .stopped else s

/-- Enter pre-operational. -/
def doNmtEnterPreop (l : Link) (node : Byte) (s : State) : State :=
  if s.nmtReaches l node && s.nmtActs then setNmt s .preop else s

/-- Reset node: a core reset in SAFESTOP (R60), with the core domain off too unless its regulator has failed (R61, R67). -/
def doNmtResetNode (l : Link) (node : Byte) (s : State) : State :=
  if s.nmtReaches l node && !s.pwr.regFailed && s.md.mode == .safestop then coreReset s 0x20 else s

/-- A link restarted: no session, its error counts afresh. -/
def LinkState.restart (k : LinkState) : LinkState := { k with session := none, passive := false, txErr := 0, rxErr := 0 }

/-- The links restarted with the settings of R330; a link that was off the bus still has its recovery to make. -/
def restartLinks (s : State) : State :=
  let s1 := startLinks { s with can := { s.can with nodeId := nodeIdOf s } }
  (s1.modLink 0 LinkState.restart).modLink 1 LinkState.restart

/-- TAG cleared on every path. -/
def clearTags (s : State) : State := (List.finRange 10).foldl (fun t p => t.modPath p fun q => { q with tag := 0 }) s

/-- Reset communication. (DEDUCED, log entry 30). -/
def doNmtResetComm (l : Link) (node : Byte) (s : State) : State :=
  if s.nmtReaches l node && s.nmtActs then
    let t := if s.ready then endWaits (clearTags (restartLinks s)) else (s.modLink 0 LinkState.restart).modLink 1 LinkState.restart
    setNmt (bootUp { t with can := { t.can with hbArmed := Vector.replicate 4 none, rpdo := Vector.replicate 8 none } }) .preop
  else s

/-! ## PDO mapping and data (R332, R338) -/

/-- Mapping entries of a PDO: index, subindex, bytes. -/
def State.mapping (s : State) (idx : Nat) : List (Nat × Nat × Nat) :=
  ((List.range (s.reg idx 0)).map fun i =>
    let e := s.reg idx (i + 1)
    (e / 65536, e / 256 % 256, e % 256 / 8)).filter fun m => m.1 != 0

/-- The links that are up. -/
def State.upLinks (s : State) : List Link := [Link.a, Link.b].filter s.linkUp

/-- One mapped value copied for a link's path; a copy of SLOTS_FREE holds no slot of its own. -/
def copyEntry (l : Link) (acc : List Byte × State) (m : Nat × Nat × Nat) : List Byte × State :=
  if m.1 = 0x2F00 ∧ m.2.1 = 0x0D then (acc.1 ++ leBytes 1 (47 - acc.2.slotsHeld), acc.2)
  else match findObj acc.2.variant m.1 m.2.1 with
  | none => acc
  | some o =>
    let r := readObj acc.2 (pathIx (linkPath l)) o m.1 m.2.1
    (acc.1 ++ r.2.1, r.2.2)

/-- The data of TPDO `n` as a link sends it, copied in one clock (R339). (DEDUCED, log entry 28). -/
def copyTpdo (s : State) (l : Link) (n : Fin 8) : List Byte × State :=
  (s.mapping (0x1A00 + n.1)).foldl (copyEntry l) ([], s)

/-- A TPDO may be sent: operational, valid, something mapped. -/
def State.tpdoLive (s : State) (n : Fin 8) : Bool :=
  s.linksWork && s.can.nmt == .operational && pdoValid s.reg (0x1800 + n.1) && s.mapping (0x1A00 + n.1) != []

/-- The inhibit time of a TPDO has passed. -/
def State.tpdoFree (s : State) (n : Fin 8) : Bool :=
  match s.can.tpdoAt[n] with
  | none => true
  | some t => decide (t + s.reg (0x1800 + n.1) 3 * 2500 ≤ s.coreNow)

/-- A TPDO sent on one link. -/
def sendOn (n : Fin 8) (s : State) (l : Link) : State :=
  let r := copyTpdo s l n
  r.2.emit l (s.reg (0x1800 + n.1) 1 % 2048) true (padFd r.1)

/-- A TPDO sent on every enabled link, and what was sent noted. -/
def sendTpdo (s : State) (n : Fin 8) : State :=
  match s.upLinks with
  | [] => s
  | l :: ls =>
    let d := (copyTpdo s l n).1
    let t := (l :: ls).foldl (sendOn n) s
    { t with can := { t.can with tpdoLast := t.can.tpdoLast.set n.1 (some d) n.2, tpdoAt := t.can.tpdoAt.set n.1 (some s.coreNow) n.2 } }

/-- A mapped byte has changed since the TPDO was last sent; one that has not been sent counts as changed (DEDUCED, log entry 137). A look
draws what it measures afresh. -/
def tpdoChanged (s : State) (n : Fin 8) : Bool × State :=
  match s.upLinks with
  | [] => (false, s)
  | l :: _ =>
    let r := copyTpdo s l n
    (s.can.tpdoLast[n] != some r.1, { s with freeCtr := r.2.freeCtr })

/-- A TPDO sent if a mapped byte has changed. -/
def sendChanged (s : State) (n : Fin 8) : State :=
  let r := tpdoChanged s n
  if r.1 then sendTpdo s n else r.2

/-! ## SYNC (R337, R339) -/

/-- TPDO `n` at a SYNC. -/
def tpdoSync (s : State) (n : Fin 8) : State :=
  let ty := s.reg (0x1800 + n.1) 2
  if !s.tpdoLive n || 240 < ty then s
  else if ty = 0 then sendChanged s n
  else
    let k := s.can.syncCnt[n] + 1
    let t := { s with can := { s.can with syncCnt := s.can.syncCnt.set n.1 (if ty ≤ k then 0 else k) n.2 } }
    if ty ≤ k then sendTpdo t n else t

/-- A value of a waiting RPDO that no transfer carries, as an item. -/
def itemAt (s : State) (v : Key × Nat) : List Item :=
  match findObj s.variant (v.1 / 256) (v.1 % 256) with
  | none => []
  | some o => if isLater (v.1 / 256) (v.1 % 256) o then []
    else [{ idx := v.1 / 256, sub := v.1 % 256, obj := o, val := v.2, bytes := [] }]

/-- A value of a waiting RPDO that its SYNC transfers. -/
def laterAt (s : State) (v : Key × Nat) : Bool :=
  ((findObj s.variant (v.1 / 256) (v.1 % 256)).map (isLater (v.1 / 256) (v.1 % 256))).getD false

/-- An RPDO dropped. -/
def dropRpdo (s : State) : State := s.inc 0x2F00 0x10

/-- A command whose meaning rests on the state it meets: MODE, SEQ_CMD, CHG_CMD, the start of an ADC scan. -/
def isRequest (idx sub : Nat) : Bool :=
  (idx == 0x2000 && sub == 1) || (idx == 0x2300 && sub == 7) || (idx == 0x2500 && sub == 0x27) || (idx == 0x2900 && sub == 4)

/-- A command in a waiting RPDO fails check 9 in the state that the SYNC meets: no value of the RPDO is applied (R340).
(DEDUCED, log entry 26). -/
def State.syncFails (s : State) (w : Link × List (Key × Nat)) : Bool :=
  w.2.any fun v => isRequest (v.1 / 256) (v.1 % 256) && !nowOk s s.reg (v.1 / 256) (v.1 % 256) v.2

/-- What a waiting RPDO holds beside its transfers takes effect, after what was accepted for the same indices before (R321). -/
def syncRest (s : State) (w : Link × List (Key × Nat)) : State := actNow s (linkPath w.1) [] (w.2.flatMap (itemAt s))

/-- What a waiting RPDO transfers: the pending copies of its settings, as they stand. -/
def laterOf (s : State) (w : Link × List (Key × Nat)) : List (Key × Nat) :=
  (w.2.filter (laterAt s)).map fun v => (v.1, s.reg (v.1 / 256) (v.1 % 256))

/-- A waiting RPDO holds the personality of a port that switches: its transfer waits (R25). -/
def State.rpdoWaits (s : State) (w : Link × List (Key × Nat)) : Bool :=
  (laterOf s w).any fun v => s.persBusy (v.1 / 256) (v.1 % 256)

/-- The settings of a waiting RPDO become an outstanding write of its link's path, transferred when the port no longer switches. -/
def postpone (s : State) (w : Link × List (Key × Nat)) : State :=
  acceptLater s (.host (linkPath w.1)) ((laterOf s w).map fun v => (v.1 / 256, v.1 % 256, v.2))

/-- The newest value of a key in a list of writes. -/
def newestOf (ws : List (List (Key × Nat))) (k : Key) (d : Nat) : Nat :=
  ws.foldl (fun a w => (w.find? fun v => v.1 == k).elim a Prod.snd) d

/-- What a pending copy goes back to when an RPDO that wrote it is dropped: the value of a kept RPDO, of an outstanding write, or the
active copy. -/
def State.pendingBefore (s : State) (kept : List (Link × List (Key × Nat))) (k : Key) : Nat :=
  newestOf (s.cmt.out.map Outstanding.vals ++ kept.map Prod.snd) k (s.act (k / 256) (k % 256))

/-- A waiting RPDO dropped at its SYNC: counted, and the pending copies that stand as it wrote them go back (R340). -/
def dropWaiting (kept : List (Link × List (Key × Nat))) (s : State) (w : Link × List (Key × Nat)) : State :=
  (w.2.filter fun v => laterAt s v && s.reg (v.1 / 256) (v.1 % 256) == v.2).foldl
    (fun t v => t.setReg (v.1 / 256) (v.1 % 256) (s.pendingBefore kept v.1)) (dropRpdo s)

/-- Every waiting synchronous RPDO: the pending copies it wrote are transferred in one clock, after
what was accepted for their indices before (R321), the rest follows (R337); one with the personality of a port that switches waits (R25);
one with a command that the present state refuses is dropped whole (R340). -/
def rpdoSync (s : State) : State :=
  let all := s.can.rpdo.toList.filterMap id
  let ws := all.filter fun w => !s.syncFails w
  let s1 := (all.filter s.syncFails).foldl (dropWaiting ws) { s with can := { s.can with rpdo := Vector.replicate 8 none } }
  let ks := (ws.filter fun w => !s1.rpdoWaits w).flatMap (laterOf s1)
  let s2 := ks.foldl (fun t v => supersede t (v.1 / 256) (v.1 % 256)) (transferOlder s1 (ks.map fun v => v.1 / 256))
  let s3 := transferAll (noteMoved s2 s2.cmt.nextId ks) ks
  ws.foldl syncRest ((ws.filter s1.rpdoWaits).foldl postpone s3)

/-- A SYNC: capture source 8 or 9 (R377), and the PDOs in operational. -/
def doSyncReceived (l : Link) (s : State) : State :=
  if s.linksWork = true ∧ s.linkUp l = true ∧ s.can.nmt ≠ .stopped then
    let t := captureFrom s (8 + (linkIx l).1)
    if s.can.nmt = .operational then (List.finRange 8).foldl tpdoSync (rpdoSync t) else t
  else s

/-! ## RPDOs (R333, R337, R340) -/

/-- RPDOs are taken from a link (R333). -/
def State.rpdoFrom (s : State) (l : Link) : Bool := (s.linkStat l).testBit 4

/-- The values that a frame's bytes give a mapping. -/
def rpdoValues : List (Nat × Nat × Nat) → List Byte → List (Nat × Nat × List Byte)
  | [], _ => []
  | m :: t, d => (m.1, m.2.1, d.take m.2.2) :: rpdoValues t (d.drop m.2.2)

/-- A synchronous RPDO: checked now, its settings in their pending copies, all of it held for the SYNC.
(DEDUCED, log entry 26). -/
def holdRpdo (s : State) (l : Link) (n : Fin 8) (ws : List (Nat × Nat × List Byte)) : State :=
  let a := itemsOf s.variant ws
  let c := if a.1 ≠ 0 then a.1 else lateCode s (linkPath l) none a.2
  if c ≠ 0 then dropRpdo s
  else
    let lv := laterVals s a.2
    let t := setPending s lv
    let rest := (a.2.filter fun i => !isLater i.idx i.sub i.obj).map fun i => (key i.idx i.sub, i.val)
    { t with can := { t.can with
        rpdo := t.can.rpdo.set n.1 (some (l, (lv.map fun v => (key v.1 v.2.1, v.2.2)) ++ rest)) n.2 } }

/-- An RPDO of a transmission type applied on receipt: one untagged write. -/
def applyRpdo (s : State) (l : Link) (ws : List (Nat × Nat × List Byte)) : State :=
  let r := writeCore s (linkPath l) none ws
  if r.1 ≠ 0 then dropRpdo s else r.2

/-- An RPDO received. (DEDUCED, log entry 27). -/
def doRpdoReceived (l : Link) (n : Fin 8) (data : List Byte) (s : State) : State :=
  let m := s.mapping (0x1600 + n.1)
  if s.linksWork && s.linkUp l && s.can.nmt == .operational && s.rpdoFrom l && pdoValid s.reg (0x1400 + n.1) && m != [] then
    if !s.slotFree then dropRpdo (refuseSlot s)
    else if data.length < (m.map fun x => x.2.2).sum then dropRpdo (takeSlot s)
    else if s.reg (0x1400 + n.1) 2 ≤ 240 then holdRpdo (takeSlot s) l n (rpdoValues m data)
    else applyRpdo (takeSlot s) l (rpdoValues m data)
  else s

/-! ## Event-driven TPDOs (R339) -/

/-- A TPDO of type 254 or 255. -/
def State.tpdoEvent (s : State) (n : Fin 8) : Bool := s.tpdoLive n && decide (254 ≤ s.reg (0x1800 + n.1) 2)

/-- One event-driven TPDO at the check of every 1 ms. -/
def tpdoCheck (s : State) (n : Fin 8) : State := if s.tpdoEvent n && s.tpdoFree n then sendChanged s n else s

/-- The check of every 1 ms. -/
def doTpdoEventCheck (s : State) : State := (List.finRange 8).foldl tpdoCheck s

/-- The event timer of a TPDO expires. -/
def doTpdoEventTimer (n : Fin 8) (s : State) : State :=
  if s.tpdoEvent n && s.reg (0x1800 + n.1) 5 != 0 && s.tpdoFree n then sendTpdo s n else s

/-! ## EMCY and heartbeat (R336, R341) -/

/-- The inhibit time of a link's EMCY messages has passed. -/
def State.emcyFree (s : State) (l : Link) : Bool :=
  match s.can.links[linkIx l].emcyAt with
  | none => true
  | some t => decide (t + s.reg 0x1015 0 * 2500 ≤ s.coreNow)

/-- The oldest queued EMCY message of a link goes out. -/
def doEmcySend (l : Link) (s : State) : State :=
  if s.linksWork = true ∧ s.linkUp l = true ∧ s.can.nmt ≠ .stopped ∧ s.emcyFree l = true then
    match s.can.links[linkIx l].emcy with
    | [] => s
    | m :: t =>
      let s1 := s.modLink (linkIx l) fun k => { k with emcy := t, emcyAt := some s.coreNow }
      s1.emit l (0x80 + s.can.nodeId) false m
  else s

/-- The NMT state that the heartbeat carries: stopped in low-rate operation (R66, R79).
(DEDUCED, log entry 83). -/
def State.nmtShown (s : State) : Nat := if !s.coreOn && s.diagOnly then 4 else s.can.nmt.code

/-- The heartbeat producer. -/
def doHeartbeatSend (s : State) : State :=
  if (s.linksWork || s.aonAnswers) && s.reg 0x1017 0 != 0 then s.emitAll (0x700 + s.can.nodeId) false [BitVec.ofNat 8 s.nmtShown] else s

/-- Node and time of a consumer entry. -/
def State.consNode (s : State) (i : Fin 4) : Nat := s.reg 0x1016 (i.1 + 1) / 65536 % 256

/-- A consumer entry armed by a link, or disarmed. -/
def setArmed (s : State) (i : Fin 4) (l : Option Link) : State :=
  { s with can := { s.can with hbArmed := s.can.hbArmed.set i.1 l i.2 } }

/-- A heartbeat of a consumed node. -/
def doHeartbeatReceived (l : Link) (node : Byte) (s : State) : State :=
  if s.linksWork && s.linkUp l && node != 0 then
    (List.finRange 4).foldl (fun t i =>
      if t.consNode i = node.toNat ∧ t.reg 0x1016 (i.1 + 1) % 65536 ≠ 0 then setArmed t i (some l) else t) s
  else s

/-- Unit code of a link. -/
def linkUnit (l : Link) : U16 := unitCode 0x0D (linkIx l).1

/-- No heartbeat within an armed entry's time: fault 0x0909, and the entry is disarmed. -/
def doHeartbeatTimeout (i : Fin 4) (s : State) : State :=
  match s.can.hbArmed[i] with
  | none => s
  | some l => if s.linksWork then report (setArmed s i none) 0x0909 (linkUnit l) (BitVec.ofNat 16 (s.consNode i)) else s

/-! ## Bus-off and error counts (R308, R329) -/

/-- A link enters bus-off. -/
def doBusOff (l : Link) (s : State) : State :=
  if s.linkUp l && (s.linksWork || s.aonAnswers) then
    let t := s.modLink (linkIx l) fun k => { k with busOff := true }
    if s.coreOn then t.bump 0x2F00 (0x16 + (linkIx l).1) 0xFFFF 1 else t
  else s

/-- A link rejoins the bus, and its bus-off entry is recorded. -/
def doBusOffRecovery (l : Link) (s : State) : State :=
  if s.can.links[linkIx l].busOff && (s.linksWork || s.aonAnswers) then
    let t := s.modLink (linkIx l) fun k => { k with busOff := false, passive := false, txErr := 0, rxErr := 0 }
    if s.coreOn then report t 0x0908 (linkUnit l) 0 else t
  else s

/-- A link's error counts take it into or out of error-passive: a count above 127 is.
(PRESUMED, log entry 29). -/
def doErrorPassiveChange (l : Link) (txErr rxErr : Nat) (s : State) : State :=
  if s.can.links[linkIx l].enabled && (s.linksWork || s.aonAnswers) then
    s.modLink (linkIx l) fun k => { k with txErr := txErr, rxErr := rxErr, passive := decide (127 < txErr ∨ 127 < rxErr) }
  else s

/-! ## The commands -/

/-- SDO_EXPEDITED_READ (R319). An expedited SDO or USDO read request is checked and answered. -/
def execSdoExpeditedRead (l : Link) (usdo valid : Bool) (idx : U16) (sub : Byte) (s : State) : Out :=
  done s (doSdoExpeditedRead l usdo valid idx sub s)

/-- SDO_EXPEDITED_WRITE (R319). An expedited SDO or USDO write request is checked, accepted or refused, and answered. -/
def execSdoExpeditedWrite (l : Link) (usdo valid : Bool) (idx : U16) (sub : Byte) (data : List Byte) (s : State) : Out :=
  done s (doSdoExpeditedWrite l usdo valid idx sub data s)

/-- SDO_INITIATE (R317). A segmented SDO or USDO transfer is initiated and takes a slot. -/
def execSdoInitiate (l : Link) (usdo valid download : Bool) (idx : U16) (sub : Byte) (s : State) : Out :=
  done s (doSdoInitiate l usdo valid download idx sub s)

/-- SDO_SEGMENT (R342). One segment of a segmented transfer is handled, and the write takes effect at the last segment. -/
def execSdoSegment (l : Link) (toggle last : Bool) (data : List Byte) (s : State) : Out :=
  done s (doSdoSegment l toggle last data s)

/-- SDO_CLIENT_ABORT (R334). A client abort ends the session and frees its slot without a response. -/
def execSdoClientAbort (l : Link) (s : State) : Out := done s (doSdoClientAbort l s)

/-- SDO_TIMEOUT (R342). No segment arrives for SDO_TMO, so the transfer is aborted and the slot freed. -/
def execSdoTimeout (l : Link) (s : State) : Out := done s (doSdoTimeout l s)

/-- NMT_START (R335). The NMT start command makes the device operational, or wakes it. -/
def execNmtStart (l : Link) (node : Byte) (s : State) : Out := done s (doNmtStart l node s)

/-- NMT_STOP (R335). The NMT stop command puts the device in the stopped state. -/
def execNmtStop (l : Link) (node : Byte) (s : State) : Out := done s (doNmtStop l node s)

/-- NMT_ENTER_PREOP (R335). The NMT enter-pre-operational command sets pre-operational. -/
def execNmtEnterPreop (l : Link) (node : Byte) (s : State) : Out := done s (doNmtEnterPreop l node s)

/-- NMT_RESET_NODE (R335). The NMT reset-node command performs a core reset in SAFESTOP and is ignored otherwise. -/
def execNmtResetNode (l : Link) (node : Byte) (s : State) : Out := done s (doNmtResetNode l node s)

/-- NMT_RESET_COMM (R335). The NMT reset-communication command restarts the links, clears TAG, ends sessions and sends
boot-up. -/
def execNmtResetComm (l : Link) (node : Byte) (s : State) : Out := done s (doNmtResetComm l node s)

/-- SYNC_RECEIVED (R337). A SYNC transfers the synchronous RPDOs and copies the due synchronous TPDOs. -/
def execSyncReceived (l : Link) (s : State) : Out := done s (doSyncReceived l s)

/-- RPDO_RECEIVED (R340). An RPDO is received and applied as one write, or held for SYNC, or dropped. -/
def execRpdoReceived (l : Link) (n : Fin 8) (data : List Byte) (s : State) : Out := done s (doRpdoReceived l n data s)

/-- TPDO_EVENT_CHECK (R339). Every 1 ms, event-driven TPDOs whose mapped bytes changed are sent. -/
def execTpdoEventCheck (s : State) : Out := done s (doTpdoEventCheck s)

/-- TPDO_EVENT_TIMER (R339). A TPDO's event timer expires and the TPDO is sent. -/
def execTpdoEventTimer (n : Fin 8) (s : State) : Out := done s (doTpdoEventTimer n s)

/-- EMCY_SEND (R341). A queued EMCY message is sent once the inhibit time allows. -/
def execEmcySend (l : Link) (s : State) : Out := done s (doEmcySend l s)

/-- HEARTBEAT_SEND (R336). The heartbeat producer sends every PROD_HB. -/
def execHeartbeatSend (s : State) : Out := done s (doHeartbeatSend s)

/-- HEARTBEAT_RECEIVED (R336). A heartbeat from a consumed node arms or serves its entry. -/
def execHeartbeatReceived (l : Link) (node : Byte) (s : State) : Out := done s (doHeartbeatReceived l node s)

/-- HEARTBEAT_TIMEOUT (R336). No heartbeat arrives within the time, so fault 0x0909 is raised and the entry disarms. -/
def execHeartbeatTimeout (i : Fin 4) (s : State) : Out := done s (doHeartbeatTimeout i s)

/-- BUS_OFF (R329). A link enters bus-off. -/
def execBusOff (l : Link) (s : State) : Out := done s (doBusOff l s)

/-- BUS_OFF_RECOVERY (R329). After 128 × 11 recessive bits, the link rejoins and its bus-off entry is recorded. -/
def execBusOffRecovery (l : Link) (s : State) : Out := done s (doBusOffRecovery l s)

/-- ERROR_PASSIVE_CHANGE (R329). A link's error counts take it into or out of error-passive, which changes LINK_STAT and
pends interrupt source CAN. -/
def execErrorPassiveChange (l : Link) (txErr rxErr : Nat) (s : State) : Out := done s (doErrorPassiveChange l txErr rxErr s)

end Sys2Proof.Machine
end

