-- ==== Sys2Proof/Machine/Writes.lean ====
section
/-! DEFINITION. The commands that are one write or one read of a register by a host, each over the one access of Access.lean. -/

namespace Sys2Proof.Machine
open Sys2Proof

/-- A number with bit `i` set. -/
def withBit (v i : Nat) : Nat := v ||| 2 ^ i

/-- A number with bit `i` cleared. -/
def withoutBit (v i : Nat) : Nat := if v.testBit i then v - 2 ^ i else v

/-- CORE_RESET (R60). A write of the key to 0x2000.25 in SAFESTOP performs a core reset. -/
def execCoreReset (p : HostPath) (v : U32) (s : State) : Out := done s (hostPut s p 0x2000 0x25 4 v.toNat)

/-- MODE_REQ_SHIP (R63). A MODE write of 0 requests SHIP, which starts the SHIP store. -/
def execModeReqShip (p : HostPath) (s : State) : Out := done s (hostPut s p 0x2000 1 1 0)

/-- MODE_REQ_STANDBY (R71). A MODE write of 1 is an off request, which starts SHUTDOWN, a reversal or STANDBY entry. -/
def execModeReqStandby (p : HostPath) (s : State) : Out := done s (hostPut s p 0x2000 1 1 1)

/-- MODE_REQ_RUN (R71). A MODE write of 3 is an on request: a wake, a held request, a start or a drop, according to the mode. -/
def execModeReqRun (p : HostPath) (s : State) : Out := done s (hostPut s p 0x2000 1 1 3)

/-- MODE_REQ_SAFESTOP (R71). A MODE write of 6 is the host SAFESTOP trip source. -/
def execModeReqSafestop (p : HostPath) (s : State) : Out := done s (hostPut s p 0x2000 1 1 6)

/-- MODE_REQ_SERVICE (R82). A MODE write of 7 enters SERVICE when SVCKEY and a fresh authorisation allow it. -/
def execModeReqService (p : HostPath) (s : State) : Out := done s (hostPut s p 0x2000 1 1 7)

/-- HU_TIME_WRITE (R268). A HU_TIME write in HOLDUP applies at once to the hold-up time in progress. -/
def execHuTimeWrite (p : HostPath) (v : U32) (s : State) : Out := done s (hostPut s p 0x2500 0x24 4 v.toNat)

/-- REQ_STAT_CLEAR (R81). A W1C write to REQ_STAT cancels a held on request or a pending restart, which can lead to STANDBY. -/
def execReqStatClear (p : HostPath) (mask : Byte) (s : State) : Out := done s (hostPut s p 0x2000 8 1 mask.toNat)

/-- SVC_CHALLENGE_READ (R82). A read of SVC_CHALLENGE returns a fresh random value and cancels any earlier challenge and
authorisation. -/
def execSvcChallengeRead (p : HostPath) (s : State) : Out := done s (hostRead s p 0x2000 9)

/-- SVC_AUTH_WRITE (R82). A signature written to SVC_AUTH starts its verification. -/
def execSvcAuthWrite (p : HostPath) (sig : List Byte) (s : State) : Out := done s (hostWrite s p [(0x2000, 0x0A, sig)])

/-- SVC_PORT_WRITE (R83). A write of SVC_PORT in SERVICE selects the port to exercise, or stops it with 0xFF. -/
def execSvcPortWrite (p : HostPath) (v : Byte) (s : State) : Out := done s (hostPut s p 0x2000 0x0D 1 v.toNat)

/-- PERSONALITY_WRITE (R87). A write of a port's personality is checked against the switching, rail-membership and BB4 rules. -/
def execPersonalityWrite (p : HostPath) (n : Fin 32) (v : Byte) (s : State) : Out :=
  done s (hostPut s p (portIdx n.1) 1 1 v.toNat)

/-- TRIP_FLAGS_CLEAR (R124). A W1C write clears port trip flags, and clearing LIMIT restarts a tripped port through
PRECHARGE. -/
def execTripFlagsClear (p : HostPath) (n : Fin 32) (mask : U16) (s : State) : Out :=
  done s (hostPut s p (portIdx n.1) 0x12 2 mask.toNat)

/-- FAN_TACH_WRITE (R379). A FAN_TACH write takes ownership of a capture channel, or releases it. -/
def execFanTachWrite (p : HostPath) (n : Fin 32) (v : Byte) (s : State) : Out :=
  done s (hostPut s p (portIdx n.1) 0x31 1 v.toNat)

/-- PORT_MASK_WRITE (R156). A PORT_MASK write sets a rail's member ports, subject to the membership and budget checks. -/
def execPortMaskWrite (p : HostPath) (r : Fin 16) (v : U32) (s : State) : Out :=
  done s (hostPut s p (railIdx r.1) 1 4 v.toNat)

/-- RAIL_ENABLE (R161). A write of ENABLE = 1 turns a rail on, which starts PREBIAS at transfer. -/
def execRailEnable (p : HostPath) (r : Fin 16) (s : State) : Out := done s (hostPut s p (railIdx r.1) 3 1 1)

/-- RAIL_DISABLE (R161). A write of ENABLE = 0 turns a rail off, by RAMP_DOWN or at once. -/
def execRailDisable (p : HostPath) (r : Fin 16) (s : State) : Out := done s (hostPut s p (railIdx r.1) 3 1 0)

/-- RAIL_FLAGS_CLEAR (R160). A W1C clear of RAIL_FLAGS restarts a tripped rail that is still enabled through PREBIAS. -/
def execRailFlagsClear (p : HostPath) (r : Fin 16) (mask : Byte) (s : State) : Out :=
  done s (hostPut s p (railIdx r.1) 0x19 1 mask.toNat)

/-- LEDGER_SNAP (R181). A write of 1 to SNAP copies every port's ledger and stamp in one clock. -/
def execLedgerSnap (p : HostPath) (n : Fin 32) (s : State) : Out := done s (hostPut s p (0x3200 + n.1) 3 1 1)

/-- LEDGER_CLEAR (R183). A write of the key to CLEAR zeroes one port's ledger. -/
def execLedgerClear (p : HostPath) (n : Fin 32) (v : U32) (s : State) : Out := done s (hostPut s p (0x3200 + n.1) 7 4 v.toNat)

/-- ROUND_ENABLE (R191). A write changing ROUND_EN from 0 to 1 starts the round from slot 0. -/
def execRoundEnable (p : HostPath) (s : State) : Out := done s (hostPut s p 0x3000 1 1 (withBit (s.reg 0x3000 1) 0))

/-- ROUND_DISABLE (R192). A write of ROUND_EN = 0 abandons the visit in progress and stops the round. -/
def execRoundDisable (p : HostPath) (s : State) : Out := done s (hostPut s p 0x3000 1 1 (withoutBit (s.reg 0x3000 1) 0))

/-- STEAL_ENABLE (R198). Setting STEAL_EN starts the stolen-sample calibration of the voltage converters. -/
def execStealEnable (p : HostPath) (s : State) : Out := done s (hostPut s p 0x3000 1 1 (withBit (s.reg 0x3000 1) 1))

/-- STEAL_DISABLE (R198). Clearing STEAL_EN stops the stolen samples. -/
def execStealDisable (p : HostPath) (s : State) : Out := done s (hostPut s p 0x3000 1 1 (withoutBit (s.reg 0x3000 1) 1))

/-- SEQ_CMD_RETRY (R247). SEQ_CMD 1 repeats the wait of a halted step with a fresh TMO. -/
def execSeqCmdRetry (p : HostPath) (s : State) : Out := done s (hostPut s p 0x2300 7 1 1)

/-- SEQ_CMD_SKIP (R247). SEQ_CMD 2 skips a halted step to the next one. -/
def execSeqCmdSkip (p : HostPath) (s : State) : Out := done s (hostPut s p 0x2300 7 1 2)

/-- SEQ_CMD_ABORT (R247). SEQ_CMD 3 aborts a halted power-up with an orderly stop. -/
def execSeqCmdAbort (p : HostPath) (s : State) : Out := done s (hostPut s p 0x2300 7 1 3)

/-- SUP_FLAGS_CLEAR (R229). A host clear of a rail's flags restarts a rail with HIC_EXH set once. -/
def execSupFlagsClear (p : HostPath) (r : Fin 16) (mask : Byte) (s : State) : Out :=
  done s (hostPut s p (railIdx r.1) 0x4C 1 mask.toNat)

/-- CNT_CLEAR (R230). A write of the key to CNT_CLEAR zeroes the rail's eight event counters. -/
def execCntClear (p : HostPath) (r : Fin 16) (v : U32) (s : State) : Out := done s (hostPut s p (railIdx r.1) 0x5A 4 v.toNat)

/-- EVENT_SIGNAL (R244). A host write to EVENT_SIGNAL signals a herd event. -/
def execEventSignal (p : HostPath) (v : Byte) (s : State) : Out := done s (hostPut s p 0x2D00 8 1 v.toNat)

/-- CHG_ENABLE (R260). Setting CHG_EN moves the charger from OFF to WAIT and starts a full search. -/
def execChgEnable (p : HostPath) (s : State) : Out := done s (hostPut s p 0x2500 1 1 (withBit (s.reg 0x2500 1) 0))

/-- CHG_DISABLE (R260). Clearing CHG_EN sends the charger to OFF and ends any cycle. -/
def execChgDisable (p : HostPath) (s : State) : Out := done s (hostPut s p 0x2500 1 1 (withoutBit (s.reg 0x2500 1) 0))

/-- SEARCH_ENABLE (R256). Setting SEARCH_EN lets input searches run. -/
def execSearchEnable (p : HostPath) (s : State) : Out := done s (hostPut s p 0x2500 1 1 (withBit (s.reg 0x2500 1) 1))

/-- SEARCH_DISABLE (R256). Clearing SEARCH_EN sets IIN_LIM to IIN_MAX and stops searching. -/
def execSearchDisable (p : HostPath) (s : State) : Out := done s (hostPut s p 0x2500 1 1 (withoutBit (s.reg 0x2500 1) 1))

/-- CHG_CMD_SEARCH (R256). CHG_CMD 2 starts a full search. -/
def execChgCmdSearch (p : HostPath) (s : State) : Out := done s (hostPut s p 0x2500 0x27 1 2)

/-- CHG_CMD_CLEAR_FAULT (R260). CHG_CMD 1 clears a charger FAULT, which then goes to WAIT and a new cycle. -/
def execChgCmdClearFault (p : HostPath) (s : State) : Out := done s (hostPut s p 0x2500 0x27 1 1)

/-- CHG_KICK (R264). A write of 0x4B43 to CHG_KICK restarts the charger watchdog. -/
def execChgKick (p : HostPath) (v : U16) (s : State) : Out := done s (hostPut s p 0x2500 0x19 2 v.toNat)

/-- THR_EN_WRITE (R283). Clearing the THR_EN bit of a reached threshold releases it at once. -/
def execThrEnWrite (p : HostPath) (i : Fin 16) (v : Byte) (s : State) : Out :=
  done s (hostPut s p (0x2400 + i.1) 0x0F 1 v.toNat)

/-- FAULT_ACK (R305). A write to ACK acknowledges the H and N entries up to a SEQ whose causes are gone. -/
def execFaultAck (p : HostPath) (v : U32) (s : State) : Out := done s (hostPut s p 0x2700 1 4 v.toNat)

/-- UNFENCE (R300). A write of a unit code to UNFENCE unfences that unit when allowed. -/
def execUnfence (p : HostPath) (v : U16) (s : State) : Out := done s (hostPut s p 0x2700 6 2 v.toNat)

/-- DICT_WRITE (R318). A write to a register that has no row of its own is checked and accepted or refused. -/
def execDictWrite (p : HostPath) (idx : U16) (sub : Byte) (data : List Byte) (s : State) : Out :=
  done s (hostWrite s p [(idx.toNat, sub.toNat, data)])

/-- A write of the fence: a two-wire context makes it by a mailbox command, refused while an earlier fence of it waits (R361). -/
def doFenceWrite (p : HostPath) (v : Byte) (s : State) : State :=
  match p with
  | .tw c =>
    if s.pathServes p && s.tw.ctx[c].busy then noteTw (answer s p notNow []) p notNow
    else
      let t := hostPut s p 0x2F01 0 1 v.toNat
      if s.cmt.fences.length < t.cmt.fences.length then mailboxWaits t c
      else if s.pathServes p then endMailbox t c t.paths[pathIx p].abort
      else t
  | _ => hostPut s p 0x2F01 0 1 v.toNat

/-- FENCE_WRITE (R322). A write of 0 to 0x2F01 waits until every earlier write of its path has taken effect. -/
def execFenceWrite (p : HostPath) (v : Byte) (s : State) : Out := done s (doFenceWrite p v s)

/-- TAG_WRITE (R323). A TAG write sets whether and where the path's later writes are staged. -/
def execTagWrite (p : HostPath) (v : Byte) (s : State) : Out := done s (hostPut s p 0x2F00 0x0A 1 v.toNat)

/-- RELEASE_WRITE (R327). A write of 1 to RELEASE triggers the group's release. -/
def execReleaseWrite (p : HostPath) (g : Fin 8) (s : State) : Out := done s (hostPut s p (0x2F02 + g.1) 2 1 1)

/-- DISCARD_WRITE (R327). A write of 1 to DISCARD empties the group without a transfer. -/
def execDiscardWrite (p : HostPath) (g : Fin 8) (s : State) : Out := done s (hostPut s p (0x2F02 + g.1) 3 1 1)

/-- CMP_VALUE_WRITE (R372). A compare VALUE write is judged against the present count and arms the channel. -/
def execCmpValueWrite (p : HostPath) (k : Fin 16) (v : U32) (s : State) : Out :=
  done s (hostPut s p (0x2810 + k.1) 2 4 v.toNat)

/-- CMP_ENABLE (R372). A CTRL write with EN = 1 judges the stored value and arms the channel. -/
def execCmpEnable (p : HostPath) (k : Fin 16) (s : State) : Out := done s (hostPut s p (0x2810 + k.1) 1 1 1)

/-- CMP_DISABLE (R372). A CTRL write with EN = 0 disarms the channel at once. -/
def execCmpDisable (p : HostPath) (k : Fin 16) (s : State) : Out := done s (hostPut s p (0x2810 + k.1) 1 1 0)

/-- CAPTURE_READ (R378). A completed read of a capture VALUE clears FULL. -/
def execCaptureRead (p : HostPath) (k : Fin 8) (s : State) : Out := done s (hostRead s p (0x2820 + k.1) 4)

/-- CAP_CTRL_WRITE (R377). A capture CTRL write sets the edge and arms a one-shot channel. -/
def execCapCtrlWrite (p : HostPath) (k : Fin 8) (v : Byte) (s : State) : Out :=
  done s (hostPut s p (0x2820 + k.1) 1 1 v.toNat)

/-- WD_ENABLE (R383). A write of EN = 1 starts a first watchdog period. -/
def execWdEnable (p : HostPath) (s : State) : Out := done s (hostPut s p 0x2600 1 1 1)

/-- WD_DISABLE (R383). A write of EN = 0 in SAFESTOP stops the watchdog. -/
def execWdDisable (p : HostPath) (s : State) : Out := done s (hostPut s p 0x2600 1 1 0)

/-- WD_FIRST_KEY (R385). A write of 0x3CA5 to KEY arms the first key for its path. -/
def execWdFirstKey (p : HostPath) (s : State) : Out := done s (hostPut s p 0x2600 5 2 0x3CA5)

/-- WD_SECOND_KEY (R385). A write of 0xC35A to KEY is judged as a service, an early service or a refusal. -/
def execWdSecondKey (p : HostPath) (s : State) : Out := done s (hostPut s p 0x2600 5 2 0xC35A)

/-- WD_CHECKIN (R384). A CHECKIN write sets task bits in CHECKED and counts duplicates. -/
def execWdCheckin (p : HostPath) (v : Byte) (s : State) : Out := done s (hostPut s p 0x2600 7 1 v.toNat)

/-- PEND_WRITE (R388). A PEND write replaces all 64 pending bits in one clock. -/
def execPendWrite (p : HostPath) (v : U64) (s : State) : Out := done s (hostPut s p 0x2A00 2 8 v.toNat)

/-- SOURCE_PEND_WRITE (R388). A write of 0x2A40+s.02 sets or clears one source's pending bit. -/
def execSourcePendWrite (p : HostPath) (src : Fin 64) (v : Byte) (s : State) : Out :=
  done s (hostPut s p (0x2A40 + src.1) 2 1 v.toNat)

/-- GDIS_WRITE (R392). A GDIS write holds off or resumes delivery to a target. -/
def execGdisWrite (p : HostPath) (v : Byte) (s : State) : Out := done s (hostPut s p 0x2A00 6 1 v.toNat)

/-- INT_ENABLE_WRITE (R392). A write of EN_A, EN_B or EN_S acts on delivery 30 ns after acceptance. -/
def execIntEnableWrite (p : HostPath) (m : EnMask) (v : U64) (s : State) : Out :=
  done s (hostPut s p 0x2A00 (enSub m) 8 v.toNat)

/-- STORE_CMD (R402). A write of 0x5354 to STORE_CMD requests a keep-store store. -/
def execStoreCmd (p : HostPath) (v : U16) (s : State) : Out := done s (hostPut s p 0x2B00 5 2 v.toNat)

/-- KS_DATA_WRITE (R399). A CAN write of KS_DATA commits its bytes to the user area through the pail. -/
def execKsDataWrite (p : HostPath) (bytes : List Byte) (s : State) : Out := done s (hostWrite s p [(0x2B00, 3, bytes)])

/-- CFG_BUILD (R411). CFG_CMD 1 builds an image from the pending copies. -/
def execCfgBuild (p : HostPath) (s : State) : Out := done s (hostPut s p 0x2B00 0x23 1 1)

/-- CFG_COMMIT (R411). CFG_CMD 2 checks the version and signature, writes the image record and runs a store. -/
def execCfgCommit (p : HostPath) (s : State) : Out := done s (hostPut s p 0x2B00 0x23 1 2)

/-- CFG_INSTALL (R413). CFG_CMD 3 checks the written image and handles it as a commit. -/
def execCfgInstall (p : HostPath) (s : State) : Out := done s (hostPut s p 0x2B00 0x23 1 3)

/-- CFG_CANCEL (R411). CFG_CMD 4 clears the work buffer and CFG_SIG. -/
def execCfgCancel (p : HostPath) (s : State) : Out := done s (hostPut s p 0x2B00 0x23 1 4)

/-- CFG_IMAGE_WRITE (R413). A write of CFG_IMAGE replaces the work buffer and sets CFG_STAT to 2. -/
def execCfgImageWrite (p : HostPath) (bytes : List Byte) (s : State) : Out := done s (hostWrite s p [(0x2B00, 0x27, bytes)])

/-- ID_CHALLENGE (R416). A write to CHALLENGE starts a signature with the device key. -/
def execIdChallenge (p : HostPath) (bytes : List Byte) (s : State) : Out := done s (hostWrite s p [(0x2C00, 5, bytes)])

/-- ID_EXPORT (R416). A write to EXPORT_NONCE builds and signs a log export. -/
def execIdExport (p : HostPath) (bytes : List Byte) (s : State) : Out := done s (hostWrite s p [(0x2C00, 0x0A, bytes)])

/-- CFG_KEY_ENROL (R417). A write of CFG_KEY while KEY_GEN is 0 enrols the configuration-signing key. -/
def execCfgKeyEnrol (p : HostPath) (bytes : List Byte) (s : State) : Out := done s (hostWrite s p [(0x2C00, 0x0C, bytes)])

/-- KEY_NEW_WRITE (R417). A write of KEY_NEW holds a replacement key. -/
def execKeyNewWrite (p : HostPath) (bytes : List Byte) (s : State) : Out := done s (hostWrite s p [(0x2C00, 0x0D, bytes)])

/-- KEY_NEW_SIG_WRITE (R417). A write of KEY_NEW_SIG verifies and installs the replacement key. -/
def execKeyNewSigWrite (p : HostPath) (bytes : List Byte) (s : State) : Out := done s (hostWrite s p [(0x2C00, 0x0E, bytes)])

/-- ADC_ENABLE (R421). A write of EN = 1 powers the converter and restarts reference settling. -/
def execAdcEnable (p : HostPath) (s : State) : Out := done s (hostPut s p 0x2900 1 1 (withBit (s.reg 0x2900 1) 0))

/-- ADC_DISABLE (R426). A write of EN = 0 abandons the scan in progress. -/
def execAdcDisable (p : HostPath) (s : State) : Out := done s (hostPut s p 0x2900 1 1 (withoutBit (s.reg 0x2900 1) 0))

/-- REF_SEL_WRITE (R421). A REF_SEL write chooses the reference and clears REF_RDY. -/
def execRefSelWrite (p : HostPath) (v : Byte) (s : State) : Out := done s (hostPut s p 0x2900 2 1 v.toNat)

/-- ADC_SCAN_START (R425). A write of 1 to SCAN_START starts a scan. -/
def execAdcScanStart (p : HostPath) (s : State) : Out := done s (hostPut s p 0x2900 4 1 1)

/-- ADC_SAMPLE_READ (R429). A completed read of SAMPLE returns FRESH and clears it for the reading path. -/
def execAdcSampleRead (p : HostPath) (c : Fin 48) (s : State) : Out := done s (hostRead s p (0x2940 + c.1) 1)

end Sys2Proof.Machine
end

