-- ==== Sys2Proof/Machine/Dispatch.lean ====
section
/-! DEFINITION. The dispatch: one arm per row of the table, in its order, each one direct call of the row's meaning. -/

namespace Sys2Proof.Machine
open Sys2Proof

def exec (i : Instr) (s : State) : Host.Outcome State Fault Refusal :=
  match i with
  | .vsysPowerOnReset => Sys2Proof.Machine.execVsysPowerOnReset s
  | .aonPowerLoss => Sys2Proof.Machine.execAonPowerLoss s
  | .coreEnable => Sys2Proof.Machine.execCoreEnable s
  | .corePowerGood => Sys2Proof.Machine.execCorePowerGood s
  | .corePowerGoodTimeout vcoreOk => Sys2Proof.Machine.execCorePowerGoodTimeout vcoreOk s
  | .crystalValid => Sys2Proof.Machine.execCrystalValid s
  | .crystalStartFallback => Sys2Proof.Machine.execCrystalStartFallback s
  | .pllLock => Sys2Proof.Machine.execPllLock s
  | .coreResetRelease strap selfTestFailed => Sys2Proof.Machine.execCoreResetRelease strap selfTestFailed s
  | .configApply => Sys2Proof.Machine.execConfigApply s
  | .powerFail => Sys2Proof.Machine.execPowerFail s
  | .brownOut => Sys2Proof.Machine.execBrownOut s
  | .brownOutRecovery => Sys2Proof.Machine.execBrownOutRecovery s
  | .nrstAssert => Sys2Proof.Machine.execNrstAssert s
  | .nrstRelease => Sys2Proof.Machine.execNrstRelease s
  | .coreReset p v => Sys2Proof.Machine.execCoreReset p v s
  | .vioUndervoltage => Sys2Proof.Machine.execVioUndervoltage s
  | .vcc5Undervoltage => Sys2Proof.Machine.execVcc5Undervoltage s
  | .coreRegulatorFail => Sys2Proof.Machine.execCoreRegulatorFail s
  | .crystalLoss => Sys2Proof.Machine.execCrystalLoss s
  | .coreClockRestart => Sys2Proof.Machine.execCoreClockRestart s
  | .clockLossTrip => Sys2Proof.Machine.execClockLossTrip s
  | .dllUnlock => Sys2Proof.Machine.execDllUnlock s
  | .dllRelock => Sys2Proof.Machine.execDllRelock s
  | .vdrvUndervoltage g => Sys2Proof.Machine.execVdrvUndervoltage g s
  | .vdrvReady g => Sys2Proof.Machine.execVdrvReady g s
  | .vinPresent => Sys2Proof.Machine.execVinPresent s
  | .vinAbsent => Sys2Proof.Machine.execVinAbsent s
  | .estopAssert => Sys2Proof.Machine.execEstopAssert s
  | .estopRelease => Sys2Proof.Machine.execEstopRelease s
  | .dieComparatorTrip d => Sys2Proof.Machine.execDieComparatorTrip d s
  | .modeReqShip p => Sys2Proof.Machine.execModeReqShip p s
  | .shipCoreOff => Sys2Proof.Machine.execShipCoreOff s
  | .shipAonHold => Sys2Proof.Machine.execShipAonHold s
  | .shipPbWakeArm => Sys2Proof.Machine.execShipPbWakeArm s
  | .shipExit byVin => Sys2Proof.Machine.execShipExit byVin s
  | .modeReqStandby p => Sys2Proof.Machine.execModeReqStandby p s
  | .standbyCoreOff => Sys2Proof.Machine.execStandbyCoreOff s
  | .latchedWake => Sys2Proof.Machine.execLatchedWake s
  | .modeReqRun p => Sys2Proof.Machine.execModeReqRun p s
  | .modeReqSafestop p => Sys2Proof.Machine.execModeReqSafestop p s
  | .modeReqService p => Sys2Proof.Machine.execModeReqService p s
  | .vinQualified => Sys2Proof.Machine.execVinQualified s
  | .holdupTimeExpired => Sys2Proof.Machine.execHoldupTimeExpired s
  | .holdupLowBattery => Sys2Proof.Machine.execHoldupLowBattery s
  | .huTimedExpired r => Sys2Proof.Machine.execHuTimedExpired r s
  | .huVoffTurnoff r => Sys2Proof.Machine.execHuVoffTurnoff r s
  | .huTimeWrite p v => Sys2Proof.Machine.execHuTimeWrite p v s
  | .reqStatClear p mask => Sys2Proof.Machine.execReqStatClear p mask s
  | .svcChallengeRead p => Sys2Proof.Machine.execSvcChallengeRead p s
  | .svcAuthWrite p sig => Sys2Proof.Machine.execSvcAuthWrite p sig s
  | .svcVerifyDone => Sys2Proof.Machine.execSvcVerifyDone s
  | .svcAuthExpire => Sys2Proof.Machine.execSvcAuthExpire s
  | .svcPortWrite p v => Sys2Proof.Machine.execSvcPortWrite p v s
  | .svcIdleTimeout => Sys2Proof.Machine.execSvcIdleTimeout s
  | .svckeyAssert => Sys2Proof.Machine.execSvckeyAssert s
  | .svckeyRelease => Sys2Proof.Machine.execSvckeyRelease s
  | .personalityWrite p n v => Sys2Proof.Machine.execPersonalityWrite p n v s
  | .periodStart n bstBelow duty => Sys2Proof.Machine.execPeriodStart n bstBelow duty s
  | .pulseCompareFire n e => Sys2Proof.Machine.execPulseCompareFire n e s
  | .comparatorTrip n clocksSinceOn filtered => Sys2Proof.Machine.execComparatorTrip n clocksSinceOn filtered s
  | .gateInterlockTimeout n => Sys2Proof.Machine.execGateInterlockTimeout n s
  | .prechargeDone n => Sys2Proof.Machine.execPrechargeDone n s
  | .prechargeTimeout n => Sys2Proof.Machine.execPrechargeTimeout n s
  | .senseWord n raw flip1 flip2 => Sys2Proof.Machine.execSenseWord n raw flip1 flip2 s
  | .tripFlagsClear p n mask => Sys2Proof.Machine.execTripFlagsClear p n mask s
  | .lswFullyEnhanced n => Sys2Proof.Machine.execLswFullyEnhanced n s
  | .lswRampTimeout n => Sys2Proof.Machine.execLswRampTimeout n s
  | .lswOverload n => Sys2Proof.Machine.execLswOverload n s
  | .coilPullDone n => Sys2Proof.Machine.execCoilPullDone n s
  | .coilRiseTimeout n => Sys2Proof.Machine.execCoilRiseTimeout n s
  | .coilHoldOpen n => Sys2Proof.Machine.execCoilHoldOpen n s
  | .coilReleaseTimeout n => Sys2Proof.Machine.execCoilReleaseTimeout n s
  | .fanStall n => Sys2Proof.Machine.execFanStall n s
  | .fanOpen n => Sys2Proof.Machine.execFanOpen n s
  | .fanTachWrite p n v => Sys2Proof.Machine.execFanTachWrite p n v s
  | .voltageWord k raw flip1 flip2 => Sys2Proof.Machine.execVoltageWord k raw flip1 flip2 s
  | .laneDead c => Sys2Proof.Machine.execLaneDead c s
  | .frameStart e events => Sys2Proof.Machine.execFrameStart e events s
  | .frameEnd e => Sys2Proof.Machine.execFrameEnd e s
  | .spareTakeover => Sys2Proof.Machine.execSpareTakeover s
  | .portMaskWrite p r v => Sys2Proof.Machine.execPortMaskWrite p r v s
  | .railEnable p r => Sys2Proof.Machine.execRailEnable p r s
  | .railDisable p r => Sys2Proof.Machine.execRailDisable p r s
  | .writeTransfer idx => Sys2Proof.Machine.execWriteTransfer idx s
  | .softStartTimeout r => Sys2Proof.Machine.execSoftStartTimeout r s
  | .truncationCross r rising => Sys2Proof.Machine.execTruncationCross r rising s
  | .railFlagsClear p r mask => Sys2Proof.Machine.execRailFlagsClear p r mask s
  | .ledgerSnap p n => Sys2Proof.Machine.execLedgerSnap p n s
  | .ledgerClear p n v => Sys2Proof.Machine.execLedgerClear p n v s
  | .mrSlotStart => Sys2Proof.Machine.execMrSlotStart s
  | .correctionIncrement c => Sys2Proof.Machine.execCorrectionIncrement c s
  | .stolenSample k raw => Sys2Proof.Machine.execStolenSample k raw s
  | .trimUpdate => Sys2Proof.Machine.execTrimUpdate s
  | .aonTrimUpdate => Sys2Proof.Machine.execAonTrimUpdate s
  | .roundEnable p => Sys2Proof.Machine.execRoundEnable p s
  | .roundDisable p => Sys2Proof.Machine.execRoundDisable p s
  | .stealEnable p => Sys2Proof.Machine.execStealEnable p s
  | .stealDisable p => Sys2Proof.Machine.execStealDisable p s
  | .seqStepStart => Sys2Proof.Machine.execSeqStepStart s
  | .stepComplete => Sys2Proof.Machine.execStepComplete s
  | .stepTimeout => Sys2Proof.Machine.execStepTimeout s
  | .fallTimeout r => Sys2Proof.Machine.execFallTimeout r s
  | .partialRunQueuedStart => Sys2Proof.Machine.execPartialRunQueuedStart s
  | .seqCmdRetry p => Sys2Proof.Machine.execSeqCmdRetry p s
  | .seqCmdSkip p => Sys2Proof.Machine.execSeqCmdSkip p s
  | .seqCmdAbort p => Sys2Proof.Machine.execSeqCmdAbort p s
  | .hiccupRetry r => Sys2Proof.Machine.execHiccupRetry r s
  | .hicClearExpire r => Sys2Proof.Machine.execHicClearExpire r s
  | .supFlagsClear p r mask => Sys2Proof.Machine.execSupFlagsClear p r mask s
  | .cntClear p r v => Sys2Proof.Machine.execCntClear p r v s
  | .pbShortPress => Sys2Proof.Machine.execPbShortPress s
  | .pbLongPress => Sys2Proof.Machine.execPbLongPress s
  | .pbIgnored => Sys2Proof.Machine.execPbIgnored s
  | .mrPress => Sys2Proof.Machine.execMrPress s
  | .rstoutPulseEnd => Sys2Proof.Machine.execRstoutPulseEnd s
  | .doorOpen => Sys2Proof.Machine.execDoorOpen s
  | .doorClose => Sys2Proof.Machine.execDoorClose s
  | .seqinChange k high => Sys2Proof.Machine.execSeqinChange k high s
  | .herdSyncFrame bytes => Sys2Proof.Machine.execHerdSyncFrame bytes s
  | .herdStepFrame bytes => Sys2Proof.Machine.execHerdStepFrame bytes s
  | .herdEventFrame bytes => Sys2Proof.Machine.execHerdEventFrame bytes s
  | .herdPollFrame bytes => Sys2Proof.Machine.execHerdPollFrame bytes s
  | .herdModeFrame bytes => Sys2Proof.Machine.execHerdModeFrame bytes s
  | .herdStatusFrame bytes => Sys2Proof.Machine.execHerdStatusFrame bytes s
  | .herdSyncSend => Sys2Proof.Machine.execHerdSyncSend s
  | .herdPollSend => Sys2Proof.Machine.execHerdPollSend s
  | .herdMasterLost => Sys2Proof.Machine.execHerdMasterLost s
  | .herdCollision => Sys2Proof.Machine.execHerdCollision s
  | .eventSignal p v => Sys2Proof.Machine.execEventSignal p v s
  | .chgEnable p => Sys2Proof.Machine.execChgEnable p s
  | .chgDisable p => Sys2Proof.Machine.execChgDisable p s
  | .searchEnable p => Sys2Proof.Machine.execSearchEnable p s
  | .searchDisable p => Sys2Proof.Machine.execSearchDisable p s
  | .searchStep vinMv iinMa => Sys2Proof.Machine.execSearchStep vinMv iinMa s
  | .periodicSearch => Sys2Proof.Machine.execPeriodicSearch s
  | .chgCmdSearch p => Sys2Proof.Machine.execChgCmdSearch p s
  | .chgCmdClearFault p => Sys2Proof.Machine.execChgCmdClearFault p s
  | .sagGuard vinMv => Sys2Proof.Machine.execSagGuard vinMv s
  | .vinLowSet => Sys2Proof.Machine.execVinLowSet s
  | .vinLowClear => Sys2Proof.Machine.execVinLowClear s
  | .chgPrechargeDone => Sys2Proof.Machine.execChgPrechargeDone s
  | .chgCvEntry => Sys2Proof.Machine.execChgCvEntry s
  | .chgTerminate => Sys2Proof.Machine.execChgTerminate s
  | .chgRecharge => Sys2Proof.Machine.execChgRecharge s
  | .batteryOvervoltage => Sys2Proof.Machine.execBatteryOvervoltage s
  | .prechargeTimerExpire => Sys2Proof.Machine.execPrechargeTimerExpire s
  | .safetyTimerTick limInput limThermal => Sys2Proof.Machine.execSafetyTimerTick limInput limThermal s
  | .safetyTimerExpire limInput limThermal => Sys2Proof.Machine.execSafetyTimerExpire limInput limThermal s
  | .battRemovalJump => Sys2Proof.Machine.execBattRemovalJump s
  | .battProbe dropMv sensorValid => Sys2Proof.Machine.execBattProbe dropMv sensorValid s
  | .chgKick p v => Sys2Proof.Machine.execChgKick p v s
  | .chgWdExpire => Sys2Proof.Machine.execChgWdExpire s
  | .tsConversion k m => Sys2Proof.Machine.execTsConversion k m s
  | .tsScanEnd => Sys2Proof.Machine.execTsScanEnd s
  | .stopTimeout => Sys2Proof.Machine.execStopTimeout s
  | .dieConversion t0 t1 t2 t3 => Sys2Proof.Machine.execDieConversion t0 t1 t2 t3 s
  | .recoveryWindowClose => Sys2Proof.Machine.execRecoveryWindowClose s
  | .thrEnWrite p k v => Sys2Proof.Machine.execThrEnWrite p k v s
  | .faultReport code unit detail => Sys2Proof.Machine.execFaultReport code unit detail s
  | .faultAck p v => Sys2Proof.Machine.execFaultAck p v s
  | .unfence p v => Sys2Proof.Machine.execUnfence p v s
  | .collectorParity => Sys2Proof.Machine.execCollectorParity s
  | .sdoExpeditedRead l usdo valid idx sub => Sys2Proof.Machine.execSdoExpeditedRead l usdo valid idx sub s
  | .sdoExpeditedWrite l usdo valid idx sub data => Sys2Proof.Machine.execSdoExpeditedWrite l usdo valid idx sub data s
  | .sdoInitiate l usdo valid download idx sub => Sys2Proof.Machine.execSdoInitiate l usdo valid download idx sub s
  | .sdoSegment l toggle last data => Sys2Proof.Machine.execSdoSegment l toggle last data s
  | .sdoClientAbort l => Sys2Proof.Machine.execSdoClientAbort l s
  | .sdoTimeout l => Sys2Proof.Machine.execSdoTimeout l s
  | .dictWrite p idx sub data => Sys2Proof.Machine.execDictWrite p idx sub data s
  | .fenceWrite p v => Sys2Proof.Machine.execFenceWrite p v s
  | .fenceComplete p => Sys2Proof.Machine.execFenceComplete p s
  | .tagWrite p v => Sys2Proof.Machine.execTagWrite p v s
  | .groupRelease g => Sys2Proof.Machine.execGroupRelease g s
  | .releaseWrite p g => Sys2Proof.Machine.execReleaseWrite p g s
  | .discardWrite p g => Sys2Proof.Machine.execDiscardWrite p g s
  | .nmtStart l node => Sys2Proof.Machine.execNmtStart l node s
  | .nmtStop l node => Sys2Proof.Machine.execNmtStop l node s
  | .nmtEnterPreop l node => Sys2Proof.Machine.execNmtEnterPreop l node s
  | .nmtResetNode l node => Sys2Proof.Machine.execNmtResetNode l node s
  | .nmtResetComm l node => Sys2Proof.Machine.execNmtResetComm l node s
  | .syncReceived l => Sys2Proof.Machine.execSyncReceived l s
  | .rpdoReceived l n data => Sys2Proof.Machine.execRpdoReceived l n data s
  | .tpdoEventCheck => Sys2Proof.Machine.execTpdoEventCheck s
  | .tpdoEventTimer n => Sys2Proof.Machine.execTpdoEventTimer n s
  | .emcySend l => Sys2Proof.Machine.execEmcySend l s
  | .heartbeatSend => Sys2Proof.Machine.execHeartbeatSend s
  | .heartbeatReceived l node => Sys2Proof.Machine.execHeartbeatReceived l node s
  | .heartbeatTimeout k => Sys2Proof.Machine.execHeartbeatTimeout k s
  | .busOff l => Sys2Proof.Machine.execBusOff l s
  | .busOffRecovery l => Sys2Proof.Machine.execBusOffRecovery l s
  | .twAddressMatch addr read => Sys2Proof.Machine.execTwAddressMatch addr read s
  | .twSlotWaitExpire addr => Sys2Proof.Machine.execTwSlotWaitExpire addr s
  | .twStop bytes nRead => Sys2Proof.Machine.execTwStop bytes nRead s
  | .twRepeatedStart bytes nRead addr read => Sys2Proof.Machine.execTwRepeatedStart bytes nRead addr read s
  | .mailboxRead c => Sys2Proof.Machine.execMailboxRead c s
  | .mailboxWrite c => Sys2Proof.Machine.execMailboxWrite c s
  | .twTimeout bytes nRead => Sys2Proof.Machine.execTwTimeout bytes nRead s
  | .twBusRecovery bytes nRead => Sys2Proof.Machine.execTwBusRecovery bytes nRead s
  | .attnRequest => Sys2Proof.Machine.execAttnRequest s
  | .twAddrUpdate => Sys2Proof.Machine.execTwAddrUpdate s
  | .timebaseWrap => Sys2Proof.Machine.execTimebaseWrap s
  | .cmpValueWrite p k v => Sys2Proof.Machine.execCmpValueWrite p k v s
  | .cmpEnable p k => Sys2Proof.Machine.execCmpEnable p k s
  | .cmpDisable p k => Sys2Proof.Machine.execCmpDisable p k s
  | .cmpFire k => Sys2Proof.Machine.execCmpFire k s
  | .captureEdge k edge => Sys2Proof.Machine.execCaptureEdge k edge s
  | .captureRead p k => Sys2Proof.Machine.execCaptureRead p k s
  | .capCtrlWrite p k v => Sys2Proof.Machine.execCapCtrlWrite p k v s
  | .wdEnable p => Sys2Proof.Machine.execWdEnable p s
  | .wdDisable p => Sys2Proof.Machine.execWdDisable p s
  | .wdFirstKey p => Sys2Proof.Machine.execWdFirstKey p s
  | .wdSecondKey p => Sys2Proof.Machine.execWdSecondKey p s
  | .wdCheckin p v => Sys2Proof.Machine.execWdCheckin p v s
  | .wdTimeout => Sys2Proof.Machine.execWdTimeout s
  | .sqeHandlerStart => Sys2Proof.Machine.execSqeHandlerStart s
  | .pendWrite p v => Sys2Proof.Machine.execPendWrite p v s
  | .sourcePendWrite p src v => Sys2Proof.Machine.execSourcePendWrite p src v s
  | .gdisWrite p v => Sys2Proof.Machine.execGdisWrite p v s
  | .intEnableWrite p m v => Sys2Proof.Machine.execIntEnableWrite p m v s
  | .storeCmd p v => Sys2Proof.Machine.execStoreCmd p v s
  | .storeIntervalExpire => Sys2Proof.Machine.execStoreIntervalExpire s
  | .storeEnd => Sys2Proof.Machine.execStoreEnd s
  | .storeQueuedStart => Sys2Proof.Machine.execStoreQueuedStart s
  | .storeVstoreWaitExpire => Sys2Proof.Machine.execStoreVstoreWaitExpire s
  | .ksDataWrite p bytes => Sys2Proof.Machine.execKsDataWrite p bytes s
  | .cfgBuild p => Sys2Proof.Machine.execCfgBuild p s
  | .cfgBuildDone => Sys2Proof.Machine.execCfgBuildDone s
  | .cfgCommit p => Sys2Proof.Machine.execCfgCommit p s
  | .cfgVerifyDone => Sys2Proof.Machine.execCfgVerifyDone s
  | .cfgInstall p => Sys2Proof.Machine.execCfgInstall p s
  | .cfgCancel p => Sys2Proof.Machine.execCfgCancel p s
  | .cfgImageWrite p bytes => Sys2Proof.Machine.execCfgImageWrite p bytes s
  | .idChallenge p bytes => Sys2Proof.Machine.execIdChallenge p bytes s
  | .idExport p bytes => Sys2Proof.Machine.execIdExport p bytes s
  | .idSignDone => Sys2Proof.Machine.execIdSignDone s
  | .cfgKeyEnrol p bytes => Sys2Proof.Machine.execCfgKeyEnrol p bytes s
  | .keyNewWrite p bytes => Sys2Proof.Machine.execKeyNewWrite p bytes s
  | .keyNewSigWrite p bytes => Sys2Proof.Machine.execKeyNewSigWrite p bytes s
  | .adcEnable p => Sys2Proof.Machine.execAdcEnable p s
  | .adcDisable p => Sys2Proof.Machine.execAdcDisable p s
  | .refSelWrite p v => Sys2Proof.Machine.execRefSelWrite p v s
  | .adcRefReady => Sys2Proof.Machine.execAdcRefReady s
  | .adcScanStart p => Sys2Proof.Machine.execAdcScanStart p s
  | .adcConversionEnd channelNv refNv => Sys2Proof.Machine.execAdcConversionEnd channelNv refNv s
  | .adcSampleRead p c => Sys2Proof.Machine.execAdcSampleRead p c s
  | .vsysRecovery => Sys2Proof.Machine.execVsysRecovery s
  | .vioRecovery => Sys2Proof.Machine.execVioRecovery s
  | .vcc5Recovery => Sys2Proof.Machine.execVcc5Recovery s
  | .dieComparatorRelease d => Sys2Proof.Machine.execDieComparatorRelease d s
  | .fanRpmTimeout n => Sys2Proof.Machine.execFanRpmTimeout n s
  | .errorPassiveChange l txErr rxErr => Sys2Proof.Machine.execErrorPassiveChange l txErr rxErr s
  | .vstoreOkReached => Sys2Proof.Machine.execVstoreOkReached s

end Sys2Proof.Machine
end

