-- ==== Sys2Proof/Machine/Step.lean ====
section
/-! DEFINITION. One step: the command at the front of the queue, or a tick of the AON clock when none waits (log entry 8). -/

namespace Sys2Proof.Machine
open Sys2Proof

/-- The command at the front of the queue runs with the queue's rest; with an empty queue one AON tick passes.
(DESIGN CHOICE, log entry 8; DESIGN CHOICE, log entry 85). -/
def step (s : State) : Host.Outcome State Fault Refusal :=
  match s.pending with
  | [] => execTick s
  | c :: rest => exec c { s with pending := rest }

/-- `s` with the command that a word spells put at the front of its queue; unchanged where the word spells none. -/
def State.withFetchWord (s : State) (nbits w : Nat) : State :=
  match decodeTableWord nbits w with
  | none => s
  | some c => { s with pending := c :: s.pending }

end Sys2Proof.Machine
end

