-- ==== Sys2Proof/Machine/Outputs.lean ====
section
/-! DEFINITION. What the device's output balls show, from the state (R3, R37, R38, R66, R77, R79, R84; Table 1-5, Table 3-4).
The gates, the reset lines and the alerts are beside them in Machine/ModeOps.lean. -/

namespace Sys2Proof.Machine
open Sys2Proof

/-- What an output ball does. -/
inductive Level where
  | hiZ | low | high
  deriving DecidableEq, Repr

/-- What a CAN transmit output does: nothing, recessive, classical frames at 125 kbit/s or at the nominal rate, or all frames. -/
inductive CanTx where
  | hiZ | recessive | slow | classical | full
  deriving DecidableEq, Repr

/-- What SDA does: nothing, acknowledge an address (SCL is then stretched), or serve transactions. -/
inductive SdaUse where
  | hiZ | address | full
  deriving DecidableEq, Repr

/-- SAFEA: push-pull, high for "OK"; not driven without power, low in reset and while VIO is absent (R37, R38, R45). -/
def State.safeA (s : State) : Level :=
  if s.pwr.step = .unpowered then .hiZ else if s.safeOk && s.pwr.vio then .high else .low

/-- SAFEB: open drain, low for "OK" (R37, R38). -/
def State.safeB (s : State) : Level := if s.safeOk then .low else .hiZ

/-- RSTOUTA: asserted is low; NRST low asserts it, no power and SHIP release it (Table 1-5, Table 3-4). -/
def State.rstoutALevel (s : State) : Level :=
  if s.pwr.step = .nrstLow then .low else if s.rstoutA then .low else .hiZ

/-- RSTOUTB, as RSTOUTA. -/
def State.rstoutBLevel (s : State) : Level :=
  if s.pwr.step = .nrstLow then .low else if s.rstoutB then .low else .hiZ

/-- ALERTA: open drain, asserted low. -/
def State.alertALevel (s : State) : Level := if s.alertA then .low else .hiZ

/-- ALERTB: open drain, asserted low. -/
def State.alertBLevel (s : State) : Level := if s.alertB then .low else .hiZ

/-- The link's transmit ball: absent with its unit and without power or in SHIP, recessive in reset and in the crystal gap, else as
the mode and the core domain have it (Table 1-5, Table 2-3, Table 3-4, R66, R76, R79). -/
def State.canTx (s : State) (l : Link) : CanTx :=
  let k := s.can.links[linkIx l]
  if l = .b ∧ s.variant ≠ .hj32 then .hiZ
  else
    match s.pwr.step with
    | .unpowered | .shipHold => .hiZ
    | .nrstLow => .recessive
    | _ =>
      if s.md.mode = .ship then .hiZ
      else if s.pwr.gated || !k.enabled then .recessive
      else if s.coreOn then (if !s.isOpen then .recessive else if s.md.mode = .standby then .slow else .full)
      else if !k.lowRate then .recessive
      else if s.md.mode = .standby ∨ k.rate = 0 then .slow
      else .classical

/-- SDA (Table 3-4): high impedance without power, in reset, in SHIP and after loss of the core regulator; in STANDBY an address
alone, also while its entry still runs, and in SAFESTOP after a trip in that entry. (DEDUCED, log entry 36). -/
def State.sda (s : State) : SdaUse :=
  if !s.aonUp || s.md.mode == .ship || s.pwr.regFailed then .hiZ
  else if s.isOpen && !s.fallingAsleep then .full
  else .address

/-- SCL held low while an address waits for the end of step 8 (R77). -/
def State.sclHeld (s : State) : Bool := s.aonUp && s.tw.wakeAddr.isSome

/-- HBC is driven by the master alone, push-pull, while the herd bus runs: with it enabled and the core domain on, outside SHIP, STANDBY
and SERVICE (Table 3-4, Table 17-4). -/
def State.hbcDriven (s : State) : Bool := s.herdRuns && s.herdRole == 1

/-- HBD, open drain, serves a master's and a follower's frames. -/
def State.hbdDriven (s : State) : Bool := s.herdRuns && (s.herdRole == 1 || s.herdRole == 2)

/-! ## Gates: driven or held low by the passive pull-down (Table 17-4) -/

/-- What a gate output shows. -/
inductive GateLevel where
  | passive | low | high
  deriving DecidableEq, Repr

/-- The gate drivers are off and the passive pull-downs hold the gates: without power and in SHIP. -/
def State.gatesPassive (s : State) : Bool := s.pwr.step == .unpowered || s.md.mode == .ship

/-- A gate output that the pulse generator wants on or off. -/
def State.gateLevel (s : State) (on : Bool) : GateLevel := if s.gatesPassive then .passive else if on then .high else .low

/-- GHn. -/
def State.ghLevel (s : State) (n : Fin 32) : GateLevel := s.gateLevel (s.ghOn n)

/-- GLn. -/
def State.glLevel (s : State) (n : Fin 32) : GateLevel := s.gateLevel (s.glOn n)

/-- CGH. -/
def State.cghLevel (s : State) : GateLevel := s.gateLevel s.cgh

/-- CGL. -/
def State.cglLevel (s : State) : GateLevel := s.gateLevel s.cgl

/-! ## Inputs: their pulls (Table 17-4, R439), and the open-wire currents (R427) -/

/-- Digital inputs with a pull. -/
inductive InBall where
  | nrst | pb | mr | svckey | door | estop | addr | tck | tms | tdi | testen
  deriving DecidableEq, Repr

/-- A pull of an input. -/
inductive Pull where
  | none | up | down
  deriving DecidableEq, Repr

/-- The pull on an input. Those of ADDR are on in the window that ends step 7. (DESIGN CHOICE, log entry 116). -/
def State.pull (s : State) (b : InBall) : Pull :=
  if s.pwr.step = .unpowered then .none
  else match b with
    | .nrst | .pb | .tms | .tdi => .up
    | .tck | .testen => .down
    | .mr | .svckey | .door => if s.md.mode = .ship then .none else .up
    | .estop => if s.md.mode = .ship then .none else .down
    | .addr => if s.pwr.step = .locked then .down else .none

/-- The current that the device makes in an AIN ball. -/
inductive OwCurrent where
  | off | source | sink
  deriving DecidableEq, Repr

/-- The 10 µA on AINc: from the OW_SETTLE of its conversion to the end of its acquisition, as OW_UP and OW_DOWN stood when it began, and
none in SHIP (Table 17-4). (DESIGN CHOICE, log entry 73). -/
def State.owCurrent (s : State) (c : Fin 32) : OwCurrent :=
  if s.coreOn = true ∧ s.md.mode ≠ .ship ∧ s.adc.owOn = true ∧ s.adc.left.head? = some c.1 ∧ s.adc.owFrom ≤ s.now64
      ∧ s.now64 < s.adc.owTo then (if s.adc.owUp then .source else .sink)
  else .off

/-- What the thermal converter drives into a TS pin: nothing, a diode's emitter currents, or an NTC's open-wire tests. -/
inductive TsDrive where
  | off | diode | openWire
  deriving DecidableEq, Repr

/-- The bias of TSi in its slot of the scan, by its MODE, and at no other time; off in SHIP and with the core domain off (R275, R276, R278,
Table 17-4). The pin's slot runs until its TS_CONVERSION comes. -/
def State.tsDrive (s : State) (i : Fin 16) : TsDrive :=
  if s.ready = true ∧ s.md.mode ≠ .ship ∧ s.policy ≠ 0 ∧ s.slotOf i = true then
    (match s.tsSet i 1 with
    | 1 => .diode
    | 2 => .openWire
    | _ => .off)
  else .off

end Sys2Proof.Machine
end

