-- ==== Sys2Proof/Machine/TestPort.lean ====
section
/-! DEFINITION. The test port of R438: the IEEE 1149.1 controller on TCK, TMS, TDI and TDO with its observe-only cells and the cells of
the other balls whose levels State holds. No row of the table clocks it, so no command calls `clockTap`; it says what an edge of TCK would
do. (DESIGN CHOICE, log entry 91). -/

namespace Sys2Proof.Machine
open Sys2Proof

/-- The controller's next state for TMS 0 and for TMS 1. -/
def TapState.next (t : TapState) (tms : Bool) : TapState :=
  match t with
  | .testLogicReset => if tms then .testLogicReset else .runTestIdle
  | .runTestIdle => if tms then .selectDr else .runTestIdle
  | .selectDr => if tms then .selectIr else .captureDr
  | .captureDr => if tms then .exit1Dr else .shiftDr
  | .shiftDr => if tms then .exit1Dr else .shiftDr
  | .exit1Dr => if tms then .updateDr else .pauseDr
  | .pauseDr => if tms then .exit2Dr else .pauseDr
  | .exit2Dr => if tms then .updateDr else .shiftDr
  | .updateDr => if tms then .selectDr else .runTestIdle
  | .selectIr => if tms then .testLogicReset else .captureIr
  | .captureIr => if tms then .exit1Ir else .shiftIr
  | .shiftIr => if tms then .exit1Ir else .shiftIr
  | .exit1Ir => if tms then .updateIr else .pauseIr
  | .pauseIr => if tms then .exit2Ir else .pauseIr
  | .exit2Ir => if tms then .updateIr else .shiftIr
  | .updateIr => if tms then .selectDr else .runTestIdle

/-- What the observe-only cells see: GHn and GLn of every port, CGH, CGL, SAFEA and SAFEB. Their order along the register is the
model's. -/
def State.observed (s : State) : List Bool :=
  (List.finRange 32).map s.ghOn ++ (List.finRange 32).map s.glOn ++ [s.cgh, s.cgl, s.safeA == .high, s.safeB == .hiZ]

/-- Output cells that a test may drive, asserted low or not: the host resets and alerts, the CAN transmit balls, SDA, SCL, HBC and HBD. A bit
of a frame or of a transaction in progress is no state: it is taken from `bits`. -/
def State.outCells (s : State) (bits : Nat) : List Bool :=
  let talks := fun l => bits.testBit (linkIx l).1 && s.canTx l != .hiZ && s.canTx l != .recessive
  [s.rstoutALevel == .low, s.rstoutBLevel == .low, s.alertALevel == .low, s.alertBLevel == .low, talks .a, talks .b,
    bits.testBit 2 && s.sda != .hiZ, s.sclHeld, bits.testBit 3 && s.hbcDriven, bits.testBit 4 && s.hbdDriven]

/-- Input cells: the front panel, the sequence and capture inputs, ADDR as sampled, and the levels of the CAN receive balls, SDA, SCL, HBC and
HBD, from `bits`. -/
def State.inCells (s : State) (bits : Nat) : List Bool :=
  [s.pins.pb, s.pins.mr, s.pins.svckey, s.pins.door, s.latch.estop] ++ ((List.range 4).map fun i => s.pins.seqin.getLsbD i)
    ++ ((List.range 8).map fun i => s.pins.capin.getLsbD i) ++ ((List.range 4).map fun i => s.pwr.strap.getLsbD i)
    ++ (List.range 6).map fun i => bits.testBit (5 + i)

/-- Every cell that the model's boundary-scan register captures: the ten output cells stand first. -/
def State.cells (s : State) (bits : Nat) : List Bool := s.outCells bits ++ s.inCells bits ++ s.observed

/-- The instruction in force selects the boundary-scan register; every other one the bypass bit. -/
def Tap.scans (t : Tap) : Bool := Config.tapScans t.ir

/-- One register shifted by a bit toward TDO. -/
def shiftIn (bs : List Bool) (tdi : Bool) : List Bool := bs.drop 1 ++ [tdi]

/-- A rising edge of TCK: the controller acts in its present state and moves on by TMS. The cells are captured and shifted; an update
changes the instruction, or what stands ready for the output cells that a test may drive. -/
def clockTap (tms tdi : Bool) (s : State) : State :=
  let t := s.tap
  let bits := s.drawNat 16
  let u : Tap := match t.state with
    | .testLogicReset => { t with ir := Config.tapIdle }
    | .captureDr => { t with dr := if t.scans then s.cells bits.1 else [false] }
    | .shiftDr => { t with dr := shiftIn t.dr tdi, tdo := t.dr.head? }
    | .captureIr => { t with shift := Config.tapCapture }
    | .shiftIr => { t with shift := shiftIn t.shift tdi, tdo := t.shift.head? }
    | .updateIr => { t with ir := t.shift }
    | .updateDr => { t with held := if t.scans then t.dr.take 10 else t.held }
    | _ => { t with tdo := none }
  { bits.2 with tap := { u with state := t.state.next tms } }

/-- The level that a test instruction gives output cell `i`; none where the device gives it itself. CANA_TX, CANB_TX and HBC are push-pull,
the others open drain. No cell of a gate or of a safe-state line is among them (R438). -/
def State.extest (s : State) (i : Fin 10) : Option Level :=
  let released : Level := if i.1 = 4 ∨ i.1 = 5 ∨ i.1 = 8 then .high else .hiZ
  if s.pwr.step ≠ .unpowered ∧ Config.tapDrives s.tap.ir = true then (s.tap.held[i.1]?).map fun b => if b then .low else released else none

/-! ## The balls, as a test instruction or else the device drives them -/

/-- RSTOUTA. -/
def State.rstoutABall (s : State) : Level := (s.extest 0).getD s.rstoutALevel

/-- RSTOUTB. -/
def State.rstoutBBall (s : State) : Level := (s.extest 1).getD s.rstoutBLevel

/-- ALERTA. -/
def State.alertABall (s : State) : Level := (s.extest 2).getD s.alertALevel

/-- ALERTB. -/
def State.alertBBall (s : State) : Level := (s.extest 3).getD s.alertBLevel

/-- CANA_TX and CANB_TX: the test's level, or what the device sends there. -/
def State.canTxBall (s : State) (l : Link) : Level ⊕ CanTx :=
  match s.extest (match l with | .a => 4 | .b => 5) with
  | some v => .inl v
  | none => .inr (s.canTx l)

/-- SDA: the test's level, or what the device does there. -/
def State.sdaBall (s : State) : Level ⊕ SdaUse :=
  match s.extest 6 with
  | some v => .inl v
  | none => .inr s.sda

/-- SCL is held low. -/
def State.sclLow (s : State) : Bool := ((s.extest 7).map fun v => v == .low).getD s.sclHeld

/-- HBC is driven. -/
def State.hbcBall (s : State) : Bool := (s.extest 8).isSome || s.hbcDriven

/-- HBD is driven. -/
def State.hbdBall (s : State) : Bool := ((s.extest 9).map fun v => v == .low).getD s.hbdDriven

end Sys2Proof.Machine
end

