-- ==== Sys2Proof/Safety.lean ====
section
/-! DEFINITION. What counts as a safe state, and the terms in which claims about one command are stated: what its next state
holds, and what the interrupt controller may add to it. -/

namespace Sys2Proof.Machine
open Sys2Proof

/-! ## Safe states -/

/-- No gate output is driven high. -/
def State.gatesLow (s : State) : Prop := ∀ n : Fin 32, s.ghOn n = false ∧ s.glOn n = false

/-- No rail of the variant is enabled in any of the three copies. -/
def State.railsOff (s : State) : Prop :=
  ∀ r : Fin 16, r.1 < s.variant.rails →
    s.act (railIdx r.1) 3 = 0 ∧ s.shad (railIdx r.1) 3 = 0 ∧ s.reg (railIdx r.1) 3 = 0

/-- The safe-state latch is set, the device is in SAFESTOP and no gate is driven. -/
def State.tripped (s : State) : Prop := s.latch.set = true ∧ s.md.mode = .safestop ∧ s.gatesLow

/-- The user area, its shadow and the snapshot that a running store copies are in canonical form. -/
def State.keepWf (s : State) : Prop :=
  Memory.wf s.ks.sram.user = true ∧ Memory.wf s.ks.shadow.user = true
    ∧ ∀ c a, s.ks.running = some (c, a) → Memory.wf a.user = true

/-- What R390 leaves in the ACTIVE registers: a register that holds a source holds one that is pending, with its target not
disabled by GDIS. -/
def State.activeOk (s : State) : Prop :=
  (∀ n, s.irq.activeA = some n → s.irq.pend.getLsbD n.1 = true ∧ (s.reg 0x2A00 6).testBit 0 = false)
    ∧ ∀ n, s.irq.activeB = some n → s.irq.pend.getLsbD n.1 = true ∧ (s.reg 0x2A00 6).testBit 1 = false

/-! ## A command and its next state -/

/-- The command answers a next state, and that state has a property. -/
def State.after (s : State) (c : Instr) (P : State → Prop) : Prop := ∃ t, exec c s = .next t ∧ P t

/-- Registers that delivery itself writes: the delivered counts of the sources and the count of lost EMCY messages. -/
def countsKey (k : Nat) : Bool :=
  decide (0x2A40 ≤ k / 256 ∧ k / 256 < 0x2A80 ∧ k % 256 = 5 ∨ k = key 0x2F00 0x11)

/-- The registers of `t` are those of `s`, but for those that `K` names. -/
def State.regsBut (s t : State) (K : Key → Bool) : Prop :=
  t.regs.filter (fun c => !K c.1) = s.regs.filter fun c => !K c.1

/-- Whether byte `a` of the user area belongs to a tally counter of R408. -/
def State.tallied (s : State) (a : Nat) : Bool :=
  (List.range 8).any fun i => s.reg 0x2B00 (0x0C + i) ≤ a && a < s.reg 0x2B00 (0x0C + i) + 4

/-- Every byte of the user area outside the tally counters reads in `t` as in `s`. -/
def State.userBut (s t : State) (S : Nat → Bool) : Prop :=
  t.ks.sram.user.filter (fun c => !(s.tallied c.1 || S c.1)) = s.ks.sram.user.filter fun c => !(s.tallied c.1 || S c.1)

/-- `t` is `s` but for what the interrupt controller does at a command's end (R387–R391, R408): pending bits set, the ACTIVE
registers, delivered counts, notification EMCY messages queued or counted lost, tally counters. -/
def State.delivers (s t : State) : Prop :=
  t = { s with irq := t.irq, regs := t.regs, can := { s.can with links := t.can.links },
               ks := { s.ks with sram := { s.ks.sram with user := t.ks.sram.user } } }
    ∧ s.regsBut t countsKey ∧ s.userBut t (fun _ => false)
    ∧ (∀ i : Fin 2, t.can.links[i] = { s.can.links[i] with emcy := t.can.links[i].emcy })
    ∧ t.irq.pend &&& s.irq.pend = s.irq.pend

/-- The command makes `u` of the state, and then the interrupt controller delivers. -/
def State.becomes (s : State) (c : Instr) (u : State) : Prop := s.after c fun t => u.delivers t

/-- The command changes nothing, but for what the interrupt controller delivers. -/
def State.ignores (s : State) (c : Instr) : Prop := s.becomes c s

/-- A step has an outcome and goes on. -/
def State.runs (s : State) : Prop := ∃ t, step s = .next t

/-! ## A host's access -/

/-- A path's untagged access is served: the dictionary is open, the core clock runs, the path reaches it and a slot is free. -/
def State.hears (s : State) (p : HostPath) : Prop :=
  s.ready = true ∧ s.pathServes p = true ∧ s.slotFree = true ∧ s.paths[pathIx p].tag = 0

/-- No write accepted for an index still waits for its transfer. -/
def State.settled (s : State) (idx : Nat) : Prop := (s.cmt.out.any fun o => o.idxs.contains idx) = false

/-- The last access of a path was accepted. -/
def State.took (s : State) (p : HostPath) : Prop := s.paths[pathIx p].abort = 0

/-- The last access of a path was refused with an abort code. -/
def State.turnedAway (s : State) (p : HostPath) (code : Nat) : Prop := s.paths[pathIx p].abort = code

end Sys2Proof.Machine
end

