-- ==== Sys2Proof/Certificates/Slice0/Obligations.lean ====
section
/-! DEFINITION. The statements for the provers: what the commands do, family by family, and what every step keeps. -/

open Sys2Proof Sys2Proof.Machine

/-- A step runs the command at the front of the queue. For every command c, every queue rest and every state s, the step of s
with c in front of rest is exec of c on s with the queue rest. (INVENTORY: Host interface; notes/assumptions 8) -/
def Obligations.StepRunsTheFrontCommand : Prop :=
  ∀ (c : Instr) (rest : List Instr) (s : State),
    step { s with pending := c :: rest } = exec c { s with pending := rest }

/-- With no command waiting one AON tick passes (the model's choice, log entry 8). On an empty queue the step answers the next
state. With the timebase running COUNT64 rises by one tick modulo 2^64; with no frame in progress on any engine nothing else
changes but the watchdog, the period counters and DACs of the ports, the charger's period, the status mirror with the free
values its measurements draw, and what the interrupt controller delivers, and the compare and capture channels stay as they
are. On every 250th tick of a device whose core clock runs the mirrors of the ports that run no periods of their own, and of
the rails that no port's periods serve, hold the live status (log entry 102 names the registers and the 250 ticks, the
model's choice). With the timebase stopped nothing changes. That an idle step is a tick is the model's choice (log entry 8).
(R27; R370; R383; notes/assumptions 8 (DESIGN CHOICE); notes/assumptions 102 (DESIGN CHOICE)) -/
def Obligations.EmptyQueuePassesOneTick : Prop :=
  ∀ s : State, s.pending = [] →
    ∃ t, step s = .next t ∧
      (s.tbRuns = true → t.tb.count = s.tb.count + 1 ∧ t.tb.wraps = s.tb.wraps + (if s.tb.count = 0xFFFFFFFF then 1 else 0)) ∧
      ((∀ e : Fin 9, s.engines[e].frame = none) →
        ({ s with tb := t.tb, wd := t.wd, ports := t.ports, chg := t.chg, mirror := t.mirror, freeCtr := t.freeCtr }).delivers t
          ∧ t.tb.cmp = s.tb.cmp ∧ t.tb.cap = s.tb.cap ∧
          (s.tbRuns = true → s.live = true → (s.tb.count + 1).toNat % 250 = 0 →
            (∀ n : Fin 32, n.1 < s.variant.ports → (s.pulsing n && s.leads n) = false →
              ∀ sub ∈ portMirrors, t.mirrored (portIdx n.1) sub = s.livePort n sub) ∧
            (∀ r : Fin 16, r.1 < s.variant.rails → s.beatPhase r = none →
              ∀ sub ∈ railMirrors, sub ≠ 0x63 → t.mirrored (railIdx r.1) sub = s.liveRail r sub))) ∧
      (s.tbRuns = false → t = s)

/-- No command and no tick stops the block. From every state the step answers a next state: the block has no fault stop and
refuses no command. (R296; Table 11-4) -/
def Obligations.EveryStepGoesOn : Prop :=
  ∀ s : State, s.runs

/-- Every step of a running device leaves the ACTIVE registers on pending sources of targets that GDIS does not disable. For
every state s of the whole type, if s satisfies activeOk then so does the state after a step whenever the device is ready in
it: a register ACTIVE_A or ACTIVE_B that holds a source holds one that is pending, with its GDIS bit 0. (R390; R387; R392) -/
def Obligations.InterruptRegistersHoldPendingSources : Prop :=
  ∀ s t : State, (s.ready = true → s.activeOk) → step s = .next t → (t.ready = true → t.activeOk)

/-- The ACTIVE registers and the keep store are in order right after reset. The state after reset satisfies activeOk, with both
ACTIVE registers empty, and keepWf, with every byte of its user area reading 0x00 (that value is the model's choice, log
entry 4). (R390; R394; R397; notes/assumptions 4 (DESIGN CHOICE)) -/
def Obligations.ResetHoldsTheInvariants : Prop :=
  (State.reset.activeOk ∧ State.reset.irq.activeA = none ∧ State.reset.irq.activeB = none)
    ∧ State.reset.keepWf ∧ ∀ a, memRead State.reset.ks.sram.user a = 0

/-- Every step keeps the user area, its shadow and the snapshot of a running store in canonical form. If the user area of the
keep store, its shadow and the snapshot of a running store list addresses below 0x4000 in strictly rising order and no byte
0, then so they do after every step, whatever the command. (R397; R399; R402; R403; R408) -/
def Obligations.KeepStoreKeepsCanonicalForm : Prop :=
  ∀ s t : State, s.keepWf → step s = .next t → t.keepWf

/-- A SHIP request is refused while VIN is present. With the dictionary open to the path, in any mode, a MODE write of 0 while
VIN is present is refused with abort code 0x08000022 and leaves the mode as it was. (R62) -/
def Obligations.ShipRefusedWhileVinPresent : Prop :=
  ∀ (s : State) (p : HostPath), s.hears p → s.pwr.vin = true →
    s.after (.modeReqShip p) fun t => t.turnedAway p 0x08000022 ∧ t.md = s.md

/-- Steps 3 to 6 of the power-on order, each from the step before it. CORE_ENABLE takes step 2 to step 3 when the core domain is
wanted, no regulator has failed and VSYS is not in brown-out; CORE_POWER_GOOD takes step 3 to step 4 with both supply
monitors armed and the crystal oscillator started; CRYSTAL_VALID and CRYSTAL_START_FALLBACK take step 4 to step 5 on the
crystal or on the AON oscillator, the latter with its report 0x0106 owed to the collector; PLL_LOCK takes step 5 to step 6
with the clock-loss detector armed. Nothing else of the state changes. (R48; R53; R61; Table 2-5) -/
def Obligations.PowerUpStepsInOrder : Prop :=
  ∀ s : State,
    (s.pwr.step = .aonUp → s.pwr.coreWanted = true → s.pwr.regFailed = false → s.pwr.vsys ≠ .brownOut →
      exec .coreEnable s = .next { s with pwr := { s.pwr with step := .enabled, vsys := .ok } }) ∧
    (s.pwr.step = .enabled → exec .corePowerGood s = .next { s with pwr := { s.pwr with
      step := .good, regMon := true, vcc5Mon := true, vcc5 := true, vcore := true, xtalOsc := true } }) ∧
    (s.pwr.step = .good → exec .crystalValid s = .next { s with pwr := { s.pwr with
      step := .clocked, xtalOk := true, refAon := false } }) ∧
    (s.pwr.step = .good → exec .crystalStartFallback s = .next { s with pwr := { s.pwr with
      step := .clocked, xtalOk := false, refAon := true, owed := s.pwr.owed ++ [(0x0106, unitCode 0 5, s.tb.count)] } }) ∧
    (s.pwr.step = .clocked → exec .pllLock s = .next { s with
      pwr := { s.pwr with step := .locked, pllLock := true, dllLock := true, clkMon := true },
      latch := { s.latch with clock := false } })

/-- Step 7 loads the factory trims and reads the straps; step 8 opens the dictionary. CORE_RESET_RELEASE at step 6 with the core
clock running and every self-test passed answers a state at step 7 in which the straps read as driven (0 without VIO), the
sense converters of the ports and the voltage converters hold their factory trims and every present loop engine is IDLE, LE8
STANDBY. CONFIG_APPLY at step 7 answers a state with the dictionary open and no pin event left latched. (R61; R189; R439;
R468; Table 2-5) -/
def Obligations.PowerUpStepsSevenAndEight : Prop :=
  ∀ (s : State) (strap : BitVec 4),
    (s.pwr.step = .locked → s.pwr.gated = false → s.after (.coreResetRelease strap 0) fun t =>
      t.pwr.step = .released ∧ t.pwr.strap = (if s.pwr.vio then strap else 0)
        ∧ (∀ n : Fin 32, t.sc[n.castSucc].gain = (Config.scGain n.1).toInt ∧ t.sc[n.castSucc].offset = (Config.scOffset n.1).toInt)
        ∧ (∀ k : Fin 16, t.vc[k].gain = (Config.vcGain k.1).toInt ∧ t.vc[k].offset = (Config.vcOffset k.1).toInt)
        ∧ ∀ e : Fin 9, s.variant.hasEngine e.1 = true → t.engines[e].state = (if e = 8 then .standby else .idle)) ∧
    (s.pwr.step = .released → s.after .configApply fun t => t.pwr.step = .running ∧ t.pins.latched = [])

/-- A full reset leaves step 2, timebase 0, STANDBY and a clear latch, and says its cause. VSYS_POWER_ON_RESET from unpowered
(cause 1), NRST_RELEASE with NRST held (cause 2), SHIP_EXIT in mode SHIP by VIN or by an armed PB (cause 4) and
BROWN_OUT_RECOVERY after a brown-out (cause 8), with neither ESTOP nor the DS3 comparator asserted, answer a state at step 2
with the timebase at 0, the latch clear, mode STANDBY, every register at its default; the queue, the frames already sent
and, when no store was running, the shadow of the keep store are as they were. That the mode reads STANDBY before step 8 is
the model's choice (log entry 3): R73 gives the mode of a full reset at step 8 alone. (R58; R59; R42; R61; R64; R73; R398;
notes/assumptions 3 (DEDUCED)) -/
def Obligations.FullResetsStartAgain : Prop :=
  ∀ s : State, s.latch.estop = false → s.latch.die.getLsbD 3 = false →
    let fresh := fun (cause : Byte) (t : State) =>
      t.pwr.step = .aonUp ∧ t.pwr.resetCause = cause ∧ t.tb.count = 0 ∧ t.tb.wraps = 0 ∧ t.latch.set = false
        ∧ t.latch.hard = false ∧ t.md.mode = .standby ∧ t.regs = [] ∧ t.shadow = [] ∧ t.active = [] ∧ t.gatesLow
        ∧ t.pending = s.pending ∧ t.sent = s.sent ∧ (s.ks.running = none → t.ks.shadow = s.ks.shadow ∧ t.ks.sram = s.ks.sram)
    (s.pwr.step = .unpowered → s.after .vsysPowerOnReset (fresh 1)) ∧
    (s.pwr.step = .nrstLow → s.after .nrstRelease (fresh 2)) ∧
    (s.aonUp = true → s.pwr.vsys = .brownOut → s.after .brownOutRecovery fun t => fresh 8 t ∧ t.pwr.vsys = .ok) ∧
    (∀ byVin, s.md.mode = .ship → (byVin = true ∨ s.pwr.pbArmed = true) → s.after (.shipExit byVin) (fresh 4))

/-- Loss of the AON island and NRST hold everything in reset. AON_POWER_LOSS from any powered state and NRST_ASSERT from any
state not already held leave the AON island down, the timebase at 0, every register at its default, no gate driven, the
interrupt controller empty; ESTOP's own level is kept. (R38; R40; R58) -/
def Obligations.AonIslandDown : Prop :=
  ∀ s : State,
    let down := fun (st : PowerStep) (t : State) =>
      t.pwr.step = st ∧ t.aonUp = false ∧ t.tb.count = 0 ∧ t.regs = [] ∧ t.gatesLow ∧ t.irq = .reset
        ∧ t.latch.set = false ∧ t.latch.estop = s.latch.estop ∧ t.pending = s.pending
    (s.pwr.step ≠ .unpowered → s.after .aonPowerLoss fun t => down .unpowered t ∧ t.pwr.vsys = .below) ∧
    (s.pwr.step ≠ .unpowered → s.pwr.step ≠ .nrstLow → s.after .nrstAssert (down .nrstLow))

/-- What switches the core domain off, and what that loses. BROWN_OUT after a power-fail, SHIP_CORE_OFF and STANDBY_CORE_OFF
(the latter also in SAFESTOP after a trip during STANDBY entry) once their store has its snapshot leave the core domain off
at step 2 and not wanted, with every active and shadow copy, every port, rail and engine reset and the links in low-rate
operation; BROWN_OUT leaves SAFESTOP, the others keep their mode. SHIP_AON_HOLD then holds the AON island with the timebase
stopped; SHIP_PB_WAKE_ARM arms PB in mode SHIP. (R42; R63; R74; R79; R14; R16; Table 2-6) -/
def Obligations.CoreDomainOff : Prop :=
  ∀ s : State,
    let off := fun (t : State) =>
      t.pwr.step = .aonUp ∧ t.pwr.coreWanted = false ∧ t.coreOn = false ∧ t.active = [] ∧ t.shadow = [] ∧ t.gatesLow
        ∧ t.ports = Vector.replicate 32 .reset ∧ t.rails = Vector.replicate 16 .reset ∧ t.engines = Vector.replicate 9 .reset
        ∧ ∀ i : Fin 2, t.can.links[i].lowRate = t.can.links[i].enabled
    (s.aonUp = true → s.pwr.vsys = .powerFail → s.pwr.step ≠ .aonUp → s.after .brownOut fun t => off t ∧ t.md.mode = .safestop ∧ t.pwr.vsys = .brownOut) ∧
    (s.md.mode = .ship → s.pwr.entering = true → s.storePending .ship = false →
      s.after .shipCoreOff fun t => off t ∧ t.md.mode = .ship) ∧
    ((s.md.mode = .standby ∨ s.md.mode = .safestop) → s.coreOn = true → s.pwr.entering = true → s.storePending .standby = false →
      s.after .standbyCoreOff fun t => off t ∧ t.md.mode = s.md.mode) ∧
    (s.md.mode = .ship → s.pwr.step = .aonUp → s.pwr.entering = false → s.ks.running = none →
      s.after .shipAonHold fun t => t.aonUp = false ∧ t.pwr.step = .shipHold ∧ t.tb.running = false ∧ t.pwr.pbArmed = s.pwr.pbArmed) ∧
    (s.md.mode = .ship → s.becomes .shipPbWakeArm { s with pwr := { s.pwr with pbArmed := true } })

/-- The trip sources of the AON island set the latch, hold every gate low and lead to SAFESTOP. POWER_FAIL, VIO_UNDERVOLTAGE,
VCC5_UNDERVOLTAGE, CORE_REGULATOR_FAIL, CORE_POWER_GOOD_TIMEOUT, CLOCK_LOSS_TRIP, ESTOP_ASSERT and DIE_COMPARATOR_TRIP, each
where the device watches for it, leave the latch set, every gate output low and both SAFEA and SAFEB at "not OK" (SAFEA not
high, SAFEB not pulled low), with mode SAFESTOP unless it was SHIP or the power-up of a full reset is still short of step 8,
whose end then enters it; the supply, regulator, clock or comparator that stays bad is recorded as such. In SHIP
ESTOP_ASSERT makes no trip of its own: the ball only holds the gates. (R34; R35; R37; R73; R41; R45; R49; R65; R237; R290;
R470; Table 1-4) -/
def Obligations.TripSourcesTrip : Prop :=
  ∀ s : State,
    let trips := fun (t : State) => t.latch.set = true ∧ t.gatesLow ∧ t.safeA ≠ .high ∧ t.safeB = .hiZ ∧ (s.booting = false → s.md.mode ≠ .ship → t.md.mode = .safestop)
    (s.aonUp = true → s.pwr.vsys = .ok → s.after .powerFail fun t => trips t ∧ t.pwr.vsys = .powerFail) ∧
    (s.live = true → s.after .vioUndervoltage fun t => trips t ∧ t.pwr.vio = false) ∧
    (s.pwr.vcc5Mon = true → s.pwr.vcc5 = true → s.after .vcc5Undervoltage fun t => trips t ∧ t.pwr.vcc5 = false) ∧
    (s.pwr.regMon = true → s.pwr.vsys ≠ .brownOut → s.after .coreRegulatorFail fun t =>
      t.latch.set = true ∧ t.gatesLow ∧ t.safeA ≠ .high ∧ t.safeB = .hiZ ∧ (s.md.mode ≠ .ship → t.md.mode = .safestop) ∧ t.pwr.regFailed = true ∧ t.coreOn = false
        ∧ t.latch.coreReg = true) ∧
    (∀ vcoreOk, s.pwr.step = .enabled → s.after (.corePowerGoodTimeout vcoreOk) fun t =>
      trips t ∧ (vcoreOk = false → (s.md.mode ≠ .ship → t.md.mode = .safestop) ∧ t.pwr.regFailed = true)) ∧
    (s.pwr.clkMon = true → s.latch.clock = false → s.after .clockLossTrip fun t =>
      trips t ∧ t.latch.clock = true ∧ t.pwr.gated = true) ∧
    (s.aonUp = true → s.latch.estop = false → s.md.mode ≠ .ship → s.after .estopAssert fun t => trips t ∧ t.latch.estop = true) ∧
    (s.latch.estop = false → s.md.mode = .ship → s.becomes .estopAssert { s with latch := { s.latch with estop := true } }) ∧
    (∀ d : Fin 4, s.aonUp = true → s.latch.die.getLsbD d.1 = false → (s.coreOn = true ∨ d = 3) →
      s.after (.dieComparatorTrip d) fun t => trips t ∧ t.latch.die.getLsbD d.1 = true)

/-- A supply or a trip source that comes back ends its own cause, resets nothing, and clears no latch that an unacknowledged
fatal entry holds. VSYS_RECOVERY after a power-fail, VIO_RECOVERY, VCC5_RECOVERY with its monitor armed, ESTOP_RELEASE and
DIE_COMPARATOR_RELEASE set their own flag or clear their own source; the mode, the timebase and the reset cause are
unchanged, and with an unacknowledged entry of class F or hard stop in the log the latch stays as it was. VSTORE_OK_REACHED
sets VSTORE_OK and starts a store that waits. (R36; R42; R305; R306; R403) -/
def Obligations.SuppliesRecover : Prop :=
  ∀ s : State,
    let calmly := fun (t : State) => t.md.mode = s.md.mode ∧ t.tb = s.tb ∧ t.pwr.resetCause = s.pwr.resetCause
      ∧ t.pwr.step = s.pwr.step ∧ ((s.unacked.any fun e => e.cls.fatal) = true → t.latch.set = s.latch.set)
    (s.aonUp = true → s.pwr.vsys = .powerFail → s.after .vsysRecovery fun t => t.pwr.vsys = .ok ∧ calmly t) ∧
    (s.after .vioRecovery fun t => t.pwr.vio = true ∧ calmly t) ∧
    (s.pwr.vcc5Mon = true → s.after .vcc5Recovery fun t => t.pwr.vcc5 = true ∧ calmly t) ∧
    (s.after .estopRelease fun t => t.latch.estop = false ∧ calmly t) ∧
    (∀ d : Fin 4, s.after (.dieComparatorRelease d) fun t => t.latch.die = clrBit s.latch.die d.1 ∧ calmly t) ∧
    (s.after .vstoreOkReached fun t => t.pwr.vstoreOk = true ∧
      (s.ks.waiting.isSome = true → s.aonUp = true → s.ks.running = none → t.ks.running.isSome = true ∧ t.ks.waiting = none))

/-- Crystal loss gates the core clock and holds every port; the restart lifts the gap; the DLL's lock follows its events.
CRYSTAL_LOSS with the crystal in use gates the core clock, takes the AON reference, counts the loss, owes the collector its
report and after it only those of the power-good signals that the held rails lose, and leaves every present port that is
neither OFF nor FENCED held, with both gates low unless it was held before. CORE_CLOCK_RESTART lifts the gap with PLL and
DLL locked and no report of the AON record or of a core-domain monitor left waiting. DLL_UNLOCK and DLL_RELOCK set the DLL
lock flag. (R54; R57; Table 2-3) -/
def Obligations.CoreClockLossAndReturn : Prop :=
  ∀ s : State,
    (s.coreOn = true → s.pwr.gated = false → s.pwr.xtalOk = true → s.pwr.refAon = false → s.after .crystalLoss fun t =>
      t.pwr.gated = true ∧ t.pwr.refAon = true ∧ t.pwr.xtalOk = false ∧ t.pwr.owed.take (s.pwr.owed.length + 1) = s.pwr.owed ++ [(0x0107, unitCode 0 5, s.tb.count)]
        ∧ ((t.pwr.owed.drop (s.pwr.owed.length + 1)).all fun o => o.1 == 0x0406) = true
        ∧ t.reg 0x2000 0x23 = min 0xFFFF (s.reg 0x2000 0x23 + 1)
        ∧ ∀ n : Fin 32, n.1 < s.variant.ports → s.ports[n].state ≠ .off → s.ports[n].state ≠ .fenced →
            t.ports[n].state = .held ∧ (s.ports[n].state ≠ .held → t.ports[n].gh = false ∧ t.ports[n].gl = false)) ∧
    (s.pwr.gated = true → s.coreOn = true → s.after .coreClockRestart fun t =>
      t.pwr.gated = false ∧ t.pwr.pllLock = true ∧ t.pwr.dllLock = true ∧ t.latch.clock = false ∧ t.aon.waiting = []
        ∧ t.pwr.owed = []) ∧
    (s.live = true → s.pwr.dllLock = true → s.after .dllUnlock fun t => t.pwr.dllLock = false) ∧
    (s.live = true → s.pwr.pllLock = true → s.becomes .dllRelock { s with pwr := { s.pwr with dllLock := true } })

/-- VDRV and VIN events. VDRV_UNDERVOLTAGE clears a group's ready bit and, while the collector runs and the group was ready
since reset, fences the group. VDRV_READY sets the bit. VIN_PRESENT and VIN_ABSENT set and clear VIN; loss of VIN in RUN
with the battery present enters HOLDUP. (R18; R43; R44; R80) -/
def Obligations.DriverAndInputSupplies : Prop :=
  ∀ s : State,
    (∀ g : Fin 8, s.pwr.vdrv.getLsbD g.1 = true → s.after (.vdrvUndervoltage g) fun t =>
      t.pwr.vdrv = clrBit s.pwr.vdrv g.1 ∧
        (s.live = true → g.1 < s.variant.groups → s.pwr.vdrvSeen.getLsbD g.1 = true → t.flt.groups.getLsbD g.1 = true)) ∧
    (∀ g : Fin 8, s.after (.vdrvReady g) fun t => t.pwr.vdrv = setBit s.pwr.vdrv g.1 ∧
      (s.aonUp = true → t.pwr.vdrvSeen = setBit s.pwr.vdrvSeen g.1)) ∧
    (s.pwr.vin = false → s.after .vinPresent fun t => t.pwr = { s.pwr with vin := true } ∧ t.md = s.md) ∧
    (s.pwr.vin = true → s.after .vinAbsent fun t => t.pwr.vin = false ∧
      (s.ready = true → s.md.mode = .run → s.chg.holdupLost = false → t.md.mode = .holdup ∧ t.md.prev = .run ∧ t.md.cause = 7))

/-- A core reset is performed only in SAFESTOP, by its key or by NMT reset-node. With the dictionary open to the path: the key
written to 0x2000.25 in SAFESTOP performs the core reset (step 3 again, cause 0x10, active copies lost, the safe-state latch
kept); the key in any other mode is refused with 0x08000022 and any other value in any mode with 0x06090030, and neither
resets the core. NMT reset-node to this node resets the core in SAFESTOP with its regulator sound and is ignored in every
other mode. (R60) -/
def Obligations.CoreResetOnlyInSafestop : Prop :=
  ∀ (s : State) (p : HostPath), s.hears p →
    (s.md.mode = .safestop → s.after (.coreReset p 0x43525354) fun t =>
      t.pwr.step = .enabled ∧ t.pwr.resetCause = 0x10 ∧ t.active = [] ∧ t.coreOn = false ∧ t.latch = s.latch ∧ t.md.mode = .safestop) ∧
    (s.md.mode ≠ .safestop → s.after (.coreReset p 0x43525354) fun t =>
      t.turnedAway p 0x08000022 ∧ t.pwr = s.pwr ∧ t.md = s.md) ∧
    (∀ v : U32, v ≠ 0x43525354 → s.after (.coreReset p v) fun t => t.turnedAway p 0x06090030 ∧ t.pwr = s.pwr ∧ t.md = s.md) ∧
    (s.pwr.regFailed = false → ∀ (l : Link) (node : Byte), (node = 0 ∨ node.toNat = s.can.nodeId) → s.linkUp l = true →
      (s.md.mode = .safestop → s.after (.nmtResetNode l node) fun t => t.pwr.step = .enabled ∧ t.active = []) ∧
      (s.md.mode ≠ .safestop → s.ignores (.nmtResetNode l node)))

/-- Accepted MODE writes and the modes they enter. With the dictionary open to the path and the conditions of Table 3-2: MODE 0
in SAFESTOP without VIN enters SHIP; MODE 1 from SERVICE, or from SAFESTOP with the latch clear on a node that follows no
master, enters STANDBY with NMT pre-operational; from RUN and HOLDUP it enters SHUTDOWN with the power-down script begun,
from STARTUP SHUTDOWN with the reversal begun, and on a node that follows a master it stands as an off request for the
master; MODE 3 from SERVICE, or from SAFESTOP with the latch clear, on a node that follows no master and with no stop cause
reached, enters STARTUP with the power-up script running; MODE 6 trips; MODE 7 with SVCKEY, a live authorisation and
SAFESTOP with the latch clear enters SERVICE and uses the authorisation up, from RUN it enters SHUTDOWN with the power-down
script begun and SERVICE asked for. Each is answered as accepted and a mode entered records the previous one. (R62; R71;
R74; R82; R85; R219; R243; Table 3-2) -/
def Obligations.ModeWritesEnterModes : Prop :=
  ∀ (s : State) (p : HostPath), s.hears p →
    (s.md.mode = .safestop → s.pwr.vin = false → s.after (.modeReqShip p) fun t =>
      t.took p ∧ t.md.mode = .ship ∧ t.md.prev = .safestop ∧ t.pwr.entering = true ∧ t.pwr.coreWanted = false) ∧
    ((s.md.mode = .service ∨ (s.md.mode = .safestop ∧ s.latch.set = false ∧ s.herdFollows = false)) → s.after (.modeReqStandby p) fun t =>
      t.took p ∧ t.md.mode = .standby ∧ t.md.prev = s.md.mode ∧ t.can.nmt = .preop ∧ t.pwr.entering = true) ∧
    (s.herdFollows = false →
      ((s.md.mode = .run ∨ s.md.mode = .holdup) → s.after (.modeReqStandby p) fun t =>
        t.took p ∧ t.md.mode = .shutdown ∧ t.md.prev = s.md.mode ∧ t.md.cause = 1 ∧ t.sqe.stat = .powerDown ∧ t.sqe.phase = .start
          ∧ t.sqe.step = s.reg 0x2300 3) ∧
      (s.md.mode = .startup → s.after (.modeReqStandby p) fun t =>
        t.took p ∧ t.md.mode = .shutdown ∧ t.md.prev = .startup ∧ t.md.cause = 1 ∧ t.sqe.stat = .reversal
          ∧ (t.reg 0x2300 8).testBit 5 = true ∧ (s.sqe.phase ≠ .start → t.sqe.step = s.sqe.step)) ∧
      (s.serviceOk = true → s.md.mode = .run → s.after (.modeReqService p) fun t =>
        t.took p ∧ t.md.mode = .shutdown ∧ t.md.prev = .run ∧ t.sqe.stat = .powerDown ∧ t.md.svcAsked = true ∧ t.md.svcStat = 0)) ∧
    (s.herdFollows = true → (s.md.mode = .run ∨ s.md.mode = .holdup ∨ s.md.mode = .startup) → s.after (.modeReqStandby p) fun t =>
      t.took p ∧ t.md = s.md ∧ t.herd.offReq = true) ∧
    ((s.md.mode = .service ∨ (s.md.mode = .safestop ∧ s.latch.set = false)) → s.herdFollows = false → s.stopCause = false →
      s.after (.modeReqRun p) fun t => t.took p ∧ t.md.mode = .startup ∧ t.md.prev = s.md.mode ∧ t.sqe.stat = .powerUp
        ∧ t.pins.rstA = true ∧ t.pins.rstB = true) ∧
    (s.md.mode ≠ .ship → s.after (.modeReqSafestop p) fun t => t.took p ∧ t.tripped) ∧
    (s.serviceOk = true → s.md.mode = .safestop → s.after (.modeReqService p) fun t =>
      t.took p ∧ t.md.mode = .service ∧ t.md.prev = .safestop ∧ t.md.svcStat = 0)

/-- VIN qualification, the end of hold-up and its rails. VIN present for VIN_QUAL in HOLDUP goes back to RUN (cause 6), with
SAFEA high and SAFEB low when the latch is clear and VIO present. The hold-up time elapsed, or VSYS low for 100 ms (which
sets HU_LOW), in HOLDUP on a node that follows no master enters SHUTDOWN with the power-down script (cause 8). HU_TIMED
elapsed, or VSYS below HU_VOFF for 100 ms, for an enabled rail of an idle sequencer starts the partial run that turns it off
and notes that HOLDUP did so. (R37; R71; R80; R81; R266; R268; R269; R221) -/
def Obligations.EndOfRunAndHoldup : Prop :=
  ∀ s : State, s.ready = true → s.md.mode = .holdup →
    (s.pwr.vin = true → s.after .vinQualified fun t => t.md.mode = .run ∧ t.md.prev = .holdup ∧ t.md.cause = 6
      ∧ (s.latch.set = false → s.pwr.vio = true → t.safeA = .high ∧ t.safeB = .low)) ∧
    (s.huElapsed = true → s.herdFollows = false → s.after .holdupTimeExpired fun t =>
      t.md.mode = .shutdown ∧ t.md.prev = .holdup ∧ t.md.cause = 8 ∧ t.sqe.stat = .powerDown ∧ t.md.byHoldup = true) ∧
    (s.herdFollows = false → s.after .holdupLowBattery fun t =>
      t.md.mode = .shutdown ∧ t.md.cause = 8 ∧ t.sqe.stat = .powerDown ∧ (t.reg 0x2500 0x1B).testBit 8 = true) ∧
    (∀ r : Fin 16, s.sqe.stat = .idle → s.sqe.queue = [] →
      let u := (s.modRail r fun x => { x with huOff := true, huRun := false })
      let v := { u with sqe := { u.sqe with stat := .partialRun, partial_ := some (.turnOff r), step := 0xFF, phase := .start, named := 0, restart := 0 } }
      (s.rails[r].huRun = true → s.enabled r = true → s.chg.holdAt + s.act (railIdx r.1) 0x61 * 1000 * ticksPerMs ≤ s.coreNow →
        s.becomes (.huTimedExpired r) v) ∧
      (s.act (railIdx r.1) 0x62 ≠ 0 → s.enabled r = true → s.becomes (.huVoffTurnoff r) v))

/-- A latched wake and a VIN wake ask for the core domain. With the core domain off, LATCHED_WAKE makes the first wake latched
during STANDBY entry the wake in progress and wants the core domain; in SAFESTOP the first that was no MODE write does so,
and a MODE write so latched acts no more (log entry 36, the model's choice). VIN qualified in STANDBY with the core domain
off and no power-up begun, START_CFG bit 1 set and no failed regulator, wants the core domain and sets its bit in
WAKE_CAUSE. A MODE write of 3 on a path that the AON island answers in STANDBY is accepted and does the same for its own
bit. (R75; R78; R79; R81; notes/assumptions 36 (DEDUCED)) -/
def Obligations.WakesReachTheCoreDomain : Prop :=
  ∀ s : State,
    (s.coreOn = false →
      let woken := fun w => { s with pwr := { s.pwr with lateWake := none, lateOther := none, coreWanted := true, wake := some w } }
      (∀ w, s.pwr.lateWake = some w → (w ≠ .modeWrite ∨ s.md.mode ≠ .safestop) → s.becomes .latchedWake (woken w)) ∧
      (s.pwr.lateWake = some .modeWrite → s.md.mode = .safestop →
        (∀ w, s.pwr.lateOther = some w → s.becomes .latchedWake (woken w)) ∧
        (s.pwr.lateOther = none → s.becomes .latchedWake { s with pwr := { s.pwr with lateWake := none, lateOther := none } }))) ∧
    (s.asleep = true → s.pwr.regFailed = false → s.md.mode = .standby →
      (s.pwr.vin = true → (s.reg 0x2000 6).testBit 1 = true → s.after .vinQualified fun t =>
        t.pwr.coreWanted = true ∧ (t.reg 0x2000 5).testBit 5 = true ∧ t.pwr.wake = s.pwr.wake.or (some .vin)) ∧
      (∀ p : HostPath, s.pathServes p = true → s.slotFree = true → s.paths[pathIx p].tag = 0 →
        s.after (.modeReqRun p) fun t => t.took p ∧ t.pwr.coreWanted = true ∧ (t.reg 0x2000 5).testBit 2 = true))

/-- The service challenge, its authorisation, the service port and the ends of SERVICE. A read of SVC_CHALLENGE answers 16 fresh
bytes (a free value), which stand as the challenge, and cancels any authorisation. A signature of 64 bytes written while a
challenge stands and SVC_STAT reads 0 (log entry 53) starts the verification, whose end sets SVC_STAT 2 or 3 as the ECDSA
P-256 check of it says; with no key enrolled SVC_STAT comes to 3 without a challenge too; an authorisation unused for 10 s
expires. SVC_PORT is written in SERVICE. SVC_IDLE_TMO and release of SVCKEY take SERVICE to STANDBY; SVCKEY asserted is
recorded with its time. (R82; R83; R417; notes/assumptions 1; notes/assumptions 9; notes/assumptions 53) -/
def Obligations.ServiceChallengeAndKey : Prop :=
  ∀ s : State,
    (∀ p, s.hears p → s.after (.svcChallengeRead p) fun t => t.took p ∧ t.paths[pathIx p].answer = t.md.challenge
      ∧ t.md.challenge = leBytes 16 (Config.freeValue s.freeCtr).toNat ∧ t.freeCtr = s.freeCtr + 1
      ∧ t.md.svcStat = 0 ∧ t.md.authSig = [] ∧ t.md.mode = s.md.mode) ∧
    (∀ p (sig : List Byte), s.hears p → sig.length = 64 → s.md.svcStat = 0 → s.md.challenge ≠ [] →
      s.after (.svcAuthWrite p sig) fun t => t.took p ∧ t.md = { s.md with authSig := sig, svcStat := 1 }) ∧
    (∀ p (sig : List Byte), s.hears p → sig.length = 64 → s.keyGen = 0 → s.md.svcStat ≠ 1 → (s.md.svcStat = 0 → s.md.challenge = []) →
      s.after (.svcAuthWrite p sig) fun t => t.took p ∧ t.md = { s.md with svcStat := 3 }) ∧
    (s.ready = true → s.md.svcStat = 1 → s.after .svcVerifyDone fun t => t.md.authAt = s.coreNow ∧
      t.md.svcStat = if s.keyGen != 0 && ecdsaVerify s.cfgKey (sha256 (s.md.challenge ++ Config.uid.toList)) s.md.authSig
        then 2 else 3) ∧
    (s.md.svcStat = 2 → s.md.authAt + 10000 * ticksPerMs ≤ s.coreNow →
      s.becomes .svcAuthExpire { s with md := { s.md with svcStat := 4 } }) ∧
    (∀ p (v : Byte), s.hears p → s.md.mode = .service → s.stopCause = false → (v = 0xFF ∨ v.toNat < s.variant.ports) →
      s.reg 0x2000 0x0D = 0xFF → s.after (.svcPortWrite p v) fun t => t.took p ∧ t.reg 0x2000 0x0D = v.toNat ∧ t.md = s.md) ∧
    (s.ready = true → s.md.mode = .service → s.after .svcIdleTimeout fun t => t.md.mode = .standby ∧ t.md.cause = 13) ∧
    (s.pins.svckey = false → s.after .svckeyAssert fun t => t.pins.svckey = true ∧ t.md.keySince = s.now64 ∧ t.md.mode = s.md.mode) ∧
    (s.pins.svckey = true → s.after .svckeyRelease fun t => t.pins.svckey = false ∧
      (s.ready = true → s.md.mode = .service → t.md.mode = .standby ∧ t.md.cause = 12))

/-- REQ_STAT clears the bits written 1; HU_TIME acts at once in every copy. With the dictionary open to the path, a write of
REQ_STAT clears exactly the bits written 1 of its four (which ones a write clears is the model's reading, log entry 52), and
outside a re-qualification nothing else of the mode changes. A write of HU_TIME within its range outside the watchdog
fallback, with the charger's other settings in order and no charger write waiting for its transfer, stands at once in the
pending, shadow and active copies; the mode stays as it is, but in HOLDUP on a node that follows no master a time that has
already elapsed enters SHUTDOWN with the power-down script (cause 8). (R71; R81; R85; R268; Table 3-5; notes/assumptions 52
(DEDUCED)) -/
def Obligations.RequestFlagsAndHoldTime : Prop :=
  ∀ (s : State) (p : HostPath), s.hears p →
    (∀ mask : Byte, s.md.requal = false → s.after (.reqStatClear p mask) fun t => t.took p ∧ t.md = s.md ∧
      t.reg 0x2000 8 = s.reg 0x2000 8 - (s.reg 0x2000 8 &&& (mask.toNat &&& 0x0F))) ∧
    (∀ v : U32, v.toNat ≤ 86400 → s.chg.wdStopped = false → chargerOk s.reg = true → s.settled 0x2500 →
      let ended := s.md.mode = .holdup ∧ v ≠ 0 ∧ s.chg.holdAt + v.toNat * 1000 * ticksPerMs ≤ s.coreNow
      s.after (.huTimeWrite p v) fun t => t.took p ∧ t.reg 0x2500 0x24 = v.toNat ∧ t.shad 0x2500 0x24 = v.toNat
        ∧ t.act 0x2500 0x24 = v.toNat ∧ (¬ended → t.md = s.md)
        ∧ (ended → s.herdFollows = false → t.md.mode = .shutdown ∧ t.md.cause = 8 ∧ t.sqe.stat = .powerDown))

/-- Front-panel and sequence inputs set their PIN_EVT bit and ask for what they ask for. With the core clock running, PB short,
long and ignored events set their bit of PIN_EVT and leave the pin at its level; so do MR and DOOR events outside SHIP.
There MR starts the 200 ms pulse, which asserts both reset outputs, RSTOUT_PULSE_END ends it, and SEQIN stands at its new
level. In RUN on a node that follows no master, PB_LONG and DOOR with DOOR_ACT 1 begin the power-down script, PB_LONG with
forced timing. In STANDBY with the core domain off and no power-up begun a short PB press wants it and is recorded as the
wake cause. (R233; R234; R235; R236; R237; R468; R75) -/
def Obligations.FrontPanelEvents : Prop :=
  ∀ s : State,
    (s.live = true →
      (s.after .pbShortPress fun t => (t.reg 0x2300 0x0F).testBit 0 = true ∧ t.pins.pb = false) ∧
      (s.after .pbLongPress fun t => (t.reg 0x2300 0x0F).testBit 1 = true ∧ t.pins.pb = true) ∧
      (s.after .pbIgnored fun t => (t.reg 0x2300 0x0F).testBit 2 = true ∧ t.pins.pb = false ∧ t.md = s.md) ∧
      (s.md.mode ≠ .ship → s.after .mrPress fun t => (t.reg 0x2300 0x0F).testBit 3 = true ∧ t.pins.mr = true ∧ t.rstoutA = true ∧ t.rstoutB = true
        ∧ t.md = s.md) ∧
      (s.md.mode ≠ .ship → s.after .doorOpen fun t => (t.reg 0x2300 0x0F).testBit 6 = true ∧ t.pins.door = true) ∧
      (s.md.mode ≠ .ship → s.after .doorClose fun t => (t.reg 0x2300 0x0F).testBit 7 = true ∧ t.pins.door = false ∧ t.md = s.md) ∧
      (∀ (i : Fin 4) (high : Bool), s.md.mode ≠ .ship → s.after (.seqinChange i high) fun t =>
        t.pins.seqin.getLsbD i.1 = high ∧ t.md = s.md ∧ ∀ j : Fin 4, j ≠ i → t.pins.seqin.getLsbD j.1 = s.pins.seqin.getLsbD j.1)) ∧
    (s.becomes .rstoutPulseEnd { s with pins := { s.pins with pulse := false } }) ∧
    (s.ready = true → s.md.mode = .run → s.herdFollows = false →
      (s.after .pbLongPress fun t => t.md.mode = .shutdown ∧ t.md.cause = 3 ∧ t.sqe.stat = .powerDown ∧ t.sqe.forced = true) ∧
      (s.reg 0x2300 0x0D = 1 → s.after .doorOpen fun t => t.md.mode = .shutdown ∧ t.md.cause = 14 ∧ t.sqe.stat = .powerDown)) ∧
    (s.asleep = true → s.pwr.regFailed = false → s.md.mode = .standby → s.after .pbShortPress fun t =>
      t.pwr.coreWanted = true ∧ (t.reg 0x2000 5).testBit 3 = true)

/-- A step of a script starts, waits, completes or times out; a partial run starts. For a node outside a herd whose power-up or
power-down script runs with the dictionary open. Once a step of a power-up has started, and at once in a power-down, a
pending step of the script starts: an enable action that can enable each of its rails enables those that no limit blocks, a
disable action disables its rails and begins its fall wait on them, actions 3 and 4 assert and release the reset outputs
they name, action 5 signals its event; without a disable action, with no rail of its power-good wait fenced or tripped, its
wait begins now. A step whose wait is met completes, and the next one of the script is to start; after the last of a
power-up RUN is entered with VIN present, after the last of a power-down SAFESTOP when a fault stopped the device. A wait
that is not met when TMO expires records the step and cause 1 and sets SEQ_FLAGS bit 0; policy 0 halts a power-up, policy 1
goes on to the next step, policy 2 sets ABORTED and in STARTUP begins the reversal from this step; in a power-down policies
0 and 1 go on, policy 2 goes on with forced timing. On an idle sequencer the oldest queued partial run starts. A named rail
that has not fallen in time sets SEQ_FLAGS bit 1. (R211; R212; R213; R214; R215; R216; R217; R218; R219; R221; Table 8-1;
Table 8-3) -/
def Obligations.SequenceStepsRun : Prop :=
  ∀ s : State, s.ready = true → (s.reg 0x2D00 1).testBit 0 = false →
    (s.sqe.stat = .powerUp ∨ s.sqe.stat = .powerDown →
      let up : Bool := s.sqe.stat == .powerUp
      let next := s.sqe.step + 1
      let last := if up then s.reg 0x2300 1 + s.reg 0x2300 2 else s.reg 0x2300 3 + s.reg 0x2300 4
      let action := s.stepSet s.sqe.step 1
      let arg := s.stepSet s.sqe.step 2
      let named := fun r : Fin 16 => arg.testBit r.1 = true
      (s.sqe.phase = .start → s.inScript = true → (up = true → s.sqe.begun = true) → (action = 1 → s.enableFails arg = 0) →
        (s.stepSet s.sqe.step 3 = 1 → ∀ r : Fin 16, (s.stepSet s.sqe.step 4).testBit r.1 = true → s.railState r ≠ .fenced ∧ s.railState r ≠ .tripped) →
        s.after .seqStepStart fun t => t.sqe.stat = s.sqe.stat ∧ t.sqe.step = s.sqe.step ∧ t.sqe.since = s.coreNow ∧ t.md = s.md ∧
          (action ≠ 2 → t.sqe.phase = .wait) ∧ (action = 1 → ∀ r, named r → s.blocked r = false → t.enabled r = true) ∧
          (action = 2 → t.sqe.phase = .fall ∧ t.sqe.named = BitVec.ofNat 16 arg ∧ ∀ r, named r → r.1 < s.variant.rails → t.enabled r = false) ∧
          (action = 3 → t.pins.rstA = (s.pins.rstA || arg.testBit 0) ∧ t.pins.rstB = (s.pins.rstB || arg.testBit 1)) ∧
          (action = 4 → t.pins.rstA = (s.pins.rstA && !arg.testBit 0) ∧ t.pins.rstB = (s.pins.rstB && !arg.testBit 1)) ∧
          (action = 5 → t.sqe.events.getLsbD (arg % 16) = true ∧ (t.reg 0x2D00 9).testBit (arg % 16) = true)) ∧
      (s.sqe.phase = .wait → s.metNow = true →
        (next < last → s.becomes .stepComplete { s with sqe := { s.sqe with step := next, phase := .start, named := 0 } }) ∧
        (last ≤ next → up = true → s.pwr.vin = true → s.after .stepComplete fun t => t.md.mode = .run ∧ t.sqe.stat = .idle) ∧
        (last ≤ next → up = false → s.md.stopFault = true → s.after .stepComplete fun t => t.md.mode = .safestop ∧ t.sqe.stat = .idle)) ∧
      (s.sqe.phase = .wait → s.metNow = false → s.stepSet s.sqe.step 5 ≠ 0 → s.sqe.forced = false → s.stepSet s.sqe.step 3 ≠ 2 →
        let policy := s.stepSet s.sqe.step 6
        let failed := fun t : State => t.reg 0x2300 9 = s.sqe.step ∧ t.reg 0x2300 0x0A = s.tb.count.toNat ∧ t.reg 0x2300 0x0B = 1
          ∧ (t.reg 0x2300 8).testBit 0 = true
        let goesOn := fun t : State => t.sqe.stat = s.sqe.stat ∧ t.sqe.step = next ∧ t.sqe.phase = .start
        (up = true → policy = 0 → s.after .stepTimeout fun t => failed t ∧ t.sqe.stat = .halted ∧ t.sqe.step = s.sqe.step) ∧
        (up = true → policy = 1 → next < last → s.after .stepTimeout fun t => failed t ∧ goesOn t) ∧
        (up = true → policy = 2 → s.md.mode = .startup → s.after .stepTimeout fun t => failed t ∧ (t.reg 0x2300 8).testBit 4 = true
          ∧ t.md.mode = .shutdown ∧ t.md.stopFault = true ∧ t.sqe.stat = .reversal ∧ t.sqe.step = s.sqe.step) ∧
        (up = false → policy < 2 → next < last → s.after .stepTimeout fun t => failed t ∧ goesOn t ∧ t.sqe.forced = false) ∧
        (up = false → policy = 2 → next < last → s.after .stepTimeout fun t => failed t ∧ goesOn t ∧ t.sqe.forced = true))) ∧
    (s.sqe.stat = .idle → ∀ p q, s.sqe.queue = p :: q → s.becomes .partialRunQueuedStart { s with sqe := { s.sqe with
      queue := q, stat := .partialRun, partial_ := some p, step := 0xFF, phase := .start, named := 0, restart := 0 } }) ∧
    (∀ r : Fin 16, s.pos.phase = .fall → s.pos.named.getLsbD r.1 = true → s.sqe.fallen.getLsbD r.1 = false → s.fallenRail r = false →
      s.after (.fallTimeout r) fun t => (t.reg 0x2300 8).testBit 1 = true)

/-- SEQ_CMD retries, skips or aborts a halted script, and nothing else. With the dictionary open to the path and the script
halted: retry, with no rail of a power-good wait fenced or out of retries, waits again from now, in the fall wait where the
step was in it; skip, on a node outside a herd and short of the script's last step, goes to the next step; abort sets
ABORTED in SEQ_FLAGS and, in STARTUP on a node that follows no master, enters SHUTDOWN with the reversal begun from this
step, to end in SAFESTOP. With the script not halted each of the three is refused with 0x08000022 and changes nothing of the
sequencer. (R215; R216; R219; Table 8-3) -/
def Obligations.HaltedScriptCommands : Prop :=
  ∀ (s : State) (p : HostPath), s.hears p →
    (s.sqe.stat = .halted →
      ((s.stepSet s.sqe.step 3 = 1 → ∀ r : Fin 16, (s.stepSet s.sqe.step 4).testBit r.1 = true → s.railFails r = 0) →
        s.after (.seqCmdRetry p) fun t => t.took p ∧ t.sqe.stat = .powerUp ∧ t.sqe.phase = (if s.sqe.phase = .fall then .fall else .wait) ∧ t.sqe.since = s.coreNow
        ∧ t.sqe.step = s.sqe.step ∧ t.md = s.md) ∧
      ((s.reg 0x2D00 1).testBit 0 = false → s.sqe.step + 1 < s.reg 0x2300 1 + s.reg 0x2300 2 → s.after (.seqCmdSkip p) fun t =>
        t.took p ∧ t.sqe.stat = .powerUp ∧ t.sqe.phase = .start ∧ t.sqe.step = s.sqe.step + 1 ∧ t.md = s.md) ∧
      (s.after (.seqCmdAbort p) fun t => t.took p ∧ (t.reg 0x2300 8).testBit 4 = true
        ∧ (s.md.mode = .startup → s.herdFollows = false → t.md.mode = .shutdown ∧ t.md.stopFault = true ∧ t.sqe.stat = .reversal
          ∧ (t.reg 0x2300 8).testBit 5 = true ∧ (s.sqe.phase ≠ .start → t.sqe.step = s.sqe.step)))) ∧
    (s.sqe.stat ≠ .halted → ∀ c ∈ [Instr.seqCmdRetry p, .seqCmdSkip p, .seqCmdAbort p],
      s.after c fun t => t.turnedAway p 0x08000022 ∧ t.sqe = s.sqe ∧ t.md = s.md)

/-- A period start latches the settings and starts afresh; an edge fires once; a command is taken at the turn-on, clamped to its
limit code. With the core clock running and a port, not the odd one of a pair, whose pulse generator runs and which is not
being turned off: PERIOD_START of a port short of eight backstop or short periods starts the counter at 0 unless it has
returned there by itself (the model's choice, log entry 61) and latches the settings; a released command stays new while the
period's main-gate turn-on is still to come, and is taken where the turn-on clock has passed, loading the DAC, clamped to
plus and minus the limit code it was computed with; an edge that fires after the turn-on clock finds it taken likewise;
where the port makes its rail's period or has no rail, the words of the ended period become those of the last complete one;
a limit trip that acts cycle by cycle is cleared from TRIP_FLAGS. A bootstrap below 3.6 V at the turn-on of a BUCK or BOOST
port sets BST_UV, inserts a refresh and keeps GHn off. A compare value fires its edge once and touches no other port but the
pair's; the end of blanking, with no crossing at the limit code waiting, sets that mark, MAX_ON takes a BUCK's main gate low
and the FAN duty a fan's. With a crossing at the limit code waiting that the filter accepted, the end of blanking sets
LIMIT. (R22; R94; R95; R98; R99; R101; R102; R105; R106; R107; R134; notes/assumptions 61 (DESIGN CHOICE)) -/
def Obligations.PortPeriodsAndEdges : Prop :=
  ∀ (s : State) (n : Fin 32), s.live = true → s.pulsing n = true → s.leads n = true →
    let takes := fun t : State => t.ports[n].newCmd = none ∧ t.ports[n].cmd = (s.ports[n].newCmd.map Prod.fst).getD s.ports[n].cmd ∧
      t.ports[n].lim = (s.ports[n].newCmd.map Prod.snd).or s.ports[n].lim ∧
      t.ports[n].dac = (let lim : Nat := t.ports[n].lim.getD (s.limit n.1)
        clampInt (-lim) lim t.ports[n].cmd)
    (∀ duty, s.ports[n].ending = none → s.ports[n].backRun < 7 → s.ports[n].shortRun < 7 →
      (s.after (.periodStart n false duty) fun t => t.ports[n].count = (if s.ports[n].wrapped then s.ports[n].count else 0) ∧ t.ports[n].fired = []
        ∧ t.ports[n].timing = some (s.timingNow n) ∧ t.ports[n].state = s.ports[n].state
        ∧ t.ports[n].onDue = !(decide (t.ports[n].onAt < max 1 (s.portPer n)) && decide (t.ports[n].onAt ≤ t.ports[n].count))
        ∧ (s.ports[n].onDue = false → if t.ports[n].onDue then t.ports[n].newCmd = s.ports[n].newCmd ∧ t.ports[n].cmd = s.ports[n].cmd
            ∧ t.ports[n].dac = s.ports[n].dac else takes t)
        ∧ ((s.railOf n = none ∨ ∃ r, s.railOf n = some r ∧ s.beatPhase r = some n) → t.ports[n].pSum = s.ports[n].sum
          ∧ t.ports[n].pNum = s.ports[n].num ∧ t.ports[n].sum = 0 ∧ t.ports[n].num = 0)
        ∧ (s.byCycle n = true → (t.tripFlags n).testBit 0 = false)) ∧
      ((s.pers n.1 = 1 ∨ s.pers n.1 = 2) → s.ports[n].bstRun < 7 → s.after (.periodStart n true duty) fun t =>
        t.ports[n].gh = false ∧ t.ports[n].refreshNow = true ∧ (t.tripFlags n).testBit 5 = true
          ∧ t.ports[n].bstRun = s.ports[n].bstRun + 1)) ∧
    (∀ e, s.ports[n].fired.contains e = false → s.ports[n].limPend = false → s.after (.pulseCompareFire n e) fun t =>
      t.ports[n].fired = e :: s.ports[n].fired ∧ ({ s with ports := t.ports }).delivers t
        ∧ (∀ m, m ≠ n → m ≠ s.mate n → t.ports[m] = s.ports[m])
        ∧ (s.ports[n].onDue = true → s.ports[n].wrapped = true → s.ports[n].onAt < s.portPer n → t.ports[n].onDue = false ∧ takes t)
        ∧ (e = .blank → t.ports[n].blanked = true) ∧ (e = .maxOn → s.pers n.1 = 1 → t.ports[n].gh = false)
        ∧ (e = .fanDuty → s.pers n.1 = 6 → s.act (portIdx n.1) 0x30 < 100 → t.ports[n].gl = false)) ∧
    (s.ports[n].fired.contains .blank = false → s.ports[n].limPend = true → s.ports[n].filt = true → s.ports[n].limitNow = false →
      s.after (.pulseCompareFire n .blank) fun t => (t.tripFlags n).testBit 0 = true) ∧
    (∀ e, s.ports[n].fired.contains e = true → s.ignores (.pulseCompareFire n e))

/-- A comparator crossing ends a BUCK port's pulse after blanking; at the limit code it is a limit trip. With the main gate of a
BUCK port on, the period's turn-on made where its clock has come: a crossing at or after BLANK below the limit code ends the
pulse and touches no other port; the main gate stays on during blanking. A crossing at the limit code that the filter
accepts sets LIMIT at or after BLANK: cycle by cycle the pulse ends and TRIP_CNT rises by one, once per period, and a
latched trip, of a port whose rail is neither FENCED nor HELD, leaves both gates low. During blanking it waits, the gate and
the flags as they were. (R99; R100; R101; R102) -/
def Obligations.ComparatorTripsEndPulses : Prop :=
  ∀ (s : State) (n : Fin 32) (clocks : Nat), s.live = true → s.pulsing n = true → s.pers n.1 = 1 →
    let u := turnOnBy s n true
    u.mainOn n = true →
    (u.ports[n].dac ≠ (u.limitOf n : Int) → ∀ filtered, s.after (.comparatorTrip n clocks filtered) fun t =>
      t.ports[n].crossed = true ∧ (s.act (portIdx n.1) 8 ≤ clocks → t.ports[n].gh = false)
        ∧ (clocks < s.act (portIdx n.1) 8 → t.ports[n].gh = u.ports[n].gh)
        ∧ (∀ m, m ≠ n → t.ports[m] = s.ports[m]) ∧ ({ s with ports := t.ports }).delivers t) ∧
    (u.ports[n].dac = (u.limitOf n : Int) → s.act (portIdx n.1) 8 ≤ clocks → s.ports[n].limitNow = false →
      (∀ r, s.railOf n = some r → s.rails[r].state ≠ .fenced ∧ s.rails[r].state ≠ .held) →
      s.after (.comparatorTrip n clocks true) fun t => (t.tripFlags n).testBit 0 = true ∧
        (s.byCycle n = true → t.reg (portIdx n.1) 0x13 = min 0xFFFFFFFF (s.reg (portIdx n.1) 0x13 + 1)
          ∧ t.ports[n].limitNow = true ∧ t.ports[n].gh = false) ∧
        (s.byCycle n = false → t.ports[n].gh = false ∧ t.ports[n].gl = false)) ∧
    (u.ports[n].dac = (u.limitOf n : Int) → clocks < s.act (portIdx n.1) 8 → ∀ filtered, s.after (.comparatorTrip n clocks filtered) fun t =>
      t.ports[n].crossed = true ∧ t.ports[n].limPend = true ∧ t.ports[n].filt = (s.ports[n].filt || filtered)
        ∧ t.ports[n].gh = u.ports[n].gh ∧ t.tripFlags n = s.tripFlags n
        ∧ (∀ m, m ≠ n → t.ports[m] = s.ports[m]) ∧ ({ s with ports := t.ports }).delivers t)

/-- Ports leave PRECHARGE, RAMP, PULL_IN and RELEASE as Tables 4-6 to 4-9 give. With the core clock running: the end of
PRECHARGE takes a LSW port to RAMP and a COIL port to PULL_IN, each with its gate on, and a BUCK, BOOST or BB4 port to
SWITCHING with its counter at its offset behind the rail's phase, and nothing else changes. A load switch fully enhanced is
ON with its gate on, the end of pull-in is HOLD, which makes a COIL rail of that one port power-good; no other port and no
other rail changes. COIL_T_REL elapsed in RELEASE sets COIL_REL_SLOW, leaves both gates low and ends RELEASE. No fan capture
in time makes FAN_RPM 0 and nothing else. (R93; R157; R116; R117; R118; R119; R121; R228; Table 4-6; Table 4-8; Table 4-9) -/
def Obligations.PortStatesMove : Prop :=
  ∀ (s : State) (n : Fin 32), s.live = true →
    (s.ports[n].state = .precharge → 1 ≤ s.pers n.1 → s.pers n.1 ≤ 5 → s.becomes (.prechargeDone n) (s.modPort n fun p =>
      if s.pers n.1 = 4 then { p with state := .ramp, gh := true, blanked := false, rampRef := s.vLast n }
      else if s.pers n.1 = 5 then { p with state := .pullIn, gh := true } else { p with state := .switching, count := s.startCount n })) ∧
    (s.ports[n].state = .ramp → s.after (.lswFullyEnhanced n) fun t => t.ports[n] = { s.ports[n] with state := .on, gh := true }
      ∧ (∀ m, m ≠ n → t.ports[m] = s.ports[m]) ∧ (∀ r, s.railOf n ≠ some r → t.rails[r] = s.rails[r])
      ∧ ({ s with ports := t.ports, rails := t.rails }).delivers t) ∧
    (s.ports[n].state = .pullIn → s.after (.coilPullDone n) fun t => t.ports[n] = { s.ports[n] with state := .hold, pulled := true }
      ∧ (∀ m, m ≠ n → t.ports[m] = s.ports[m]) ∧ (∀ r, s.railOf n ≠ some r → t.rails[r] = s.rails[r])
      ∧ (∀ r, s.railOf n = some r → s.phases r = [n] → s.pers n.1 = 5 → s.rails[r].state ≠ .fenced → t.rails[r].pg = true)
      ∧ ({ s with ports := t.ports, rails := t.rails }).delivers t) ∧
    (s.ports[n].state = .release → s.after (.coilReleaseTimeout n) fun t => (t.tripFlags n).testBit 10 = true
      ∧ t.ports[n].gh = false ∧ t.ports[n].gl = false ∧ t.ports[n].state ≠ .release) ∧
    (s.pers n.1 = 6 → s.becomes (.fanRpmTimeout n)
      ((s.setReg (portIdx n.1) 0x34 0).modPort n fun p => { p with tachAt := none }))

/-- A port fault sets its flag; all but a fan's leave both gates low. With the core clock running and a present port: the
interlock time-out of a switching port and a precharge time-out fence the port; on a port whose rail is neither FENCED nor
HELD a load switch's ramp time-out and overload and a coil's rise time-out and open hold set their flags and leave both
gates low; a fan stall and a fan open circuit set theirs. (R91; R93; R116; R117; R118; R119; R121; R302; Table 11-4) -/
def Obligations.PortFaultsShutGates : Prop :=
  ∀ (s : State) (n : Fin 32), s.live = true → n.1 < s.variant.ports →
    let shut := fun (flag : Nat) (t : State) => (t.tripFlags n).testBit flag = true ∧ t.ports[n].gh = false ∧ t.ports[n].gl = false
    let free := ∀ r, s.railOf n = some r → s.rails[r].state ≠ .fenced ∧ s.rails[r].state ≠ .held
    (s.isSwitching n = true → s.after (.gateInterlockTimeout n) fun t => shut 4 t ∧ t.ports[n].state = .fenced ∧ t.flt.ports.getLsbD n.1 = true) ∧
    (s.ports[n].state = .precharge → s.after (.prechargeTimeout n) fun t => shut 5 t ∧ t.ports[n].state = .fenced
      ∧ t.flt.ports.getLsbD n.1 = true) ∧
    (s.ports[n].state = .ramp → free → s.after (.lswRampTimeout n) (shut 7)) ∧
    (s.ports[n].state = .on → s.act (portIdx n.1) 0x23 ≠ 0 → free → s.after (.lswOverload n) (shut 6)) ∧
    (s.ports[n].state = .pullIn → s.ports[n].pulled = false → free → s.after (.coilRiseTimeout n) (shut 8)) ∧
    (s.ports[n].state = .hold → free → s.after (.coilHoldOpen n) (shut 8)) ∧
    (s.fanDriven n = true → (s.act (portIdx n.1) 0x31 ≠ 0xFF → s.after (.fanStall n) fun t => (t.tripFlags n).testBit 11 = true) ∧
      s.after (.fanOpen n) fun t => (t.tripFlags n).testBit 12 = true)

/-- A control-plane write stands in the pending copy and waits; its transfer reaches the shadow and active copies. With the
dictionary open to the path, nothing staged and the settings of the port or rail in order: personality, fan tach channel,
PORT_MASK and ENABLE writes that their checks allow are accepted into the pending copy, leave the active copy as it was and
wait in the order of acceptance; personality 3 takes the odd port of the pair with it in one write. The write transfer of an
index whose oldest outstanding write, with no earlier one of that index, holds one plain setting of a port, one of the
charger, or one of a rail but its membership, enable, period and truncation or skim settings, brings that value to the
shadow and active copies and takes the write off the list; VSET and TRIM so transferred make the rail's goal, and a
regulating rail whose reference is not at the goal slews. (R19; R20; R25; R87; R156; R159; R161; R379) -/
def Obligations.ControlWritesWaitForTransfer : Prop :=
  ∀ s : State,
    (∀ p, s.hears p → (∀ g : Fin 8, s.cmt.groups[g].staged = []) →
      let waits := fun (idx sub v : Nat) (t : State) => t.took p ∧ t.reg idx sub = v ∧ t.act idx sub = s.act idx sub
        ∧ t.shad idx sub = s.shad idx sub
        ∧ t.cmt.out = s.cmt.out ++ [{ id := s.cmt.nextId, path := .host p, vals := [(key idx sub, v)], acts := [] }]
      (∀ n : Fin 32, n.1 < s.variant.ports → portOk s.reg (portIdx n.1) = true →
        (∀ v : Byte, v.toNat ≤ 6 → v ≠ 3 → s.reg (portIdx n.1) 1 ≠ 3 → personalityOk s s.reg n v.toNat = true →
          s.after (.personalityWrite p n v) (waits (portIdx n.1) 1 v.toNat)) ∧
        (n.1 % 2 = 0 → portOk s.reg (portIdx (n.1 + 1)) = true → personalityOk s s.reg n 3 = true →
          s.after (.personalityWrite p n 3) fun t => t.took p ∧ t.active = s.active ∧ t.shadow = s.shadow
            ∧ t.reg (portIdx n.1) 1 = 3 ∧ t.reg (portIdx (n.1 + 1)) 1 = 3
            ∧ t.cmt.out = s.cmt.out ++ [{ id := s.cmt.nextId, path := .host p, vals := [(key (portIdx n.1) 1, 3), (key (portIdx (n.1 + 1)) 1, 3)], acts := [] }]) ∧
        (∀ v : Byte, (v = 0xFF ∨ (v.toNat < 8 ∧ s.ownerOf v.toNat = none)) → s.after (.fanTachWrite p n v) (waits (portIdx n.1) 0x31 v.toNat))) ∧
      (∀ r : Fin 16, r.1 < s.variant.rails →
        (∀ m : U32, maskOk s.variant s.reg m.toNat = true → s.reg (railIdx r.1) 0x17 ≤ max 1 (ones 32 m.toNat) →
          s.reg (railIdx r.1) 0x18 ≤ max 1 (ones 32 m.toNat) →
          portMaskOk s (s.lookWith [(railIdx r.1, 1, m.toNat)]) r m.toNat = true →
          s.after (.portMaskWrite p r m) (waits (railIdx r.1) 1 m.toNat)) ∧
        (railOk s.variant s.reg (railIdx r.1) 3 = true → (s.md.mode = .run ∨ s.md.mode = .holdup) →
          (s.reg (railIdx r.1) 1 ≠ 0 → s.blocked r = false → s.after (.railEnable p r) (waits (railIdx r.1) 3 1)) ∧
          (s.after (.railDisable p r) (waits (railIdx r.1) 3 0))))) ∧
    (∀ (idx : U16) (o : Outstanding), s.oldestFor idx.toNat = some o → ∀ x, o.vals = [x] → o.acts = [] → s.live = true →
      (∀ w ∈ s.cmt.out, w.id ≤ o.id → (w.id = o.id ∨ w.idxs.contains idx.toNat = true) → w = o) →
      let i := idx.toNat
      let sub := x.1 % 256
      let moved := fun t : State => t.act i sub = x.2 ∧ t.shad i sub = x.2 ∧ t.reg i sub = s.reg i sub
        ∧ t.cmt.out = s.cmt.out.filter fun q => q.id != o.id
      (((0x2100 ≤ i ∧ i < 0x2120 ∧ 2 ≤ sub ∧ sub ≠ 0x31) ∨ i = 0x2500) → s.after (.writeTransfer idx) moved) ∧
      (∀ r : Fin 16, i = railIdx r.1 → sub ∉ [1, 3, 7, 0x10, 0x12] → s.after (.writeTransfer idx) fun t => moved t ∧
        ((sub = 8 ∨ sub = 9) → t.rails[r].target = targetOf (t.act i 8) (t.act i 9) ∧ t.rails[r].vref = s.rails[r].vref ∧
          (s.rails[r].state = .regulating → t.rails[r].target ≠ s.rails[r].vref → t.rails[r].state = .slewing))))

/-- Start time-out, truncation, the hiccup retry and its clearing. With the core clock running: SS_TMO of a starting converter
rail without power-good sets START_FAIL and counts a start failure; a rising crossing of the truncation level on a rail with
active phases sets TRUNC and counts it, a falling one ends it and changes nothing else; a hiccup retry of a tripped rail
clears START_FAIL, ends the wait and raises HIC_COUNT by one up to 255; power-good held for HIC_CLEAR makes HIC_COUNT 0.
(R169; R170; R171; R172; R229; R222) -/
def Obligations.RailEvents : Prop :=
  ∀ (s : State) (r : Fin 16), s.live = true →
    (isConverter (s.railPers r) = true → s.rails[r].pg = false → (s.rails[r].state = .prebias ∨ s.rails[r].state = .softStart ∨ s.rails[r].state = .regulating) →
      s.after (.softStartTimeout r) fun t => (t.reg (railIdx r.1) 0x19).testBit 4 = true
        ∧ t.reg (railIdx r.1) 0x55 = min 0xFFFFFFFF (s.reg (railIdx r.1) 0x55 + 1)) ∧
    (isConverter (s.railPers r) = true → s.act (railIdx r.1) 0x10 ≠ 0 → s.actives r ≠ [] →
      (s.after (.truncationCross r true) fun t => (t.reg (railIdx r.1) 0x19).testBit 0 = true ∧ t.rails[r].trunc = true
        ∧ t.reg (railIdx r.1) 0x11 = min 0xFFFFFFFF (s.reg (railIdx r.1) 0x11 + 1)) ∧
      (s.becomes (.truncationCross r false) (s.modRail r fun x => { x with trunc := false }))) ∧
    (s.rails[r].hicWait = true → s.railState r = .tripped → s.after (.hiccupRetry r) fun t =>
      t.rails[r].hicWait = false ∧ t.rails[r].hicCount = min 255 (s.rails[r].hicCount + 1)
        ∧ (t.reg (railIdx r.1) 0x19).testBit 4 = false) ∧
    (s.rails[r].pg = true → s.becomes (.hicClearExpire r) (s.modRail r fun x => { x with hicCount := 0 }))

/-- Write-1-to-clear registers clear exactly the bits written; keys clear counters and ledgers; SNAP copies every ledger at
once. With the dictionary open to the path: a write of TRIP_FLAGS, RAIL_FLAGS or SUP_FLAGS of a present unit, none of whose
accepted writes waits for its transfer, leaves exactly the bits that were set and not written 1. The key at CNT_CLEAR makes
the eight event counters 0, the key at the ledger's CLEAR makes charge and energy 0, any other value is refused with
0x06090030. SNAP copies charge and energy of every present port with the present count. (R124; R160; R229; R230; R181; R183) -/
def Obligations.FlagAndCounterClears : Prop :=
  ∀ (s : State) (p : HostPath), s.hears p →
    (∀ n : Fin 32, n.1 < s.variant.ports →
      (∀ m : U16, s.settled (portIdx n.1) → s.after (.tripFlagsClear p n m) fun t => t.took p ∧ t.tripFlags n = s.tripFlags n - (s.tripFlags n &&& (m.toNat &&& 0x1FFF))) ∧
      (s.after (.ledgerSnap p n) fun t => t.took p ∧ ∀ q : Fin 32, q.1 < s.variant.ports → t.ledger[q] = { s.ledger[q] with
        snapCharge := whole s.ledger[q].charge, snapEnergy := whole s.ledger[q].energy, snapStamp := s.tb.count }) ∧
      (s.after (.ledgerClear p n 0x4C454447) fun t => t.took p ∧ t.ledger[n] = { s.ledger[n] with charge := 0, energy := 0 }
        ∧ ∀ q, q ≠ n → t.ledger[q] = s.ledger[q]) ∧
      (∀ v : U32, v ≠ 0x4C454447 → s.after (.ledgerClear p n v) fun t => t.turnedAway p 0x06090030 ∧ t.ledger = s.ledger)) ∧
    (∀ r : Fin 16, r.1 < s.variant.rails → s.settled (railIdx r.1) →
      (∀ m : Byte, (s.after (.railFlagsClear p r m) fun t => t.took p ∧
          t.reg (railIdx r.1) 0x19 = s.reg (railIdx r.1) 0x19 - (s.reg (railIdx r.1) 0x19 &&& (m.toNat &&& 0x3F))) ∧
        (s.after (.supFlagsClear p r m) fun t => t.took p ∧
          t.reg (railIdx r.1) 0x4C = s.reg (railIdx r.1) 0x4C - (s.reg (railIdx r.1) 0x4C &&& (m.toNat &&& 0x7F)))) ∧
      (s.after (.cntClear p r 0x45564E54) fun t => t.took p ∧ ∀ j, j < 8 → t.reg (railIdx r.1) (0x52 + j) = 0) ∧
      (∀ v : U32, v ≠ 0x45564E54 → s.after (.cntClear p r v) fun t => t.turnedAway p 0x06090030))

/-- A converter word is corrected, kept in its converter's buffer and taken by its receiver; a dead lane fails the converter.
With the core clock running: a sense word of a present port not in RELEASE whose converter is good, received with correct
parity and below the backstop level, is corrected with the converter's GAIN and OFFSET, added to the port's period and kept
with the three before it. A voltage word is corrected and becomes the newest of the rail's last sixteen. A dead lane fails
the converter: SCn, VCk, or the rover. (R125; R126; R127; R128; R130; R143; R144; R168; R188) -/
def Obligations.ConverterWordsAreCorrectedAndKept : Prop :=
  ∀ s : State, s.live = true →
    (∀ (n : Fin 32) (raw : U16), n.1 < s.variant.ports → s.flt.sc.getLsbD n.1 = false → s.ports[n].state ≠ .release →
      let w := correctSense s.sc[n.castSucc] raw.toInt
      w < backstopCode (s.act (portIdx n.1) 5) (s.act (portIdx n.1) 4) (s.timing n).backstop →
      s.after (.senseWord n.castSucc raw 0 0) fun t =>
        t.ports[n].sum = s.ports[n].sum + w ∧ t.ports[n].num = s.ports[n].num + 1 ∧ t.ports[n].last = some w
          ∧ t.sc[n.castSucc].buffer = (fabricWord (unsignedOf 16 w) :: s.sc[n.castSucc].buffer).take 4
          ∧ t.sc[n.castSucc].gain = s.sc[n.castSucc].gain ∧ ∀ m, m ≠ n → m ≠ s.mate n → t.ports[m] = s.ports[m]) ∧
    (∀ (k : Fin 16) (raw : U16), k.1 < s.variant.rails → s.flt.vc.getLsbD k.1 = false →
      s.after (.voltageWord k raw 0 0) fun t =>
        t.rails[k].words = (correctVolt s.vc[k] raw.toNat :: s.rails[k].words).take 16
          ∧ t.vc[k].lastWord = correctVolt s.vc[k] raw.toNat ∧ t.vc[k].gain = s.vc[k].gain) ∧
    (∀ n : Fin 32, n.1 < s.variant.ports → s.flt.sc.getLsbD n.1 = false → s.after (.laneDead (.sense n.castSucc)) fun t =>
      t.flt.sc.getLsbD n.1 = true) ∧
    (∀ k : Fin 16, k.1 < s.variant.rails → s.flt.vc.getLsbD k.1 = false → s.after (.laneDead (.volt k)) fun t => t.flt.vc.getLsbD k.1 = true) ∧
    (s.milk.roverFailed = false → s.after (.laneDead (.sense 32)) fun t => t.milk.roverFailed = true ∧ t.milk.running = false)

/-- A frame computes, releases at its end, and a failed engine releases nothing. With the core clock running, an unblocked
active engine with a frame: a frame starts at clock 0 with the length of its frame-defining period, less what LE8 is late;
with one update due, of a port or of a rail, that update is in hand with the active copies, and a rail's state, as they
stand, and no port and no rail has anything new from it. A detector that fires in the first 16 clocks of a frame without
updates fences the engine, with its cause and the time recorded and nothing of the frame left. The end of a frame with every
update run takes it off the engine: the update in hand is completed, a port's by the share of R139 and a rail's by slew,
skim and the compensator of R138, on the active copies it read, where its words have come; a port's result becomes its new
command with its limit code, share and saturation run, a rail's its state words, and nothing else of the ports changes; a
rail whose words have not come keeps its words; a blocked engine releases neither. The takeover starts LE8, records its time
and counts one held cycle for each port it serves. The model's choices: slew and skim at the update's end (log entry 62),
rounding (10), events within one 16-clock tick (8), what waits for a first word (124). (R133; R134; R138; R139; R148; R149;
R150; notes/assumptions 8 (DESIGN CHOICE); notes/assumptions 10 (DESIGN CHOICE); notes/assumptions 62 (DEDUCED);
notes/assumptions 124 (DESIGN CHOICE)) -/
def Obligations.FramesReleaseAtTheirEnd : Prop :=
  ∀ s : State, s.live = true →
    (∀ e : Fin 9, s.engines[e].blocked = false → s.engines[e].state = .active → 0 < s.engFrame e →
      (s.tasksOf e = [] → s.after (.frameStart e []) fun t => t.engines[e].frame = some {
          length := s.engFrame e - s.engines[e].late, clock := 0, time := 0, cur := none, snap := [], was := .off, ready := false, wait := [],
          tasks := [], events := [], ports := [], rails := [], lost := [] }
        ∧ t.engines[e].state = .active ∧ t.rails = s.rails) ∧
      (∀ (n : Fin 32) (r : Fin 16), s.tasksOf e = [.port n] → s.railOf n = some r → isConverter (s.pers n.1) = true → s.leads n = true →
        s.ports[n].heldNext = false → s.milk.standin ≠ some n → s.after (.frameStart e []) fun t =>
          (∃ f, t.engines[e].frame = some f ∧ f.clock = 0 ∧ f.tasks = [] ∧ f.rails = [] ∧ f.ports = [] ∧ f.cur = some (.port n) ∧ f.snap = s.active)
            ∧ t.ports[n].due = false ∧ ∀ m : Fin 32, t.ports[m].newCmd = s.ports[m].newCmd ∧ t.ports[m].share = s.ports[m].share) ∧
      (∀ r : Fin 16, s.tasksOf e = [.rail r] → isConverter (s.railPers r) = true → s.rails[r].state = .regulating →
        s.after (.frameStart e []) fun t =>
          (∃ f, t.engines[e].frame = some f ∧ f.clock = 0 ∧ f.tasks = [] ∧ f.ports = [] ∧ f.rails = [] ∧ f.cur = some (.rail r) ∧ f.snap = s.active
              ∧ f.was = s.rails[r].state ∧ f.ready = s.risen r)
            ∧ t.rails[r].due = false ∧ t.rails[r].eHist = s.rails[r].eHist ∧ t.rails[r].yHist = s.rails[r].yHist) ∧
      (∀ (clock : Nat) (d : EngineDetector), clock < 16 → s.tasksOf e = [] → s.after (.frameStart e [.detector clock d]) fun t =>
        t.engines[e].frame = none ∧ t.engines[e].state = .fenced ∧ t.flt.engines.getLsbD e.1 = true
          ∧ t.reg (engIdx e.1) 0x0E = detCode d ∧ t.reg (engIdx e.1) 0x0F = s.tb.count.toNat)) ∧
    (∀ (e : Fin 9) (f : FrameRun), s.engines[e].frame = some f → f.tasks = [] → f.events = [] → s.engines[e].blocked = false →
      f.ports = [] → f.rails = [] → f.wait = [] →
      let u := { s with active := f.snap }
      (∀ (n : Fin 32) (r : Fin 16), f.cur = some (.port n) → u.railOf n = some r → isConverter (u.pers n.1) = true → u.leads n = true →
        (s.ports[n].fed = true ∨ s.milk.standin ≠ some n) → s.isSwitching n = true →
        (u.worded (.port n) = true →
          let x := shareOf u r n s.rails[r].yHist.1
          x.2.2 ≠ 1000 → s.after (.frameEnd e) fun t => t.engines[e].frame = none ∧ t.rails = s.rails
            ∧ t.ports[n] = { s.ports[n] with newCmd := some (x.1, u.limit n.1), share := x.2.1, shareSh := x.2.1, satRun := x.2.2 }
            ∧ ∀ m, m ≠ n → t.ports[m] = s.ports[m]) ∧
        (u.worded (.port n) = false → s.after (.frameEnd e) fun t => t.engines[e].frame = none ∧ t.rails = s.rails ∧ t.ports = s.ports)) ∧
      (∀ r : Fin 16, f.cur = some (.rail r) → isConverter (u.railPers r) = true →
        let v := skim (addLost (slewRail u r f.was f.ready (s.goalOf r)) r) r
        let x := compensate v r
        s.after (.frameEnd e) fun t => t.engines[e].frame = none ∧ t.rails[r].vref = v.rails[r].vref ∧ t.rails[r].state = v.rails[r].state
          ∧ (v.worded (.rail r) = true → t.rails[r].eHist = x.1 ∧ t.rails[r].yHist = x.2 ∧ t.rails[r].shHist = x ∧ t.rails[r].seeded = true)
          ∧ (v.worded (.rail r) = false → t.rails[r].eHist = v.rails[r].eHist ∧ t.rails[r].yHist = v.rails[r].yHist))) ∧
    (∀ (e : Fin 9) (f : FrameRun), s.engines[e].frame = some f → f.tasks = [] → f.events = [] → f.cur = none → f.wait = [] →
      (s.engines[e].blocked = true → s.after (.frameEnd e) fun t => t.engines[e].frame = none ∧ t.ports = s.ports ∧ t.rails = s.rails) ∧
      (∀ x, f.ports = [x] → f.rails = [] → s.engines[e].blocked = false → x.2.2.2 ≠ 1000 → ∀ n : Fin 32, n.1 = x.1 → s.isSwitching n = true →
        s.after (.frameEnd e) fun t => t.engines[e].frame = none ∧ t.rails = s.rails
          ∧ t.ports[n] = { s.ports[n] with newCmd := some x.2.1, share := x.2.2.1, shareSh := x.2.2.1, satRun := x.2.2.2 }
          ∧ ∀ m, m ≠ n → t.ports[m] = s.ports[m]) ∧
      (∀ x, f.rails = [x] → f.ports = [] → s.engines[e].blocked = false → ∀ r : Fin 16, r.1 = x.1 →
        s.after (.frameEnd e) fun t => t.engines[e].frame = none ∧ t.ports = s.ports
          ∧ t.rails[r] = { s.rails[r] with eHist := x.2.1, yHist := x.2.2, shHist := x.2, seeded := true }
          ∧ ∀ q, q ≠ r → t.rails[q] = s.rails[q])) ∧
    (s.engines[(8 : Fin 9)].state = .covering → s.engines[(8 : Fin 9)].blocked = true → s.after .spareTakeover fun t =>
      t.engines[(8 : Fin 9)].blocked = false ∧ t.engines[(8 : Fin 9)].state = .covering ∧ t.reg (engIdx 8) 0x10 = s.tb.count.toNat
        ∧ t.reg (engIdx 8) 0x11 = (s.servesOf 8).length ∧ t.ports = s.ports)

/-- The milk round walks slot by slot, ramps and trims move by bounded steps, and a stolen slot repeats the word before. With
the core clock running: an abandoned visit's slot gives way to the next, or after the last to slot 0 with the round counted.
A correction increment moves a sense converter by one step of its ramp, and a voltage converter not at all: a stolen slot of
a good voltage converter in RUN or HOLDUP with STEAL_EN set, short of its 256 samples, moves it by one step of its own ramp,
counts the sample and repeats the newest word of its holding buffer, if there is one, to the rail. TRIM_UPDATE moves each of
the four trims by at most one step, and with no valid die sensor freezes them; AON_TRIM_UPDATE moves the AON trim alone, by
at most one step. (R191; R192; R197; R198; R199; R200; R201) -/
def Obligations.MilkRoundWalksItsSlots : Prop :=
  ∀ s : State,
    (s.live = true →
      (s.milk.running = true → 1 ≤ s.milk.slot → s.milk.slot ≤ s.variant.ports → s.milk.visit.abandoned = true → s.after .mrSlotStart fun t =>
        t.milk.running = true ∧ (s.milk.slot < s.variant.ports → t.milk.slot = s.milk.slot + 1) ∧
          (s.milk.slot = s.variant.ports → t.milk.slot = 0 ∧ t.reg 0x3000 4 = min 0xFFFFFFFF (s.reg 0x3000 4 + 1) ∧ t.milk.roundOne = true)) ∧
      (∀ n : Fin 33, s.after (.correctionIncrement (.sense n)) fun t => t.sc[n] = s.sc[n].stepRamp ∧ ∀ m, m ≠ n → t.sc[m] = s.sc[m]) ∧
      (∀ (k : Fin 16) (raw : U16), (s.reg 0x3000 1).testBit 1 = true → (s.md.mode = .run ∨ s.md.mode = .holdup) → k.1 < s.variant.rails →
        s.flt.vc.getLsbD k.1 = false → s.vc[k].stolen < 255 → s.after (.stolenSample k raw) fun t =>
          t.vc[k].stolen = s.vc[k].stolen + 1 ∧ t.vc[k].gain = s.vc[k].stepRamp.gain ∧ t.vc[k].offset = s.vc[k].stepRamp.offset
            ∧ (∀ w q, s.vc[k].buffer = w :: q → t.rails[k].words = (w.toNat % 65536 :: s.rails[k].words).take 16)
            ∧ (s.vc[k].buffer = [] → t.rails[k].words = s.rails[k].words)) ∧
      (∀ k : Fin 16, s.ignores (.correctionIncrement (.volt k))) ∧
      (s.dieMean ≠ none → s.after .trimUpdate fun t => t.milk.frozen = false ∧ t.milk.trims[(4 : Fin 5)] = s.milk.trims[(4 : Fin 5)] ∧
        ∀ i : Fin 5, (t.milk.trims[i] - s.milk.trims[i]).natAbs ≤ 1) ∧
      (s.dieMean = none → s.after .trimUpdate fun t => t.milk.frozen = true ∧ t.milk.trims = s.milk.trims)) ∧
    (s.aonUp = true → s.md.mode ≠ .ship → s.after .aonTrimUpdate fun t =>
      (t.milk.trims[(4 : Fin 5)] - s.milk.trims[(4 : Fin 5)]).natAbs ≤ 1 ∧ ∀ i : Fin 5, i ≠ 4 → t.milk.trims[i] = s.milk.trims[i])

/-- ROUND_EN and STEAL_EN are set and cleared, and the round starts or stops with the first. With the dictionary open to the
path and a rover free, ROUND_EN 1 is accepted and in RUN starts a round that does not run from slot 0 when it was 0 before;
ROUND_EN 0 stops it. STEAL_EN is set and cleared beside it. With no rover free ROUND_EN 1 is refused with 0x08000022. (R191;
R192; R198) -/
def Obligations.MilkRoundSwitches : Prop :=
  ∀ (s : State) (p : HostPath), s.hears p → s.reg 0x3000 1 < 4 →
    (s.milk.noSpare = false → s.after (.roundEnable p) fun t => t.took p ∧ (t.reg 0x3000 1).testBit 0 = true
      ∧ (t.reg 0x3000 1).testBit 1 = (s.reg 0x3000 1).testBit 1
      ∧ (s.md.mode = .run → (s.reg 0x3000 1).testBit 0 = false → t.milk.running = true ∧ t.milk.slot = 0)) ∧
    (s.milk.noSpare = true → s.after (.roundEnable p) fun t => t.turnedAway p 0x08000022 ∧ t.reg 0x3000 1 = s.reg 0x3000 1) ∧
    (s.after (.roundDisable p) fun t => t.took p ∧ (t.reg 0x3000 1).testBit 0 = false ∧ t.milk.running = false) ∧
    (s.milk.noSpare = false → s.after (.stealEnable p) fun t => t.took p ∧ (t.reg 0x3000 1).testBit 1 = true
      ∧ (t.reg 0x3000 1).testBit 0 = (s.reg 0x3000 1).testBit 0) ∧
    (s.milk.noSpare = false → s.after (.stealDisable p) fun t => t.took p ∧ (t.reg 0x3000 1).testBit 1 = false
      ∧ (t.reg 0x3000 1).testBit 0 = (s.reg 0x3000 1).testBit 0)

/-- The timebase wraps from 0xFFFFFFFF to 0 and counts the wrap. With the timebase running at 0xFFFFFFFF, TIMEBASE_WRAP makes
the count 0 and raises the wrap count; with no frame in progress on any engine nothing else changes but what every tick
moves: the watchdog, the period counters and DACs of the ports, the charger's period, the status mirror with the free values
its measurements draw. Compare and capture channels then keep their state. At any other count it changes nothing. That the
wrap is the tick after the top count is the model's choice (log entry 8). (R370; notes/assumptions 8 (DESIGN CHOICE)) -/
def Obligations.TimebaseWrapsAtItsTop : Prop :=
  ∀ s : State, s.tbRuns = true →
    (s.tb.count = 0xFFFFFFFF → s.after .timebaseWrap fun t => t.tb.count = 0 ∧ t.tb.wraps = s.tb.wraps + 1 ∧
      ((∀ e : Fin 9, s.engines[e].frame = none) →
        ({ s with tb := t.tb, wd := t.wd, ports := t.ports, chg := t.chg, mirror := t.mirror, freeCtr := t.freeCtr }).delivers t
          ∧ t.tb.cmp = s.tb.cmp ∧ t.tb.cap = s.tb.cap)) ∧
    (s.tb.count ≠ 0xFFFFFFFF → s.ignores .timebaseWrap)

/-- A compare channel is armed, judged, fired and disarmed as its registers say. A VALUE write while EN is 1, and an EN write of
1, arm the channel: late when VALUE is not in the half-range window ahead of the count, then seen from the next tick, else
from three ticks on. In the tick of a start action on the channel a VALUE write is answered and discarded. EN 0 disarms it.
A due channel without an action fires: its flag is set, its count raised, its last count recorded; a trigger channel is
disarmed by it with its VALUE kept; a periodic one stays armed, compared from the next tick, its VALUE raised by INTERVAL as
often as takes it ahead of the count, every addition after the first counted in SKIP_CNT and marked by SKIPPED. (R372; R373;
R374; R375; R376; Table 14-2) -/
def Obligations.CompareChannelsArmAndFire : Prop :=
  ∀ s : State,
    (∀ (p : HostPath) (k : Fin 16), s.hears p → compareOk s.reg (0x2810 + k.1) = true →
      (∀ v : U32, s.startedNow k = true → s.after (.cmpValueWrite p k v) fun t => t.took p ∧ t.tb = s.tb ∧
        t.reg (0x2810 + k.1) 2 = s.reg (0x2810 + k.1) 2) ∧
      (∀ v : U32, s.startedNow k = false → s.after (.cmpValueWrite p k v) fun t => t.took p ∧ t.reg (0x2810 + k.1) 2 = v.toNat ∧
        ((s.reg (0x2810 + k.1) 1).testBit 0 = true → t.tb.cmp[k] = if ahead s.tb.count v
          then { s.tb.cmp[k] with armed := true, late := false, from_ := s.tb.count + 3 }
          else { s.tb.cmp[k] with armed := true, late := true, from_ := s.tb.count + 1 }) ∧
        ((s.reg (0x2810 + k.1) 1).testBit 0 = false → t.tb = s.tb)) ∧
      (s.after (.cmpEnable p k) fun t => t.took p ∧ t.reg (0x2810 + k.1) 1 = 1 ∧ t.tb.cmp[k] = if ahead s.tb.count (s.cmpValue k)
          then { s.tb.cmp[k] with armed := true, late := false, from_ := s.tb.count + 3 }
          else { s.tb.cmp[k] with armed := true, late := true, from_ := s.tb.count + 1 }) ∧
      (s.after (.cmpDisable p k) fun t => t.took p ∧ t.reg (0x2810 + k.1) 1 = 0 ∧ t.tb.cmp[k].armed = false)) ∧
    (∀ k : Fin 16, s.tbRuns = true → s.cmpDue k = true → s.reg (0x2810 + k.1) 4 = 0 → s.after (.cmpFire k) fun t =>
      (t.reg (0x2810 + k.1) 8).testBit 0 = true ∧ t.reg (0x2810 + k.1) 9 = min 0xFFFFFFFF (s.reg (0x2810 + k.1) 9 + 1)
        ∧ t.reg (0x2810 + k.1) 0x0A = s.tb.count.toNat ∧ t.tb.count = s.tb.count ∧ t.md = s.md
        ∧ (8 ≤ k.1 → t.tb.cmp[k].armed = false ∧ t.reg (0x2810 + k.1) 2 = s.reg (0x2810 + k.1) 2)
        ∧ (k.1 < 8 → t.tb.cmp[k] = { s.tb.cmp[k] with late := false, from_ := s.tb.count + 1 } ∧
          let i := max 1 (s.reg (0x2810 + k.1) 3)
          let skips := (s.tb.count - s.cmpValue k).toNat / i
          t.cmpValue k = s.cmpValue k + BitVec.ofNat 32 ((skips + 1) * i) ∧ (i ≤ 2 ^ 31 → ahead s.tb.count (t.cmpValue k) = true)
            ∧ t.reg (0x2810 + k.1) 0x0B = min 0xFFFFFFFF (s.reg (0x2810 + k.1) 0x0B + skips)
            ∧ (skips ≠ 0 → (t.reg (0x2810 + k.1) 8).testBit 1 = true)))

/-- A capture channel records the tick of its edge; its owner or its reader takes it. Outside SHIP, an edge of a polarity that
EDGE names, in a tick neither in the future nor before the arming, on an armed channel that watches a ball and that no fan
port owns, stands in VALUE, raises the count, sets FULL, disarms a one-shot channel and sets OVERRUN when FULL was set. A
read of VALUE in a later tick than the last capture answers it and clears FULL of a channel nobody owns; one in the tick of
the capture leaves it full. A CTRL write sets EDGE and ONE_SHOT and arms the channel from now. An edge of the other polarity
changes the level of its ball alone. On a channel that a fan port owns every rising edge stands in VALUE with FULL and
OVERRUN 0 and reaches the port, whose FAN_RPM follows from the ticks since the edge before, rounded halves up (the model's
choice, log entry 10); a read of VALUE clears nothing and a CTRL write is refused with 0x08000022. That a command is an edge
that the filter has passed is the model's choice (log entry 116). (R377; R378; R379; R121; notes/assumptions 10 (DESIGN
CHOICE); notes/assumptions 116 (DESIGN CHOICE)) -/
def Obligations.CaptureChannelsCapture : Prop :=
  ∀ (s : State) (k : Fin 8),
    (∀ (edge : U32) (rising : Bool), s.tbRuns = true → s.capBall k = true → ahead s.tb.count edge = false → s.md.mode ≠ .ship →
      (s.capArmed k = true → s.capEdge k rising = true → s.ownerOf k.1 = none →
        s.tb.cap[k].from_ ≤ s.count64 edge → s.after (.captureEdge k ⟨rising, edge⟩) fun t =>
          t.reg (0x2820 + k.1) 4 = edge.toNat ∧ t.reg (0x2820 + k.1) 7 = min 0xFFFFFFFF (s.reg (0x2820 + k.1) 7 + 1)
            ∧ t.tb.cap[k].full = true ∧ ((s.reg (0x2820 + k.1) 1).testBit 2 = true → t.tb.cap[k].armed = false)
            ∧ (s.tb.cap[k].full = true → (t.reg (0x2820 + k.1) 6).testBit 0 = true) ∧ t.tb.count = s.tb.count) ∧
      (s.capEdge k rising = false → s.becomes (.captureEdge k ⟨rising, edge⟩) { s with pins := { s.pins with
        capin := if rising then setBit s.pins.capin (s.reg (0x2820 + k.1) 2) else clrBit s.pins.capin (s.reg (0x2820 + k.1) 2) } })) ∧
    (∀ p, s.hears p → s.ownerOf k.1 = none →
      (s.tb.cap[k].capAt ≠ some s.now64 → s.after (.captureRead p k) fun t => t.took p ∧ t.paths[pathIx p].answer = leBytes 4 (s.reg (0x2820 + k.1) 4)
        ∧ t.tb.cap[k].full = false ∧ t.tb.cap[k].armed = s.tb.cap[k].armed) ∧
      (s.tb.cap[k].capAt = some s.now64 → s.after (.captureRead p k) fun t => t.took p ∧ t.tb.cap = s.tb.cap) ∧
      (∀ v : Byte, s.after (.capCtrlWrite p k v) fun t => t.took p ∧ t.reg (0x2820 + k.1) 1 = v.toNat &&& 7
        ∧ t.tb.cap[k].from_ = s.now64 ∧ t.tb.cap[k].full = s.tb.cap[k].full)) ∧
    (∀ n, s.ownerOf k.1 = some n →
      (∀ edge : U32, s.tbRuns = true → s.md.mode ≠ .ship → s.capBall k = true → ahead s.tb.count edge = false →
        s.after (.captureEdge k ⟨true, edge⟩) fun t => t.reg (0x2820 + k.1) 4 = edge.toNat ∧ t.tb.cap[k].full = false
          ∧ (t.reg (0x2820 + k.1) 6).testBit 0 = false ∧ t.ports[n].tachAt = some edge
          ∧ ∀ last, s.ports[n].tachAt = some last → edge ≠ last → t.reg (portIdx n.1) 0x34 =
              min 0xFFFF (roundHalfUp 1500000000 (max 1 (s.act (portIdx n.1) 0x32) * (edge - last).toNat : Nat)).toNat) ∧
      (∀ p, s.hears p → (s.after (.captureRead p k) fun t => t.took p ∧ t.paths[pathIx p].answer = leBytes 4 (s.reg (0x2820 + k.1) 4)
          ∧ t.tb = s.tb) ∧
        ∀ v : Byte, s.after (.capCtrlWrite p k v) fun t => t.turnedAway p 0x08000022 ∧ t.tb = s.tb ∧ t.reg (0x2820 + k.1) 1 = s.reg (0x2820 + k.1) 1))

/-- The watchdog starts, is serviced by two keys of one path inside the window, and reports what is late. With the dictionary
open to the path, EN 1 starts a first period with its count at 0; EN 0, accepted in SAFESTOP alone, stops it. The first key
before TIMEOUT arms the sequence for its path; the second key of the same path in the open window with every required
check-in made serves the watchdog and starts a normal period. A check-in sets its bits, and each one set already counts as a
duplicate. TIMEOUT reached pulses both reset outputs and starts a first period again; with a place in the log and no wait of
a script that it could fail, its entry 0x0901 is the next one. The model's choices (log entry 72): EN 1 starts a first
period also where EN was 1, and a check-in bit that is already set counts one duplicate. (R383; R384; R385; R308; Table
14-7; notes/assumptions 72 (DEDUCED)) -/
def Obligations.WatchdogKeysAndTimeout : Prop :=
  ∀ s : State,
    (∀ p, s.hears p →
      (s.after (.wdEnable p) fun t => t.took p ∧ t.reg 0x2600 1 = 1 ∧ t.wd.running = true ∧ t.wd.first = true ∧ t.wd.count = 0
        ∧ t.wd.length = s.reg 0x2600 3 * 1000 ∧ t.wd.key = none ∧ t.wd.checked = 0) ∧
      (s.md.mode = .safestop → s.after (.wdDisable p) fun t => t.took p ∧ t.reg 0x2600 1 = 0 ∧ t.wd.running = false) ∧
      (s.md.mode ≠ .safestop → s.after (.wdDisable p) fun t => t.turnedAway p 0x08000022 ∧ t.wd = s.wd) ∧
      (s.wd.running = true → s.wd.count < s.wd.length →
        (s.after (.wdFirstKey p) fun t => t.took p ∧ t.wd = { s.wd with key := some p }) ∧
        (s.wd.key = some p → s.wdOpen ≤ s.wd.count → s.reg 0x2600 6 % 256 &&& s.wd.checked.toNat = s.reg 0x2600 6 % 256 →
          s.after (.wdSecondKey p) fun t => t.took p ∧ t.wd.running = true ∧ t.wd.first = false ∧ t.wd.count = 0 ∧ t.wd.checked = 0
            ∧ t.wd.key = none ∧ t.wd.length = s.reg 0x2600 2 * 1000 ∧ t.reg 0x2600 0x0C = min 0xFFFFFFFF (s.reg 0x2600 0x0C + 1))) ∧
      (∀ v : Byte, s.after (.wdCheckin p v) fun t => t.took p ∧ t.wd = { s.wd with checked := s.wd.checked ||| v }
        ∧ t.reg 0x2600 0x0B = (let dup := ones 8 (v.toNat &&& s.wd.checked.toNat)
          if dup = 0 then s.reg 0x2600 0x0B else min 0xFFFFFFFF (s.reg 0x2600 0x0B + dup)))) ∧
    (s.live = true → s.wd.running = true → s.wd.length ≤ s.wd.count → s.after .wdTimeout fun t =>
      t.wd.running = true ∧ t.wd.first = true ∧ t.wd.count = 0 ∧ t.pins.pulse = true ∧
        (s.waitFails = 0 → hasPlace s.log .u = true → ∃ e ∈ t.log, e.code = 0x0901 ∧ e.unit = wdUnit ∧ e.seq = nextSeq s.seq ∧ e.stamp = s.tb.count))

/-- Writes of PEND, of one source, of GDIS and of an enable mask. With the dictionary open to the path, a write of PEND clears
every pending bit written 0 whose level source has no flag set, sets every bit written 1, and a write of one source's PEND
sets it or clears it likewise; GDIS and the enable masks stand as written, and a target disabled by GDIS has an empty ACTIVE
register. (R388; R390; R392) -/
def Obligations.InterruptWritesTakeEffect : Prop :=
  ∀ (s : State) (p : HostPath), s.hears p →
    (∀ v : U64, s.after (.pendWrite p v) fun t => t.took p ∧ t.irq.pend &&& v = v
      ∧ ∀ n : Fin 64, v.getLsbD n.1 = false → n.1 ∉ levelsSet t → t.irq.pend.getLsbD n.1 = false) ∧
    (∀ n : Fin 64, (s.after (.sourcePendWrite p n 1) fun t => t.took p ∧ t.irq.pend.getLsbD n.1 = true) ∧
      (n.1 ∉ levelsSet s → s.after (.sourcePendWrite p n 0) fun t => t.took p ∧ t.irq.pend.getLsbD n.1 = false)) ∧
    (∀ v : Byte, s.after (.gdisWrite p v) fun t => t.took p ∧ t.reg 0x2A00 6 = v.toNat &&& 7
      ∧ (v.getLsbD 0 = true → t.irq.activeA = none) ∧ (v.getLsbD 1 = true → t.irq.activeB = none)) ∧
    (∀ (m : EnMask) (v : U64), s.after (.intEnableWrite p m v) fun t => t.took p ∧ t.reg 0x2A00 (enSub m) = v.toNat)

/-- The sequence engine starts the handler of the best source, nests it by level and takes its pending bit. In RUN or HOLDUP
with the sequencer idle, no partial run queued and the engine's target not disabled: the source that ranks before every
other one pending and enabled for the engine (level, then order, then number), with no handler running or with a strictly
lower level than the innermost's and at most four nested, has its handler with at least one step made the innermost, its
first step to start, and its pending bit taken unless a level flag of it is set. A source that ranks first but may not nest
starts nothing. (R389; R390; R393) -/
def Obligations.HandlersStartInRank : Prop :=
  ∀ (s : State) (n : Fin 64), s.ready = true → (s.md.mode = .run ∨ s.md.mode = .holdup) → s.sqe.stat = .idle → s.sqe.queue = [] →
    (s.reg 0x2A00 6).testBit 2 = false →
    let waits := fun m : Fin 64 => s.irq.pend.getLsbD m.1 = true ∧ (s.reg 0x2A00 5).testBit m.1 = true
    waits n → (∀ m, waits m → s.rank n.1 ≤ s.rank m.1) →
      (s.reg (0x2A40 + n.1) 4 ≠ 0 → (∀ h q, s.sqe.handlers = h :: q → s.level n.1 < s.level h.src.1 ∧ q.length < 3) →
        s.after .sqeHandlerStart fun t =>
          t.sqe.handlers = { src := n, first := s.reg (0x2A40 + n.1) 3, step := s.reg (0x2A40 + n.1) 3, left := s.reg (0x2A40 + n.1) 4, phase := .start,
                             since := s.coreNow, named := 0 } :: s.sqe.handlers
            ∧ (n.1 ∉ levelsSet s → t.irq.pend.getLsbD n.1 = false) ∧ t.md = s.md ∧ t.tb = s.tb) ∧
      (∀ h q, s.sqe.handlers = h :: q → (s.level h.src.1 ≤ s.level n.1 ∨ 3 ≤ q.length) → s.ignores .sqeHandlerStart)

/-- A store takes one snapshot of the whole array and its end puts that snapshot in the shadow. With the dictionary open to the
path, the store key with VSTORE good and no store running is accepted and starts a store whose snapshot holds the user area,
the fault log and the records as they are, an autostore among the requests it serves giving it its cause; with VSTORE low it
waits. STORE_INTERVAL starts one likewise. STORE_END, with no store queued that may not wait, puts the snapshot in the
shadow, counts the store and records its time. A queued store starts when VSTORE is good. A wait of 100 ms that ends with
VSTORE low is skipped and counted. (R402; R403; Table 15-10) -/
def Obligations.StoresCopyTheWholeArray : Prop :=
  ∀ s : State,
    (s.ks.running = none → s.pwr.vstoreOk = true →
      let started := fun (c : StoreCause) (t : State) =>
        ∃ a, t.ks.running = some (((c :: s.ks.queued).find? StoreCause.isAuto).getD c, a) ∧ a.user = s.ks.sram.user
          ∧ a.log = t.ks.sram.log ∧ a.recs = t.ks.sram.recs ∧ t.ks.shadow = s.ks.shadow ∧ t.ks.waiting = none ∧ t.ks.queued = []
          ∧ t.pwr.vstoreChg = false
      (∀ p, s.hears p → s.after (.storeCmd p 0x5354) fun t => t.took p ∧ started .command t) ∧
      (s.coreOn = true → s.reg 0x2B00 7 ≠ 0 → s.after .storeIntervalExpire (started .interval)) ∧
      (∀ c q, s.ks.queued = c :: q → s.after .storeQueuedStart (started c))) ∧
    (∀ p, s.hears p → s.ks.running = none → s.pwr.vstoreOk = false → s.ks.waiting = none → s.ks.queued = [] →
      s.after (.storeCmd p 0x5354) fun t => t.took p ∧ t.ks = { s.ks with waiting := some .command, sram := t.ks.sram }) ∧
    (∀ c a, s.ks.running = some (c, a) → (∀ q ∈ s.ks.queued, q.atOnce = false) → s.after .storeEnd fun t => t.ks.running = none ∧ t.ks.shadow = a ∧ t.ks.sram.log = s.ks.sram.log
      ∧ t.ks.skipped = false ∧ t.pwr.vstoreChg = true ∧ t.reg 0x2B00 8 = min 0xFFFFFFFF (s.reg 0x2B00 8 + 1)
      ∧ t.reg 0x2B00 0x0A = s.tb.count.toNat) ∧
    (∀ c, s.ks.waiting = some c → s.pwr.vstoreOk = false → s.after .storeVstoreWaitExpire fun t =>
      t.ks.waiting = none ∧ t.ks.queued = [] ∧ t.ks.skipped = true ∧ t.ks.shadow = s.ks.shadow
        ∧ t.reg 0x2B00 9 = min 0xFFFFFFFF (s.reg 0x2B00 9 + 1))

/-- A KS_DATA write lays its bytes from KS_ADDR, and no byte elsewhere changes. With the dictionary open to the path, 1 to 256
bytes that end within the user area and touch no protected block are accepted, and every byte outside KS_ADDR … KS_ADDR + n
and outside the tally counters reads as before; with no tally counter in the written range each written byte reads back.
Bytes that would pass 0x3FFF are refused with 0x06090030 and change nothing. (R399; R400; R401) -/
def Obligations.UserAreaReadsWhatWasWritten : Prop :=
  ∀ (s : State) (p : HostPath) (bytes : List Byte), s.hears p → 1 ≤ bytes.length → bytes.length ≤ 256 →
    let a := s.paths[pathIx p].ksAddr
    (a + bytes.length ≤ userSize → s.touchesProt a bytes.length = false → s.after (.ksDataWrite p bytes) fun t =>
      t.took p ∧ s.userBut t (fun b => decide (a ≤ b ∧ b < a + bytes.length))
        ∧ ((∀ b, a ≤ b → b < a + bytes.length → s.tallied b = false) → memReadN t.ks.sram.user a bytes.length = bytes)) ∧
    (userSize < a + bytes.length → s.after (.ksDataWrite p bytes) fun t => t.turnedAway p 0x06090030 ∧ s.userBut t fun _ => false)

/-- Build, commit, install, cancel and image write move CFG_STAT as Table 15-8 says. With the dictionary open to the path:
outside STANDBY build is accepted unless a build or commit runs, and its end makes the image of the settings with its hash,
ready to commit; an image write replaces the work buffer and its hash; outside STANDBY a commit of a newer image that needs
no signature writes the record of kind 4 and asks for a store, one that needs a signature waits for its verification, whose
end does the same when the ECDSA P-256 check holds, and else fails the commit with FAIL_CODE 0x08000020; install does so in
SAFESTOP with the latch clear for an image that passes its checks; cancel empties the work buffer. The model's choices (log
entry 44): an image write sets the hash, is taken whatever CFG_STAT reads, and its image is committed from CFG_STAT 2 as a
built one is. (R409; R410; R411; R412; R413; Table 15-8; notes/assumptions 9; notes/assumptions 44 (DEDUCED)) -/
def Obligations.ConfigurationCommands : Prop :=
  ∀ s : State,
    (∀ p, s.hears p →
      (s.md.mode ≠ .standby → s.ks.cfgStat ≠ 1 → s.ks.cfgStat ≠ 3 → s.after (.cfgBuild p) fun t => t.took p ∧ t.ks = { s.ks with cfgStat := 1, sram := t.ks.sram }) ∧
      (∀ bytes : List Byte, 1 ≤ bytes.length → bytes.length ≤ imageMax → s.after (.cfgImageWrite p bytes) fun t =>
        t.took p ∧ t.ks.cfgWork = bytes ∧ t.ks.cfgHash = sha256 bytes ∧ t.ks.cfgStat = 2) ∧
      (s.md.mode ≠ .standby → s.ks.cfgStat = 2 → s.reg 0x2B00 0x21 < imageVersion s.ks.cfgWork →
        (s.needsSig = false → s.ks.running = none → s.after (.cfgCommit p) fun t =>
          t.took p ∧ t.ks.cfgStat = 3 ∧ t.recPayload 4 = some s.ks.cfgWork) ∧
        (s.needsSig = true → s.after (.cfgCommit p) fun t => t.took p ∧ t.ks.cfgStat = 3 ∧ t.ks.cfgWork = s.ks.cfgWork)) ∧
      (s.md.mode = .safestop → s.latch.set = false → s.ks.cfgStat ≠ 1 → s.ks.cfgStat ≠ 3 → imageOk s s.ks.cfgWork = true →
        s.needsSig = false → s.ks.running = none → s.reg 0x2B00 0x21 < imageVersion s.ks.cfgWork →
        s.after (.cfgInstall p) fun t => t.took p ∧ t.ks.cfgStat = 3 ∧ t.ks.cfgInstall = true ∧ t.recPayload 4 = some s.ks.cfgWork) ∧
      ((s.ks.cfgStat = 2 ∨ s.ks.cfgStat = 5) → s.after (.cfgCancel p) fun t => t.took p ∧ t.ks.cfgWork = [] ∧ t.ks.cfgSig = []
        ∧ t.ks.cfgStat = 0)) ∧
    (s.ks.cfgStat = 1 → (buildImage s).length ≤ imageMax → s.after .cfgBuildDone fun t => t.ks.cfgWork = buildImage s
      ∧ t.ks.cfgHash = sha256 (buildImage s) ∧ t.ks.cfgStat = 2 ∧ t.ks.cfgBuilt = true) ∧
    (s.ready = true → s.ks.cfgStat = 3 → s.ks.cfgOld = none → s.keyGen ≠ 0 → s.ks.cfgSig ≠ [] → s.ks.running = none →
      s.after .cfgVerifyDone fun t =>
        if ecdsaVerify s.cfgKey (hashOf s.ks.cfgWork) s.ks.cfgSig = true then t.ks.cfgStat = 3 ∧ t.recPayload 4 = some s.ks.cfgWork
        else t.ks.cfgStat = 5 ∧ t.reg 0x2B00 0x28 = 0x08000020 ∧ t.recPayload 4 = s.recPayload 4)

/-- Challenges and exports are signed one at a time; the signing key is enrolled once and replaced by a signature of the present
one. With the dictionary open to the path and no signature in the making: a 32-byte challenge, and an export nonce whose
first entry is in the log, are accepted and stand to be signed; while one is being made or a verification runs, a second is
refused with 0x08000022; the signing's end makes the signature of the hash of the message. The first key of 64 bytes is
enrolled as generation 1 with its store asked for, a second enrolment is refused with 0x08000022; a new key is held until a
signature by the present key over it verifies, which makes it the key of the next generation; a signature that does not
verify is refused with 0x08000020. (R415; R416; R417; notes/assumptions 9) -/
def Obligations.IdentityAndKeys : Prop :=
  ∀ s : State,
    (∀ p, s.hears p →
      (∀ bytes : List Byte, bytes.length = 32 → s.idFree = true → s.after (.idChallenge p bytes) fun t => t.took p ∧ t.ks.idStat = 1
        ∧ t.ks.idSign = some (0x01 :: bytes ++ Config.uid.toList) ∧ t.ks.idExport = false) ∧
      (∀ bytes : List Byte, bytes.length = 16 → s.idFree = true → (s.log.any fun e => e.seq.toNat == s.reg 0x2C00 8) = true →
        s.after (.idExport p bytes) fun t => t.took p ∧ t.ks.idStat = 1 ∧ t.ks.idExport = true ∧ t.ks.idSign.isSome = true) ∧
      (∀ bytes : List Byte, bytes.length = 64 → s.keyGen = 0 → s.ks.running = none → s.pwr.vstoreOk = true →
        s.after (.cfgKeyEnrol p bytes) fun t => t.recPayload 6 = some (bytes ++ [1, 0]) ∧ t.ks.keyWaits = s.ks.keyWaits ++ [⟨some p, s.recPair 6⟩]
          ∧ t.paths[pathIx p].owed = true ∧ t.ks.running.isSome = true) ∧
      (∀ bytes : List Byte, s.idFree = false → (bytes.length = 32 → s.after (.idChallenge p bytes) fun t => t.turnedAway p 0x08000022
          ∧ t.ks.idSign = s.ks.idSign) ∧
        (bytes.length = 16 → s.after (.idExport p bytes) fun t => t.turnedAway p 0x08000022 ∧ t.ks.idSign = s.ks.idSign)) ∧
      (∀ bytes : List Byte, bytes.length = 64 → s.keyGen ≠ 0 → s.after (.cfgKeyEnrol p bytes) fun t => t.turnedAway p 0x08000022
        ∧ t.recPayload 6 = s.recPayload 6) ∧
      (∀ bytes : List Byte, bytes.length = 64 → s.after (.keyNewWrite p bytes) fun t => t.took p ∧ t.ks.keyNew = bytes) ∧
      (∀ sig : List Byte, sig.length = 64 → s.keyGen ≠ 0xFFFF → s.ks.running = none → s.pwr.vstoreOk = true →
        s.after (.keyNewSigWrite p sig) fun t =>
          if s.keySigOk sig = true then t.recPayload 6 = some (s.ks.keyNew ++ leBytes 2 (s.keyGen + 1))
            ∧ t.ks.keyWaits = s.ks.keyWaits ++ [⟨some p, s.recPair 6⟩] ∧ t.paths[pathIx p].owed = true
          else t.turnedAway p 0x08000020 ∧ t.recPayload 6 = s.recPayload 6)) ∧
    (∀ m, s.ks.idSign = some m → s.ready = true → s.after .idSignDone fun t => t.ks.idStat = 2 ∧ t.ks.idSign = none
      ∧ (s.ks.idExport = false → t.ks.idSig = ecdsaSign s.ks.sha (hashOf m))
      ∧ (s.ks.idExport = true → t.ks.exportBlob = m.tail ++ ecdsaSign s.ks.sha (hashOf m)))

/-- A follower takes good frames of its master, and discards and counts bad ones. On a node that follows a master: SYNC gives
the master's mode, and changes nothing else when no capture channel watches it; a STEP frame in STARTUP for a step without
an action, that waits for no rail that has failed, starts that step of the power-up script once a step has started or the
sensors are read with no stop cause reached; EVENT is seen; a POLL to the node is answered with one STATUS frame: the step,
the step state with the requests, the stop fault and the latch (Table 8-10), and the oldest event with bit 7; the requests
and that event are then given; MODE 5 in RUN begins the power-down (log entry 75 says what a MODE frame gives, log entry 74
how the step goes on). A frame whose type, length or CRC is wrong is counted and has no other effect. (R240; R241; R242;
R243; R244; R287; Table 8-9; Table 8-10; notes/assumptions 74 (DEDUCED); notes/assumptions 75 (DEDUCED)) -/
def Obligations.FollowersTakeTheMastersFrames : Prop :=
  ∀ s : State, s.herdFollows = true →
    (∀ m : Byte, s.after (.herdSyncFrame (herdFrame 1 0 [m])) fun t => t.herd = { s.herd with masterMode := m.toNat } ∧ t.md = s.md ∧
      ((∀ k : Fin 8, s.reg (0x2820 + k.1) 2 ≠ 10) → ({ s with herd := { s.herd with masterMode := m.toNat } }).delivers t)) ∧
    (∀ k : Fin 64, s.md.mode = .startup → ((s.sensorsRead = true ∧ s.stopCause = false) ∨ s.sqe.begun = true) → s.stepSet k.1 1 = 0 →
      (s.stepSet k.1 3 = 1 → ∀ r : Fin 16, (s.stepSet k.1 4).testBit r.1 = true → s.railFails r = 0) →
      s.after (.herdStepFrame (herdFrame 2 0 [BitVec.ofNat 8 k.1])) fun t => t.sqe.stat = .powerUp ∧ t.sqe.step = k.1
        ∧ t.sqe.phase = .wait ∧ t.herd.stepDone = 1 ∧ t.md = s.md) ∧
    (∀ n : Fin 16, s.after (.herdEventFrame (herdFrame 3 0 [BitVec.ofNat 8 n.1])) fun t =>
      t.sqe.events.getLsbD n.1 = true ∧ (t.reg 0x2D00 9).testBit n.1 = true ∧ t.md = s.md) ∧
    (s.after (.herdPollFrame (herdFrame 4 s.pwr.strap.toNat [0])) fun t => t.herd.onReq = false ∧ t.herd.offReq = false
      ∧ t.herd.forcedReq = false ∧ t.herd.sendEvt = s.herd.sendEvt.tail ∧ t.herd.stopFault = false ∧ t.md = s.md
      ∧ t.herd.sent = s.herd.sent ++ [herdFrame 8 s.pwr.strap.toNat [BitVec.ofNat 8 s.sqe.step,
          BitVec.ofNat 8 (s.herd.stepDone % 4 + (if s.herd.onReq then 4 else 0) + (if s.herd.offReq then 8 else 0)
            + (if s.herd.forcedReq then 16 else 0) + (if s.herd.stopFault then 32 else 0) + (if s.latch.set then 64 else 0)),
          BitVec.ofNat 8 ((s.herd.sendEvt.head?.map fun n => 0x80 + n).getD 0)]]) ∧
    (s.md.mode = .run → s.after (.herdModeFrame (herdFrame 5 0 [5])) fun t => t.md.mode = .shutdown ∧ t.sqe.stat = .powerDown) ∧
    (∀ bytes, herdGood bytes = false → ∀ c ∈ [Instr.herdSyncFrame bytes, .herdStepFrame bytes, .herdEventFrame bytes,
      .herdPollFrame bytes, .herdModeFrame bytes], s.becomes c (s.inc 0x2D00 7))

/-- The master polls, syncs and hears its members; loss and collision are noticed; an event is broadcast. On a node that leads a
herd: SYNC carries its mode, and does nothing else when no capture channel watches it; the next POLL goes to the next member
once the last one has answered; a good STATUS of a member marks it present and, for the running step, complete, and one that
says a fault with orderly stop, or with bit 1 of HERD_CTRL set a latched trip, stops a RUN in order; a bad one is counted; a
collision stops the bus on the node. A follower that loses its master in RUN or HOLDUP makes its own orderly stop, with the
power-down script, and goes on alone (log entry 74, the model's choice). EVENT_SIGNAL with the dictionary open is seen by
the node itself; the master broadcasts it in an EVENT frame, a follower holds it, after those it still holds, for a later
STATUS, and the master broadcasts the event of a member's STATUS likewise. (R238; R240; R241; R242; R244; R246; R249; Table
8-9; Table 8-10; Table 8-14; notes/assumptions 74 (DEDUCED)) -/
def Obligations.MasterRunsTheHerd : Prop :=
  ∀ s : State,
    (s.herdLeads = true →
      ((∀ k : Fin 8, s.reg (0x2820 + k.1) 2 ≠ 10) → s.becomes .herdSyncSend { s with herd := { s.herd with sent := s.herd.sent ++ [herdFrame 1 0 [BitVec.ofNat 8 s.md.mode.code]] } }) ∧
      (∀ n, s.herd.answered = true → nextMember s.herdMembers s.herd.last = some n →
        s.becomes .herdPollSend { s with herd := { s.herd with last := n, answered := false, sent := s.herd.sent ++ [herdFrame 4 n [0]] } }) ∧
      (∀ (node : Fin 16) (step : Byte), s.herdMembers.testBit node.1 = true →
        (s.after (.herdStatusFrame (herdFrame 8 node.1 [step, 2, 0])) fun t =>
          t.herd.present = setBit s.herd.present node.1 ∧ t.md = s.md ∧
            (step.toNat = s.sqe.step → t.herd.done = setBit s.herd.done node.1)) ∧
        (∀ ev : Fin 16, s.after (.herdStatusFrame (herdFrame 8 node.1 [step, 0, BitVec.ofNat 8 (0x80 + ev.1)])) fun t =>
          t.sqe.events.getLsbD ev.1 = true ∧ t.herd.sent = s.herd.sent ++ [herdFrame 3 0 [BitVec.ofNat 8 ev.1]]) ∧
        (s.md.mode = .run → ∀ st : Byte, st = 0x20 ∨ (st = 0x40 ∧ (s.reg 0x2D00 1).testBit 1 = true) →
          s.after (.herdStatusFrame (herdFrame 8 node.1 [step, st, 0])) fun t =>
            t.herd.present = setBit s.herd.present node.1 ∧ t.md.mode = .shutdown ∧ t.md.stopFault = true ∧ t.sqe.stat = .powerDown) ∧
        (s.md.mode = .run → (s.reg 0x2D00 1).testBit 1 = false → s.after (.herdStatusFrame (herdFrame 8 node.1 [step, 0x40, 0])) fun t =>
          t.herd.present = setBit s.herd.present node.1 ∧ t.md = s.md)) ∧
      (∀ bytes, herdGood bytes = false → s.becomes (.herdStatusFrame bytes) (s.inc 0x2D00 7)) ∧
      (s.after .herdCollision fun t => t.herd.collided = true ∧ t.herdLeads = false)) ∧
    (s.herdFollows = true → s.after .herdMasterLost fun t => t.herd.alone = true ∧ t.herdFollows = false ∧
      (s.md.mode = .run ∨ s.md.mode = .holdup → t.md.mode = .shutdown ∧ t.md.stopFault = true ∧ t.sqe.stat = .powerDown
        ∧ t.sqe.phase = .start)) ∧
    (∀ (p : HostPath) (v : Byte), s.hears p → v.toNat < 16 → s.after (.eventSignal p v) fun t => t.took p
      ∧ (t.reg 0x2D00 9).testBit v.toNat = true ∧ t.sqe.events.getLsbD v.toNat = true
      ∧ (s.herdLeads = true → t.herd.sent = s.herd.sent ++ [herdFrame 3 0 [v]]) ∧ (s.herdFollows = true → t.herd.sendEvt = if s.herd.sendEvt.contains v.toNat then s.herd.sendEvt else s.herd.sendEvt ++ [v.toNat]))

/-- CHG_EN, SEARCH_EN, the commands and the input search. With the dictionary open to the path, the charger's settings in order,
none of them waiting for its transfer and no watchdog fallback: CHG_EN 1 with CHEM set, a battery sensor and no cycle in
progress leaves OFF and CHG_EN 0 returns there; SEARCH_EN 0 ends a search with IIN_LIM at IIN_MAX, SEARCH_EN 1 is set; the
search command starts a full search and the clear command leaves FAULT. A search step takes the reference, then climbs by 50
mA until VIN sags or IIN_MAX is reached, and ends 50 mA below that; a periodic search starts from the floor; between
searches the sag guard lowers IIN_LIM in any state that switches, by 50 mA to 100 mA at least and sets SAG. VIN falling
below 1.1 times the target sets VIN_LOW and stops the charger, VIN back at it clears VIN_LOW, and VIN_MV then reads a free
value on that side of the level (log entry 84, the model's choice). That a lowered IIN_MAX bounds a climb in progress, and
the states that search, are the model's reading (log entry 77). (R251; R254; R255; R256; R257; R259; R260; R272; Table 9-5;
notes/assumptions 77 (DEDUCED); notes/assumptions 84 (DESIGN CHOICE)) -/
def Obligations.ChargerSwitchesAndSearches : Prop :=
  ∀ s : State,
    (∀ p, s.hears p → chargerOk s.reg = true → s.reg 0x2500 1 < 4 → s.chg.wdStopped = false → s.settled 0x2500 →
      (s.reg 0x2500 2 ≠ 0 → s.battSensor.isSome = true → s.chgEn = false → s.chg.state = .off → s.chg.cycle = false → s.after (.chgEnable p) fun t =>
        t.took p ∧ t.chgEn = true ∧ t.chg.state ≠ .off) ∧
      (s.chgEn = true → s.flt.charger = false → s.after (.chgDisable p) fun t => t.took p ∧ t.chgEn = false ∧ t.chg.state = .off
        ∧ t.chargerOn = false) ∧
      ((s.chgEn = false ∨ (s.reg 0x2500 2 ≠ 0 ∧ s.battSensor.isSome = true)) →
        (s.after (.searchEnable p) fun t => t.took p ∧ (t.reg 0x2500 1).testBit 1 = true ∧ t.chg.state = s.chg.state) ∧
        ((s.reg 0x2500 1).testBit 1 = true → s.after (.searchDisable p) fun t => t.took p ∧ (t.reg 0x2500 1).testBit 1 = false
          ∧ t.chg.searching = false ∧ t.chg.iinLim = s.chgSet 0x15 ∧ t.chg.state = s.chg.state)) ∧
      ((s.reg 0x2500 1).testBit 1 = true → s.chg.state.searches = true → s.after (.chgCmdSearch p) fun t => t.took p
        ∧ t.chg.searching = true ∧ t.chg.periodic = false ∧ t.chg.refTaken = false ∧ t.chg.iinLim = 100) ∧
      (s.chg.state = .fault → s.flt.charger = false → s.after (.chgCmdClearFault p) fun t => t.took p ∧ t.chg.state ≠ .fault)) ∧
    (s.ready = true →
      (∀ vin iin, s.chg.searching = true →
        (s.chg.refTaken = false → s.chg.periodic = false → s.after (.searchStep vin iin) fun t =>
          t.chg = { s.chg with vinRef := vin, vinMv := vin, refTaken := true, iinLim := min 150 (s.chgSet 0x15) }) ∧
        (s.chg.refTaken = true → (s.sagAt vin = true ∨ s.chgSet 0x15 ≤ s.chg.iinLim) → s.after (.searchStep vin iin) fun t =>
          t.chg.searching = false ∧ t.chg.iinLim = min s.chg.iinLim (s.chgSet 0x15) - 50
            ∧ t.chg.lastResult = min s.chg.iinLim (s.chgSet 0x15) - 50) ∧
        (s.chg.refTaken = true → s.sagAt vin = false → s.chg.iinLim < s.chgSet 0x15 → s.after (.searchStep vin iin) fun t =>
          t.chg.searching = true ∧ t.chg.iinLim = s.chg.iinLim + 50)) ∧
      ((s.reg 0x2500 1).testBit 1 = true → s.chg.searching = false →
        (s.chgEn = true → s.chg.state.searches = true → s.after .periodicSearch fun t => t.chg.searching = true ∧ t.chg.periodic = true ∧ t.chg.iinLim = 100) ∧
        (∀ vin, s.chg.state.switching = true → s.sagAt vin = true → s.after (.sagGuard vin) fun t => t.chg.iinLim = max 100 (s.chg.iinLim - 50)
          ∧ (t.reg 0x2500 0x1B).testBit 6 = true)) ∧
      (0 < s.chgTarget → s.after .vinLowSet fun t => t.chg.vinLow = true ∧ t.chargerOn = false ∧ t.chg.vinMv * 10 < s.chgTarget * 11) ∧
      (s.after .vinLowClear fun t => t.chg.vinLow = false ∧ s.chgTarget * 11 ≤ t.chg.vinMv * 10))

/-- The pre-charge timer counts at full rate and ends in FAULT with PRE_TMO, class U. In PRECHARGE every tick of 100 ms raises
the pre-charge time by one unit of 100 ms, whatever limits the current (that this tick counts it is the model's choice, log
entry 76); T_PRE reached takes the charger to FAULT with PRE_TMO set, recorded as a class U entry while the log has room and
no earlier entry raises it. (R262; R309; R310; Table 11-4; notes/assumptions 76 (DEDUCED)) -/
def Obligations.PrechargeTimerFaults : Prop :=
  ∀ s : State, s.ready = true → s.chg.state = .precharge →
    (∀ a b : Bool, s.after (.safetyTimerTick a b) fun t => t.chg.tPre = s.chg.tPre + 1 ∧ t.chg.state = .precharge) ∧
    (s.tPreTop ≤ s.chg.tPre → s.after .prechargeTimerExpire fun t => t.chg.state = .fault ∧ (t.reg 0x2500 0x1B).testBit 1 = true
      ∧ (s.log.length < logSize → s.waitFails = 0 → s.repeats .u chgUnit = false →
          ∃ e ∈ t.log, e.code = 0x0702 ∧ e.unit = chgUnit ∧ e.cls = .u ∧ e.seq = nextSeq s.seq))

/-- The charger's phases, its timers, removal and return of the battery, and its watchdog. In the open device: VSYS at V_PRE
ends PRECHARGE, at the voltage target FAST_CC, a current below I_TERM or CV_HOLD elapsed ends FAST_CV, VSYS below V_RECHG
starts a new cycle with both timers at 0, in PRECHARGE below V_PRE and in FAST_CC otherwise. The measured voltage or current
that such an event leaves is a free value on the event's side of the level (log entry 84, the model's choice). Overvoltage
by 100 mV a cell and the safety timer take the charger to FAULT with their flag; a tick of charge time counts twice as much
when nothing limits the current. A removal jump over 150 mV a cell of a battery present and a failed probe give NO_BATT with
the hold-up lost; a good probe brings the battery back. The kick of 0x4B43 starts the watchdog again and any other value is
refused; its expiry sets the safe values in the active copies, each the lower of its bound and the value in force (log entry
79, the model's reading). (R260; R261; R263; R264; R265; R266; R267; Table 9-5; Table 9-8; notes/assumptions 79 (DEDUCED);
notes/assumptions 84 (DESIGN CHOICE)) -/
def Obligations.ChargerStatesAndTimers : Prop :=
  ∀ s : State, s.ready = true →
    (s.chg.state = .precharge → s.after .chgPrechargeDone fun t => t.chg.state = .fastCC ∧ s.packMv 8 ≤ t.chg.vbat ∧ t.md = s.md) ∧
    (s.chg.state = .fastCC → s.after .chgCvEntry fun t => t.chg.state = .fastCV ∧ s.chgTarget ≤ t.chg.vbat ∧ t.md = s.md) ∧
    (s.chg.state = .fastCV → 0 < s.chgSet 0x0B → s.after .chgTerminate fun t => t.chg.state = .done ∧ (t.chg.iOut < s.chgSet 0x0B ∨ s.cvTop ≤ s.chg.tCv) ∧ t.md = s.md) ∧
    (s.chg.state = .done → 0 < s.packMv 7 → s.after .chgRecharge fun t => t.chg.vbat < s.packMv 7 ∧ t.chg.tSafe = 0 ∧ t.chg.tPre = 0 ∧ t.chg.cycle = true ∧
      ((s.chg.zone = 0 ∨ s.chg.zone = 4) → t.chg.state = .suspend) ∧
      (s.chg.zone ≠ 0 → s.chg.zone ≠ 4 → t.chg.state = if t.chg.vbat < s.packMv 8 then .precharge else .fastCC)) ∧
    (s.chg.state.searches = true → s.after .batteryOvervoltage fun t => t.chg.state = .fault ∧ s.overLevel < t.chg.vbat ∧ (t.reg 0x2500 0x1B).testBit 4 = true
      ∧ t.chargerOn = false) ∧
    (s.chg.state = .fastCC → ∀ a : Bool, s.after (.safetyTimerTick a false) fun t => t.chg.tSafe = s.chg.tSafe + (if a then 1 else 2)
      ∧ t.chg.state = .fastCC) ∧
    ((s.chg.state = .fastCC ∨ s.chg.state = .fastCV) → s.tSafeTop ≤ s.chg.tSafe → ∀ a b : Bool, s.after (.safetyTimerExpire a b) fun t =>
      t.chg.state = .fault ∧ (t.reg 0x2500 0x1B).testBit 0 = true ∧ (a = true → (t.reg 0x2500 0x1B).testBit 2 = true)) ∧
    (s.flt.charger = false → s.chg.batt = true → s.chg.state = .fastCC → s.after .battRemovalJump fun t => t.chg.state = .noBatt ∧ t.chg.batt = false
      ∧ t.chg.holdupLost = true) ∧
    (s.chargerOn = true →
      (∀ drop v, s.flt.charger = false → s.chg.batt = true → s.chg.state = .fastCV → 50 * s.chgSet 3 < drop → s.after (.battProbe drop v) fun t =>
        t.chg.state = .noBatt ∧ t.chg.batt = false ∧ t.chg.holdupLost = true) ∧
      (∀ drop, s.chg.state = .noBatt → drop ≤ 50 * s.chgSet 3 → s.battValid = true → s.after (.battProbe drop true) fun t =>
        t.chg.batt = true ∧ t.chg.holdupLost = false ∧ t.chg.state ≠ .noBatt)) ∧
    (∀ p, s.hears p → (s.after (.chgKick p 0x4B43) fun t => t.took p ∧ t.chg = { s.chg with wdStopped := false }) ∧
      ∀ v : U16, v ≠ 0x4B43 → s.after (.chgKick p v) fun t => t.turnedAway p 0x06090030 ∧ t.chg = s.chg) ∧
    (s.chg.wdStopped = false → s.after .chgWdExpire fun t => t.chg.wdStopped = true ∧ (t.reg 0x2500 0x1B).testBit 7 = true
      ∧ t.act 0x2500 9 = min (s.chgSet 9) 500 ∧ t.act 0x2500 0x15 = min (s.chgSet 0x15) 1000)

/-- Under the start-up policy a valid sensor reads itself and a broken one is too hot. When a scan, all of whose slots have
passed, ends under the start-up policy in the open device, the effective reading of a VALID sensor that is not fenced is its
raw reading with EFF_SRC 0, and that of a broken sensor reads 0x7FFF with EFF_SRC 2, which is at or above every threshold a
16-bit register can hold; the scan is counted. That the readings are judged at the end of a scan whose slots have all passed
is the model's choice (log entry 80). (R281; R295; R299; Table 10-7; notes/assumptions 80 (DEDUCED)) -/
def Obligations.StartUpPolicyReadings : Prop :=
  ∀ s : State, s.ready = true → s.idleTo 16 = true → s.policy = 1 → s.after .tsScanEnd fun t =>
    t.reg 0x2420 0x0A = min 0xFFFFFFFF (s.reg 0x2420 0x0A + 1) ∧
    ∀ i : Fin 16, s.tsSet i 1 ≠ 0 →
      (s.thm.ts[i].status = .valid → s.flt.sensors.getLsbD i.1 = false → t.thm.ts[i].eff = s.thm.ts[i].raw ∧ t.thm.ts[i].src = 0) ∧
      ((s.thm.ts[i].status = .open_ ∨ s.thm.ts[i].status = .short ∨ s.thm.ts[i].status = .range) →
        tempCode t.thm.ts[i].eff = 0x7FFF ∧ t.thm.ts[i].src = 2 ∧ ∀ v : Nat, signed 16 v ≤ (t.thm.ts[i].eff).getD 0)

/-- Conversions, the stop time-out, the recovery window and THR_EN. With the core clock running: in the open device a conversion
of a sensor in use, in its slot of the scan, sets its status by Table 10-1 and its raw reading, none when open or short (log
entry 120, the model's choice). Each of the four die sensors' histories takes its newest conversion and its reading is the
mean of the last four. SAFESTOP not reached in time with the cause still reached sets STOP_TMO and trips, once a full
reset's power-up is over. The recovery window closes in RUN and HOLDUP, and in any mode once its time has begun. A write of
THR_EN releases the reached thresholds that it clears. (R275; R276; R277; R278; R280; R283; R286; R288; notes/assumptions 10
and 120 (DESIGN CHOICE); notes/assumptions 80 to 82 (DEDUCED)) -/
def Obligations.SensorsDieAndStops : Prop :=
  ∀ s : State,
    (s.live = true →
      (∀ (i : Fin 16) (m : TsMeas), s.ready = true → s.slotOf i = true → s.policy ≠ 0 → s.tsSet i 1 ≠ 0 → s.after (.tsConversion i m) fun t =>
        t.thm.ts[i].status = s.statusOf i m (s.rawOf i m) ∧
          t.thm.ts[i].raw = (if t.thm.ts[i].status = .open_ ∨ t.thm.ts[i].status = .short then none else some (s.rawOf i m))) ∧
      (∀ t0 t1 t2 t3 : Int, s.after (.dieConversion t0 t1 t2 t3) fun t =>
        t.thm.die[(0 : Fin 4)].hist = (t0 :: s.thm.die[(0 : Fin 4)].hist).take 4 ∧
        t.thm.die[(1 : Fin 4)].hist = (t1 :: s.thm.die[(1 : Fin 4)].hist).take 4 ∧
        t.thm.die[(2 : Fin 4)].hist = (t2 :: s.thm.die[(2 : Fin 4)].hist).take 4 ∧
        t.thm.die[(3 : Fin 4)].hist = (t3 :: s.thm.die[(3 : Fin 4)].hist).take 4 ∧
        ∀ d : Fin 4, t.thm.die[d].reading = some (roundHalfUp t.thm.die[d].hist.sum (max 1 t.thm.die[d].hist.length : Nat))) ∧
      (s.booting = false → s.thm.stopping = true → s.md.mode ≠ .safestop → s.md.mode ≠ .ship → s.stopCause = true → s.after .stopTimeout fun t => t.tripped
        ∧ (t.reg 0x2420 9).testBit 3 = true ∧ t.thm.stopping = false)) ∧
    ((s.md.mode = .run ∨ s.md.mode = .holdup ∨ s.thm.recovRun = true) →
      s.becomes .recoveryWindowClose { s with thm := { s.thm with recovery := false, recovRun := false } }) ∧
    (∀ (p : HostPath) (i : Fin 16) (v : Byte), s.hears p → sensorOk s.reg (0x2400 + i.1) = true → v.toNat < 32 →
      s.after (.thrEnWrite p i v) fun t => t.took p ∧ t.reg (0x2400 + i.1) 0x0F = v.toNat
        ∧ t.thm.ts[i].reached = s.thm.ts[i].reached &&& BitVec.ofNat 5 v.toNat)

/-- A report makes its entry and queues its EMCY; class F trips; a port fault fences its port. With the collector's clock
running: a report of a class C row that needs no acknowledgement and has no reaction of its own, with a place in the log and
no wait about to fail, makes an entry with its code, unit, detail, the present count and the next number, and changes no
mode; it queues no EMCY, where no interrupt is notified. A class C report that needs an acknowledgement and is not raised
makes an unacknowledged entry and queues its EMCY, with the contents of Table 11-6, on every enabled link with a place. A
report of a class F row trips once a full reset's power-up is over and outside SHIP, and so does a parity error of the
collector. A class U backstop report on a present port fences it. A reserved code is no report. That FAULT_REPORT makes the
reaction of its row alone, and a reserved code none, is the model's choice (log entry 50). (R31; R296; R297; R298; R302;
R309; R310; R312; Table 11-4; Table 11-6; notes/assumptions 50 (DEDUCED)) -/
def Obligations.ReportsAreRecordedAndPaid : Prop :=
  ∀ s : State, s.live = true →
    (∀ (code unit detail : U16) (row : FaultRow), s.rowFor code unit = some row →
      (row.cls = .c → row.ack = .a → code.toNat ∉ [0x0207, 0x0208, 0x0401] → s.waitFails = 0 → hasPlace s.log .c = true →
        s.after (.faultReport code unit detail) fun t => t.md = s.md ∧ t.seq = nextSeq s.seq ∧
          ∃ e ∈ t.log, e.code = code ∧ e.unit = unit ∧ e.detail = detail ∧ e.stamp = s.tb.count ∧ e.seq = nextSeq s.seq
            ∧ e.cls = .c ∧ e.acked = true ∧ e.mode = s.md.mode ∧ (s.reg 0x2A00 0x0B = 0 → t.can = s.can)) ∧
      (row.cls = .c → row.ack ≠ .a → s.classOf row unit = .c → s.waitFails = 0 → hasPlace s.log .c = true →
        s.after (.faultReport code unit detail) fun t => ∃ e ∈ t.log, e.code = code ∧ e.unit = unit ∧ e.seq = nextSeq s.seq ∧ e.acked = false
          ∧ ∀ i : Fin 2, s.can.links[i].enabled = true → s.can.links[i].emcy.length < 16 →
              t.can.links[i].emcy.take (s.can.links[i].emcy.length + 1) = s.can.links[i].emcy ++ [emcyOf t e]) ∧
      (row.cls = .f → s.booting = false → s.md.mode ≠ .ship → s.after (.faultReport code unit detail) State.tripped)) ∧
    (∀ (code unit detail : U16), faultRow code = none → s.waitFails = 0 → code ≠ 0x0405 → s.ignores (.faultReport code unit detail)) ∧
    (∀ (n : Fin 32) (detail : U16), n.1 < s.variant.ports → s.after (.faultReport 0x0201 (unitCode 1 n.1) detail) fun t =>
      t.ports[n].state = .fenced ∧ (s.ports[n].state ≠ .fenced → t.flt.ports.getLsbD n.1 = true ∧ t.ports[n].gh = false ∧ t.ports[n].gl = false)) ∧
    (s.booting = false → s.md.mode ≠ .ship → s.after .collectorParity State.tripped)

/-- An acknowledgement marks the entries it names, clears the latch when nothing holds it, and an unfence returns a port. With
the dictionary open to the path: an ACK of n other than 0 with the latch clear marks as acknowledged every entry that n
names whose cause has ended and no other entry; with the latch set by no hard stop, every trip source quiet, no report still
to be logged and no fatal entry left unacknowledged by it, the latch clears. An UNFENCE write that R300 allows takes a
fenced port, whose pair's sense converters serve, out of FENCED with both gates low and its bit clear. (R300; R305; R306;
R313) -/
def Obligations.AcknowledgeAndUnfence : Prop :=
  ∀ (s : State) (p : HostPath), s.hears p →
    (∀ n : U32, n ≠ 0 →
      (s.latch.set = false → s.after (.faultAck p n) fun t => t.took p ∧ t.log = s.log.map (ackEntry s n)) ∧
      (s.latch.set = true → s.latch.hard = false → s.sourcesQuiet = true → s.aon.waiting = [] →
        (∀ e ∈ s.log, e.cls.fatal = true → e.acked = true ∨ (ackNames n e = true ∧ s.causePresent e = false)) →
        s.after (.faultAck p n) fun t => t.took p ∧ t.latch.set = false)) ∧
    (∀ n : Fin 32, s.unfenceOk (0x100 + n.1) = true → s.ports[n].state = .fenced → s.flt.ports.getLsbD n.1 = true →
      (∀ m ∈ s.portList, s.pairLead m.1 = s.pairLead n.1 → s.senseless m = false) →
      s.after (.unfence p (BitVec.ofNat 16 (0x100 + n.1))) fun t => t.took p ∧ t.flt.ports.getLsbD n.1 = false
        ∧ t.ports[n].state ≠ .fenced ∧ t.ports[n].gh = false ∧ t.ports[n].gl = false)

/-- The housekeeping ADC settles, scans and shows each result fresh once per path. With the dictionary open to the path: EN 1
starts the reference settling again and EN 0 abandons the scan; a new reference starts the settling; a scan of an enabled
idle ADC takes the channels of the mask in increasing number. The chosen reference settles with EN 1. A conversion stores
its sample against the reference that REF_SEL chooses, counts it, and makes it fresh on every path; with channels left the
scan goes on with the next; the last one ends the scan, which is counted and stamped and pends the interrupt source ADC, and
a continuous ADC starts the next scan at once; a read of a sample answers it and clears its fresh bit on that path alone.
(R420; R421; R424; R425; R426; R428; R429; Table 16-4) -/
def Obligations.AdcScansItsChannels : Prop :=
  ∀ s : State,
    (∀ p, s.hears p → s.reg 0x2900 1 < 8 →
      (s.after (.adcEnable p) fun t => t.took p ∧ (t.reg 0x2900 1).testBit 0 = true ∧ t.adc.refRdy = false ∧ t.adc.left = s.adc.left) ∧
      (s.after (.adcDisable p) fun t => t.took p ∧ (t.reg 0x2900 1).testBit 0 = false ∧ t.adc.left = []) ∧
      (∀ v : Byte, v.toNat ≤ 2 → s.adcBusy = false → s.after (.refSelWrite p v) fun t => t.took p ∧ t.reg 0x2900 2 = v.toNat ∧
        (s.reg 0x2900 2 ≠ v.toNat → t.adc.refRdy = false)) ∧
      ((s.reg 0x2900 1).testBit 0 = true → s.reg 0x2900 3 ≠ 0 → s.adcBusy = false → s.after (.adcScanStart p) fun t => t.took p
        ∧ t.adc.left = adcChannels (s.reg 0x2900 3)) ∧
      (∀ c : Fin 48, s.after (.adcSampleRead p c) fun t => t.took p ∧ t.paths[pathIx p].fresh.getLsbD c.1 = false
        ∧ t.paths[pathIx p].answer = leBytes 4 (s.reg (0x2940 + c.1) 1 + (if s.paths[pathIx p].fresh.getLsbD c.1 then 0x10000 else 0))
        ∧ ∀ q : Fin 10, q ≠ pathIx p → t.paths[q] = s.paths[q])) ∧
    (s.live = true → (s.reg 0x2900 1).testBit 0 = true → s.becomes .adcRefReady { s with adc := { s.adc with refRdy := true } }) ∧
    (∀ (c : Nat) (l : List Nat), s.adc.left = c :: l → s.live = true → c < 48 → ∀ vin ref : Nat,
      s.after (.adcConversionEnd vin ref) fun t => t.reg (0x2940 + c) 4 = min 0xFFFFFFFF (s.reg (0x2940 + c) 4 + 1)
        ∧ t.reg (0x2940 + c) 1 = adcCode vin (s.vRef ref) + s.adcFlags (adcCode vin (s.vRef ref)) ∧ (∀ q : Fin 10, t.paths[q].fresh.getLsbD c = true)
        ∧ (l ≠ [] → t.adc.left = l ∧ t.reg 0x2900 0x0B = s.reg 0x2900 0x0B)
        ∧ (l = [] → t.adc.left = (if (s.reg 0x2900 1).testBit 2 then adcChannels (s.reg 0x2900 3) else [])
          ∧ t.reg 0x2900 0x0B = min 0xFFFFFFFF (s.reg 0x2900 0x0B + 1) ∧ t.reg 0x2900 0x0C = s.now.toNat ∧ t.irq.pend.getLsbD 33 = true))

/-- Expedited and segmented transfers are checked, answered and ended. On a link whose path is served: an expedited read of a
readable row answers the value with its abort code, the access's own slot counted but in SLOTS_MIN (log entry 17, the
model's choice); a missing index, a missing subindex, a write-only row and an invalid request answer their codes of Table
12-2; without a free slot the code is 0x05040005. A write of 0x1017 by SDO or by DICT_WRITE stands as written. An initiated
transfer opens the link's session; a segment with the wrong toggle bit aborts it with 0x05030000; a right one is gathered,
or sends the next bytes; the last one of a download writes the whole. A client abort ends the session without an answer. A
time-out ends it in every state, and is answered 0x05040000 on a link that is served (log entry 18). The read's response
goes out on 0x580 + node-ID, in the bytes of log entry 126 (the model's choice). (R317; R318; R319; R334; R342; Table 12-2;
notes/assumptions 17 (DEDUCED); notes/assumptions 18 (DEDUCED); notes/assumptions 126 (PRESUMED)) -/
def Obligations.DictionaryTransfers : Prop :=
  ∀ (s : State) (l : Link),
    let p := linkPath l
    (∀ (usdo : Bool) (idx : U16) (sub : Byte), s.ready = true → s.pathServes p = true →
      (s.slotFree = false → s.after (.sdoExpeditedRead l usdo true idx sub) fun t => t.turnedAway p 0x05040005) ∧
      (s.slotFree = true →
        (s.after (.sdoExpeditedRead l usdo false idx sub) fun t => t.turnedAway p 0x05040001) ∧
        (rowsOf s.variant idx.toNat = none → s.after (.sdoExpeditedRead l usdo true idx sub) fun t => t.turnedAway p 0x06020000) ∧
        ((rowsOf s.variant idx.toNat).isSome = true → findObj s.variant idx.toNat sub.toNat = none →
          s.after (.sdoExpeditedRead l usdo true idx sub) fun t => t.turnedAway p 0x06090011) ∧
        (∀ o, findObj s.variant idx.toNat sub.toNat = some o →
          (o.acc = .wo → s.after (.sdoExpeditedRead l usdo true idx sub) fun t => t.turnedAway p 0x06010001) ∧
          (o.acc ≠ .wo →
            let r := readObj (if key idx.toNat sub.toNat = key 0x2F00 0x0E then s else takeSlot s) (pathIx p) o idx.toNat sub.toNat
            (s.after (.sdoExpeditedRead l usdo true idx sub) fun t => t.turnedAway p r.1 ∧ (r.1 = 0 → t.paths[pathIx p].answer = r.2.1)
              ∧ t.sent = s.sent ++ [{ link := l, id := 0x580 + s.can.nodeId, fd := usdo, brs := usdo && s.can.links[linkIx l].dRate != 0, data := replyBytes { usdo := usdo, key := key idx.toNat sub.toNat, service := .read } r.1 (if r.1 = 0 then r.2.1 else []) }]) ∧
            ((readObj (takeSlot (setSession s l none)) (pathIx p) o idx.toNat sub.toNat).1 = 0 →
              s.after (.sdoInitiate l usdo true false idx sub) fun t => t.took p ∧ ∃ d, t.can.links[linkIx l].session =
                some { usdo := usdo, download := false, key := key idx.toNat sub.toNat, toggle := false, data := d })) ∧
          (o.writable = true → s.after (.sdoInitiate l usdo true true idx sub) fun t => t.took p ∧ t.can.links[linkIx l].session =
            some { usdo := usdo, download := true, key := key idx.toNat sub.toNat, toggle := false, data := [] })))) ∧
    (∀ (usdo : Bool) (v : U16), s.hears p →
      (s.after (.sdoExpeditedWrite l usdo true 0x1017 0 (leBytes 2 v.toNat)) fun t => t.took p ∧ t.reg 0x1017 0 = v.toNat ∧ t.md = s.md) ∧
      (s.after (.dictWrite p 0x1017 0 (leBytes 2 v.toNat)) fun t => t.took p ∧ t.reg 0x1017 0 = v.toNat ∧ t.md = s.md)) ∧
    (∀ x, s.can.links[linkIx l].session = some x → s.ready = true → s.linkServes l = true →
      (∀ (last : Bool) (data : List Byte),
        (s.after (.sdoSegment l (!x.toggle) last data) fun t => t.turnedAway p 0x05030000 ∧ t.can.links[linkIx l].session = none) ∧
        (x.download = true → s.after (.sdoSegment l x.toggle false data) fun t => t.took p ∧
          t.can.links[linkIx l].session = some { x with data := x.data ++ data, toggle := !x.toggle }) ∧
        (x.download = false → s.after (.sdoSegment l x.toggle last data) fun t => t.took p ∧
          t.paths[pathIx p].answer = x.data.take (segLen x.usdo) ∧ t.can.links[linkIx l].session =
            if x.data.drop (segLen x.usdo) = [] then none else some { x with data := x.data.drop (segLen x.usdo), toggle := !x.toggle }) ∧
        (∀ v : U16, x.download = true → x.key = key 0x1017 0 → x.data ++ data = leBytes 2 v.toNat → s.paths[pathIx p].tag = 0 →
          s.after (.sdoSegment l x.toggle true data) fun t => t.took p ∧ t.can.links[linkIx l].session = none ∧ t.reg 0x1017 0 = v.toNat)) ∧
      (s.after (.sdoClientAbort l) fun t => t.can.links[linkIx l].session = none ∧ t.paths = s.paths)) ∧
    (∀ x, s.can.links[linkIx l].session = some x → s.after (.sdoTimeout l) fun t => t.can.links[linkIx l].session = none ∧
      (s.linkServes l = true → t.turnedAway p 0x05040000) ∧ (s.linkServes l = false → t.paths = s.paths))

/-- Tags stage writes, releases transfer them in one clock, discards drop them, and a fence waits for its own path's writes. A
TAG write of 0 to 8 stands for its path alone; a larger one is refused with 0x06090030. A tagged write of a port setting
that its checks allow is staged and leaves every copy as it was. RELEASE and DISCARD written untagged mark the group and
empty it; the release takes the mark away, counts itself, records the time and brings a staged port setting, with no
untagged value of it accepted later, to all three copies. A fence completes at once when nothing earlier of its path is
outstanding (log entry 25, the model's choice), else it waits with its slot and the request that asked for it, and completes
when nothing it waits for is left; the path's access is answered when none of its fences and key changes waits any more. A
two-wire context's fence, which stands for its mailbox command (log entry 34, the model's choice), shows MB_STAT 1 while it
waits and 2 at its end, and a further one is refused while it waits. (R322; R323; R324; R325; R326; R327; R23; R361;
notes/assumptions 25 (DEDUCED); notes/assumptions 34 (DEDUCED)) -/
def Obligations.TagsGroupsAndFences : Prop :=
  ∀ (s : State) (p : HostPath), s.ready = true →
    (∀ v : Byte, s.pathServes p = true → s.slotFree = true →
      (v.toNat ≤ 8 → s.after (.tagWrite p v) fun t => t.took p ∧ t.paths[pathIx p].tag = v.toNat
        ∧ ∀ q : Fin 10, q ≠ pathIx p → t.paths[q] = s.paths[q]) ∧
      (8 < v.toNat → s.after (.tagWrite p v) fun t => t.turnedAway p 0x06090030 ∧ t.paths[pathIx p].tag = s.paths[pathIx p].tag)) ∧
    (∀ (g : Fin 8) (n : Fin 32) (v : U32), s.pathServes p = true → s.slotFree = true → n.1 < s.variant.ports →
      s.paths[pathIx p].tag = g.1 + 1 → (s.groupOfIdx (portIdx n.1)).getD g = g → s.cmt.groups[g].staged.length < 64 →
      valuesCode s [s.lookStaged s.cmt.groups[g].staged [(portIdx n.1, 5, v.toNat)]] [(portIdx n.1, 5, v.toNat)] = 0 →
      s.after (.dictWrite p (BitVec.ofNat 16 (portIdx n.1)) 5 (leBytes 4 v.toNat)) fun t => t.took p ∧
        t.cmt.groups[g].staged = cellInsert s.cmt.groups[g].staged (key (portIdx n.1) 5) v.toNat ∧
        t.reg (portIdx n.1) 5 = s.reg (portIdx n.1) 5 ∧ t.act (portIdx n.1) 5 = s.act (portIdx n.1) 5 ∧ t.cmt.out = s.cmt.out) ∧
    (s.hears p → ∀ g : Fin 8,
      (s.after (.releaseWrite p g) fun t => t.took p ∧ t.cmt.groups[g] = { s.cmt.groups[g] with byWrite := true }
        ∧ ∀ h : Fin 8, h ≠ g → t.cmt.groups[h] = s.cmt.groups[h]) ∧
      (s.after (.discardWrite p g) fun t => t.took p ∧ t.cmt.groups[g] = { s.cmt.groups[g] with staged := [] }
        ∧ t.reg (0x2F02 + g.1) 4 = s.reg (0x2F02 + g.1) 4)) ∧
    (∀ (g : Fin 8) x, s.cmt.groups[g].staged = [x] → s.cmt.groups[g].byWrite = true →
      let idx := x.1 / 256
      let sub := x.1 % 256
      0x2100 ≤ idx → idx < 0x2120 → 2 ≤ sub → sub ≠ 0x31 → s.laterOut s.cmt.groups[g] x.1 = false → s.outrun s.cmt.groups[g] x.1 = false →
      s.after (.groupRelease g) fun t => t.cmt.groups[g] = .reset ∧ t.reg (0x2F02 + g.1) 4 = min 0xFFFFFFFF (s.reg (0x2F02 + g.1) 4 + 1)
        ∧ t.reg (0x2F02 + g.1) 5 = s.tb.count.toNat ∧ t.reg idx sub = x.2 ∧ t.shad idx sub = x.2 ∧ t.act idx sub = x.2) ∧
    (s.hears p →
      ((∀ c, p = .tw c → s.tw.ctx[c].busy = false) →
        (s.fenceClear (.host p) s.cmt.nextId = true → s.after (.fenceWrite p 0) fun t => t.took p ∧ t.cmt = s.cmt
          ∧ ∀ c, p = .tw c → mbField t.tw.ctx[c].mbox 5 1 = 2) ∧
        (s.fenceClear (.host p) s.cmt.nextId = false → s.after (.fenceWrite p 0) fun t => t.paths[pathIx p].owed = true
          ∧ t.paths[pathIx p].heldFence = s.paths[pathIx p].heldFence ++ [s.paths[pathIx p].asked]
          ∧ t.cmt = { s.cmt with fences := s.cmt.fences ++ [(.host p, s.cmt.nextId)] }
          ∧ ∀ c, p = .tw c → t.tw.ctx[c].busy = true ∧ mbField t.tw.ctx[c].mbox 5 1 = 1)) ∧
      (∀ c, p = .tw c → s.tw.ctx[c].busy = true → s.after (.fenceWrite p 0) fun t => t.turnedAway p 0x08000022 ∧ t.cmt = s.cmt)) ∧
    (∀ f, s.fenceDue p = some f → s.after (.fenceComplete p) fun t => t.took p
      ∧ t.paths[pathIx p].heldFence = s.paths[pathIx p].heldFence.tail
      ∧ t.paths[pathIx p].owed = (s.paths[pathIx p].heldFence.tail != [] || s.paths[pathIx p].heldKey != [])
      ∧ t.cmt = { s.cmt with fences := s.cmt.fences.erase f } ∧ ∀ c, p = .tw c → mbField t.tw.ctx[c].mbox 5 1 = 2)

/-- NMT commands, SYNC, PDOs, EMCY, heartbeats and the error states of a link. With the dictionary open, the link up and the
mode not SHIP: an NMT command to this node or to all sets its state, reset-communication also clears tags and ends sessions,
and a command to another node does nothing. A SYNC ends the wait of every RPDO and counts each synchronous TPDO to its type;
a short RPDO is dropped and counted, one of a synchronous type that its checks allow waits; event-driven TPDOs are sent on
their timer, and at the first check after they could not have been sent before (log entry 137, the model's choice). A queued
EMCY goes out once the inhibit time has passed, the heartbeat carries the NMT state, a consumed heartbeat arms its entry,
whose time-out disarms it. Bus-off, recovery and error counts stand in the link's state, error-passive with a count past 127
(log entry 29, presumed). (R329; R335; R336; R337; R338; R339; R340; R341; R308; notes/assumptions 29 (PRESUMED);
notes/assumptions 137 (DEDUCED)) -/
def Obligations.NetworkServicesRun : Prop :=
  ∀ (s : State) (l : Link), s.ready = true →
    (∀ node : Byte, s.linkUp l = true → s.md.mode ≠ .ship →
      ((node = 0 ∨ node.toNat = s.can.nodeId) →
        (s.after (.nmtStart l node) fun t => t.can.nmt = .operational ∧ t.md = s.md) ∧
        (s.after (.nmtStop l node) fun t => t.can.nmt = .stopped ∧ t.md = s.md) ∧
        (s.after (.nmtEnterPreop l node) fun t => t.can.nmt = .preop ∧ t.md = s.md) ∧
        (s.after (.nmtResetComm l node) fun t => t.can.nmt = .preop ∧ t.md = s.md ∧ (∀ q : Fin 10, t.paths[q].tag = 0)
          ∧ ∀ i : Fin 2, t.can.links[i].session = none)) ∧
      (node ≠ 0 → node.toNat ≠ s.can.nodeId → ∀ c ∈ [Instr.nmtStart l node, .nmtStop l node, .nmtEnterPreop l node, .nmtResetComm l node],
        s.ignores c) ∧
      (node ≠ 0 → ∀ i : Fin 4, s.consNode i = node.toNat → s.reg 0x1016 (i.1 + 1) % 65536 ≠ 0 →
        s.after (.heartbeatReceived l node) fun t => t.can.hbArmed[i] = some l ∧ t.regs.filter (fun c => !countsKey c.1) = s.regs.filter (fun c => !countsKey c.1))) ∧
    (s.linkUp l = true → s.can.nmt = .operational → s.md.mode ≠ .ship →
      (s.after (.syncReceived l) fun t => t.can.rpdo = Vector.replicate 8 none) ∧
      (∀ n : Fin 8, s.can.rpdo = Vector.replicate 8 none → s.tpdoLive n = true → 1 ≤ s.reg (0x1800 + n.1) 2 → s.reg (0x1800 + n.1) 2 ≤ 240 →
        s.after (.syncReceived l) fun t => t.can.syncCnt[n] =
          if s.reg (0x1800 + n.1) 2 ≤ s.can.syncCnt[n] + 1 then 0 else s.can.syncCnt[n] + 1) ∧
      (∀ (n : Fin 8) (data : List Byte), s.rpdoFrom l = true → s.slotFree = true → pdoValid s.reg (0x1400 + n.1) = true →
        let m := s.mapping (0x1600 + n.1)
        m ≠ [] →
          (data.length < (m.map fun x => x.2.2).sum → s.after (.rpdoReceived l n data) fun t =>
            t.reg 0x2F00 0x10 = min 0xFFFFFFFF (s.reg 0x2F00 0x10 + 1) ∧ t.can.rpdo = s.can.rpdo) ∧
          ((m.map fun x => x.2.2).sum ≤ data.length → s.reg (0x1400 + n.1) 2 ≤ 240 → (itemsOf s.variant (rpdoValues m data)).1 = 0 →
            lateCode (takeSlot s) (linkPath l) none (itemsOf s.variant (rpdoValues m data)).2 = 0 →
            s.after (.rpdoReceived l n data) fun t => t.can.rpdo[n].isSome = true ∧ t.reg 0x2F00 0x10 = s.reg 0x2F00 0x10))) ∧
    (∀ n : Fin 8, s.tpdoEvent n = true → s.tpdoFree n = true → s.upLinks ≠ [] →
      (s.can.tpdoLast[n] = none → s.after .tpdoEventCheck fun t => t.can.tpdoLast[n].isSome = true) ∧
      (s.reg (0x1800 + n.1) 5 ≠ 0 → s.after (.tpdoEventTimer n) fun t => t.can.tpdoAt[n] = some s.coreNow ∧
        ∀ k, s.upLinks = [k] → t.sent = s.sent ++ [{ link := k, id := s.reg (0x1800 + n.1) 1 % 2048, fd := true, brs := s.can.links[linkIx k].dRate != 0, data := padFd (copyTpdo s k n).1 }])) ∧
    (∀ m r, s.can.links[linkIx l].emcy = m :: r → s.linkUp l = true → s.can.nmt ≠ .stopped → s.md.mode ≠ .ship → s.emcyFree l = true →
      s.after (.emcySend l) fun t => t.sent = s.sent ++ [{ link := l, id := 0x80 + s.can.nodeId, fd := false, brs := false, data := m }]
        ∧ t.can.links[linkIx l].emcyAt = some s.coreNow) ∧
    (s.reg 0x1017 0 ≠ 0 → s.md.mode ≠ .ship → s.becomes .heartbeatSend { s with sent := s.sent ++ s.upLinks.map fun k =>
      { link := k, id := 0x700 + s.can.nodeId, fd := false, brs := false, data := [BitVec.ofNat 8 s.can.nmt.code] } }) ∧
    (∀ (i : Fin 4) (k : Link), s.can.hbArmed[i] = some k → s.waitFails = 0 → hasPlace s.log .c = true → s.after (.heartbeatTimeout i) fun t =>
      t.can.hbArmed[i] = none ∧ ∃ e ∈ t.log, e.code = 0x0909 ∧ e.seq = nextSeq s.seq ∧ e.stamp = s.tb.count ∧ e.cls = .c) ∧
    (s.linkUp l = true → s.md.mode ≠ .ship → s.after (.busOff l) fun t => t.can.links[linkIx l].busOff = true
      ∧ t.reg 0x2F00 (0x16 + (linkIx l).1) = min 0xFFFF (s.reg 0x2F00 (0x16 + (linkIx l).1) + 1)) ∧
    (s.can.links[linkIx l].busOff = true → s.md.mode ≠ .ship → s.after (.busOffRecovery l) fun t => t.can.links[linkIx l].busOff = false
      ∧ t.can.links[linkIx l].passive = false ∧ t.can.links[linkIx l].txErr = 0 ∧ t.can.links[linkIx l].rxErr = 0) ∧
    (∀ tx rx : Nat, s.md.mode ≠ .ship → s.can.links[linkIx l].enabled = true → s.becomes (.errorPassiveChange l tx rx)
      (s.modLink (linkIx l) fun k => { k with txErr := tx, rxErr := rx, passive := decide (127 < tx ∨ 127 < rx) }))

/-- A two-wire transaction is acknowledged, applied whole at its end or abandoned with nothing written. In the open device with
no transaction running, outside SHIP and the entry to STANDBY, a matched address with a free slot and a settled context is
acknowledged, a foreign one ignored, one that waited in vain refused and counted. A STOP after a write sets the pointer,
lays the bytes of its page in an unprotected user area untagged and moves the pointer past them; after a read it answers the
bytes, the first field's as they stood at the address match (log entry 89, the model's choice), and moves the pointer. A
repeated START ends the transaction and begins the next. A mailbox read or write ends with MB_STAT 2 and its effect. A
time-out and a stopped controller end the transaction, count it and write nothing; a time-out leaves LAST_RESULT 3 whatever
was in progress (R366), a stopped controller where data was to be written, and else leaves it (log entry 32, the model's
choice). An attention request outside SHIP, once ATTN_REPEAT has passed since the last, takes effect on an idle bus, and so
does a new address, which waits for the end of a transaction in progress (log entry 35, the model's choice). (R351; R352;
R353; R357; R358; R359; R361; R363; R364; R366; R367; notes/assumptions 32, 35 (DEDUCED) and 89 (DESIGN CHOICE)) -/
def Obligations.TwoWireTransactions : Prop :=
  ∀ s : State, s.ready = true →
    (s.tw.now = none →
      (∀ (addr : BitVec 7) (read : Bool),
        (s.ctxOf addr = none → s.ignores (.twAddressMatch addr read)) ∧
        (∀ c, s.ctxOf addr = some c →
          (s.tw.ctx[c].run = none → s.slotFree = true → s.canWake = false → s.md.mode ≠ .ship → s.after (.twAddressMatch addr read) fun t =>
            let u := { takeSlot s with tw := { s.tw with now := some (c, read), since := s.now64, attn := false } }
            t.tw = { u.tw with first := if read then twBytes u c s.tw.ctx[c].pointer (fieldLeft s s.tw.ctx[c].pointer.toNat) else [] }) ∧
          (s.slotFree = false → s.after (.twSlotWaitExpire addr) fun t => t.tw = s.tw
            ∧ t.reg 0x2E00 9 = min 0xFFFFFFFF (s.reg 0x2E00 9 + 1) ∧ t.reg 0x2F00 0x0F = min 0xFFFFFFFF (s.reg 0x2F00 0x0F + 1)))) ∧
      (s.attention = true → s.attnFree = true → s.md.mode ≠ .ship → s.becomes .attnRequest { s with tw := { s.tw with attn := true, attnAt := some s.coreNow } }) ∧
      (s.becomes .twAddrUpdate { s with tw := { s.tw with base := BitVec.ofNat 7 (s.reg 0x2E00 1), mask := BitVec.ofNat 7 (s.reg 0x2E00 2), next := none } })) ∧
    (s.tw.now ≠ none →
      (s.becomes .twAddrUpdate { s with tw := { s.tw with next := some (BitVec.ofNat 7 (s.reg 0x2E00 1), BitVec.ofNat 7 (s.reg 0x2E00 2)) } }) ∧
      (∀ a, s.tw.next = some a → ∀ (bytes : List Byte) (n : Nat), s.after (.twStop bytes n) fun t =>
        t.tw.base = a.1 ∧ t.tw.mask = a.2 ∧ t.tw.next = none)) ∧
    (∀ c : Fin 8, s.tw.now = some (c, false) → ∀ (hi lo : Byte) (d : List Byte) (n : Nat),
      let a := (hi ++ lo).toNat
      (s.after (.twStop [hi, lo] n) fun t => t.tw.now = none ∧ t.tw.ctx[c] = { s.tw.ctx[c] with pointer := hi ++ lo }) ∧
      (a + d.length ≤ userSize → 1 ≤ d.length → d.length ≤ 0x20 - a % 0x20 → s.paths[pathIx (.tw c)].tag = 0 → s.touchesProt a d.length = false →
        s.after (.twStop (hi :: lo :: d) n) fun t => t.tw.now = none ∧ t.tw.ctx[c].pointer = hi ++ lo + BitVec.ofNat 16 d.length
          ∧ t.tw.ctx[c].result = 1 ∧ s.userBut t (fun b => decide (a ≤ b ∧ b < a + d.length))
          ∧ ((∀ b, a ≤ b → b < a + d.length → s.tallied b = false) → memReadN t.ks.sram.user a d.length = d)) ∧
      (∀ addr : BitVec 7, s.tw.next = none → s.ctxOf addr = some c → s.tw.ctx[c].run = none → s.slotsHeld ≤ 47 → s.canWake = false → s.md.mode ≠ .ship →
        s.after (.twRepeatedStart [hi, lo] n addr true) fun t => t.tw.now = some (c, true) ∧ t.tw.ctx[c].pointer = hi ++ lo) ∧
      (s.after (.twTimeout (hi :: lo :: d) n) fun t => t.tw.now = none ∧ t.tw.ctx[c].result = 3 ∧ s.userBut t fun _ => false) ∧
      (s.md.mode ≠ .ship → s.after (.twBusRecovery (hi :: lo :: d) n) fun t => t.tw.now = none ∧ s.userBut t (fun _ => false)
        ∧ t.tw.ctx[c].result = if d = [] then s.tw.ctx[c].result else 3)) ∧
    (∀ c : Fin 8, s.tw.now = some (c, true) → ∀ (bytes : List Byte) (n : Nat),
      (s.after (.twStop bytes n) fun t => t.tw.now = none
        ∧ t.paths[pathIx (.tw c)].answer = s.tw.first.take n
          ++ twBytes s c (s.tw.ctx[c].pointer + BitVec.ofNat 16 (s.tw.first.take n).length) (n - (s.tw.first.take n).length)
        ∧ t.tw.ctx[c].pointer = s.tw.ctx[c].pointer + BitVec.ofNat 16 n) ∧
      (s.after (.twTimeout bytes n) fun t => t.tw.now = none ∧ t.reg 0x2E00 8 = min 0xFFFFFFFF (s.reg 0x2E00 8 + 1)) ∧
      (s.md.mode ≠ .ship → s.after (.twBusRecovery bytes n) fun t => t.tw.now = none ∧ t.reg 0x2E00 0x0A = min 0xFFFFFFFF (s.reg 0x2E00 0x0A + 1))) ∧
    (∀ c : Fin 8, s.tw.ctx[c].chunkKey = none →
      let m := s.tw.ctx[c].mbox
      (s.tw.ctx[c].run = some 1 → ∀ o, findObj s.variant (mbField m 0 2) (mbField m 2 1) = some o → o.acc ≠ .wo →
        (readObj s (pathIx (.tw c)) o (mbField m 0 2) (mbField m 2 1)).1 = 0 → s.after (.mailboxRead c) fun t =>
          t.tw.ctx[c].run = none ∧ mbField t.tw.ctx[c].mbox 5 1 = 2 ∧ mbField t.tw.ctx[c].mbox 3 1 = 0 ∧
          let d := ((readObj s (pathIx (.tw c)) o (mbField m 0 2) (mbField m 2 1)).2.1.drop (mbField m 6 2)).take 240
          mbField t.tw.ctx[c].mbox 4 1 = d.length ∧ (t.tw.ctx[c].mbox.toList.drop 0x10).take d.length = d) ∧
      (s.tw.ctx[c].run = some 2 → mbField m 0 2 = 0x1017 → mbField m 2 1 = 0 → mbField m 4 1 = 2 → mbField m 6 2 = 0 → s.tw.ctx[c].chunk = [] →
        s.paths[pathIx (.tw c)].tag = 0 → s.after (.mailboxWrite c) fun t =>
          t.tw.ctx[c].run = none ∧ mbField t.tw.ctx[c].mbox 5 1 = 2 ∧ t.reg 0x1017 0 = mbField m 0x10 2))
end

