-- ==== Sys2Proof/Laws/State.lean ====
section
/-! SUPPORT. What each named update of State leaves alone, one lemma per field, and what it makes of the field it changes. -/

namespace Sys2Proof.Machine
open Sys2Proof

/-! ## State.setReg -/

@[simp] theorem State.setReg_variant (s : State) (idx sub v : Nat) : (s.setReg idx sub v).variant = s.variant := rfl
@[simp] theorem State.setReg_pwr (s : State) (idx sub v : Nat) : (s.setReg idx sub v).pwr = s.pwr := rfl
@[simp] theorem State.setReg_md (s : State) (idx sub v : Nat) : (s.setReg idx sub v).md = s.md := rfl
@[simp] theorem State.setReg_latch (s : State) (idx sub v : Nat) : (s.setReg idx sub v).latch = s.latch := rfl
@[simp] theorem State.setReg_pins (s : State) (idx sub v : Nat) : (s.setReg idx sub v).pins = s.pins := rfl
@[simp] theorem State.setReg_shadow (s : State) (idx sub v : Nat) : (s.setReg idx sub v).shadow = s.shadow := rfl
@[simp] theorem State.setReg_active (s : State) (idx sub v : Nat) : (s.setReg idx sub v).active = s.active := rfl
@[simp] theorem State.setReg_ports (s : State) (idx sub v : Nat) : (s.setReg idx sub v).ports = s.ports := rfl
@[simp] theorem State.setReg_rails (s : State) (idx sub v : Nat) : (s.setReg idx sub v).rails = s.rails := rfl
@[simp] theorem State.setReg_engines (s : State) (idx sub v : Nat) : (s.setReg idx sub v).engines = s.engines := rfl
@[simp] theorem State.setReg_sc (s : State) (idx sub v : Nat) : (s.setReg idx sub v).sc = s.sc := rfl
@[simp] theorem State.setReg_vc (s : State) (idx sub v : Nat) : (s.setReg idx sub v).vc = s.vc := rfl
@[simp] theorem State.setReg_milk (s : State) (idx sub v : Nat) : (s.setReg idx sub v).milk = s.milk := rfl
@[simp] theorem State.setReg_ledger (s : State) (idx sub v : Nat) : (s.setReg idx sub v).ledger = s.ledger := rfl
@[simp] theorem State.setReg_sqe (s : State) (idx sub v : Nat) : (s.setReg idx sub v).sqe = s.sqe := rfl
@[simp] theorem State.setReg_chg (s : State) (idx sub v : Nat) : (s.setReg idx sub v).chg = s.chg := rfl
@[simp] theorem State.setReg_thm (s : State) (idx sub v : Nat) : (s.setReg idx sub v).thm = s.thm := rfl
@[simp] theorem State.setReg_flt (s : State) (idx sub v : Nat) : (s.setReg idx sub v).flt = s.flt := rfl
@[simp] theorem State.setReg_aon (s : State) (idx sub v : Nat) : (s.setReg idx sub v).aon = s.aon := rfl
@[simp] theorem State.setReg_seq (s : State) (idx sub v : Nat) : (s.setReg idx sub v).seq = s.seq := rfl
@[simp] theorem State.setReg_cmt (s : State) (idx sub v : Nat) : (s.setReg idx sub v).cmt = s.cmt := rfl
@[simp] theorem State.setReg_paths (s : State) (idx sub v : Nat) : (s.setReg idx sub v).paths = s.paths := rfl
@[simp] theorem State.setReg_can (s : State) (idx sub v : Nat) : (s.setReg idx sub v).can = s.can := rfl
@[simp] theorem State.setReg_tw (s : State) (idx sub v : Nat) : (s.setReg idx sub v).tw = s.tw := rfl
@[simp] theorem State.setReg_tb (s : State) (idx sub v : Nat) : (s.setReg idx sub v).tb = s.tb := rfl
@[simp] theorem State.setReg_wd (s : State) (idx sub v : Nat) : (s.setReg idx sub v).wd = s.wd := rfl
@[simp] theorem State.setReg_irq (s : State) (idx sub v : Nat) : (s.setReg idx sub v).irq = s.irq := rfl
@[simp] theorem State.setReg_ks (s : State) (idx sub v : Nat) : (s.setReg idx sub v).ks = s.ks := rfl
@[simp] theorem State.setReg_adc (s : State) (idx sub v : Nat) : (s.setReg idx sub v).adc = s.adc := rfl
@[simp] theorem State.setReg_mirror (s : State) (idx sub v : Nat) : (s.setReg idx sub v).mirror = s.mirror := rfl
@[simp] theorem State.setReg_tap (s : State) (idx sub v : Nat) : (s.setReg idx sub v).tap = s.tap := rfl
@[simp] theorem State.setReg_herd (s : State) (idx sub v : Nat) : (s.setReg idx sub v).herd = s.herd := rfl
@[simp] theorem State.setReg_sent (s : State) (idx sub v : Nat) : (s.setReg idx sub v).sent = s.sent := rfl
@[simp] theorem State.setReg_freeCtr (s : State) (idx sub v : Nat) : (s.setReg idx sub v).freeCtr = s.freeCtr := rfl
@[simp] theorem State.setReg_pending (s : State) (idx sub v : Nat) : (s.setReg idx sub v).pending = s.pending := rfl

/-! ## State.transfer -/

@[simp] theorem State.transfer_variant (s : State) (idx sub v : Nat) : (s.transfer idx sub v).variant = s.variant := rfl
@[simp] theorem State.transfer_pwr (s : State) (idx sub v : Nat) : (s.transfer idx sub v).pwr = s.pwr := rfl
@[simp] theorem State.transfer_md (s : State) (idx sub v : Nat) : (s.transfer idx sub v).md = s.md := rfl
@[simp] theorem State.transfer_latch (s : State) (idx sub v : Nat) : (s.transfer idx sub v).latch = s.latch := rfl
@[simp] theorem State.transfer_pins (s : State) (idx sub v : Nat) : (s.transfer idx sub v).pins = s.pins := rfl
@[simp] theorem State.transfer_regs (s : State) (idx sub v : Nat) : (s.transfer idx sub v).regs = s.regs := rfl
@[simp] theorem State.transfer_ports (s : State) (idx sub v : Nat) : (s.transfer idx sub v).ports = s.ports := rfl
@[simp] theorem State.transfer_rails (s : State) (idx sub v : Nat) : (s.transfer idx sub v).rails = s.rails := rfl
@[simp] theorem State.transfer_engines (s : State) (idx sub v : Nat) : (s.transfer idx sub v).engines = s.engines := rfl
@[simp] theorem State.transfer_sc (s : State) (idx sub v : Nat) : (s.transfer idx sub v).sc = s.sc := rfl
@[simp] theorem State.transfer_vc (s : State) (idx sub v : Nat) : (s.transfer idx sub v).vc = s.vc := rfl
@[simp] theorem State.transfer_milk (s : State) (idx sub v : Nat) : (s.transfer idx sub v).milk = s.milk := rfl
@[simp] theorem State.transfer_ledger (s : State) (idx sub v : Nat) : (s.transfer idx sub v).ledger = s.ledger := rfl
@[simp] theorem State.transfer_sqe (s : State) (idx sub v : Nat) : (s.transfer idx sub v).sqe = s.sqe := rfl
@[simp] theorem State.transfer_chg (s : State) (idx sub v : Nat) : (s.transfer idx sub v).chg = s.chg := rfl
@[simp] theorem State.transfer_thm (s : State) (idx sub v : Nat) : (s.transfer idx sub v).thm = s.thm := rfl
@[simp] theorem State.transfer_flt (s : State) (idx sub v : Nat) : (s.transfer idx sub v).flt = s.flt := rfl
@[simp] theorem State.transfer_aon (s : State) (idx sub v : Nat) : (s.transfer idx sub v).aon = s.aon := rfl
@[simp] theorem State.transfer_seq (s : State) (idx sub v : Nat) : (s.transfer idx sub v).seq = s.seq := rfl
@[simp] theorem State.transfer_cmt (s : State) (idx sub v : Nat) : (s.transfer idx sub v).cmt = s.cmt := rfl
@[simp] theorem State.transfer_paths (s : State) (idx sub v : Nat) : (s.transfer idx sub v).paths = s.paths := rfl
@[simp] theorem State.transfer_can (s : State) (idx sub v : Nat) : (s.transfer idx sub v).can = s.can := rfl
@[simp] theorem State.transfer_tw (s : State) (idx sub v : Nat) : (s.transfer idx sub v).tw = s.tw := rfl
@[simp] theorem State.transfer_tb (s : State) (idx sub v : Nat) : (s.transfer idx sub v).tb = s.tb := rfl
@[simp] theorem State.transfer_wd (s : State) (idx sub v : Nat) : (s.transfer idx sub v).wd = s.wd := rfl
@[simp] theorem State.transfer_irq (s : State) (idx sub v : Nat) : (s.transfer idx sub v).irq = s.irq := rfl
@[simp] theorem State.transfer_ks (s : State) (idx sub v : Nat) : (s.transfer idx sub v).ks = s.ks := rfl
@[simp] theorem State.transfer_adc (s : State) (idx sub v : Nat) : (s.transfer idx sub v).adc = s.adc := rfl
@[simp] theorem State.transfer_mirror (s : State) (idx sub v : Nat) : (s.transfer idx sub v).mirror = s.mirror := rfl
@[simp] theorem State.transfer_tap (s : State) (idx sub v : Nat) : (s.transfer idx sub v).tap = s.tap := rfl
@[simp] theorem State.transfer_herd (s : State) (idx sub v : Nat) : (s.transfer idx sub v).herd = s.herd := rfl
@[simp] theorem State.transfer_sent (s : State) (idx sub v : Nat) : (s.transfer idx sub v).sent = s.sent := rfl
@[simp] theorem State.transfer_freeCtr (s : State) (idx sub v : Nat) : (s.transfer idx sub v).freeCtr = s.freeCtr := rfl
@[simp] theorem State.transfer_pending (s : State) (idx sub v : Nat) : (s.transfer idx sub v).pending = s.pending := rfl

/-! ## State.setAll -/

@[simp] theorem State.setAll_variant (s : State) (idx sub v : Nat) : (s.setAll idx sub v).variant = s.variant := rfl
@[simp] theorem State.setAll_pwr (s : State) (idx sub v : Nat) : (s.setAll idx sub v).pwr = s.pwr := rfl
@[simp] theorem State.setAll_md (s : State) (idx sub v : Nat) : (s.setAll idx sub v).md = s.md := rfl
@[simp] theorem State.setAll_latch (s : State) (idx sub v : Nat) : (s.setAll idx sub v).latch = s.latch := rfl
@[simp] theorem State.setAll_pins (s : State) (idx sub v : Nat) : (s.setAll idx sub v).pins = s.pins := rfl
@[simp] theorem State.setAll_ports (s : State) (idx sub v : Nat) : (s.setAll idx sub v).ports = s.ports := rfl
@[simp] theorem State.setAll_rails (s : State) (idx sub v : Nat) : (s.setAll idx sub v).rails = s.rails := rfl
@[simp] theorem State.setAll_engines (s : State) (idx sub v : Nat) : (s.setAll idx sub v).engines = s.engines := rfl
@[simp] theorem State.setAll_sc (s : State) (idx sub v : Nat) : (s.setAll idx sub v).sc = s.sc := rfl
@[simp] theorem State.setAll_vc (s : State) (idx sub v : Nat) : (s.setAll idx sub v).vc = s.vc := rfl
@[simp] theorem State.setAll_milk (s : State) (idx sub v : Nat) : (s.setAll idx sub v).milk = s.milk := rfl
@[simp] theorem State.setAll_ledger (s : State) (idx sub v : Nat) : (s.setAll idx sub v).ledger = s.ledger := rfl
@[simp] theorem State.setAll_sqe (s : State) (idx sub v : Nat) : (s.setAll idx sub v).sqe = s.sqe := rfl
@[simp] theorem State.setAll_chg (s : State) (idx sub v : Nat) : (s.setAll idx sub v).chg = s.chg := rfl
@[simp] theorem State.setAll_thm (s : State) (idx sub v : Nat) : (s.setAll idx sub v).thm = s.thm := rfl
@[simp] theorem State.setAll_flt (s : State) (idx sub v : Nat) : (s.setAll idx sub v).flt = s.flt := rfl
@[simp] theorem State.setAll_aon (s : State) (idx sub v : Nat) : (s.setAll idx sub v).aon = s.aon := rfl
@[simp] theorem State.setAll_seq (s : State) (idx sub v : Nat) : (s.setAll idx sub v).seq = s.seq := rfl
@[simp] theorem State.setAll_cmt (s : State) (idx sub v : Nat) : (s.setAll idx sub v).cmt = s.cmt := rfl
@[simp] theorem State.setAll_paths (s : State) (idx sub v : Nat) : (s.setAll idx sub v).paths = s.paths := rfl
@[simp] theorem State.setAll_can (s : State) (idx sub v : Nat) : (s.setAll idx sub v).can = s.can := rfl
@[simp] theorem State.setAll_tw (s : State) (idx sub v : Nat) : (s.setAll idx sub v).tw = s.tw := rfl
@[simp] theorem State.setAll_tb (s : State) (idx sub v : Nat) : (s.setAll idx sub v).tb = s.tb := rfl
@[simp] theorem State.setAll_wd (s : State) (idx sub v : Nat) : (s.setAll idx sub v).wd = s.wd := rfl
@[simp] theorem State.setAll_irq (s : State) (idx sub v : Nat) : (s.setAll idx sub v).irq = s.irq := rfl
@[simp] theorem State.setAll_ks (s : State) (idx sub v : Nat) : (s.setAll idx sub v).ks = s.ks := rfl
@[simp] theorem State.setAll_adc (s : State) (idx sub v : Nat) : (s.setAll idx sub v).adc = s.adc := rfl
@[simp] theorem State.setAll_mirror (s : State) (idx sub v : Nat) : (s.setAll idx sub v).mirror = s.mirror := rfl
@[simp] theorem State.setAll_tap (s : State) (idx sub v : Nat) : (s.setAll idx sub v).tap = s.tap := rfl
@[simp] theorem State.setAll_herd (s : State) (idx sub v : Nat) : (s.setAll idx sub v).herd = s.herd := rfl
@[simp] theorem State.setAll_sent (s : State) (idx sub v : Nat) : (s.setAll idx sub v).sent = s.sent := rfl
@[simp] theorem State.setAll_freeCtr (s : State) (idx sub v : Nat) : (s.setAll idx sub v).freeCtr = s.freeCtr := rfl
@[simp] theorem State.setAll_pending (s : State) (idx sub v : Nat) : (s.setAll idx sub v).pending = s.pending := rfl

/-! ## State.bump -/

@[simp] theorem State.bump_variant (s : State) (idx sub top k : Nat) : (s.bump idx sub top k).variant = s.variant := rfl
@[simp] theorem State.bump_pwr (s : State) (idx sub top k : Nat) : (s.bump idx sub top k).pwr = s.pwr := rfl
@[simp] theorem State.bump_md (s : State) (idx sub top k : Nat) : (s.bump idx sub top k).md = s.md := rfl
@[simp] theorem State.bump_latch (s : State) (idx sub top k : Nat) : (s.bump idx sub top k).latch = s.latch := rfl
@[simp] theorem State.bump_pins (s : State) (idx sub top k : Nat) : (s.bump idx sub top k).pins = s.pins := rfl
@[simp] theorem State.bump_shadow (s : State) (idx sub top k : Nat) : (s.bump idx sub top k).shadow = s.shadow := rfl
@[simp] theorem State.bump_active (s : State) (idx sub top k : Nat) : (s.bump idx sub top k).active = s.active := rfl
@[simp] theorem State.bump_ports (s : State) (idx sub top k : Nat) : (s.bump idx sub top k).ports = s.ports := rfl
@[simp] theorem State.bump_rails (s : State) (idx sub top k : Nat) : (s.bump idx sub top k).rails = s.rails := rfl
@[simp] theorem State.bump_engines (s : State) (idx sub top k : Nat) : (s.bump idx sub top k).engines = s.engines := rfl
@[simp] theorem State.bump_sc (s : State) (idx sub top k : Nat) : (s.bump idx sub top k).sc = s.sc := rfl
@[simp] theorem State.bump_vc (s : State) (idx sub top k : Nat) : (s.bump idx sub top k).vc = s.vc := rfl
@[simp] theorem State.bump_milk (s : State) (idx sub top k : Nat) : (s.bump idx sub top k).milk = s.milk := rfl
@[simp] theorem State.bump_ledger (s : State) (idx sub top k : Nat) : (s.bump idx sub top k).ledger = s.ledger := rfl
@[simp] theorem State.bump_sqe (s : State) (idx sub top k : Nat) : (s.bump idx sub top k).sqe = s.sqe := rfl
@[simp] theorem State.bump_chg (s : State) (idx sub top k : Nat) : (s.bump idx sub top k).chg = s.chg := rfl
@[simp] theorem State.bump_thm (s : State) (idx sub top k : Nat) : (s.bump idx sub top k).thm = s.thm := rfl
@[simp] theorem State.bump_flt (s : State) (idx sub top k : Nat) : (s.bump idx sub top k).flt = s.flt := rfl
@[simp] theorem State.bump_aon (s : State) (idx sub top k : Nat) : (s.bump idx sub top k).aon = s.aon := rfl
@[simp] theorem State.bump_seq (s : State) (idx sub top k : Nat) : (s.bump idx sub top k).seq = s.seq := rfl
@[simp] theorem State.bump_cmt (s : State) (idx sub top k : Nat) : (s.bump idx sub top k).cmt = s.cmt := rfl
@[simp] theorem State.bump_paths (s : State) (idx sub top k : Nat) : (s.bump idx sub top k).paths = s.paths := rfl
@[simp] theorem State.bump_can (s : State) (idx sub top k : Nat) : (s.bump idx sub top k).can = s.can := rfl
@[simp] theorem State.bump_tw (s : State) (idx sub top k : Nat) : (s.bump idx sub top k).tw = s.tw := rfl
@[simp] theorem State.bump_tb (s : State) (idx sub top k : Nat) : (s.bump idx sub top k).tb = s.tb := rfl
@[simp] theorem State.bump_wd (s : State) (idx sub top k : Nat) : (s.bump idx sub top k).wd = s.wd := rfl
@[simp] theorem State.bump_irq (s : State) (idx sub top k : Nat) : (s.bump idx sub top k).irq = s.irq := rfl
@[simp] theorem State.bump_ks (s : State) (idx sub top k : Nat) : (s.bump idx sub top k).ks = s.ks := rfl
@[simp] theorem State.bump_adc (s : State) (idx sub top k : Nat) : (s.bump idx sub top k).adc = s.adc := rfl
@[simp] theorem State.bump_mirror (s : State) (idx sub top k : Nat) : (s.bump idx sub top k).mirror = s.mirror := rfl
@[simp] theorem State.bump_tap (s : State) (idx sub top k : Nat) : (s.bump idx sub top k).tap = s.tap := rfl
@[simp] theorem State.bump_herd (s : State) (idx sub top k : Nat) : (s.bump idx sub top k).herd = s.herd := rfl
@[simp] theorem State.bump_sent (s : State) (idx sub top k : Nat) : (s.bump idx sub top k).sent = s.sent := rfl
@[simp] theorem State.bump_freeCtr (s : State) (idx sub top k : Nat) : (s.bump idx sub top k).freeCtr = s.freeCtr := rfl
@[simp] theorem State.bump_pending (s : State) (idx sub top k : Nat) : (s.bump idx sub top k).pending = s.pending := rfl

/-! ## State.inc -/

@[simp] theorem State.inc_variant (s : State) (idx sub : Nat) : (s.inc idx sub).variant = s.variant := rfl
@[simp] theorem State.inc_pwr (s : State) (idx sub : Nat) : (s.inc idx sub).pwr = s.pwr := rfl
@[simp] theorem State.inc_md (s : State) (idx sub : Nat) : (s.inc idx sub).md = s.md := rfl
@[simp] theorem State.inc_latch (s : State) (idx sub : Nat) : (s.inc idx sub).latch = s.latch := rfl
@[simp] theorem State.inc_pins (s : State) (idx sub : Nat) : (s.inc idx sub).pins = s.pins := rfl
@[simp] theorem State.inc_shadow (s : State) (idx sub : Nat) : (s.inc idx sub).shadow = s.shadow := rfl
@[simp] theorem State.inc_active (s : State) (idx sub : Nat) : (s.inc idx sub).active = s.active := rfl
@[simp] theorem State.inc_ports (s : State) (idx sub : Nat) : (s.inc idx sub).ports = s.ports := rfl
@[simp] theorem State.inc_rails (s : State) (idx sub : Nat) : (s.inc idx sub).rails = s.rails := rfl
@[simp] theorem State.inc_engines (s : State) (idx sub : Nat) : (s.inc idx sub).engines = s.engines := rfl
@[simp] theorem State.inc_sc (s : State) (idx sub : Nat) : (s.inc idx sub).sc = s.sc := rfl
@[simp] theorem State.inc_vc (s : State) (idx sub : Nat) : (s.inc idx sub).vc = s.vc := rfl
@[simp] theorem State.inc_milk (s : State) (idx sub : Nat) : (s.inc idx sub).milk = s.milk := rfl
@[simp] theorem State.inc_ledger (s : State) (idx sub : Nat) : (s.inc idx sub).ledger = s.ledger := rfl
@[simp] theorem State.inc_sqe (s : State) (idx sub : Nat) : (s.inc idx sub).sqe = s.sqe := rfl
@[simp] theorem State.inc_chg (s : State) (idx sub : Nat) : (s.inc idx sub).chg = s.chg := rfl
@[simp] theorem State.inc_thm (s : State) (idx sub : Nat) : (s.inc idx sub).thm = s.thm := rfl
@[simp] theorem State.inc_flt (s : State) (idx sub : Nat) : (s.inc idx sub).flt = s.flt := rfl
@[simp] theorem State.inc_aon (s : State) (idx sub : Nat) : (s.inc idx sub).aon = s.aon := rfl
@[simp] theorem State.inc_seq (s : State) (idx sub : Nat) : (s.inc idx sub).seq = s.seq := rfl
@[simp] theorem State.inc_cmt (s : State) (idx sub : Nat) : (s.inc idx sub).cmt = s.cmt := rfl
@[simp] theorem State.inc_paths (s : State) (idx sub : Nat) : (s.inc idx sub).paths = s.paths := rfl
@[simp] theorem State.inc_can (s : State) (idx sub : Nat) : (s.inc idx sub).can = s.can := rfl
@[simp] theorem State.inc_tw (s : State) (idx sub : Nat) : (s.inc idx sub).tw = s.tw := rfl
@[simp] theorem State.inc_tb (s : State) (idx sub : Nat) : (s.inc idx sub).tb = s.tb := rfl
@[simp] theorem State.inc_wd (s : State) (idx sub : Nat) : (s.inc idx sub).wd = s.wd := rfl
@[simp] theorem State.inc_irq (s : State) (idx sub : Nat) : (s.inc idx sub).irq = s.irq := rfl
@[simp] theorem State.inc_ks (s : State) (idx sub : Nat) : (s.inc idx sub).ks = s.ks := rfl
@[simp] theorem State.inc_adc (s : State) (idx sub : Nat) : (s.inc idx sub).adc = s.adc := rfl
@[simp] theorem State.inc_mirror (s : State) (idx sub : Nat) : (s.inc idx sub).mirror = s.mirror := rfl
@[simp] theorem State.inc_tap (s : State) (idx sub : Nat) : (s.inc idx sub).tap = s.tap := rfl
@[simp] theorem State.inc_herd (s : State) (idx sub : Nat) : (s.inc idx sub).herd = s.herd := rfl
@[simp] theorem State.inc_sent (s : State) (idx sub : Nat) : (s.inc idx sub).sent = s.sent := rfl
@[simp] theorem State.inc_freeCtr (s : State) (idx sub : Nat) : (s.inc idx sub).freeCtr = s.freeCtr := rfl
@[simp] theorem State.inc_pending (s : State) (idx sub : Nat) : (s.inc idx sub).pending = s.pending := rfl

/-! ## State.orReg -/

@[simp] theorem State.orReg_variant (s : State) (idx sub m : Nat) : (s.orReg idx sub m).variant = s.variant := rfl
@[simp] theorem State.orReg_pwr (s : State) (idx sub m : Nat) : (s.orReg idx sub m).pwr = s.pwr := rfl
@[simp] theorem State.orReg_md (s : State) (idx sub m : Nat) : (s.orReg idx sub m).md = s.md := rfl
@[simp] theorem State.orReg_latch (s : State) (idx sub m : Nat) : (s.orReg idx sub m).latch = s.latch := rfl
@[simp] theorem State.orReg_pins (s : State) (idx sub m : Nat) : (s.orReg idx sub m).pins = s.pins := rfl
@[simp] theorem State.orReg_shadow (s : State) (idx sub m : Nat) : (s.orReg idx sub m).shadow = s.shadow := rfl
@[simp] theorem State.orReg_active (s : State) (idx sub m : Nat) : (s.orReg idx sub m).active = s.active := rfl
@[simp] theorem State.orReg_ports (s : State) (idx sub m : Nat) : (s.orReg idx sub m).ports = s.ports := rfl
@[simp] theorem State.orReg_rails (s : State) (idx sub m : Nat) : (s.orReg idx sub m).rails = s.rails := rfl
@[simp] theorem State.orReg_engines (s : State) (idx sub m : Nat) : (s.orReg idx sub m).engines = s.engines := rfl
@[simp] theorem State.orReg_sc (s : State) (idx sub m : Nat) : (s.orReg idx sub m).sc = s.sc := rfl
@[simp] theorem State.orReg_vc (s : State) (idx sub m : Nat) : (s.orReg idx sub m).vc = s.vc := rfl
@[simp] theorem State.orReg_milk (s : State) (idx sub m : Nat) : (s.orReg idx sub m).milk = s.milk := rfl
@[simp] theorem State.orReg_ledger (s : State) (idx sub m : Nat) : (s.orReg idx sub m).ledger = s.ledger := rfl
@[simp] theorem State.orReg_sqe (s : State) (idx sub m : Nat) : (s.orReg idx sub m).sqe = s.sqe := rfl
@[simp] theorem State.orReg_chg (s : State) (idx sub m : Nat) : (s.orReg idx sub m).chg = s.chg := rfl
@[simp] theorem State.orReg_thm (s : State) (idx sub m : Nat) : (s.orReg idx sub m).thm = s.thm := rfl
@[simp] theorem State.orReg_flt (s : State) (idx sub m : Nat) : (s.orReg idx sub m).flt = s.flt := rfl
@[simp] theorem State.orReg_aon (s : State) (idx sub m : Nat) : (s.orReg idx sub m).aon = s.aon := rfl
@[simp] theorem State.orReg_seq (s : State) (idx sub m : Nat) : (s.orReg idx sub m).seq = s.seq := rfl
@[simp] theorem State.orReg_cmt (s : State) (idx sub m : Nat) : (s.orReg idx sub m).cmt = s.cmt := rfl
@[simp] theorem State.orReg_paths (s : State) (idx sub m : Nat) : (s.orReg idx sub m).paths = s.paths := rfl
@[simp] theorem State.orReg_can (s : State) (idx sub m : Nat) : (s.orReg idx sub m).can = s.can := rfl
@[simp] theorem State.orReg_tw (s : State) (idx sub m : Nat) : (s.orReg idx sub m).tw = s.tw := rfl
@[simp] theorem State.orReg_tb (s : State) (idx sub m : Nat) : (s.orReg idx sub m).tb = s.tb := rfl
@[simp] theorem State.orReg_wd (s : State) (idx sub m : Nat) : (s.orReg idx sub m).wd = s.wd := rfl
@[simp] theorem State.orReg_irq (s : State) (idx sub m : Nat) : (s.orReg idx sub m).irq = s.irq := rfl
@[simp] theorem State.orReg_ks (s : State) (idx sub m : Nat) : (s.orReg idx sub m).ks = s.ks := rfl
@[simp] theorem State.orReg_adc (s : State) (idx sub m : Nat) : (s.orReg idx sub m).adc = s.adc := rfl
@[simp] theorem State.orReg_mirror (s : State) (idx sub m : Nat) : (s.orReg idx sub m).mirror = s.mirror := rfl
@[simp] theorem State.orReg_tap (s : State) (idx sub m : Nat) : (s.orReg idx sub m).tap = s.tap := rfl
@[simp] theorem State.orReg_herd (s : State) (idx sub m : Nat) : (s.orReg idx sub m).herd = s.herd := rfl
@[simp] theorem State.orReg_sent (s : State) (idx sub m : Nat) : (s.orReg idx sub m).sent = s.sent := rfl
@[simp] theorem State.orReg_freeCtr (s : State) (idx sub m : Nat) : (s.orReg idx sub m).freeCtr = s.freeCtr := rfl
@[simp] theorem State.orReg_pending (s : State) (idx sub m : Nat) : (s.orReg idx sub m).pending = s.pending := rfl

/-! ## State.clrReg -/

@[simp] theorem State.clrReg_variant (s : State) (idx sub m : Nat) : (s.clrReg idx sub m).variant = s.variant := rfl
@[simp] theorem State.clrReg_pwr (s : State) (idx sub m : Nat) : (s.clrReg idx sub m).pwr = s.pwr := rfl
@[simp] theorem State.clrReg_md (s : State) (idx sub m : Nat) : (s.clrReg idx sub m).md = s.md := rfl
@[simp] theorem State.clrReg_latch (s : State) (idx sub m : Nat) : (s.clrReg idx sub m).latch = s.latch := rfl
@[simp] theorem State.clrReg_pins (s : State) (idx sub m : Nat) : (s.clrReg idx sub m).pins = s.pins := rfl
@[simp] theorem State.clrReg_shadow (s : State) (idx sub m : Nat) : (s.clrReg idx sub m).shadow = s.shadow := rfl
@[simp] theorem State.clrReg_active (s : State) (idx sub m : Nat) : (s.clrReg idx sub m).active = s.active := rfl
@[simp] theorem State.clrReg_ports (s : State) (idx sub m : Nat) : (s.clrReg idx sub m).ports = s.ports := rfl
@[simp] theorem State.clrReg_rails (s : State) (idx sub m : Nat) : (s.clrReg idx sub m).rails = s.rails := rfl
@[simp] theorem State.clrReg_engines (s : State) (idx sub m : Nat) : (s.clrReg idx sub m).engines = s.engines := rfl
@[simp] theorem State.clrReg_sc (s : State) (idx sub m : Nat) : (s.clrReg idx sub m).sc = s.sc := rfl
@[simp] theorem State.clrReg_vc (s : State) (idx sub m : Nat) : (s.clrReg idx sub m).vc = s.vc := rfl
@[simp] theorem State.clrReg_milk (s : State) (idx sub m : Nat) : (s.clrReg idx sub m).milk = s.milk := rfl
@[simp] theorem State.clrReg_ledger (s : State) (idx sub m : Nat) : (s.clrReg idx sub m).ledger = s.ledger := rfl
@[simp] theorem State.clrReg_sqe (s : State) (idx sub m : Nat) : (s.clrReg idx sub m).sqe = s.sqe := rfl
@[simp] theorem State.clrReg_chg (s : State) (idx sub m : Nat) : (s.clrReg idx sub m).chg = s.chg := rfl
@[simp] theorem State.clrReg_thm (s : State) (idx sub m : Nat) : (s.clrReg idx sub m).thm = s.thm := rfl
@[simp] theorem State.clrReg_flt (s : State) (idx sub m : Nat) : (s.clrReg idx sub m).flt = s.flt := rfl
@[simp] theorem State.clrReg_aon (s : State) (idx sub m : Nat) : (s.clrReg idx sub m).aon = s.aon := rfl
@[simp] theorem State.clrReg_seq (s : State) (idx sub m : Nat) : (s.clrReg idx sub m).seq = s.seq := rfl
@[simp] theorem State.clrReg_cmt (s : State) (idx sub m : Nat) : (s.clrReg idx sub m).cmt = s.cmt := rfl
@[simp] theorem State.clrReg_paths (s : State) (idx sub m : Nat) : (s.clrReg idx sub m).paths = s.paths := rfl
@[simp] theorem State.clrReg_can (s : State) (idx sub m : Nat) : (s.clrReg idx sub m).can = s.can := rfl
@[simp] theorem State.clrReg_tw (s : State) (idx sub m : Nat) : (s.clrReg idx sub m).tw = s.tw := rfl
@[simp] theorem State.clrReg_tb (s : State) (idx sub m : Nat) : (s.clrReg idx sub m).tb = s.tb := rfl
@[simp] theorem State.clrReg_wd (s : State) (idx sub m : Nat) : (s.clrReg idx sub m).wd = s.wd := rfl
@[simp] theorem State.clrReg_irq (s : State) (idx sub m : Nat) : (s.clrReg idx sub m).irq = s.irq := rfl
@[simp] theorem State.clrReg_ks (s : State) (idx sub m : Nat) : (s.clrReg idx sub m).ks = s.ks := rfl
@[simp] theorem State.clrReg_adc (s : State) (idx sub m : Nat) : (s.clrReg idx sub m).adc = s.adc := rfl
@[simp] theorem State.clrReg_mirror (s : State) (idx sub m : Nat) : (s.clrReg idx sub m).mirror = s.mirror := rfl
@[simp] theorem State.clrReg_tap (s : State) (idx sub m : Nat) : (s.clrReg idx sub m).tap = s.tap := rfl
@[simp] theorem State.clrReg_herd (s : State) (idx sub m : Nat) : (s.clrReg idx sub m).herd = s.herd := rfl
@[simp] theorem State.clrReg_sent (s : State) (idx sub m : Nat) : (s.clrReg idx sub m).sent = s.sent := rfl
@[simp] theorem State.clrReg_freeCtr (s : State) (idx sub m : Nat) : (s.clrReg idx sub m).freeCtr = s.freeCtr := rfl
@[simp] theorem State.clrReg_pending (s : State) (idx sub m : Nat) : (s.clrReg idx sub m).pending = s.pending := rfl

/-! ## State.hwSet -/

@[simp] theorem State.hwSet_variant (s : State) (idx sub m : Nat) : (s.hwSet idx sub m).variant = s.variant := rfl
@[simp] theorem State.hwSet_pwr (s : State) (idx sub m : Nat) : (s.hwSet idx sub m).pwr = s.pwr := rfl
@[simp] theorem State.hwSet_md (s : State) (idx sub m : Nat) : (s.hwSet idx sub m).md = s.md := rfl
@[simp] theorem State.hwSet_latch (s : State) (idx sub m : Nat) : (s.hwSet idx sub m).latch = s.latch := rfl
@[simp] theorem State.hwSet_pins (s : State) (idx sub m : Nat) : (s.hwSet idx sub m).pins = s.pins := rfl
@[simp] theorem State.hwSet_shadow (s : State) (idx sub m : Nat) : (s.hwSet idx sub m).shadow = s.shadow := rfl
@[simp] theorem State.hwSet_active (s : State) (idx sub m : Nat) : (s.hwSet idx sub m).active = s.active := rfl
@[simp] theorem State.hwSet_ports (s : State) (idx sub m : Nat) : (s.hwSet idx sub m).ports = s.ports := rfl
@[simp] theorem State.hwSet_rails (s : State) (idx sub m : Nat) : (s.hwSet idx sub m).rails = s.rails := rfl
@[simp] theorem State.hwSet_engines (s : State) (idx sub m : Nat) : (s.hwSet idx sub m).engines = s.engines := rfl
@[simp] theorem State.hwSet_sc (s : State) (idx sub m : Nat) : (s.hwSet idx sub m).sc = s.sc := rfl
@[simp] theorem State.hwSet_vc (s : State) (idx sub m : Nat) : (s.hwSet idx sub m).vc = s.vc := rfl
@[simp] theorem State.hwSet_milk (s : State) (idx sub m : Nat) : (s.hwSet idx sub m).milk = s.milk := rfl
@[simp] theorem State.hwSet_ledger (s : State) (idx sub m : Nat) : (s.hwSet idx sub m).ledger = s.ledger := rfl
@[simp] theorem State.hwSet_sqe (s : State) (idx sub m : Nat) : (s.hwSet idx sub m).sqe = s.sqe := rfl
@[simp] theorem State.hwSet_chg (s : State) (idx sub m : Nat) : (s.hwSet idx sub m).chg = s.chg := rfl
@[simp] theorem State.hwSet_thm (s : State) (idx sub m : Nat) : (s.hwSet idx sub m).thm = s.thm := rfl
@[simp] theorem State.hwSet_flt (s : State) (idx sub m : Nat) : (s.hwSet idx sub m).flt = s.flt := rfl
@[simp] theorem State.hwSet_aon (s : State) (idx sub m : Nat) : (s.hwSet idx sub m).aon = s.aon := rfl
@[simp] theorem State.hwSet_seq (s : State) (idx sub m : Nat) : (s.hwSet idx sub m).seq = s.seq := rfl
@[simp] theorem State.hwSet_cmt (s : State) (idx sub m : Nat) : (s.hwSet idx sub m).cmt = s.cmt := rfl
@[simp] theorem State.hwSet_paths (s : State) (idx sub m : Nat) : (s.hwSet idx sub m).paths = s.paths := rfl
@[simp] theorem State.hwSet_can (s : State) (idx sub m : Nat) : (s.hwSet idx sub m).can = s.can := rfl
@[simp] theorem State.hwSet_tw (s : State) (idx sub m : Nat) : (s.hwSet idx sub m).tw = s.tw := rfl
@[simp] theorem State.hwSet_wd (s : State) (idx sub m : Nat) : (s.hwSet idx sub m).wd = s.wd := rfl
@[simp] theorem State.hwSet_irq (s : State) (idx sub m : Nat) : (s.hwSet idx sub m).irq = s.irq := rfl
@[simp] theorem State.hwSet_ks (s : State) (idx sub m : Nat) : (s.hwSet idx sub m).ks = s.ks := rfl
@[simp] theorem State.hwSet_adc (s : State) (idx sub m : Nat) : (s.hwSet idx sub m).adc = s.adc := rfl
@[simp] theorem State.hwSet_mirror (s : State) (idx sub m : Nat) : (s.hwSet idx sub m).mirror = s.mirror := rfl
@[simp] theorem State.hwSet_tap (s : State) (idx sub m : Nat) : (s.hwSet idx sub m).tap = s.tap := rfl
@[simp] theorem State.hwSet_herd (s : State) (idx sub m : Nat) : (s.hwSet idx sub m).herd = s.herd := rfl
@[simp] theorem State.hwSet_sent (s : State) (idx sub m : Nat) : (s.hwSet idx sub m).sent = s.sent := rfl
@[simp] theorem State.hwSet_freeCtr (s : State) (idx sub m : Nat) : (s.hwSet idx sub m).freeCtr = s.freeCtr := rfl
@[simp] theorem State.hwSet_pending (s : State) (idx sub m : Nat) : (s.hwSet idx sub m).pending = s.pending := rfl

/-! ## State.hostClr -/

@[simp] theorem State.hostClr_variant (s : State) (idx sub m : Nat) : (s.hostClr idx sub m).variant = s.variant := rfl
@[simp] theorem State.hostClr_pwr (s : State) (idx sub m : Nat) : (s.hostClr idx sub m).pwr = s.pwr := rfl
@[simp] theorem State.hostClr_md (s : State) (idx sub m : Nat) : (s.hostClr idx sub m).md = s.md := rfl
@[simp] theorem State.hostClr_latch (s : State) (idx sub m : Nat) : (s.hostClr idx sub m).latch = s.latch := rfl
@[simp] theorem State.hostClr_pins (s : State) (idx sub m : Nat) : (s.hostClr idx sub m).pins = s.pins := rfl
@[simp] theorem State.hostClr_shadow (s : State) (idx sub m : Nat) : (s.hostClr idx sub m).shadow = s.shadow := rfl
@[simp] theorem State.hostClr_active (s : State) (idx sub m : Nat) : (s.hostClr idx sub m).active = s.active := rfl
@[simp] theorem State.hostClr_ports (s : State) (idx sub m : Nat) : (s.hostClr idx sub m).ports = s.ports := rfl
@[simp] theorem State.hostClr_rails (s : State) (idx sub m : Nat) : (s.hostClr idx sub m).rails = s.rails := rfl
@[simp] theorem State.hostClr_engines (s : State) (idx sub m : Nat) : (s.hostClr idx sub m).engines = s.engines := rfl
@[simp] theorem State.hostClr_sc (s : State) (idx sub m : Nat) : (s.hostClr idx sub m).sc = s.sc := rfl
@[simp] theorem State.hostClr_vc (s : State) (idx sub m : Nat) : (s.hostClr idx sub m).vc = s.vc := rfl
@[simp] theorem State.hostClr_milk (s : State) (idx sub m : Nat) : (s.hostClr idx sub m).milk = s.milk := rfl
@[simp] theorem State.hostClr_ledger (s : State) (idx sub m : Nat) : (s.hostClr idx sub m).ledger = s.ledger := rfl
@[simp] theorem State.hostClr_sqe (s : State) (idx sub m : Nat) : (s.hostClr idx sub m).sqe = s.sqe := rfl
@[simp] theorem State.hostClr_chg (s : State) (idx sub m : Nat) : (s.hostClr idx sub m).chg = s.chg := rfl
@[simp] theorem State.hostClr_thm (s : State) (idx sub m : Nat) : (s.hostClr idx sub m).thm = s.thm := rfl
@[simp] theorem State.hostClr_flt (s : State) (idx sub m : Nat) : (s.hostClr idx sub m).flt = s.flt := rfl
@[simp] theorem State.hostClr_aon (s : State) (idx sub m : Nat) : (s.hostClr idx sub m).aon = s.aon := rfl
@[simp] theorem State.hostClr_seq (s : State) (idx sub m : Nat) : (s.hostClr idx sub m).seq = s.seq := rfl
@[simp] theorem State.hostClr_cmt (s : State) (idx sub m : Nat) : (s.hostClr idx sub m).cmt = s.cmt := rfl
@[simp] theorem State.hostClr_paths (s : State) (idx sub m : Nat) : (s.hostClr idx sub m).paths = s.paths := rfl
@[simp] theorem State.hostClr_can (s : State) (idx sub m : Nat) : (s.hostClr idx sub m).can = s.can := rfl
@[simp] theorem State.hostClr_tw (s : State) (idx sub m : Nat) : (s.hostClr idx sub m).tw = s.tw := rfl
@[simp] theorem State.hostClr_tb (s : State) (idx sub m : Nat) : (s.hostClr idx sub m).tb = s.tb := rfl
@[simp] theorem State.hostClr_wd (s : State) (idx sub m : Nat) : (s.hostClr idx sub m).wd = s.wd := rfl
@[simp] theorem State.hostClr_irq (s : State) (idx sub m : Nat) : (s.hostClr idx sub m).irq = s.irq := rfl
@[simp] theorem State.hostClr_ks (s : State) (idx sub m : Nat) : (s.hostClr idx sub m).ks = s.ks := rfl
@[simp] theorem State.hostClr_adc (s : State) (idx sub m : Nat) : (s.hostClr idx sub m).adc = s.adc := rfl
@[simp] theorem State.hostClr_mirror (s : State) (idx sub m : Nat) : (s.hostClr idx sub m).mirror = s.mirror := rfl
@[simp] theorem State.hostClr_tap (s : State) (idx sub m : Nat) : (s.hostClr idx sub m).tap = s.tap := rfl
@[simp] theorem State.hostClr_herd (s : State) (idx sub m : Nat) : (s.hostClr idx sub m).herd = s.herd := rfl
@[simp] theorem State.hostClr_sent (s : State) (idx sub m : Nat) : (s.hostClr idx sub m).sent = s.sent := rfl
@[simp] theorem State.hostClr_freeCtr (s : State) (idx sub m : Nat) : (s.hostClr idx sub m).freeCtr = s.freeCtr := rfl
@[simp] theorem State.hostClr_pending (s : State) (idx sub m : Nat) : (s.hostClr idx sub m).pending = s.pending := rfl

/-! ## State.modPort -/

@[simp] theorem State.modPort_variant (s : State) (n : Fin 32) (f : Port → Port) : (s.modPort n f).variant = s.variant := rfl
@[simp] theorem State.modPort_pwr (s : State) (n : Fin 32) (f : Port → Port) : (s.modPort n f).pwr = s.pwr := rfl
@[simp] theorem State.modPort_md (s : State) (n : Fin 32) (f : Port → Port) : (s.modPort n f).md = s.md := rfl
@[simp] theorem State.modPort_latch (s : State) (n : Fin 32) (f : Port → Port) : (s.modPort n f).latch = s.latch := rfl
@[simp] theorem State.modPort_pins (s : State) (n : Fin 32) (f : Port → Port) : (s.modPort n f).pins = s.pins := rfl
@[simp] theorem State.modPort_regs (s : State) (n : Fin 32) (f : Port → Port) : (s.modPort n f).regs = s.regs := rfl
@[simp] theorem State.modPort_shadow (s : State) (n : Fin 32) (f : Port → Port) : (s.modPort n f).shadow = s.shadow := rfl
@[simp] theorem State.modPort_active (s : State) (n : Fin 32) (f : Port → Port) : (s.modPort n f).active = s.active := rfl
@[simp] theorem State.modPort_rails (s : State) (n : Fin 32) (f : Port → Port) : (s.modPort n f).rails = s.rails := rfl
@[simp] theorem State.modPort_engines (s : State) (n : Fin 32) (f : Port → Port) : (s.modPort n f).engines = s.engines := rfl
@[simp] theorem State.modPort_sc (s : State) (n : Fin 32) (f : Port → Port) : (s.modPort n f).sc = s.sc := rfl
@[simp] theorem State.modPort_vc (s : State) (n : Fin 32) (f : Port → Port) : (s.modPort n f).vc = s.vc := rfl
@[simp] theorem State.modPort_milk (s : State) (n : Fin 32) (f : Port → Port) : (s.modPort n f).milk = s.milk := rfl
@[simp] theorem State.modPort_ledger (s : State) (n : Fin 32) (f : Port → Port) : (s.modPort n f).ledger = s.ledger := rfl
@[simp] theorem State.modPort_sqe (s : State) (n : Fin 32) (f : Port → Port) : (s.modPort n f).sqe = s.sqe := rfl
@[simp] theorem State.modPort_chg (s : State) (n : Fin 32) (f : Port → Port) : (s.modPort n f).chg = s.chg := rfl
@[simp] theorem State.modPort_thm (s : State) (n : Fin 32) (f : Port → Port) : (s.modPort n f).thm = s.thm := rfl
@[simp] theorem State.modPort_flt (s : State) (n : Fin 32) (f : Port → Port) : (s.modPort n f).flt = s.flt := rfl
@[simp] theorem State.modPort_aon (s : State) (n : Fin 32) (f : Port → Port) : (s.modPort n f).aon = s.aon := rfl
@[simp] theorem State.modPort_seq (s : State) (n : Fin 32) (f : Port → Port) : (s.modPort n f).seq = s.seq := rfl
@[simp] theorem State.modPort_cmt (s : State) (n : Fin 32) (f : Port → Port) : (s.modPort n f).cmt = s.cmt := rfl
@[simp] theorem State.modPort_paths (s : State) (n : Fin 32) (f : Port → Port) : (s.modPort n f).paths = s.paths := rfl
@[simp] theorem State.modPort_can (s : State) (n : Fin 32) (f : Port → Port) : (s.modPort n f).can = s.can := rfl
@[simp] theorem State.modPort_tw (s : State) (n : Fin 32) (f : Port → Port) : (s.modPort n f).tw = s.tw := rfl
@[simp] theorem State.modPort_tb (s : State) (n : Fin 32) (f : Port → Port) : (s.modPort n f).tb = s.tb := rfl
@[simp] theorem State.modPort_wd (s : State) (n : Fin 32) (f : Port → Port) : (s.modPort n f).wd = s.wd := rfl
@[simp] theorem State.modPort_irq (s : State) (n : Fin 32) (f : Port → Port) : (s.modPort n f).irq = s.irq := rfl
@[simp] theorem State.modPort_ks (s : State) (n : Fin 32) (f : Port → Port) : (s.modPort n f).ks = s.ks := rfl
@[simp] theorem State.modPort_adc (s : State) (n : Fin 32) (f : Port → Port) : (s.modPort n f).adc = s.adc := rfl
@[simp] theorem State.modPort_mirror (s : State) (n : Fin 32) (f : Port → Port) : (s.modPort n f).mirror = s.mirror := rfl
@[simp] theorem State.modPort_tap (s : State) (n : Fin 32) (f : Port → Port) : (s.modPort n f).tap = s.tap := rfl
@[simp] theorem State.modPort_herd (s : State) (n : Fin 32) (f : Port → Port) : (s.modPort n f).herd = s.herd := rfl
@[simp] theorem State.modPort_sent (s : State) (n : Fin 32) (f : Port → Port) : (s.modPort n f).sent = s.sent := rfl
@[simp] theorem State.modPort_freeCtr (s : State) (n : Fin 32) (f : Port → Port) : (s.modPort n f).freeCtr = s.freeCtr := rfl
@[simp] theorem State.modPort_pending (s : State) (n : Fin 32) (f : Port → Port) : (s.modPort n f).pending = s.pending := rfl

/-! ## State.modRail -/

@[simp] theorem State.modRail_variant (s : State) (r : Fin 16) (f : Rail → Rail) : (s.modRail r f).variant = s.variant := rfl
@[simp] theorem State.modRail_pwr (s : State) (r : Fin 16) (f : Rail → Rail) : (s.modRail r f).pwr = s.pwr := rfl
@[simp] theorem State.modRail_md (s : State) (r : Fin 16) (f : Rail → Rail) : (s.modRail r f).md = s.md := rfl
@[simp] theorem State.modRail_latch (s : State) (r : Fin 16) (f : Rail → Rail) : (s.modRail r f).latch = s.latch := rfl
@[simp] theorem State.modRail_pins (s : State) (r : Fin 16) (f : Rail → Rail) : (s.modRail r f).pins = s.pins := rfl
@[simp] theorem State.modRail_regs (s : State) (r : Fin 16) (f : Rail → Rail) : (s.modRail r f).regs = s.regs := rfl
@[simp] theorem State.modRail_shadow (s : State) (r : Fin 16) (f : Rail → Rail) : (s.modRail r f).shadow = s.shadow := rfl
@[simp] theorem State.modRail_active (s : State) (r : Fin 16) (f : Rail → Rail) : (s.modRail r f).active = s.active := rfl
@[simp] theorem State.modRail_ports (s : State) (r : Fin 16) (f : Rail → Rail) : (s.modRail r f).ports = s.ports := rfl
@[simp] theorem State.modRail_engines (s : State) (r : Fin 16) (f : Rail → Rail) : (s.modRail r f).engines = s.engines := rfl
@[simp] theorem State.modRail_sc (s : State) (r : Fin 16) (f : Rail → Rail) : (s.modRail r f).sc = s.sc := rfl
@[simp] theorem State.modRail_vc (s : State) (r : Fin 16) (f : Rail → Rail) : (s.modRail r f).vc = s.vc := rfl
@[simp] theorem State.modRail_milk (s : State) (r : Fin 16) (f : Rail → Rail) : (s.modRail r f).milk = s.milk := rfl
@[simp] theorem State.modRail_ledger (s : State) (r : Fin 16) (f : Rail → Rail) : (s.modRail r f).ledger = s.ledger := rfl
@[simp] theorem State.modRail_sqe (s : State) (r : Fin 16) (f : Rail → Rail) : (s.modRail r f).sqe = s.sqe := rfl
@[simp] theorem State.modRail_chg (s : State) (r : Fin 16) (f : Rail → Rail) : (s.modRail r f).chg = s.chg := rfl
@[simp] theorem State.modRail_thm (s : State) (r : Fin 16) (f : Rail → Rail) : (s.modRail r f).thm = s.thm := rfl
@[simp] theorem State.modRail_flt (s : State) (r : Fin 16) (f : Rail → Rail) : (s.modRail r f).flt = s.flt := rfl
@[simp] theorem State.modRail_aon (s : State) (r : Fin 16) (f : Rail → Rail) : (s.modRail r f).aon = s.aon := rfl
@[simp] theorem State.modRail_seq (s : State) (r : Fin 16) (f : Rail → Rail) : (s.modRail r f).seq = s.seq := rfl
@[simp] theorem State.modRail_cmt (s : State) (r : Fin 16) (f : Rail → Rail) : (s.modRail r f).cmt = s.cmt := rfl
@[simp] theorem State.modRail_paths (s : State) (r : Fin 16) (f : Rail → Rail) : (s.modRail r f).paths = s.paths := rfl
@[simp] theorem State.modRail_can (s : State) (r : Fin 16) (f : Rail → Rail) : (s.modRail r f).can = s.can := rfl
@[simp] theorem State.modRail_tw (s : State) (r : Fin 16) (f : Rail → Rail) : (s.modRail r f).tw = s.tw := rfl
@[simp] theorem State.modRail_tb (s : State) (r : Fin 16) (f : Rail → Rail) : (s.modRail r f).tb = s.tb := rfl
@[simp] theorem State.modRail_wd (s : State) (r : Fin 16) (f : Rail → Rail) : (s.modRail r f).wd = s.wd := rfl
@[simp] theorem State.modRail_irq (s : State) (r : Fin 16) (f : Rail → Rail) : (s.modRail r f).irq = s.irq := rfl
@[simp] theorem State.modRail_ks (s : State) (r : Fin 16) (f : Rail → Rail) : (s.modRail r f).ks = s.ks := rfl
@[simp] theorem State.modRail_adc (s : State) (r : Fin 16) (f : Rail → Rail) : (s.modRail r f).adc = s.adc := rfl
@[simp] theorem State.modRail_mirror (s : State) (r : Fin 16) (f : Rail → Rail) : (s.modRail r f).mirror = s.mirror := rfl
@[simp] theorem State.modRail_tap (s : State) (r : Fin 16) (f : Rail → Rail) : (s.modRail r f).tap = s.tap := rfl
@[simp] theorem State.modRail_herd (s : State) (r : Fin 16) (f : Rail → Rail) : (s.modRail r f).herd = s.herd := rfl
@[simp] theorem State.modRail_sent (s : State) (r : Fin 16) (f : Rail → Rail) : (s.modRail r f).sent = s.sent := rfl
@[simp] theorem State.modRail_freeCtr (s : State) (r : Fin 16) (f : Rail → Rail) : (s.modRail r f).freeCtr = s.freeCtr := rfl
@[simp] theorem State.modRail_pending (s : State) (r : Fin 16) (f : Rail → Rail) : (s.modRail r f).pending = s.pending := rfl

/-! ## State.modEng -/

@[simp] theorem State.modEng_variant (s : State) (e : Fin 9) (f : Engine → Engine) : (s.modEng e f).variant = s.variant := rfl
@[simp] theorem State.modEng_pwr (s : State) (e : Fin 9) (f : Engine → Engine) : (s.modEng e f).pwr = s.pwr := rfl
@[simp] theorem State.modEng_md (s : State) (e : Fin 9) (f : Engine → Engine) : (s.modEng e f).md = s.md := rfl
@[simp] theorem State.modEng_latch (s : State) (e : Fin 9) (f : Engine → Engine) : (s.modEng e f).latch = s.latch := rfl
@[simp] theorem State.modEng_pins (s : State) (e : Fin 9) (f : Engine → Engine) : (s.modEng e f).pins = s.pins := rfl
@[simp] theorem State.modEng_regs (s : State) (e : Fin 9) (f : Engine → Engine) : (s.modEng e f).regs = s.regs := rfl
@[simp] theorem State.modEng_shadow (s : State) (e : Fin 9) (f : Engine → Engine) : (s.modEng e f).shadow = s.shadow := rfl
@[simp] theorem State.modEng_active (s : State) (e : Fin 9) (f : Engine → Engine) : (s.modEng e f).active = s.active := rfl
@[simp] theorem State.modEng_ports (s : State) (e : Fin 9) (f : Engine → Engine) : (s.modEng e f).ports = s.ports := rfl
@[simp] theorem State.modEng_rails (s : State) (e : Fin 9) (f : Engine → Engine) : (s.modEng e f).rails = s.rails := rfl
@[simp] theorem State.modEng_sc (s : State) (e : Fin 9) (f : Engine → Engine) : (s.modEng e f).sc = s.sc := rfl
@[simp] theorem State.modEng_vc (s : State) (e : Fin 9) (f : Engine → Engine) : (s.modEng e f).vc = s.vc := rfl
@[simp] theorem State.modEng_milk (s : State) (e : Fin 9) (f : Engine → Engine) : (s.modEng e f).milk = s.milk := rfl
@[simp] theorem State.modEng_ledger (s : State) (e : Fin 9) (f : Engine → Engine) : (s.modEng e f).ledger = s.ledger := rfl
@[simp] theorem State.modEng_sqe (s : State) (e : Fin 9) (f : Engine → Engine) : (s.modEng e f).sqe = s.sqe := rfl
@[simp] theorem State.modEng_chg (s : State) (e : Fin 9) (f : Engine → Engine) : (s.modEng e f).chg = s.chg := rfl
@[simp] theorem State.modEng_thm (s : State) (e : Fin 9) (f : Engine → Engine) : (s.modEng e f).thm = s.thm := rfl
@[simp] theorem State.modEng_flt (s : State) (e : Fin 9) (f : Engine → Engine) : (s.modEng e f).flt = s.flt := rfl
@[simp] theorem State.modEng_aon (s : State) (e : Fin 9) (f : Engine → Engine) : (s.modEng e f).aon = s.aon := rfl
@[simp] theorem State.modEng_seq (s : State) (e : Fin 9) (f : Engine → Engine) : (s.modEng e f).seq = s.seq := rfl
@[simp] theorem State.modEng_cmt (s : State) (e : Fin 9) (f : Engine → Engine) : (s.modEng e f).cmt = s.cmt := rfl
@[simp] theorem State.modEng_paths (s : State) (e : Fin 9) (f : Engine → Engine) : (s.modEng e f).paths = s.paths := rfl
@[simp] theorem State.modEng_can (s : State) (e : Fin 9) (f : Engine → Engine) : (s.modEng e f).can = s.can := rfl
@[simp] theorem State.modEng_tw (s : State) (e : Fin 9) (f : Engine → Engine) : (s.modEng e f).tw = s.tw := rfl
@[simp] theorem State.modEng_tb (s : State) (e : Fin 9) (f : Engine → Engine) : (s.modEng e f).tb = s.tb := rfl
@[simp] theorem State.modEng_wd (s : State) (e : Fin 9) (f : Engine → Engine) : (s.modEng e f).wd = s.wd := rfl
@[simp] theorem State.modEng_irq (s : State) (e : Fin 9) (f : Engine → Engine) : (s.modEng e f).irq = s.irq := rfl
@[simp] theorem State.modEng_ks (s : State) (e : Fin 9) (f : Engine → Engine) : (s.modEng e f).ks = s.ks := rfl
@[simp] theorem State.modEng_adc (s : State) (e : Fin 9) (f : Engine → Engine) : (s.modEng e f).adc = s.adc := rfl
@[simp] theorem State.modEng_mirror (s : State) (e : Fin 9) (f : Engine → Engine) : (s.modEng e f).mirror = s.mirror := rfl
@[simp] theorem State.modEng_tap (s : State) (e : Fin 9) (f : Engine → Engine) : (s.modEng e f).tap = s.tap := rfl
@[simp] theorem State.modEng_herd (s : State) (e : Fin 9) (f : Engine → Engine) : (s.modEng e f).herd = s.herd := rfl
@[simp] theorem State.modEng_sent (s : State) (e : Fin 9) (f : Engine → Engine) : (s.modEng e f).sent = s.sent := rfl
@[simp] theorem State.modEng_freeCtr (s : State) (e : Fin 9) (f : Engine → Engine) : (s.modEng e f).freeCtr = s.freeCtr := rfl
@[simp] theorem State.modEng_pending (s : State) (e : Fin 9) (f : Engine → Engine) : (s.modEng e f).pending = s.pending := rfl

/-! ## State.modSc -/

@[simp] theorem State.modSc_variant (s : State) (n : Fin 33) (f : Conv → Conv) : (s.modSc n f).variant = s.variant := rfl
@[simp] theorem State.modSc_pwr (s : State) (n : Fin 33) (f : Conv → Conv) : (s.modSc n f).pwr = s.pwr := rfl
@[simp] theorem State.modSc_md (s : State) (n : Fin 33) (f : Conv → Conv) : (s.modSc n f).md = s.md := rfl
@[simp] theorem State.modSc_latch (s : State) (n : Fin 33) (f : Conv → Conv) : (s.modSc n f).latch = s.latch := rfl
@[simp] theorem State.modSc_pins (s : State) (n : Fin 33) (f : Conv → Conv) : (s.modSc n f).pins = s.pins := rfl
@[simp] theorem State.modSc_regs (s : State) (n : Fin 33) (f : Conv → Conv) : (s.modSc n f).regs = s.regs := rfl
@[simp] theorem State.modSc_shadow (s : State) (n : Fin 33) (f : Conv → Conv) : (s.modSc n f).shadow = s.shadow := rfl
@[simp] theorem State.modSc_active (s : State) (n : Fin 33) (f : Conv → Conv) : (s.modSc n f).active = s.active := rfl
@[simp] theorem State.modSc_ports (s : State) (n : Fin 33) (f : Conv → Conv) : (s.modSc n f).ports = s.ports := rfl
@[simp] theorem State.modSc_rails (s : State) (n : Fin 33) (f : Conv → Conv) : (s.modSc n f).rails = s.rails := rfl
@[simp] theorem State.modSc_engines (s : State) (n : Fin 33) (f : Conv → Conv) : (s.modSc n f).engines = s.engines := rfl
@[simp] theorem State.modSc_vc (s : State) (n : Fin 33) (f : Conv → Conv) : (s.modSc n f).vc = s.vc := rfl
@[simp] theorem State.modSc_milk (s : State) (n : Fin 33) (f : Conv → Conv) : (s.modSc n f).milk = s.milk := rfl
@[simp] theorem State.modSc_ledger (s : State) (n : Fin 33) (f : Conv → Conv) : (s.modSc n f).ledger = s.ledger := rfl
@[simp] theorem State.modSc_sqe (s : State) (n : Fin 33) (f : Conv → Conv) : (s.modSc n f).sqe = s.sqe := rfl
@[simp] theorem State.modSc_chg (s : State) (n : Fin 33) (f : Conv → Conv) : (s.modSc n f).chg = s.chg := rfl
@[simp] theorem State.modSc_thm (s : State) (n : Fin 33) (f : Conv → Conv) : (s.modSc n f).thm = s.thm := rfl
@[simp] theorem State.modSc_flt (s : State) (n : Fin 33) (f : Conv → Conv) : (s.modSc n f).flt = s.flt := rfl
@[simp] theorem State.modSc_aon (s : State) (n : Fin 33) (f : Conv → Conv) : (s.modSc n f).aon = s.aon := rfl
@[simp] theorem State.modSc_seq (s : State) (n : Fin 33) (f : Conv → Conv) : (s.modSc n f).seq = s.seq := rfl
@[simp] theorem State.modSc_cmt (s : State) (n : Fin 33) (f : Conv → Conv) : (s.modSc n f).cmt = s.cmt := rfl
@[simp] theorem State.modSc_paths (s : State) (n : Fin 33) (f : Conv → Conv) : (s.modSc n f).paths = s.paths := rfl
@[simp] theorem State.modSc_can (s : State) (n : Fin 33) (f : Conv → Conv) : (s.modSc n f).can = s.can := rfl
@[simp] theorem State.modSc_tw (s : State) (n : Fin 33) (f : Conv → Conv) : (s.modSc n f).tw = s.tw := rfl
@[simp] theorem State.modSc_tb (s : State) (n : Fin 33) (f : Conv → Conv) : (s.modSc n f).tb = s.tb := rfl
@[simp] theorem State.modSc_wd (s : State) (n : Fin 33) (f : Conv → Conv) : (s.modSc n f).wd = s.wd := rfl
@[simp] theorem State.modSc_irq (s : State) (n : Fin 33) (f : Conv → Conv) : (s.modSc n f).irq = s.irq := rfl
@[simp] theorem State.modSc_ks (s : State) (n : Fin 33) (f : Conv → Conv) : (s.modSc n f).ks = s.ks := rfl
@[simp] theorem State.modSc_adc (s : State) (n : Fin 33) (f : Conv → Conv) : (s.modSc n f).adc = s.adc := rfl
@[simp] theorem State.modSc_mirror (s : State) (n : Fin 33) (f : Conv → Conv) : (s.modSc n f).mirror = s.mirror := rfl
@[simp] theorem State.modSc_tap (s : State) (n : Fin 33) (f : Conv → Conv) : (s.modSc n f).tap = s.tap := rfl
@[simp] theorem State.modSc_herd (s : State) (n : Fin 33) (f : Conv → Conv) : (s.modSc n f).herd = s.herd := rfl
@[simp] theorem State.modSc_sent (s : State) (n : Fin 33) (f : Conv → Conv) : (s.modSc n f).sent = s.sent := rfl
@[simp] theorem State.modSc_freeCtr (s : State) (n : Fin 33) (f : Conv → Conv) : (s.modSc n f).freeCtr = s.freeCtr := rfl
@[simp] theorem State.modSc_pending (s : State) (n : Fin 33) (f : Conv → Conv) : (s.modSc n f).pending = s.pending := rfl

/-! ## State.modVc -/

@[simp] theorem State.modVc_variant (s : State) (k : Fin 16) (f : Conv → Conv) : (s.modVc k f).variant = s.variant := rfl
@[simp] theorem State.modVc_pwr (s : State) (k : Fin 16) (f : Conv → Conv) : (s.modVc k f).pwr = s.pwr := rfl
@[simp] theorem State.modVc_md (s : State) (k : Fin 16) (f : Conv → Conv) : (s.modVc k f).md = s.md := rfl
@[simp] theorem State.modVc_latch (s : State) (k : Fin 16) (f : Conv → Conv) : (s.modVc k f).latch = s.latch := rfl
@[simp] theorem State.modVc_pins (s : State) (k : Fin 16) (f : Conv → Conv) : (s.modVc k f).pins = s.pins := rfl
@[simp] theorem State.modVc_regs (s : State) (k : Fin 16) (f : Conv → Conv) : (s.modVc k f).regs = s.regs := rfl
@[simp] theorem State.modVc_shadow (s : State) (k : Fin 16) (f : Conv → Conv) : (s.modVc k f).shadow = s.shadow := rfl
@[simp] theorem State.modVc_active (s : State) (k : Fin 16) (f : Conv → Conv) : (s.modVc k f).active = s.active := rfl
@[simp] theorem State.modVc_ports (s : State) (k : Fin 16) (f : Conv → Conv) : (s.modVc k f).ports = s.ports := rfl
@[simp] theorem State.modVc_rails (s : State) (k : Fin 16) (f : Conv → Conv) : (s.modVc k f).rails = s.rails := rfl
@[simp] theorem State.modVc_engines (s : State) (k : Fin 16) (f : Conv → Conv) : (s.modVc k f).engines = s.engines := rfl
@[simp] theorem State.modVc_sc (s : State) (k : Fin 16) (f : Conv → Conv) : (s.modVc k f).sc = s.sc := rfl
@[simp] theorem State.modVc_milk (s : State) (k : Fin 16) (f : Conv → Conv) : (s.modVc k f).milk = s.milk := rfl
@[simp] theorem State.modVc_ledger (s : State) (k : Fin 16) (f : Conv → Conv) : (s.modVc k f).ledger = s.ledger := rfl
@[simp] theorem State.modVc_sqe (s : State) (k : Fin 16) (f : Conv → Conv) : (s.modVc k f).sqe = s.sqe := rfl
@[simp] theorem State.modVc_chg (s : State) (k : Fin 16) (f : Conv → Conv) : (s.modVc k f).chg = s.chg := rfl
@[simp] theorem State.modVc_thm (s : State) (k : Fin 16) (f : Conv → Conv) : (s.modVc k f).thm = s.thm := rfl
@[simp] theorem State.modVc_flt (s : State) (k : Fin 16) (f : Conv → Conv) : (s.modVc k f).flt = s.flt := rfl
@[simp] theorem State.modVc_aon (s : State) (k : Fin 16) (f : Conv → Conv) : (s.modVc k f).aon = s.aon := rfl
@[simp] theorem State.modVc_seq (s : State) (k : Fin 16) (f : Conv → Conv) : (s.modVc k f).seq = s.seq := rfl
@[simp] theorem State.modVc_cmt (s : State) (k : Fin 16) (f : Conv → Conv) : (s.modVc k f).cmt = s.cmt := rfl
@[simp] theorem State.modVc_paths (s : State) (k : Fin 16) (f : Conv → Conv) : (s.modVc k f).paths = s.paths := rfl
@[simp] theorem State.modVc_can (s : State) (k : Fin 16) (f : Conv → Conv) : (s.modVc k f).can = s.can := rfl
@[simp] theorem State.modVc_tw (s : State) (k : Fin 16) (f : Conv → Conv) : (s.modVc k f).tw = s.tw := rfl
@[simp] theorem State.modVc_tb (s : State) (k : Fin 16) (f : Conv → Conv) : (s.modVc k f).tb = s.tb := rfl
@[simp] theorem State.modVc_wd (s : State) (k : Fin 16) (f : Conv → Conv) : (s.modVc k f).wd = s.wd := rfl
@[simp] theorem State.modVc_irq (s : State) (k : Fin 16) (f : Conv → Conv) : (s.modVc k f).irq = s.irq := rfl
@[simp] theorem State.modVc_ks (s : State) (k : Fin 16) (f : Conv → Conv) : (s.modVc k f).ks = s.ks := rfl
@[simp] theorem State.modVc_adc (s : State) (k : Fin 16) (f : Conv → Conv) : (s.modVc k f).adc = s.adc := rfl
@[simp] theorem State.modVc_mirror (s : State) (k : Fin 16) (f : Conv → Conv) : (s.modVc k f).mirror = s.mirror := rfl
@[simp] theorem State.modVc_tap (s : State) (k : Fin 16) (f : Conv → Conv) : (s.modVc k f).tap = s.tap := rfl
@[simp] theorem State.modVc_herd (s : State) (k : Fin 16) (f : Conv → Conv) : (s.modVc k f).herd = s.herd := rfl
@[simp] theorem State.modVc_sent (s : State) (k : Fin 16) (f : Conv → Conv) : (s.modVc k f).sent = s.sent := rfl
@[simp] theorem State.modVc_freeCtr (s : State) (k : Fin 16) (f : Conv → Conv) : (s.modVc k f).freeCtr = s.freeCtr := rfl
@[simp] theorem State.modVc_pending (s : State) (k : Fin 16) (f : Conv → Conv) : (s.modVc k f).pending = s.pending := rfl

/-! ## State.modLedger -/

@[simp] theorem State.modLedger_variant (s : State) (n : Fin 32) (f : Ledger → Ledger) : (s.modLedger n f).variant = s.variant := rfl
@[simp] theorem State.modLedger_pwr (s : State) (n : Fin 32) (f : Ledger → Ledger) : (s.modLedger n f).pwr = s.pwr := rfl
@[simp] theorem State.modLedger_md (s : State) (n : Fin 32) (f : Ledger → Ledger) : (s.modLedger n f).md = s.md := rfl
@[simp] theorem State.modLedger_latch (s : State) (n : Fin 32) (f : Ledger → Ledger) : (s.modLedger n f).latch = s.latch := rfl
@[simp] theorem State.modLedger_pins (s : State) (n : Fin 32) (f : Ledger → Ledger) : (s.modLedger n f).pins = s.pins := rfl
@[simp] theorem State.modLedger_regs (s : State) (n : Fin 32) (f : Ledger → Ledger) : (s.modLedger n f).regs = s.regs := rfl
@[simp] theorem State.modLedger_shadow (s : State) (n : Fin 32) (f : Ledger → Ledger) : (s.modLedger n f).shadow = s.shadow := rfl
@[simp] theorem State.modLedger_active (s : State) (n : Fin 32) (f : Ledger → Ledger) : (s.modLedger n f).active = s.active := rfl
@[simp] theorem State.modLedger_ports (s : State) (n : Fin 32) (f : Ledger → Ledger) : (s.modLedger n f).ports = s.ports := rfl
@[simp] theorem State.modLedger_rails (s : State) (n : Fin 32) (f : Ledger → Ledger) : (s.modLedger n f).rails = s.rails := rfl
@[simp] theorem State.modLedger_engines (s : State) (n : Fin 32) (f : Ledger → Ledger) : (s.modLedger n f).engines = s.engines := rfl
@[simp] theorem State.modLedger_sc (s : State) (n : Fin 32) (f : Ledger → Ledger) : (s.modLedger n f).sc = s.sc := rfl
@[simp] theorem State.modLedger_vc (s : State) (n : Fin 32) (f : Ledger → Ledger) : (s.modLedger n f).vc = s.vc := rfl
@[simp] theorem State.modLedger_milk (s : State) (n : Fin 32) (f : Ledger → Ledger) : (s.modLedger n f).milk = s.milk := rfl
@[simp] theorem State.modLedger_sqe (s : State) (n : Fin 32) (f : Ledger → Ledger) : (s.modLedger n f).sqe = s.sqe := rfl
@[simp] theorem State.modLedger_chg (s : State) (n : Fin 32) (f : Ledger → Ledger) : (s.modLedger n f).chg = s.chg := rfl
@[simp] theorem State.modLedger_thm (s : State) (n : Fin 32) (f : Ledger → Ledger) : (s.modLedger n f).thm = s.thm := rfl
@[simp] theorem State.modLedger_flt (s : State) (n : Fin 32) (f : Ledger → Ledger) : (s.modLedger n f).flt = s.flt := rfl
@[simp] theorem State.modLedger_aon (s : State) (n : Fin 32) (f : Ledger → Ledger) : (s.modLedger n f).aon = s.aon := rfl
@[simp] theorem State.modLedger_seq (s : State) (n : Fin 32) (f : Ledger → Ledger) : (s.modLedger n f).seq = s.seq := rfl
@[simp] theorem State.modLedger_cmt (s : State) (n : Fin 32) (f : Ledger → Ledger) : (s.modLedger n f).cmt = s.cmt := rfl
@[simp] theorem State.modLedger_paths (s : State) (n : Fin 32) (f : Ledger → Ledger) : (s.modLedger n f).paths = s.paths := rfl
@[simp] theorem State.modLedger_can (s : State) (n : Fin 32) (f : Ledger → Ledger) : (s.modLedger n f).can = s.can := rfl
@[simp] theorem State.modLedger_tw (s : State) (n : Fin 32) (f : Ledger → Ledger) : (s.modLedger n f).tw = s.tw := rfl
@[simp] theorem State.modLedger_tb (s : State) (n : Fin 32) (f : Ledger → Ledger) : (s.modLedger n f).tb = s.tb := rfl
@[simp] theorem State.modLedger_wd (s : State) (n : Fin 32) (f : Ledger → Ledger) : (s.modLedger n f).wd = s.wd := rfl
@[simp] theorem State.modLedger_irq (s : State) (n : Fin 32) (f : Ledger → Ledger) : (s.modLedger n f).irq = s.irq := rfl
@[simp] theorem State.modLedger_ks (s : State) (n : Fin 32) (f : Ledger → Ledger) : (s.modLedger n f).ks = s.ks := rfl
@[simp] theorem State.modLedger_adc (s : State) (n : Fin 32) (f : Ledger → Ledger) : (s.modLedger n f).adc = s.adc := rfl
@[simp] theorem State.modLedger_mirror (s : State) (n : Fin 32) (f : Ledger → Ledger) : (s.modLedger n f).mirror = s.mirror := rfl
@[simp] theorem State.modLedger_tap (s : State) (n : Fin 32) (f : Ledger → Ledger) : (s.modLedger n f).tap = s.tap := rfl
@[simp] theorem State.modLedger_herd (s : State) (n : Fin 32) (f : Ledger → Ledger) : (s.modLedger n f).herd = s.herd := rfl
@[simp] theorem State.modLedger_sent (s : State) (n : Fin 32) (f : Ledger → Ledger) : (s.modLedger n f).sent = s.sent := rfl
@[simp] theorem State.modLedger_freeCtr (s : State) (n : Fin 32) (f : Ledger → Ledger) : (s.modLedger n f).freeCtr = s.freeCtr := rfl
@[simp] theorem State.modLedger_pending (s : State) (n : Fin 32) (f : Ledger → Ledger) : (s.modLedger n f).pending = s.pending := rfl

/-! ## State.modPath -/

@[simp] theorem State.modPath_variant (s : State) (i : Fin 10) (f : PathState → PathState) : (s.modPath i f).variant = s.variant := rfl
@[simp] theorem State.modPath_pwr (s : State) (i : Fin 10) (f : PathState → PathState) : (s.modPath i f).pwr = s.pwr := rfl
@[simp] theorem State.modPath_md (s : State) (i : Fin 10) (f : PathState → PathState) : (s.modPath i f).md = s.md := rfl
@[simp] theorem State.modPath_latch (s : State) (i : Fin 10) (f : PathState → PathState) : (s.modPath i f).latch = s.latch := rfl
@[simp] theorem State.modPath_pins (s : State) (i : Fin 10) (f : PathState → PathState) : (s.modPath i f).pins = s.pins := rfl
@[simp] theorem State.modPath_regs (s : State) (i : Fin 10) (f : PathState → PathState) : (s.modPath i f).regs = s.regs := rfl
@[simp] theorem State.modPath_shadow (s : State) (i : Fin 10) (f : PathState → PathState) : (s.modPath i f).shadow = s.shadow := rfl
@[simp] theorem State.modPath_active (s : State) (i : Fin 10) (f : PathState → PathState) : (s.modPath i f).active = s.active := rfl
@[simp] theorem State.modPath_ports (s : State) (i : Fin 10) (f : PathState → PathState) : (s.modPath i f).ports = s.ports := rfl
@[simp] theorem State.modPath_rails (s : State) (i : Fin 10) (f : PathState → PathState) : (s.modPath i f).rails = s.rails := rfl
@[simp] theorem State.modPath_engines (s : State) (i : Fin 10) (f : PathState → PathState) : (s.modPath i f).engines = s.engines := rfl
@[simp] theorem State.modPath_sc (s : State) (i : Fin 10) (f : PathState → PathState) : (s.modPath i f).sc = s.sc := rfl
@[simp] theorem State.modPath_vc (s : State) (i : Fin 10) (f : PathState → PathState) : (s.modPath i f).vc = s.vc := rfl
@[simp] theorem State.modPath_milk (s : State) (i : Fin 10) (f : PathState → PathState) : (s.modPath i f).milk = s.milk := rfl
@[simp] theorem State.modPath_ledger (s : State) (i : Fin 10) (f : PathState → PathState) : (s.modPath i f).ledger = s.ledger := rfl
@[simp] theorem State.modPath_sqe (s : State) (i : Fin 10) (f : PathState → PathState) : (s.modPath i f).sqe = s.sqe := rfl
@[simp] theorem State.modPath_chg (s : State) (i : Fin 10) (f : PathState → PathState) : (s.modPath i f).chg = s.chg := rfl
@[simp] theorem State.modPath_thm (s : State) (i : Fin 10) (f : PathState → PathState) : (s.modPath i f).thm = s.thm := rfl
@[simp] theorem State.modPath_flt (s : State) (i : Fin 10) (f : PathState → PathState) : (s.modPath i f).flt = s.flt := rfl
@[simp] theorem State.modPath_aon (s : State) (i : Fin 10) (f : PathState → PathState) : (s.modPath i f).aon = s.aon := rfl
@[simp] theorem State.modPath_seq (s : State) (i : Fin 10) (f : PathState → PathState) : (s.modPath i f).seq = s.seq := rfl
@[simp] theorem State.modPath_cmt (s : State) (i : Fin 10) (f : PathState → PathState) : (s.modPath i f).cmt = s.cmt := rfl
@[simp] theorem State.modPath_can (s : State) (i : Fin 10) (f : PathState → PathState) : (s.modPath i f).can = s.can := rfl
@[simp] theorem State.modPath_tw (s : State) (i : Fin 10) (f : PathState → PathState) : (s.modPath i f).tw = s.tw := rfl
@[simp] theorem State.modPath_tb (s : State) (i : Fin 10) (f : PathState → PathState) : (s.modPath i f).tb = s.tb := rfl
@[simp] theorem State.modPath_wd (s : State) (i : Fin 10) (f : PathState → PathState) : (s.modPath i f).wd = s.wd := rfl
@[simp] theorem State.modPath_irq (s : State) (i : Fin 10) (f : PathState → PathState) : (s.modPath i f).irq = s.irq := rfl
@[simp] theorem State.modPath_ks (s : State) (i : Fin 10) (f : PathState → PathState) : (s.modPath i f).ks = s.ks := rfl
@[simp] theorem State.modPath_adc (s : State) (i : Fin 10) (f : PathState → PathState) : (s.modPath i f).adc = s.adc := rfl
@[simp] theorem State.modPath_mirror (s : State) (i : Fin 10) (f : PathState → PathState) : (s.modPath i f).mirror = s.mirror := rfl
@[simp] theorem State.modPath_tap (s : State) (i : Fin 10) (f : PathState → PathState) : (s.modPath i f).tap = s.tap := rfl
@[simp] theorem State.modPath_herd (s : State) (i : Fin 10) (f : PathState → PathState) : (s.modPath i f).herd = s.herd := rfl
@[simp] theorem State.modPath_sent (s : State) (i : Fin 10) (f : PathState → PathState) : (s.modPath i f).sent = s.sent := rfl
@[simp] theorem State.modPath_freeCtr (s : State) (i : Fin 10) (f : PathState → PathState) : (s.modPath i f).freeCtr = s.freeCtr := rfl
@[simp] theorem State.modPath_pending (s : State) (i : Fin 10) (f : PathState → PathState) : (s.modPath i f).pending = s.pending := rfl

/-! ## State.modLink -/

@[simp] theorem State.modLink_variant (s : State) (i : Fin 2) (f : LinkState → LinkState) : (s.modLink i f).variant = s.variant := rfl
@[simp] theorem State.modLink_pwr (s : State) (i : Fin 2) (f : LinkState → LinkState) : (s.modLink i f).pwr = s.pwr := rfl
@[simp] theorem State.modLink_md (s : State) (i : Fin 2) (f : LinkState → LinkState) : (s.modLink i f).md = s.md := rfl
@[simp] theorem State.modLink_latch (s : State) (i : Fin 2) (f : LinkState → LinkState) : (s.modLink i f).latch = s.latch := rfl
@[simp] theorem State.modLink_pins (s : State) (i : Fin 2) (f : LinkState → LinkState) : (s.modLink i f).pins = s.pins := rfl
@[simp] theorem State.modLink_regs (s : State) (i : Fin 2) (f : LinkState → LinkState) : (s.modLink i f).regs = s.regs := rfl
@[simp] theorem State.modLink_shadow (s : State) (i : Fin 2) (f : LinkState → LinkState) : (s.modLink i f).shadow = s.shadow := rfl
@[simp] theorem State.modLink_active (s : State) (i : Fin 2) (f : LinkState → LinkState) : (s.modLink i f).active = s.active := rfl
@[simp] theorem State.modLink_ports (s : State) (i : Fin 2) (f : LinkState → LinkState) : (s.modLink i f).ports = s.ports := rfl
@[simp] theorem State.modLink_rails (s : State) (i : Fin 2) (f : LinkState → LinkState) : (s.modLink i f).rails = s.rails := rfl
@[simp] theorem State.modLink_engines (s : State) (i : Fin 2) (f : LinkState → LinkState) : (s.modLink i f).engines = s.engines := rfl
@[simp] theorem State.modLink_sc (s : State) (i : Fin 2) (f : LinkState → LinkState) : (s.modLink i f).sc = s.sc := rfl
@[simp] theorem State.modLink_vc (s : State) (i : Fin 2) (f : LinkState → LinkState) : (s.modLink i f).vc = s.vc := rfl
@[simp] theorem State.modLink_milk (s : State) (i : Fin 2) (f : LinkState → LinkState) : (s.modLink i f).milk = s.milk := rfl
@[simp] theorem State.modLink_ledger (s : State) (i : Fin 2) (f : LinkState → LinkState) : (s.modLink i f).ledger = s.ledger := rfl
@[simp] theorem State.modLink_sqe (s : State) (i : Fin 2) (f : LinkState → LinkState) : (s.modLink i f).sqe = s.sqe := rfl
@[simp] theorem State.modLink_chg (s : State) (i : Fin 2) (f : LinkState → LinkState) : (s.modLink i f).chg = s.chg := rfl
@[simp] theorem State.modLink_thm (s : State) (i : Fin 2) (f : LinkState → LinkState) : (s.modLink i f).thm = s.thm := rfl
@[simp] theorem State.modLink_flt (s : State) (i : Fin 2) (f : LinkState → LinkState) : (s.modLink i f).flt = s.flt := rfl
@[simp] theorem State.modLink_aon (s : State) (i : Fin 2) (f : LinkState → LinkState) : (s.modLink i f).aon = s.aon := rfl
@[simp] theorem State.modLink_seq (s : State) (i : Fin 2) (f : LinkState → LinkState) : (s.modLink i f).seq = s.seq := rfl
@[simp] theorem State.modLink_cmt (s : State) (i : Fin 2) (f : LinkState → LinkState) : (s.modLink i f).cmt = s.cmt := rfl
@[simp] theorem State.modLink_paths (s : State) (i : Fin 2) (f : LinkState → LinkState) : (s.modLink i f).paths = s.paths := rfl
@[simp] theorem State.modLink_tw (s : State) (i : Fin 2) (f : LinkState → LinkState) : (s.modLink i f).tw = s.tw := rfl
@[simp] theorem State.modLink_tb (s : State) (i : Fin 2) (f : LinkState → LinkState) : (s.modLink i f).tb = s.tb := rfl
@[simp] theorem State.modLink_wd (s : State) (i : Fin 2) (f : LinkState → LinkState) : (s.modLink i f).wd = s.wd := rfl
@[simp] theorem State.modLink_irq (s : State) (i : Fin 2) (f : LinkState → LinkState) : (s.modLink i f).irq = s.irq := rfl
@[simp] theorem State.modLink_ks (s : State) (i : Fin 2) (f : LinkState → LinkState) : (s.modLink i f).ks = s.ks := rfl
@[simp] theorem State.modLink_adc (s : State) (i : Fin 2) (f : LinkState → LinkState) : (s.modLink i f).adc = s.adc := rfl
@[simp] theorem State.modLink_mirror (s : State) (i : Fin 2) (f : LinkState → LinkState) : (s.modLink i f).mirror = s.mirror := rfl
@[simp] theorem State.modLink_tap (s : State) (i : Fin 2) (f : LinkState → LinkState) : (s.modLink i f).tap = s.tap := rfl
@[simp] theorem State.modLink_herd (s : State) (i : Fin 2) (f : LinkState → LinkState) : (s.modLink i f).herd = s.herd := rfl
@[simp] theorem State.modLink_sent (s : State) (i : Fin 2) (f : LinkState → LinkState) : (s.modLink i f).sent = s.sent := rfl
@[simp] theorem State.modLink_freeCtr (s : State) (i : Fin 2) (f : LinkState → LinkState) : (s.modLink i f).freeCtr = s.freeCtr := rfl
@[simp] theorem State.modLink_pending (s : State) (i : Fin 2) (f : LinkState → LinkState) : (s.modLink i f).pending = s.pending := rfl

/-! ## State.modCtx -/

@[simp] theorem State.modCtx_variant (s : State) (c : Fin 8) (f : Context → Context) : (s.modCtx c f).variant = s.variant := rfl
@[simp] theorem State.modCtx_pwr (s : State) (c : Fin 8) (f : Context → Context) : (s.modCtx c f).pwr = s.pwr := rfl
@[simp] theorem State.modCtx_md (s : State) (c : Fin 8) (f : Context → Context) : (s.modCtx c f).md = s.md := rfl
@[simp] theorem State.modCtx_latch (s : State) (c : Fin 8) (f : Context → Context) : (s.modCtx c f).latch = s.latch := rfl
@[simp] theorem State.modCtx_pins (s : State) (c : Fin 8) (f : Context → Context) : (s.modCtx c f).pins = s.pins := rfl
@[simp] theorem State.modCtx_regs (s : State) (c : Fin 8) (f : Context → Context) : (s.modCtx c f).regs = s.regs := rfl
@[simp] theorem State.modCtx_shadow (s : State) (c : Fin 8) (f : Context → Context) : (s.modCtx c f).shadow = s.shadow := rfl
@[simp] theorem State.modCtx_active (s : State) (c : Fin 8) (f : Context → Context) : (s.modCtx c f).active = s.active := rfl
@[simp] theorem State.modCtx_ports (s : State) (c : Fin 8) (f : Context → Context) : (s.modCtx c f).ports = s.ports := rfl
@[simp] theorem State.modCtx_rails (s : State) (c : Fin 8) (f : Context → Context) : (s.modCtx c f).rails = s.rails := rfl
@[simp] theorem State.modCtx_engines (s : State) (c : Fin 8) (f : Context → Context) : (s.modCtx c f).engines = s.engines := rfl
@[simp] theorem State.modCtx_sc (s : State) (c : Fin 8) (f : Context → Context) : (s.modCtx c f).sc = s.sc := rfl
@[simp] theorem State.modCtx_vc (s : State) (c : Fin 8) (f : Context → Context) : (s.modCtx c f).vc = s.vc := rfl
@[simp] theorem State.modCtx_milk (s : State) (c : Fin 8) (f : Context → Context) : (s.modCtx c f).milk = s.milk := rfl
@[simp] theorem State.modCtx_ledger (s : State) (c : Fin 8) (f : Context → Context) : (s.modCtx c f).ledger = s.ledger := rfl
@[simp] theorem State.modCtx_sqe (s : State) (c : Fin 8) (f : Context → Context) : (s.modCtx c f).sqe = s.sqe := rfl
@[simp] theorem State.modCtx_chg (s : State) (c : Fin 8) (f : Context → Context) : (s.modCtx c f).chg = s.chg := rfl
@[simp] theorem State.modCtx_thm (s : State) (c : Fin 8) (f : Context → Context) : (s.modCtx c f).thm = s.thm := rfl
@[simp] theorem State.modCtx_flt (s : State) (c : Fin 8) (f : Context → Context) : (s.modCtx c f).flt = s.flt := rfl
@[simp] theorem State.modCtx_aon (s : State) (c : Fin 8) (f : Context → Context) : (s.modCtx c f).aon = s.aon := rfl
@[simp] theorem State.modCtx_seq (s : State) (c : Fin 8) (f : Context → Context) : (s.modCtx c f).seq = s.seq := rfl
@[simp] theorem State.modCtx_cmt (s : State) (c : Fin 8) (f : Context → Context) : (s.modCtx c f).cmt = s.cmt := rfl
@[simp] theorem State.modCtx_paths (s : State) (c : Fin 8) (f : Context → Context) : (s.modCtx c f).paths = s.paths := rfl
@[simp] theorem State.modCtx_can (s : State) (c : Fin 8) (f : Context → Context) : (s.modCtx c f).can = s.can := rfl
@[simp] theorem State.modCtx_tb (s : State) (c : Fin 8) (f : Context → Context) : (s.modCtx c f).tb = s.tb := rfl
@[simp] theorem State.modCtx_wd (s : State) (c : Fin 8) (f : Context → Context) : (s.modCtx c f).wd = s.wd := rfl
@[simp] theorem State.modCtx_irq (s : State) (c : Fin 8) (f : Context → Context) : (s.modCtx c f).irq = s.irq := rfl
@[simp] theorem State.modCtx_ks (s : State) (c : Fin 8) (f : Context → Context) : (s.modCtx c f).ks = s.ks := rfl
@[simp] theorem State.modCtx_adc (s : State) (c : Fin 8) (f : Context → Context) : (s.modCtx c f).adc = s.adc := rfl
@[simp] theorem State.modCtx_mirror (s : State) (c : Fin 8) (f : Context → Context) : (s.modCtx c f).mirror = s.mirror := rfl
@[simp] theorem State.modCtx_tap (s : State) (c : Fin 8) (f : Context → Context) : (s.modCtx c f).tap = s.tap := rfl
@[simp] theorem State.modCtx_herd (s : State) (c : Fin 8) (f : Context → Context) : (s.modCtx c f).herd = s.herd := rfl
@[simp] theorem State.modCtx_sent (s : State) (c : Fin 8) (f : Context → Context) : (s.modCtx c f).sent = s.sent := rfl
@[simp] theorem State.modCtx_freeCtr (s : State) (c : Fin 8) (f : Context → Context) : (s.modCtx c f).freeCtr = s.freeCtr := rfl
@[simp] theorem State.modCtx_pending (s : State) (c : Fin 8) (f : Context → Context) : (s.modCtx c f).pending = s.pending := rfl

/-! ## State.modGroup -/

@[simp] theorem State.modGroup_variant (s : State) (g : Fin 8) (f : Group → Group) : (s.modGroup g f).variant = s.variant := rfl
@[simp] theorem State.modGroup_pwr (s : State) (g : Fin 8) (f : Group → Group) : (s.modGroup g f).pwr = s.pwr := rfl
@[simp] theorem State.modGroup_md (s : State) (g : Fin 8) (f : Group → Group) : (s.modGroup g f).md = s.md := rfl
@[simp] theorem State.modGroup_latch (s : State) (g : Fin 8) (f : Group → Group) : (s.modGroup g f).latch = s.latch := rfl
@[simp] theorem State.modGroup_pins (s : State) (g : Fin 8) (f : Group → Group) : (s.modGroup g f).pins = s.pins := rfl
@[simp] theorem State.modGroup_regs (s : State) (g : Fin 8) (f : Group → Group) : (s.modGroup g f).regs = s.regs := rfl
@[simp] theorem State.modGroup_shadow (s : State) (g : Fin 8) (f : Group → Group) : (s.modGroup g f).shadow = s.shadow := rfl
@[simp] theorem State.modGroup_active (s : State) (g : Fin 8) (f : Group → Group) : (s.modGroup g f).active = s.active := rfl
@[simp] theorem State.modGroup_ports (s : State) (g : Fin 8) (f : Group → Group) : (s.modGroup g f).ports = s.ports := rfl
@[simp] theorem State.modGroup_rails (s : State) (g : Fin 8) (f : Group → Group) : (s.modGroup g f).rails = s.rails := rfl
@[simp] theorem State.modGroup_engines (s : State) (g : Fin 8) (f : Group → Group) : (s.modGroup g f).engines = s.engines := rfl
@[simp] theorem State.modGroup_sc (s : State) (g : Fin 8) (f : Group → Group) : (s.modGroup g f).sc = s.sc := rfl
@[simp] theorem State.modGroup_vc (s : State) (g : Fin 8) (f : Group → Group) : (s.modGroup g f).vc = s.vc := rfl
@[simp] theorem State.modGroup_milk (s : State) (g : Fin 8) (f : Group → Group) : (s.modGroup g f).milk = s.milk := rfl
@[simp] theorem State.modGroup_ledger (s : State) (g : Fin 8) (f : Group → Group) : (s.modGroup g f).ledger = s.ledger := rfl
@[simp] theorem State.modGroup_sqe (s : State) (g : Fin 8) (f : Group → Group) : (s.modGroup g f).sqe = s.sqe := rfl
@[simp] theorem State.modGroup_chg (s : State) (g : Fin 8) (f : Group → Group) : (s.modGroup g f).chg = s.chg := rfl
@[simp] theorem State.modGroup_thm (s : State) (g : Fin 8) (f : Group → Group) : (s.modGroup g f).thm = s.thm := rfl
@[simp] theorem State.modGroup_flt (s : State) (g : Fin 8) (f : Group → Group) : (s.modGroup g f).flt = s.flt := rfl
@[simp] theorem State.modGroup_aon (s : State) (g : Fin 8) (f : Group → Group) : (s.modGroup g f).aon = s.aon := rfl
@[simp] theorem State.modGroup_seq (s : State) (g : Fin 8) (f : Group → Group) : (s.modGroup g f).seq = s.seq := rfl
@[simp] theorem State.modGroup_paths (s : State) (g : Fin 8) (f : Group → Group) : (s.modGroup g f).paths = s.paths := rfl
@[simp] theorem State.modGroup_can (s : State) (g : Fin 8) (f : Group → Group) : (s.modGroup g f).can = s.can := rfl
@[simp] theorem State.modGroup_tw (s : State) (g : Fin 8) (f : Group → Group) : (s.modGroup g f).tw = s.tw := rfl
@[simp] theorem State.modGroup_tb (s : State) (g : Fin 8) (f : Group → Group) : (s.modGroup g f).tb = s.tb := rfl
@[simp] theorem State.modGroup_wd (s : State) (g : Fin 8) (f : Group → Group) : (s.modGroup g f).wd = s.wd := rfl
@[simp] theorem State.modGroup_irq (s : State) (g : Fin 8) (f : Group → Group) : (s.modGroup g f).irq = s.irq := rfl
@[simp] theorem State.modGroup_ks (s : State) (g : Fin 8) (f : Group → Group) : (s.modGroup g f).ks = s.ks := rfl
@[simp] theorem State.modGroup_adc (s : State) (g : Fin 8) (f : Group → Group) : (s.modGroup g f).adc = s.adc := rfl
@[simp] theorem State.modGroup_mirror (s : State) (g : Fin 8) (f : Group → Group) : (s.modGroup g f).mirror = s.mirror := rfl
@[simp] theorem State.modGroup_tap (s : State) (g : Fin 8) (f : Group → Group) : (s.modGroup g f).tap = s.tap := rfl
@[simp] theorem State.modGroup_herd (s : State) (g : Fin 8) (f : Group → Group) : (s.modGroup g f).herd = s.herd := rfl
@[simp] theorem State.modGroup_sent (s : State) (g : Fin 8) (f : Group → Group) : (s.modGroup g f).sent = s.sent := rfl
@[simp] theorem State.modGroup_freeCtr (s : State) (g : Fin 8) (f : Group → Group) : (s.modGroup g f).freeCtr = s.freeCtr := rfl
@[simp] theorem State.modGroup_pending (s : State) (g : Fin 8) (f : Group → Group) : (s.modGroup g f).pending = s.pending := rfl

/-! ## State.modCmp -/

@[simp] theorem State.modCmp_variant (s : State) (k : Fin 16) (f : Cmp → Cmp) : (s.modCmp k f).variant = s.variant := rfl
@[simp] theorem State.modCmp_pwr (s : State) (k : Fin 16) (f : Cmp → Cmp) : (s.modCmp k f).pwr = s.pwr := rfl
@[simp] theorem State.modCmp_md (s : State) (k : Fin 16) (f : Cmp → Cmp) : (s.modCmp k f).md = s.md := rfl
@[simp] theorem State.modCmp_latch (s : State) (k : Fin 16) (f : Cmp → Cmp) : (s.modCmp k f).latch = s.latch := rfl
@[simp] theorem State.modCmp_pins (s : State) (k : Fin 16) (f : Cmp → Cmp) : (s.modCmp k f).pins = s.pins := rfl
@[simp] theorem State.modCmp_regs (s : State) (k : Fin 16) (f : Cmp → Cmp) : (s.modCmp k f).regs = s.regs := rfl
@[simp] theorem State.modCmp_shadow (s : State) (k : Fin 16) (f : Cmp → Cmp) : (s.modCmp k f).shadow = s.shadow := rfl
@[simp] theorem State.modCmp_active (s : State) (k : Fin 16) (f : Cmp → Cmp) : (s.modCmp k f).active = s.active := rfl
@[simp] theorem State.modCmp_ports (s : State) (k : Fin 16) (f : Cmp → Cmp) : (s.modCmp k f).ports = s.ports := rfl
@[simp] theorem State.modCmp_rails (s : State) (k : Fin 16) (f : Cmp → Cmp) : (s.modCmp k f).rails = s.rails := rfl
@[simp] theorem State.modCmp_engines (s : State) (k : Fin 16) (f : Cmp → Cmp) : (s.modCmp k f).engines = s.engines := rfl
@[simp] theorem State.modCmp_sc (s : State) (k : Fin 16) (f : Cmp → Cmp) : (s.modCmp k f).sc = s.sc := rfl
@[simp] theorem State.modCmp_vc (s : State) (k : Fin 16) (f : Cmp → Cmp) : (s.modCmp k f).vc = s.vc := rfl
@[simp] theorem State.modCmp_milk (s : State) (k : Fin 16) (f : Cmp → Cmp) : (s.modCmp k f).milk = s.milk := rfl
@[simp] theorem State.modCmp_ledger (s : State) (k : Fin 16) (f : Cmp → Cmp) : (s.modCmp k f).ledger = s.ledger := rfl
@[simp] theorem State.modCmp_sqe (s : State) (k : Fin 16) (f : Cmp → Cmp) : (s.modCmp k f).sqe = s.sqe := rfl
@[simp] theorem State.modCmp_chg (s : State) (k : Fin 16) (f : Cmp → Cmp) : (s.modCmp k f).chg = s.chg := rfl
@[simp] theorem State.modCmp_thm (s : State) (k : Fin 16) (f : Cmp → Cmp) : (s.modCmp k f).thm = s.thm := rfl
@[simp] theorem State.modCmp_flt (s : State) (k : Fin 16) (f : Cmp → Cmp) : (s.modCmp k f).flt = s.flt := rfl
@[simp] theorem State.modCmp_aon (s : State) (k : Fin 16) (f : Cmp → Cmp) : (s.modCmp k f).aon = s.aon := rfl
@[simp] theorem State.modCmp_seq (s : State) (k : Fin 16) (f : Cmp → Cmp) : (s.modCmp k f).seq = s.seq := rfl
@[simp] theorem State.modCmp_cmt (s : State) (k : Fin 16) (f : Cmp → Cmp) : (s.modCmp k f).cmt = s.cmt := rfl
@[simp] theorem State.modCmp_paths (s : State) (k : Fin 16) (f : Cmp → Cmp) : (s.modCmp k f).paths = s.paths := rfl
@[simp] theorem State.modCmp_can (s : State) (k : Fin 16) (f : Cmp → Cmp) : (s.modCmp k f).can = s.can := rfl
@[simp] theorem State.modCmp_tw (s : State) (k : Fin 16) (f : Cmp → Cmp) : (s.modCmp k f).tw = s.tw := rfl
@[simp] theorem State.modCmp_wd (s : State) (k : Fin 16) (f : Cmp → Cmp) : (s.modCmp k f).wd = s.wd := rfl
@[simp] theorem State.modCmp_irq (s : State) (k : Fin 16) (f : Cmp → Cmp) : (s.modCmp k f).irq = s.irq := rfl
@[simp] theorem State.modCmp_ks (s : State) (k : Fin 16) (f : Cmp → Cmp) : (s.modCmp k f).ks = s.ks := rfl
@[simp] theorem State.modCmp_adc (s : State) (k : Fin 16) (f : Cmp → Cmp) : (s.modCmp k f).adc = s.adc := rfl
@[simp] theorem State.modCmp_mirror (s : State) (k : Fin 16) (f : Cmp → Cmp) : (s.modCmp k f).mirror = s.mirror := rfl
@[simp] theorem State.modCmp_tap (s : State) (k : Fin 16) (f : Cmp → Cmp) : (s.modCmp k f).tap = s.tap := rfl
@[simp] theorem State.modCmp_herd (s : State) (k : Fin 16) (f : Cmp → Cmp) : (s.modCmp k f).herd = s.herd := rfl
@[simp] theorem State.modCmp_sent (s : State) (k : Fin 16) (f : Cmp → Cmp) : (s.modCmp k f).sent = s.sent := rfl
@[simp] theorem State.modCmp_freeCtr (s : State) (k : Fin 16) (f : Cmp → Cmp) : (s.modCmp k f).freeCtr = s.freeCtr := rfl
@[simp] theorem State.modCmp_pending (s : State) (k : Fin 16) (f : Cmp → Cmp) : (s.modCmp k f).pending = s.pending := rfl

/-! ## State.modCap -/

@[simp] theorem State.modCap_variant (s : State) (k : Fin 8) (f : Cap → Cap) : (s.modCap k f).variant = s.variant := rfl
@[simp] theorem State.modCap_pwr (s : State) (k : Fin 8) (f : Cap → Cap) : (s.modCap k f).pwr = s.pwr := rfl
@[simp] theorem State.modCap_md (s : State) (k : Fin 8) (f : Cap → Cap) : (s.modCap k f).md = s.md := rfl
@[simp] theorem State.modCap_latch (s : State) (k : Fin 8) (f : Cap → Cap) : (s.modCap k f).latch = s.latch := rfl
@[simp] theorem State.modCap_pins (s : State) (k : Fin 8) (f : Cap → Cap) : (s.modCap k f).pins = s.pins := rfl
@[simp] theorem State.modCap_regs (s : State) (k : Fin 8) (f : Cap → Cap) : (s.modCap k f).regs = s.regs := rfl
@[simp] theorem State.modCap_shadow (s : State) (k : Fin 8) (f : Cap → Cap) : (s.modCap k f).shadow = s.shadow := rfl
@[simp] theorem State.modCap_active (s : State) (k : Fin 8) (f : Cap → Cap) : (s.modCap k f).active = s.active := rfl
@[simp] theorem State.modCap_ports (s : State) (k : Fin 8) (f : Cap → Cap) : (s.modCap k f).ports = s.ports := rfl
@[simp] theorem State.modCap_rails (s : State) (k : Fin 8) (f : Cap → Cap) : (s.modCap k f).rails = s.rails := rfl
@[simp] theorem State.modCap_engines (s : State) (k : Fin 8) (f : Cap → Cap) : (s.modCap k f).engines = s.engines := rfl
@[simp] theorem State.modCap_sc (s : State) (k : Fin 8) (f : Cap → Cap) : (s.modCap k f).sc = s.sc := rfl
@[simp] theorem State.modCap_vc (s : State) (k : Fin 8) (f : Cap → Cap) : (s.modCap k f).vc = s.vc := rfl
@[simp] theorem State.modCap_milk (s : State) (k : Fin 8) (f : Cap → Cap) : (s.modCap k f).milk = s.milk := rfl
@[simp] theorem State.modCap_ledger (s : State) (k : Fin 8) (f : Cap → Cap) : (s.modCap k f).ledger = s.ledger := rfl
@[simp] theorem State.modCap_sqe (s : State) (k : Fin 8) (f : Cap → Cap) : (s.modCap k f).sqe = s.sqe := rfl
@[simp] theorem State.modCap_chg (s : State) (k : Fin 8) (f : Cap → Cap) : (s.modCap k f).chg = s.chg := rfl
@[simp] theorem State.modCap_thm (s : State) (k : Fin 8) (f : Cap → Cap) : (s.modCap k f).thm = s.thm := rfl
@[simp] theorem State.modCap_flt (s : State) (k : Fin 8) (f : Cap → Cap) : (s.modCap k f).flt = s.flt := rfl
@[simp] theorem State.modCap_aon (s : State) (k : Fin 8) (f : Cap → Cap) : (s.modCap k f).aon = s.aon := rfl
@[simp] theorem State.modCap_seq (s : State) (k : Fin 8) (f : Cap → Cap) : (s.modCap k f).seq = s.seq := rfl
@[simp] theorem State.modCap_cmt (s : State) (k : Fin 8) (f : Cap → Cap) : (s.modCap k f).cmt = s.cmt := rfl
@[simp] theorem State.modCap_paths (s : State) (k : Fin 8) (f : Cap → Cap) : (s.modCap k f).paths = s.paths := rfl
@[simp] theorem State.modCap_can (s : State) (k : Fin 8) (f : Cap → Cap) : (s.modCap k f).can = s.can := rfl
@[simp] theorem State.modCap_tw (s : State) (k : Fin 8) (f : Cap → Cap) : (s.modCap k f).tw = s.tw := rfl
@[simp] theorem State.modCap_wd (s : State) (k : Fin 8) (f : Cap → Cap) : (s.modCap k f).wd = s.wd := rfl
@[simp] theorem State.modCap_irq (s : State) (k : Fin 8) (f : Cap → Cap) : (s.modCap k f).irq = s.irq := rfl
@[simp] theorem State.modCap_ks (s : State) (k : Fin 8) (f : Cap → Cap) : (s.modCap k f).ks = s.ks := rfl
@[simp] theorem State.modCap_adc (s : State) (k : Fin 8) (f : Cap → Cap) : (s.modCap k f).adc = s.adc := rfl
@[simp] theorem State.modCap_mirror (s : State) (k : Fin 8) (f : Cap → Cap) : (s.modCap k f).mirror = s.mirror := rfl
@[simp] theorem State.modCap_tap (s : State) (k : Fin 8) (f : Cap → Cap) : (s.modCap k f).tap = s.tap := rfl
@[simp] theorem State.modCap_herd (s : State) (k : Fin 8) (f : Cap → Cap) : (s.modCap k f).herd = s.herd := rfl
@[simp] theorem State.modCap_sent (s : State) (k : Fin 8) (f : Cap → Cap) : (s.modCap k f).sent = s.sent := rfl
@[simp] theorem State.modCap_freeCtr (s : State) (k : Fin 8) (f : Cap → Cap) : (s.modCap k f).freeCtr = s.freeCtr := rfl
@[simp] theorem State.modCap_pending (s : State) (k : Fin 8) (f : Cap → Cap) : (s.modCap k f).pending = s.pending := rfl

/-! ## State.modTs -/

@[simp] theorem State.modTs_variant (s : State) (i : Fin 16) (f : Sensor → Sensor) : (s.modTs i f).variant = s.variant := rfl
@[simp] theorem State.modTs_pwr (s : State) (i : Fin 16) (f : Sensor → Sensor) : (s.modTs i f).pwr = s.pwr := rfl
@[simp] theorem State.modTs_md (s : State) (i : Fin 16) (f : Sensor → Sensor) : (s.modTs i f).md = s.md := rfl
@[simp] theorem State.modTs_latch (s : State) (i : Fin 16) (f : Sensor → Sensor) : (s.modTs i f).latch = s.latch := rfl
@[simp] theorem State.modTs_pins (s : State) (i : Fin 16) (f : Sensor → Sensor) : (s.modTs i f).pins = s.pins := rfl
@[simp] theorem State.modTs_regs (s : State) (i : Fin 16) (f : Sensor → Sensor) : (s.modTs i f).regs = s.regs := rfl
@[simp] theorem State.modTs_shadow (s : State) (i : Fin 16) (f : Sensor → Sensor) : (s.modTs i f).shadow = s.shadow := rfl
@[simp] theorem State.modTs_active (s : State) (i : Fin 16) (f : Sensor → Sensor) : (s.modTs i f).active = s.active := rfl
@[simp] theorem State.modTs_ports (s : State) (i : Fin 16) (f : Sensor → Sensor) : (s.modTs i f).ports = s.ports := rfl
@[simp] theorem State.modTs_rails (s : State) (i : Fin 16) (f : Sensor → Sensor) : (s.modTs i f).rails = s.rails := rfl
@[simp] theorem State.modTs_engines (s : State) (i : Fin 16) (f : Sensor → Sensor) : (s.modTs i f).engines = s.engines := rfl
@[simp] theorem State.modTs_sc (s : State) (i : Fin 16) (f : Sensor → Sensor) : (s.modTs i f).sc = s.sc := rfl
@[simp] theorem State.modTs_vc (s : State) (i : Fin 16) (f : Sensor → Sensor) : (s.modTs i f).vc = s.vc := rfl
@[simp] theorem State.modTs_milk (s : State) (i : Fin 16) (f : Sensor → Sensor) : (s.modTs i f).milk = s.milk := rfl
@[simp] theorem State.modTs_ledger (s : State) (i : Fin 16) (f : Sensor → Sensor) : (s.modTs i f).ledger = s.ledger := rfl
@[simp] theorem State.modTs_sqe (s : State) (i : Fin 16) (f : Sensor → Sensor) : (s.modTs i f).sqe = s.sqe := rfl
@[simp] theorem State.modTs_chg (s : State) (i : Fin 16) (f : Sensor → Sensor) : (s.modTs i f).chg = s.chg := rfl
@[simp] theorem State.modTs_flt (s : State) (i : Fin 16) (f : Sensor → Sensor) : (s.modTs i f).flt = s.flt := rfl
@[simp] theorem State.modTs_aon (s : State) (i : Fin 16) (f : Sensor → Sensor) : (s.modTs i f).aon = s.aon := rfl
@[simp] theorem State.modTs_seq (s : State) (i : Fin 16) (f : Sensor → Sensor) : (s.modTs i f).seq = s.seq := rfl
@[simp] theorem State.modTs_cmt (s : State) (i : Fin 16) (f : Sensor → Sensor) : (s.modTs i f).cmt = s.cmt := rfl
@[simp] theorem State.modTs_paths (s : State) (i : Fin 16) (f : Sensor → Sensor) : (s.modTs i f).paths = s.paths := rfl
@[simp] theorem State.modTs_can (s : State) (i : Fin 16) (f : Sensor → Sensor) : (s.modTs i f).can = s.can := rfl
@[simp] theorem State.modTs_tw (s : State) (i : Fin 16) (f : Sensor → Sensor) : (s.modTs i f).tw = s.tw := rfl
@[simp] theorem State.modTs_tb (s : State) (i : Fin 16) (f : Sensor → Sensor) : (s.modTs i f).tb = s.tb := rfl
@[simp] theorem State.modTs_wd (s : State) (i : Fin 16) (f : Sensor → Sensor) : (s.modTs i f).wd = s.wd := rfl
@[simp] theorem State.modTs_irq (s : State) (i : Fin 16) (f : Sensor → Sensor) : (s.modTs i f).irq = s.irq := rfl
@[simp] theorem State.modTs_ks (s : State) (i : Fin 16) (f : Sensor → Sensor) : (s.modTs i f).ks = s.ks := rfl
@[simp] theorem State.modTs_adc (s : State) (i : Fin 16) (f : Sensor → Sensor) : (s.modTs i f).adc = s.adc := rfl
@[simp] theorem State.modTs_mirror (s : State) (i : Fin 16) (f : Sensor → Sensor) : (s.modTs i f).mirror = s.mirror := rfl
@[simp] theorem State.modTs_tap (s : State) (i : Fin 16) (f : Sensor → Sensor) : (s.modTs i f).tap = s.tap := rfl
@[simp] theorem State.modTs_herd (s : State) (i : Fin 16) (f : Sensor → Sensor) : (s.modTs i f).herd = s.herd := rfl
@[simp] theorem State.modTs_sent (s : State) (i : Fin 16) (f : Sensor → Sensor) : (s.modTs i f).sent = s.sent := rfl
@[simp] theorem State.modTs_freeCtr (s : State) (i : Fin 16) (f : Sensor → Sensor) : (s.modTs i f).freeCtr = s.freeCtr := rfl
@[simp] theorem State.modTs_pending (s : State) (i : Fin 16) (f : Sensor → Sensor) : (s.modTs i f).pending = s.pending := rfl

/-! ## State.modDie -/

@[simp] theorem State.modDie_variant (s : State) (d : Fin 4) (f : DieSensor → DieSensor) : (s.modDie d f).variant = s.variant := rfl
@[simp] theorem State.modDie_pwr (s : State) (d : Fin 4) (f : DieSensor → DieSensor) : (s.modDie d f).pwr = s.pwr := rfl
@[simp] theorem State.modDie_md (s : State) (d : Fin 4) (f : DieSensor → DieSensor) : (s.modDie d f).md = s.md := rfl
@[simp] theorem State.modDie_latch (s : State) (d : Fin 4) (f : DieSensor → DieSensor) : (s.modDie d f).latch = s.latch := rfl
@[simp] theorem State.modDie_pins (s : State) (d : Fin 4) (f : DieSensor → DieSensor) : (s.modDie d f).pins = s.pins := rfl
@[simp] theorem State.modDie_regs (s : State) (d : Fin 4) (f : DieSensor → DieSensor) : (s.modDie d f).regs = s.regs := rfl
@[simp] theorem State.modDie_shadow (s : State) (d : Fin 4) (f : DieSensor → DieSensor) : (s.modDie d f).shadow = s.shadow := rfl
@[simp] theorem State.modDie_active (s : State) (d : Fin 4) (f : DieSensor → DieSensor) : (s.modDie d f).active = s.active := rfl
@[simp] theorem State.modDie_ports (s : State) (d : Fin 4) (f : DieSensor → DieSensor) : (s.modDie d f).ports = s.ports := rfl
@[simp] theorem State.modDie_rails (s : State) (d : Fin 4) (f : DieSensor → DieSensor) : (s.modDie d f).rails = s.rails := rfl
@[simp] theorem State.modDie_engines (s : State) (d : Fin 4) (f : DieSensor → DieSensor) : (s.modDie d f).engines = s.engines := rfl
@[simp] theorem State.modDie_sc (s : State) (d : Fin 4) (f : DieSensor → DieSensor) : (s.modDie d f).sc = s.sc := rfl
@[simp] theorem State.modDie_vc (s : State) (d : Fin 4) (f : DieSensor → DieSensor) : (s.modDie d f).vc = s.vc := rfl
@[simp] theorem State.modDie_milk (s : State) (d : Fin 4) (f : DieSensor → DieSensor) : (s.modDie d f).milk = s.milk := rfl
@[simp] theorem State.modDie_ledger (s : State) (d : Fin 4) (f : DieSensor → DieSensor) : (s.modDie d f).ledger = s.ledger := rfl
@[simp] theorem State.modDie_sqe (s : State) (d : Fin 4) (f : DieSensor → DieSensor) : (s.modDie d f).sqe = s.sqe := rfl
@[simp] theorem State.modDie_chg (s : State) (d : Fin 4) (f : DieSensor → DieSensor) : (s.modDie d f).chg = s.chg := rfl
@[simp] theorem State.modDie_flt (s : State) (d : Fin 4) (f : DieSensor → DieSensor) : (s.modDie d f).flt = s.flt := rfl
@[simp] theorem State.modDie_aon (s : State) (d : Fin 4) (f : DieSensor → DieSensor) : (s.modDie d f).aon = s.aon := rfl
@[simp] theorem State.modDie_seq (s : State) (d : Fin 4) (f : DieSensor → DieSensor) : (s.modDie d f).seq = s.seq := rfl
@[simp] theorem State.modDie_cmt (s : State) (d : Fin 4) (f : DieSensor → DieSensor) : (s.modDie d f).cmt = s.cmt := rfl
@[simp] theorem State.modDie_paths (s : State) (d : Fin 4) (f : DieSensor → DieSensor) : (s.modDie d f).paths = s.paths := rfl
@[simp] theorem State.modDie_can (s : State) (d : Fin 4) (f : DieSensor → DieSensor) : (s.modDie d f).can = s.can := rfl
@[simp] theorem State.modDie_tw (s : State) (d : Fin 4) (f : DieSensor → DieSensor) : (s.modDie d f).tw = s.tw := rfl
@[simp] theorem State.modDie_tb (s : State) (d : Fin 4) (f : DieSensor → DieSensor) : (s.modDie d f).tb = s.tb := rfl
@[simp] theorem State.modDie_wd (s : State) (d : Fin 4) (f : DieSensor → DieSensor) : (s.modDie d f).wd = s.wd := rfl
@[simp] theorem State.modDie_irq (s : State) (d : Fin 4) (f : DieSensor → DieSensor) : (s.modDie d f).irq = s.irq := rfl
@[simp] theorem State.modDie_ks (s : State) (d : Fin 4) (f : DieSensor → DieSensor) : (s.modDie d f).ks = s.ks := rfl
@[simp] theorem State.modDie_adc (s : State) (d : Fin 4) (f : DieSensor → DieSensor) : (s.modDie d f).adc = s.adc := rfl
@[simp] theorem State.modDie_mirror (s : State) (d : Fin 4) (f : DieSensor → DieSensor) : (s.modDie d f).mirror = s.mirror := rfl
@[simp] theorem State.modDie_tap (s : State) (d : Fin 4) (f : DieSensor → DieSensor) : (s.modDie d f).tap = s.tap := rfl
@[simp] theorem State.modDie_herd (s : State) (d : Fin 4) (f : DieSensor → DieSensor) : (s.modDie d f).herd = s.herd := rfl
@[simp] theorem State.modDie_sent (s : State) (d : Fin 4) (f : DieSensor → DieSensor) : (s.modDie d f).sent = s.sent := rfl
@[simp] theorem State.modDie_freeCtr (s : State) (d : Fin 4) (f : DieSensor → DieSensor) : (s.modDie d f).freeCtr = s.freeCtr := rfl
@[simp] theorem State.modDie_pending (s : State) (d : Fin 4) (f : DieSensor → DieSensor) : (s.modDie d f).pending = s.pending := rfl

/-! ## The record that an update changes, and the others beside it -/

@[simp] theorem State.modPort_ports_self (s : State) (n : Fin 32) (f : Port → Port) : (s.modPort n f).ports[n] = f s.ports[n] := by
  simp [State.modPort]

theorem State.modPort_ports_ne (s : State) {n m : Fin 32} (f : Port → Port) (h : m ≠ n) : (s.modPort n f).ports[m] = s.ports[m] := by
  have : n.1 ≠ m.1 := fun e => h (Fin.ext e.symm)
  simp [State.modPort, this]

@[simp] theorem State.modRail_rails_self (s : State) (n : Fin 16) (f : Rail → Rail) : (s.modRail n f).rails[n] = f s.rails[n] := by
  simp [State.modRail]

theorem State.modRail_rails_ne (s : State) {n m : Fin 16} (f : Rail → Rail) (h : m ≠ n) : (s.modRail n f).rails[m] = s.rails[m] := by
  have : n.1 ≠ m.1 := fun e => h (Fin.ext e.symm)
  simp [State.modRail, this]

@[simp] theorem State.modEng_engines_self (s : State) (n : Fin 9) (f : Engine → Engine) : (s.modEng n f).engines[n] = f s.engines[n] := by
  simp [State.modEng]

theorem State.modEng_engines_ne (s : State) {n m : Fin 9} (f : Engine → Engine) (h : m ≠ n) : (s.modEng n f).engines[m] = s.engines[m] := by
  have : n.1 ≠ m.1 := fun e => h (Fin.ext e.symm)
  simp [State.modEng, this]

@[simp] theorem State.modSc_sc_self (s : State) (n : Fin 33) (f : Conv → Conv) : (s.modSc n f).sc[n] = f s.sc[n] := by
  simp [State.modSc]

theorem State.modSc_sc_ne (s : State) {n m : Fin 33} (f : Conv → Conv) (h : m ≠ n) : (s.modSc n f).sc[m] = s.sc[m] := by
  have : n.1 ≠ m.1 := fun e => h (Fin.ext e.symm)
  simp [State.modSc, this]

@[simp] theorem State.modVc_vc_self (s : State) (n : Fin 16) (f : Conv → Conv) : (s.modVc n f).vc[n] = f s.vc[n] := by
  simp [State.modVc]

theorem State.modVc_vc_ne (s : State) {n m : Fin 16} (f : Conv → Conv) (h : m ≠ n) : (s.modVc n f).vc[m] = s.vc[m] := by
  have : n.1 ≠ m.1 := fun e => h (Fin.ext e.symm)
  simp [State.modVc, this]

@[simp] theorem State.modLedger_ledger_self (s : State) (n : Fin 32) (f : Ledger → Ledger) : (s.modLedger n f).ledger[n] = f s.ledger[n] := by
  simp [State.modLedger]

theorem State.modLedger_ledger_ne (s : State) {n m : Fin 32} (f : Ledger → Ledger) (h : m ≠ n) : (s.modLedger n f).ledger[m] = s.ledger[m] := by
  have : n.1 ≠ m.1 := fun e => h (Fin.ext e.symm)
  simp [State.modLedger, this]

@[simp] theorem State.modPath_paths_self (s : State) (n : Fin 10) (f : PathState → PathState) : (s.modPath n f).paths[n] = f s.paths[n] := by
  simp [State.modPath]

theorem State.modPath_paths_ne (s : State) {n m : Fin 10} (f : PathState → PathState) (h : m ≠ n) : (s.modPath n f).paths[m] = s.paths[m] := by
  have : n.1 ≠ m.1 := fun e => h (Fin.ext e.symm)
  simp [State.modPath, this]

@[simp] theorem State.modLink_can_links_self (s : State) (n : Fin 2) (f : LinkState → LinkState) : (s.modLink n f).can.links[n] = f s.can.links[n] := by
  simp [State.modLink]

theorem State.modLink_can_links_ne (s : State) {n m : Fin 2} (f : LinkState → LinkState) (h : m ≠ n) : (s.modLink n f).can.links[m] = s.can.links[m] := by
  have : n.1 ≠ m.1 := fun e => h (Fin.ext e.symm)
  simp [State.modLink, this]

@[simp] theorem State.modCtx_tw_ctx_self (s : State) (n : Fin 8) (f : Context → Context) : (s.modCtx n f).tw.ctx[n] = f s.tw.ctx[n] := by
  simp [State.modCtx]

theorem State.modCtx_tw_ctx_ne (s : State) {n m : Fin 8} (f : Context → Context) (h : m ≠ n) : (s.modCtx n f).tw.ctx[m] = s.tw.ctx[m] := by
  have : n.1 ≠ m.1 := fun e => h (Fin.ext e.symm)
  simp [State.modCtx, this]

@[simp] theorem State.modGroup_cmt_groups_self (s : State) (n : Fin 8) (f : Group → Group) : (s.modGroup n f).cmt.groups[n] = f s.cmt.groups[n] := by
  simp [State.modGroup]

theorem State.modGroup_cmt_groups_ne (s : State) {n m : Fin 8} (f : Group → Group) (h : m ≠ n) : (s.modGroup n f).cmt.groups[m] = s.cmt.groups[m] := by
  have : n.1 ≠ m.1 := fun e => h (Fin.ext e.symm)
  simp [State.modGroup, this]

@[simp] theorem State.modCmp_tb_cmp_self (s : State) (n : Fin 16) (f : Cmp → Cmp) : (s.modCmp n f).tb.cmp[n] = f s.tb.cmp[n] := by
  simp [State.modCmp]

theorem State.modCmp_tb_cmp_ne (s : State) {n m : Fin 16} (f : Cmp → Cmp) (h : m ≠ n) : (s.modCmp n f).tb.cmp[m] = s.tb.cmp[m] := by
  have : n.1 ≠ m.1 := fun e => h (Fin.ext e.symm)
  simp [State.modCmp, this]

@[simp] theorem State.modCap_tb_cap_self (s : State) (n : Fin 8) (f : Cap → Cap) : (s.modCap n f).tb.cap[n] = f s.tb.cap[n] := by
  simp [State.modCap]

theorem State.modCap_tb_cap_ne (s : State) {n m : Fin 8} (f : Cap → Cap) (h : m ≠ n) : (s.modCap n f).tb.cap[m] = s.tb.cap[m] := by
  have : n.1 ≠ m.1 := fun e => h (Fin.ext e.symm)
  simp [State.modCap, this]

@[simp] theorem State.modTs_thm_ts_self (s : State) (n : Fin 16) (f : Sensor → Sensor) : (s.modTs n f).thm.ts[n] = f s.thm.ts[n] := by
  simp [State.modTs]

theorem State.modTs_thm_ts_ne (s : State) {n m : Fin 16} (f : Sensor → Sensor) (h : m ≠ n) : (s.modTs n f).thm.ts[m] = s.thm.ts[m] := by
  have : n.1 ≠ m.1 := fun e => h (Fin.ext e.symm)
  simp [State.modTs, this]

@[simp] theorem State.modDie_thm_die_self (s : State) (n : Fin 4) (f : DieSensor → DieSensor) : (s.modDie n f).thm.die[n] = f s.thm.die[n] := by
  simp [State.modDie]

theorem State.modDie_thm_die_ne (s : State) {n m : Fin 4} (f : DieSensor → DieSensor) (h : m ≠ n) : (s.modDie n f).thm.die[m] = s.thm.die[m] := by
  have : n.1 ≠ m.1 := fun e => h (Fin.ext e.symm)
  simp [State.modDie, this]

end Sys2Proof.Machine
end

