-- ==== Sys2Proof/Laws/Ops.lean ====
section
/-! SUPPORT. What the named operations do: sparse stores, the three copies of a register, the keep store's user area. -/

namespace Sys2Proof.Machine
open Sys2Proof

/-! ## Sparse stores -/

section Cells
variable {β : Type}

theorem cellGet_cellErase_self (l : List (Nat × β)) (k : Nat) (d : β) : cellGet (cellErase l k) k d = d := by
  induction l with
  | nil => rfl
  | cons c t ih => by_cases h : c.1 = k <;> simp [cellErase, cellGet, h, ih]

theorem cellGet_cellErase_ne (l : List (Nat × β)) {k j : Nat} (d : β) (h : j ≠ k) :
    cellGet (cellErase l k) j d = cellGet l j d := by
  induction l with
  | nil => rfl
  | cons c t ih =>
    by_cases hk : c.1 = k
    · have : c.1 ≠ j := fun e => h (e ▸ hk)
      simp [cellErase, cellGet, hk, ih, show k ≠ j from Ne.symm h]
    · simp only [cellErase, hk, if_false, cellGet, ih]

theorem cellGet_cellInsert_self (l : List (Nat × β)) (k : Nat) (v d : β) : cellGet (cellInsert l k v) k d = v := by
  induction l with
  | nil => simp [cellInsert, cellGet]
  | cons c t ih =>
    by_cases h1 : k < c.1
    · simp [cellInsert, cellGet, h1]
    · by_cases h2 : k = c.1
      · simp [cellInsert, cellGet, h2]
      · simp [cellInsert, cellGet, h1, h2, Ne.symm h2, ih]

theorem cellGet_cellInsert_ne (l : List (Nat × β)) {k j : Nat} (v d : β) (h : j ≠ k) :
    cellGet (cellInsert l k v) j d = cellGet l j d := by
  induction l with
  | nil => simp [cellInsert, cellGet, Ne.symm h]
  | cons c t ih =>
    by_cases h1 : k < c.1
    · simp [cellInsert, cellGet, h1, Ne.symm h]
    · by_cases h2 : k = c.1
      · subst h2; simp [cellInsert, cellGet, Ne.symm h]
      · simp only [cellInsert, h1, h2, if_false, cellGet, ih]

/-- An erase changes nothing of a store but the entries of its own key. -/
theorem filter_cellErase (l : List (Nat × β)) (k : Nat) (p : Nat → Bool) (h : p k = false) :
    (cellErase l k).filter (fun c => p c.1) = l.filter fun c => p c.1 := by
  induction l with
  | nil => rfl
  | cons c t ih =>
    by_cases hk : c.1 = k
    · simp [cellErase, hk, ih, h]
    · simp [cellErase, hk, ih, List.filter_cons]

theorem filter_cellInsert (l : List (Nat × β)) (k : Nat) (v : β) (p : Nat → Bool) (h : p k = false) :
    (cellInsert l k v).filter (fun c => p c.1) = l.filter fun c => p c.1 := by
  induction l with
  | nil => simp [cellInsert, h]
  | cons c t ih =>
    by_cases h1 : k < c.1
    · simp [cellInsert, h1, h]
    · by_cases h2 : k = c.1
      · have : p c.1 = false := h2 ▸ h
        simp [cellInsert, h2, this]
      · simp [cellInsert, h1, h2, ih, List.filter_cons]

variable [DecidableEq β]

/-- A store reads back what was put. -/
theorem cellGet_cellPut_self (l : List (Nat × β)) (k : Nat) (v d : β) : cellGet (cellPut l k v d) k d = v := by
  by_cases h : v = d
  · simp [cellPut, h, cellGet_cellErase_self]
  · simp [cellPut, h, cellGet_cellInsert_self]

/-- A put leaves every other key alone. -/
theorem cellGet_cellPut_ne (l : List (Nat × β)) {k j : Nat} (v d e : β) (h : j ≠ k) :
    cellGet (cellPut l k v d) j e = cellGet l j e := by
  by_cases hv : v = d
  · simp [cellPut, hv, cellGet_cellErase_ne l e h]
  · simp [cellPut, hv, cellGet_cellInsert_ne l v e h]

theorem filter_cellPut (l : List (Nat × β)) (k : Nat) (v d : β) (p : Nat → Bool) (h : p k = false) :
    (cellPut l k v d).filter (fun c => p c.1) = l.filter fun c => p c.1 := by
  by_cases hv : v = d
  · simp [cellPut, hv, filter_cellErase l k p h]
  · simp [cellPut, hv, filter_cellInsert l k v p h]

end Cells

/-! ## Registers -/

theorem State.reg_setReg (s : State) (idx sub v : Nat) : (s.setReg idx sub v).reg idx sub = v := by
  simp [State.reg, State.setReg, cellGet_cellPut_self]

theorem State.reg_setReg_ne (s : State) {idx sub i j : Nat} (v : Nat) (h : key i j ≠ key idx sub) :
    (s.setReg idx sub v).reg i j = s.reg i j := by
  simp [State.reg, State.setReg, cellGet_cellPut_ne _ _ _ _ h]

@[simp] theorem State.act_setReg (s : State) (idx sub v i j : Nat) : (s.setReg idx sub v).act i j = s.act i j := rfl

@[simp] theorem State.shad_setReg (s : State) (idx sub v i j : Nat) : (s.setReg idx sub v).shad i j = s.shad i j := rfl

@[simp] theorem State.reg_transfer (s : State) (idx sub v i j : Nat) : (s.transfer idx sub v).reg i j = s.reg i j := rfl

theorem State.act_transfer (s : State) (idx sub v : Nat) : (s.transfer idx sub v).act idx sub = v := by
  simp [State.act, State.transfer, cellGet_cellPut_self]

theorem State.act_transfer_ne (s : State) {idx sub i j : Nat} (v : Nat) (h : key i j ≠ key idx sub) :
    (s.transfer idx sub v).act i j = s.act i j := by
  simp [State.act, State.transfer, cellGet_cellPut_ne _ _ _ _ h]

theorem State.shad_transfer (s : State) (idx sub v : Nat) : (s.transfer idx sub v).shad idx sub = v := by
  simp [State.shad, State.transfer, cellGet_cellPut_self]

theorem State.shad_transfer_ne (s : State) {idx sub i j : Nat} (v : Nat) (h : key i j ≠ key idx sub) :
    (s.transfer idx sub v).shad i j = s.shad i j := by
  simp [State.shad, State.transfer, cellGet_cellPut_ne _ _ _ _ h]

/-- All three copies hold what a value set at once is. -/
theorem State.setAll_holds (s : State) (idx sub v : Nat) :
    (s.setAll idx sub v).reg idx sub = v ∧ (s.setAll idx sub v).shad idx sub = v ∧ (s.setAll idx sub v).act idx sub = v := by
  refine ⟨?_, ?_, ?_⟩ <;> simp [State.setAll, State.reg_setReg, State.shad_transfer, State.act_transfer]

theorem State.reg_bump (s : State) (idx sub top k : Nat) :
    (s.bump idx sub top k).reg idx sub = min top (s.reg idx sub + k) := by
  simp [State.bump, State.reg_setReg, satAdd]

theorem State.reg_inc (s : State) (idx sub : Nat) : (s.inc idx sub).reg idx sub = min 0xFFFFFFFF (s.reg idx sub + 1) := by
  simp [State.inc, State.reg_bump, top32]

theorem State.reg_orReg (s : State) (idx sub m : Nat) : (s.orReg idx sub m).reg idx sub = s.reg idx sub ||| m := by
  simp [State.orReg, State.reg_setReg]

theorem State.reg_clrReg (s : State) (idx sub m : Nat) :
    (s.clrReg idx sub m).reg idx sub = s.reg idx sub - (s.reg idx sub &&& m) := by
  simp [State.clrReg, State.reg_setReg]

theorem State.reg_hwSet (s : State) (idx sub m : Nat) : (s.hwSet idx sub m).reg idx sub = s.reg idx sub ||| m :=
  s.reg_orReg idx sub m

/-- Bits that hardware sets in a tick are among those of the tick (R11). -/
theorem State.freshBits_hwSet_nil (s : State) (idx sub m : Nat) (h : s.tb.fresh = []) :
    (s.hwSet idx sub m).freshBits idx sub = m := by
  simp [State.freshBits, State.hwSet, h]

/-- A register write leaves the entries of every other key in place. -/
theorem State.filter_setReg (s : State) (idx sub v : Nat) (p : Key → Bool) (h : p (key idx sub) = false) :
    (s.setReg idx sub v).regs.filter (fun c => p c.1) = s.regs.filter fun c => p c.1 :=
  filter_cellPut _ _ _ _ p h

/-! ## The user area -/

theorem memRead_memWrite (m : List Host.Cell) (a : Nat) (b : Byte) (h : a < userSize) : memRead (memWrite m a b) a = b := by
  simp [memRead, memWrite, h, cellGet_cellPut_self]

theorem memRead_memWrite_ne (m : List Host.Cell) {a c : Nat} (b : Byte) (h : c ≠ a) :
    memRead (memWrite m a b) c = memRead m c := by
  by_cases ha : a < userSize
  · simp [memRead, memWrite, ha, cellGet_cellPut_ne _ _ _ _ h]
  · simp [memWrite, ha]

/-- A commit leaves every byte outside its range alone. -/
theorem memRead_memWriteN_ne (bs : List Byte) : ∀ (m : List Host.Cell) (a c : Nat), (c < a ∨ a + bs.length ≤ c) →
    memRead (memWriteN m a bs) c = memRead m c := by
  induction bs with
  | nil => intro m a c _; rfl
  | cons b t ih =>
    intro m a c h
    simp only [List.length_cons] at h
    rw [memWriteN, ih _ _ _ (by omega), memRead_memWrite_ne _ _ (by omega)]

theorem memReadN_congr {m m' : List Host.Cell} : ∀ (n a : Nat), (∀ c, a ≤ c → c < a + n → memRead m c = memRead m' c) →
    memReadN m a n = memReadN m' a n
  | 0, _, _ => rfl
  | n + 1, a, h => by
    rw [memReadN, memReadN, h a (by omega) (by omega), memReadN_congr n (a + 1) fun c h1 h2 => h c (by omega) (by omega)]

/-- A commit within the area reads back what it laid. -/
theorem memReadN_memWriteN (bs : List Byte) : ∀ (m : List Host.Cell) (a : Nat), a + bs.length ≤ userSize →
    memReadN (memWriteN m a bs) a bs.length = bs := by
  induction bs with
  | nil => intro m a _; rfl
  | cons b t ih =>
    intro m a h
    simp only [List.length_cons] at h
    rw [memWriteN, List.length_cons, memReadN, ih _ _ (by omega), memRead_memWriteN_ne _ _ _ _ (by omega),
      memRead_memWrite _ _ _ (by omega)]

theorem filter_memWriteN (bs : List Byte) (p : Nat → Bool) : ∀ (m : List Host.Cell) (a : Nat),
    (∀ c, a ≤ c → c < a + bs.length → p c = false) →
    (memWriteN m a bs).filter (fun c => p c.1) = m.filter fun c => p c.1 := by
  induction bs with
  | nil => intro m a _; rfl
  | cons b t ih =>
    intro m a h
    simp only [List.length_cons] at h
    rw [memWriteN, ih _ _ fun c h1 h2 => h c (by omega) (by omega)]
    by_cases ha : a < userSize
    · simp only [memWrite, ha, if_true]; exact filter_cellPut _ _ _ _ p (h a (by omega) (by omega))
    · simp [memWrite, ha]

/-! ## The canonical form -/

section Rise
variable {β : Type}

/-- Keys that rise above a bound rise above any lower one. -/
theorem keysRise_lower : ∀ (l : List (Nat × β)) {a b : Nat}, a ≤ b → keysRise (some b) l = true → keysRise (some a) l = true
  | [], _, _, _, _ => rfl
  | c :: t, a, b, h, hk => by
    simp only [keysRise, Bool.and_eq_true, decide_eq_true_eq] at hk ⊢
    exact ⟨by omega, hk.2⟩

theorem keysRise_none (l : List (Nat × β)) {b : Nat} (h : keysRise (some b) l = true) : keysRise none l = true := by
  cases l with
  | nil => rfl
  | cons c t => simp only [keysRise, Bool.and_eq_true] at h ⊢; exact h.2

theorem keysRise_cellErase : ∀ (l : List (Nat × β)) (o : Option Nat) (k : Nat), keysRise o l = true →
    keysRise o (cellErase l k) = true
  | [], o, k, _ => by cases o <;> rfl
  | c :: t, o, k, h => by
    by_cases hk : c.1 = k
    · simp only [cellErase, hk, if_true]
      apply keysRise_cellErase
      cases o with
      | none => exact keysRise_none t h
      | some b =>
        simp only [keysRise, Bool.and_eq_true, decide_eq_true_eq] at h
        exact keysRise_lower t (by omega) h.2
    · cases o with
      | none => simpa only [cellErase, hk, if_false, keysRise] using keysRise_cellErase t _ k h
      | some b =>
        simp only [keysRise, Bool.and_eq_true, decide_eq_true_eq] at h
        simpa only [cellErase, hk, if_false, keysRise, Bool.and_eq_true, decide_eq_true_eq] using
          ⟨h.1, keysRise_cellErase t _ k h.2⟩

theorem keysRise_cellInsert : ∀ (l : List (Nat × β)) (o : Option Nat) (k : Nat) (v : β), (∀ b, o = some b → b < k) →
    keysRise o l = true → keysRise o (cellInsert l k v) = true
  | [], o, k, v, ho, _ => by
    cases o with
    | none => rfl
    | some b => simp [cellInsert, keysRise, ho b rfl]
  | c :: t, o, k, v, ho, h => by
    have ht : keysRise (some c.1) t = true := by
      cases o with
      | none => exact h
      | some b => simp only [keysRise, Bool.and_eq_true] at h; exact h.2
    have hc : ∀ b, o = some b → b < c.1 := by
      intro b hb; subst hb; simp only [keysRise, Bool.and_eq_true, decide_eq_true_eq] at h; exact h.1
    by_cases h1 : k < c.1
    · simp only [cellInsert, h1, if_true]
      cases o with
      | none => simp [keysRise, h1, ht]
      | some b => simp [keysRise, ho b rfl, h1, ht]
    · by_cases h2 : k = c.1
      · simp only [cellInsert, h2, Nat.lt_irrefl, if_false, if_true]
        cases o with
        | none => simpa [keysRise] using ht
        | some b => simp [keysRise, hc b rfl, ht]
      · have hi := keysRise_cellInsert t (some c.1) k v (by intro b hb; cases hb; omega) ht
        simp only [cellInsert, h1, h2, if_false]
        cases o with
        | none => simpa [keysRise] using hi
        | some b => simp [keysRise, hc b rfl, hi]

theorem all_cellErase (p : Nat × β → Bool) : ∀ (l : List (Nat × β)) (k : Nat), l.all p = true → (cellErase l k).all p = true
  | [], _, _ => rfl
  | c :: t, k, h => by
    simp only [List.all_cons, Bool.and_eq_true] at h
    by_cases hk : c.1 = k
    · simpa [cellErase, hk] using all_cellErase p t k h.2
    · simp only [cellErase, hk, if_false, List.all_cons, Bool.and_eq_true]
      exact ⟨h.1, all_cellErase p t k h.2⟩

theorem all_cellInsert (p : Nat × β → Bool) (k : Nat) (v : β) (hv : p (k, v) = true) :
    ∀ l : List (Nat × β), l.all p = true → (cellInsert l k v).all p = true
  | [], _ => by simp [cellInsert, hv]
  | c :: t, h => by
    simp only [List.all_cons, Bool.and_eq_true] at h
    by_cases h1 : k < c.1
    · simp [cellInsert, h1, hv, h.1, h.2]
    · by_cases h2 : k = c.1
      · simp only [cellInsert, h2, Nat.lt_irrefl, if_false, if_true, List.all_cons, Bool.and_eq_true]
        exact ⟨h2 ▸ hv, h.2⟩
      · simp only [cellInsert, h1, h2, if_false, List.all_cons, Bool.and_eq_true]
        exact ⟨h.1, all_cellInsert p k v hv t h.2⟩

end Rise

/-- A write keeps the canonical form. -/
theorem memWrite_wf {m : List Host.Cell} (h : Memory.wf m = true) (a : Nat) (b : Byte) : Memory.wf (memWrite m a b) = true := by
  by_cases ha : a < userSize
  · simp only [Memory.wf, Bool.and_eq_true] at h ⊢
    by_cases hb : b = 0
    · simp only [memWrite, ha, if_true, cellPut, hb]
      exact ⟨keysRise_cellErase m none a h.1, all_cellErase _ m a h.2⟩
    · simp only [memWrite, ha, if_true, cellPut, hb, if_false]
      exact ⟨keysRise_cellInsert m none a b (by simp) h.1, all_cellInsert _ a b (decide_eq_true ⟨hb, ha⟩) m h.2⟩
  · simpa [memWrite, ha] using h

/-- A commit of the pail keeps the canonical form. -/
theorem memWriteN_wf (bs : List Byte) : ∀ {m : List Host.Cell}, Memory.wf m = true → ∀ a, Memory.wf (memWriteN m a bs) = true := by
  induction bs with
  | nil => intro m h a; exact h
  | cons b t ih => intro m h a; exact ih (memWrite_wf h a b) (a + 1)

end Sys2Proof.Machine
end

