-- ==== Sys2Proof/Laws/Settle.lean ====
section
/-! SUPPORT. What the interrupt controller does at a command's end (`settle`), said once: it delivers, it leaves the ACTIVE
registers in order, it keeps the user area's canonical form; and the way from a command's effect to `State.after`. -/

namespace Sys2Proof.Machine
open Sys2Proof

/-! ## Registers that a filter keeps -/

theorem cellGet_filter {β : Type} (p : Nat → Bool) (k : Nat) (d : β) (h : p k = true) :
    ∀ l : List (Nat × β), cellGet (l.filter fun c => p c.1) k d = cellGet l k d
  | [] => rfl
  | c :: t => by
    by_cases hc : c.1 = k
    · simp [hc, h, cellGet]
    · by_cases hp : p c.1 = true
      · simp [hp, cellGet, hc, cellGet_filter p k d h t]
      · simp [hp, cellGet, hc, cellGet_filter p k d h t]

/-- States whose registers agree but for those that `K` names read every other register alike. -/
theorem State.regsBut_reg {s t : State} {K : Key → Bool} (hv : t.variant = s.variant) (h : s.regsBut t K) {idx sub : Nat}
    (hk : K (key idx sub) = false) : t.reg idx sub = s.reg idx sub := by
  have e : (!K (key idx sub)) = true := by simp [hk]
  simp only [State.reg, hv]
  rw [← cellGet_filter (fun k => !K k) _ _ e t.regs, ← cellGet_filter (fun k => !K k) _ _ e s.regs, show _ = _ from h]

/-! ## What delivery may add -/

/-- `t` is `s` with at most what delivery adds: counts, tallies, EMCY messages, pending bits. -/
structure Adds (s t : State) : Prop where
  variant : t.variant = s.variant
  ready : t.ready = s.ready
  regs : s.regsBut t countsKey
  user : s.userBut t fun _ => false
  links : ∀ i : Fin 2, t.can.links[i] = { s.can.links[i] with emcy := t.can.links[i].emcy }
  pend : t.irq.pend &&& s.irq.pend = s.irq.pend
  wf : Memory.wf s.ks.sram.user = true → Memory.wf t.ks.sram.user = true

theorem Adds.refl (s : State) : Adds s s := ⟨rfl, rfl, rfl, rfl, fun _ => rfl, BitVec.and_self, id⟩

theorem Adds.reg {s t : State} (h : Adds s t) {idx sub : Nat} (hk : countsKey (key idx sub) = false) :
    t.reg idx sub = s.reg idx sub := State.regsBut_reg h.variant h.regs hk

theorem countsKey_keep {sub : Nat} (h : sub < 256) : countsKey (key 0x2B00 sub) = false := by
  unfold countsKey
  simp only [decide_eq_false_iff_not]
  unfold key
  omega

theorem countsKey_ctrl {sub : Nat} (h : sub < 256) : countsKey (key 0x2A00 sub) = false := by
  unfold countsKey
  simp only [decide_eq_false_iff_not]
  unfold key
  omega

theorem Adds.tallied {s t : State} (h : Adds s t) (a : Nat) : t.tallied a = s.tallied a := by
  rw [Bool.eq_iff_iff]
  simp only [State.tallied, List.any_eq_true, List.mem_range]
  refine exists_congr fun i => and_congr_right fun hi => ?_
  rw [h.reg (countsKey_keep (by omega))]

theorem Adds.trans {s t u : State} (h : Adds s t) (k : Adds t u) : Adds s u where
  variant := k.variant.trans h.variant
  ready := k.ready.trans h.ready
  regs := Eq.trans k.regs h.regs
  user := by
    have e := k.user
    simp only [State.userBut, h.tallied] at e
    exact Eq.trans e h.user
  links i := by rw [k.links i, h.links i]
  pend := by rw [← h.pend, ← BitVec.and_assoc, k.pend]
  wf := k.wf ∘ h.wf

theorem Adds.foldl {α : Type} {f : State → α → State} (h : ∀ s a, Adds s (f s a)) (l : List α) : ∀ s, Adds s (l.foldl f s) := by
  induction l with
  | nil => exact Adds.refl
  | cons a t ih => exact fun s => (h s a).trans (ih _)

/-- A count of delivery raised. -/
theorem Adds.inc (s : State) {idx sub : Nat} (h : countsKey (key idx sub) = true) : Adds s (s.inc idx sub) where
  variant := rfl
  ready := rfl
  regs := State.filter_setReg s idx sub _ (fun k => !countsKey k) (by simp [h])
  user := rfl
  links _ := rfl
  pend := BitVec.and_self
  wf := id

theorem tally1_adds (code i : Nat) (hi : i < 8) (s : State) : Adds s (tally1 s code i) := by
  unfold tally1
  split
  · refine ⟨rfl, rfl, rfl, ?_, fun _ => rfl, BitVec.and_self, fun h => memWriteN_wf _ h _⟩
    refine filter_memWriteN _ (fun a => !(s.tallied a || false)) _ _ fun c h1 h2 => ?_
    simp only [Bool.or_false, Bool.not_eq_false', State.tallied, List.any_eq_true, List.mem_range]
    exact ⟨i, hi, by simp [leBytes] at h2; simp; omega⟩
  · exact Adds.refl s

theorem tally_adds (s : State) (code : Nat) : Adds s (tally s code) := by
  have : ∀ (l : List Nat), (∀ i ∈ l, i < 8) → ∀ s, Adds s (l.foldl (fun s i => tally1 s code i) s) := by
    intro l
    induction l with
    | nil => exact fun _ => Adds.refl
    | cons a t ih => exact fun h s => (tally1_adds code a (h a (by simp)) s).trans (ih (fun i hi => h i (by simp [hi])) _)
  exact this _ (fun i hi => List.mem_range.mp hi) s

theorem tally_irq (s : State) (code : Nat) : (tally s code).irq = s.irq := by
  have h1 : ∀ (t : State) i, (tally1 t code i).irq = t.irq := by intro t i; unfold tally1; split <;> rfl
  have : ∀ (l : List Nat) t, (l.foldl (fun s i => tally1 s code i) t).irq = t.irq := by
    intro l
    induction l with
    | nil => exact fun _ => rfl
    | cons a t ih => exact fun u => (ih _).trans (h1 u a)
  exact this _ s

/-- A change of the controller's own registers that clears no pending bit. -/
theorem Adds.irq (s : State) (q : Irq) (h : q.pend &&& s.irq.pend = s.irq.pend) : Adds s { s with irq := q } :=
  ⟨rfl, rfl, rfl, rfl, fun _ => rfl, h, id⟩

theorem pendSrc_adds (s : State) (n : Nat) : Adds s (pendSrc s n) := by
  unfold pendSrc
  split
  · refine (Adds.irq s _ ?_).trans (tally_adds _ n)
    simp only [setBit]
    ext i hi
    simp only [BitVec.getElem_and, BitVec.getElem_or]
    cases s.irq.pend[i] <;> simp
  · exact Adds.refl s

theorem pendLevels_adds (s : State) : Adds s (pendLevels s) :=
  Adds.foldl (fun t n => by
    show Adds t (if _ then t else pendSrc t n)
    split
    · exact Adds.refl t
    · exact pendSrc_adds t n) _ s

theorem pendEdges_adds (old s : State) : Adds s (pendEdges old s) := by
  have h1 : Adds s (if s.milkStat = old.milkStat then s else pendSrc s 31) := by
    split
    · exact Adds.refl s
    · exact pendSrc_adds s 31
  have h2 : ∀ t : State, Adds t (if t.engStates = old.engStates then t else pendSrc t 32) := fun t => by
    split
    · exact Adds.refl t
    · exact pendSrc_adds t 32
  have h3 : ∀ t : State, Adds t (if t.linkStat .a = old.linkStat .a ∧ t.linkStat .b = old.linkStat .b then t else pendSrc t 34) :=
    fun t => by
      split
      · exact Adds.refl t
      · exact pendSrc_adds t 34
  exact (h1.trans (h2 _)).trans (h3 _)

theorem queueEmcy1_adds (s : State) (l : Link) (msg : List Byte) : Adds s (queueEmcy1 s l msg) := by
  unfold queueEmcy1
  split
  · split
    · refine ⟨rfl, rfl, rfl, rfl, fun i => ?_, BitVec.and_self, id⟩
      by_cases h : i = linkIx l
      · subst h; rw [State.modLink_can_links_self]
      · rw [State.modLink_can_links_ne s _ h]
    · exact Adds.inc s (by decide)
  · exact Adds.refl s

theorem queueEmcy1_irq (s : State) (l : Link) (msg : List Byte) : (queueEmcy1 s l msg).irq = s.irq := by
  unfold queueEmcy1; split
  · split <;> rfl
  · rfl

theorem notifyA_adds (s : State) (n : Fin 64) : Adds s (notifyA s n) := by
  unfold notifyA
  split
  · exact (queueEmcy1_adds s .a _).trans (queueEmcy1_adds _ .b _)
  · exact Adds.refl s

theorem notifyA_irq (s : State) (n : Fin 64) : (notifyA s n).irq = s.irq := by
  unfold notifyA
  split
  · simp [queueEmcy, queueEmcy1_irq]
  · rfl

theorem countsKey_src (n : Fin 64) : countsKey (key (0x2A40 + n.1) 5) = true := by
  have := n.2
  unfold countsKey
  simp only [decide_eq_true_eq]
  unfold key
  omega

theorem deliverA_adds (s : State) : Adds s (deliverA s) := by
  unfold deliverA
  split
  · exact Adds.irq s _ BitVec.and_self
  · split
    · exact Adds.refl s
    · rename_i n _ _
      exact ((Adds.irq s { s.irq with activeA := some n } BitVec.and_self).trans (Adds.inc _ (countsKey_src _))).trans
        (notifyA_adds _ _)

theorem deliverB_adds (s : State) : Adds s (deliverB s) := by
  unfold deliverB
  split
  · exact Adds.irq s _ BitVec.and_self
  · split
    · exact Adds.refl s
    · rename_i n _ _
      exact (Adds.irq s { s.irq with activeB := some n } BitVec.and_self).trans (Adds.inc _ (countsKey_src _))

theorem dropServed_adds (s : State) : Adds s (dropServed s) := by
  have h1 : Adds s (if s.served s.irq.activeA = true then deliverA s else s) := by
    split
    · exact deliverA_adds s
    · exact Adds.refl s
  have h2 : ∀ t : State, Adds t (if t.served t.irq.activeB = true then deliverB t else t) := fun t => by
    split
    · exact deliverB_adds t
    · exact Adds.refl t
  exact h1.trans (h2 _)

theorem settleAux_adds (old s : State) : Adds s (settleAux old s) := by
  unfold settleAux
  split
  · exact (((((pendEdges_adds old s).trans (dropServed_adds _)).trans (pendLevels_adds _)).trans (deliverA_adds _)).trans
      (deliverB_adds _)).trans (Adds.irq _ _ BitVec.and_self)
  · exact Adds.refl s

/-! ## The end of a command -/

/-- What `settle` does, whatever the command did before: it delivers. -/
theorem settle_delivers (old s : State) : s.delivers (settle old s) := by
  have h := settleAux_adds old s
  exact ⟨rfl, h.regs, h.user, h.links, h.pend⟩

/-- A register that delivery does not count in reads after a command's end as its effect left it. -/
theorem settle_reg (old s : State) {idx sub : Nat} (h : countsKey (key idx sub) = false) :
    (settle old s).reg idx sub = s.reg idx sub := by
  have e := (settleAux_adds old s).reg h
  simp only [State.reg, (settleAux_adds old s).variant] at e ⊢
  exact e

theorem settle_irq (old s : State) : (settle old s).irq = (settleAux old s).irq := rfl

@[simp] theorem settle_variant (old s : State) : (settle old s).variant = s.variant := rfl
@[simp] theorem settle_pwr (old s : State) : (settle old s).pwr = s.pwr := rfl
@[simp] theorem settle_md (old s : State) : (settle old s).md = s.md := rfl
@[simp] theorem settle_latch (old s : State) : (settle old s).latch = s.latch := rfl
@[simp] theorem settle_pins (old s : State) : (settle old s).pins = s.pins := rfl
@[simp] theorem settle_shadow (old s : State) : (settle old s).shadow = s.shadow := rfl
@[simp] theorem settle_active (old s : State) : (settle old s).active = s.active := rfl
@[simp] theorem settle_ports (old s : State) : (settle old s).ports = s.ports := rfl
@[simp] theorem settle_rails (old s : State) : (settle old s).rails = s.rails := rfl
@[simp] theorem settle_engines (old s : State) : (settle old s).engines = s.engines := rfl
@[simp] theorem settle_sc (old s : State) : (settle old s).sc = s.sc := rfl
@[simp] theorem settle_vc (old s : State) : (settle old s).vc = s.vc := rfl
@[simp] theorem settle_milk (old s : State) : (settle old s).milk = s.milk := rfl
@[simp] theorem settle_ledger (old s : State) : (settle old s).ledger = s.ledger := rfl
@[simp] theorem settle_sqe (old s : State) : (settle old s).sqe = s.sqe := rfl
@[simp] theorem settle_chg (old s : State) : (settle old s).chg = s.chg := rfl
@[simp] theorem settle_thm (old s : State) : (settle old s).thm = s.thm := rfl
@[simp] theorem settle_flt (old s : State) : (settle old s).flt = s.flt := rfl
@[simp] theorem settle_aon (old s : State) : (settle old s).aon = s.aon := rfl
@[simp] theorem settle_seq (old s : State) : (settle old s).seq = s.seq := rfl
@[simp] theorem settle_cmt (old s : State) : (settle old s).cmt = s.cmt := rfl
@[simp] theorem settle_paths (old s : State) : (settle old s).paths = s.paths := rfl
@[simp] theorem settle_tw (old s : State) : (settle old s).tw = s.tw := rfl
@[simp] theorem settle_tb (old s : State) : (settle old s).tb = s.tb := rfl
@[simp] theorem settle_wd (old s : State) : (settle old s).wd = s.wd := rfl
@[simp] theorem settle_adc (old s : State) : (settle old s).adc = s.adc := rfl
@[simp] theorem settle_herd (old s : State) : (settle old s).herd = s.herd := rfl
@[simp] theorem settle_sent (old s : State) : (settle old s).sent = s.sent := rfl
@[simp] theorem settle_freeCtr (old s : State) : (settle old s).freeCtr = s.freeCtr := rfl
@[simp] theorem settle_pending (old s : State) : (settle old s).pending = s.pending := rfl
@[simp] theorem settle_act (old s : State) (idx sub : Nat) : (settle old s).act idx sub = s.act idx sub := rfl
@[simp] theorem settle_shad (old s : State) (idx sub : Nat) : (settle old s).shad idx sub = s.shad idx sub := rfl
@[simp] theorem settle_ready (old s : State) : (settle old s).ready = s.ready := rfl
@[simp] theorem settle_log (old s : State) : (settle old s).log = s.log := rfl

/-- The end of a command keeps the user area's canonical form, and the shadow and a running store's snapshot with it. -/
theorem settle_keepWf (old s : State) (h : s.keepWf) : (settle old s).keepWf :=
  ⟨(settleAux_adds old s).wf h.1, h.2⟩

/-! ## The ACTIVE registers -/

theorem bestOf_mem (s : State) (set : U64) (en : Nat) {n : Fin 64} (h : s.bestOf set en = some n) : set.getLsbD n.1 = true := by
  have key : ∀ (l : List (Fin 64)) (b : Option (Fin 64)), (∀ m ∈ l, set.getLsbD m.1 = true) →
      (∀ m, b = some m → set.getLsbD m.1 = true) → ∀ m, l.foldl (fun b n => match b with
        | none => some n
        | some m => if s.rank n.1 < s.rank m.1 then some n else some m) b = some m → set.getLsbD m.1 = true := by
    intro l
    induction l with
    | nil => exact fun b _ hb m hm => hb m hm
    | cons a t ih =>
      intro b hl hb m hm
      refine ih _ (fun k hk => hl k (by simp [hk])) ?_ m hm
      intro k hk
      cases b with
      | none => simp only [Option.some.injEq] at hk; exact hk ▸ hl a (by simp)
      | some c =>
        dsimp only at hk
        split at hk
        · simp only [Option.some.injEq] at hk; exact hk ▸ hl a (by simp)
        · exact hb k hk
  refine key _ none (fun m hm => ?_) (by simp) n h
  simp only [List.mem_filter, Bool.and_eq_true] at hm
  exact hm.2.1

theorem best_pends (s : State) (en : Nat) {n : Fin 64} (h : s.best en = some n) : s.irq.pend.getLsbD n.1 = true :=
  bestOf_mem s _ en h

theorem bestFresh_pends (s : State) (en : Nat) {n : Fin 64} (h : s.bestOf (s.irq.pend &&& s.irq.fresh) en = some n) :
    s.irq.pend.getLsbD n.1 = true := by
  have hm := bestOf_mem s _ en h
  rw [BitVec.getLsbD_and, Bool.and_eq_true] at hm
  exact hm.1

theorem nextActive_ok (s : State) (en gdis : Nat) (cur : Option (Fin 64)) {n : Fin 64} (h : nextActive s en gdis cur = some n) :
    s.irq.pend.getLsbD n.1 = true ∧ (s.reg 0x2A00 6).testBit gdis = false := by
  unfold nextActive at h
  split at h
  · cases h
  · rename_i hg
    refine ⟨?_, by simpa using hg⟩
    split at h
    · exact best_pends s en h
    · rename_i m hm
      have hp : s.irq.pend.getLsbD m.1 = true := (Option.filter_eq_some_iff.mp hm).2
      split at h
      · simp only [Option.some.injEq] at h; exact h ▸ hp
      · rename_i k hk
        split at h
        · simp only [Option.some.injEq] at h; exact h ▸ bestFresh_pends s en hk
        · simp only [Option.some.injEq] at h; exact h ▸ hp

/-- Delivery to host A leaves its register empty or at what `nextActive` gives, and pending bits, B and GDIS alone. -/
theorem deliverA_ok (s : State) : (deliverA s).irq = { s.irq with activeA := nextActive s (s.reg 0x2A00 3) 0 s.irq.activeA } := by
  unfold deliverA
  split
  · rename_i h; rw [h]
  · rename_i n h
    split
    · rename_i e; rw [h, ← e]
    · rw [notifyA_irq, h]; rfl

theorem deliverB_ok (s : State) : (deliverB s).irq = { s.irq with activeB := nextActive s (s.reg 0x2A00 4) 1 s.irq.activeB } := by
  unfold deliverB
  split
  · rename_i h; rw [h]
  · rename_i n h
    split
    · rename_i e; rw [h, ← e]
    · rw [h]; rfl

/-- Delivery of both leaves the ACTIVE registers in order. -/
theorem deliver_activeOk (u : State) :
    (∀ n, (deliverB (deliverA u)).irq.activeA = some n →
      (deliverB (deliverA u)).irq.pend.getLsbD n.1 = true ∧ (u.reg 0x2A00 6).testBit 0 = false)
    ∧ ∀ n, (deliverB (deliverA u)).irq.activeB = some n →
      (deliverB (deliverA u)).irq.pend.getLsbD n.1 = true ∧ (u.reg 0x2A00 6).testBit 1 = false := by
  have hv : (deliverA u).reg 0x2A00 6 = u.reg 0x2A00 6 := (deliverA_adds u).reg (countsKey_ctrl (by decide))
  have hp : (deliverA u).irq.pend = u.irq.pend := by rw [deliverA_ok]
  constructor
  · intro n hn
    rw [deliverB_ok] at hn ⊢
    dsimp only at hn ⊢
    rw [deliverA_ok] at hn
    dsimp only at hn
    rw [hp]
    exact nextActive_ok u _ _ _ hn
  · intro n hn
    rw [deliverB_ok] at hn ⊢
    dsimp only at hn ⊢
    rw [← hv]
    exact nextActive_ok (deliverA u) _ _ _ hn

/-- After a command's end the ACTIVE registers of a running device hold sources in order. -/
theorem settle_activeOk (old s : State) (h : s.ready = true) : (settle old s).activeOk := by
  have hs : settleAux old s = seen (deliverB (deliverA (pendLevels (dropServed (pendEdges old s))))) := by simp [settleAux, h]
  have hr : (settle old s).reg 0x2A00 6 = s.reg 0x2A00 6 := settle_reg old s (countsKey_ctrl (by decide))
  have hu : (pendLevels (dropServed (pendEdges old s))).reg 0x2A00 6 = s.reg 0x2A00 6 :=
    (((pendEdges_adds old s).trans (dropServed_adds _)).trans (pendLevels_adds _)).reg (countsKey_ctrl (by decide))
  unfold State.activeOk
  rw [settle_irq, hs, hr, ← hu]
  exact deliver_activeOk _

/-! ## From an effect to a statement -/

/-- A command whose meaning ends in `u` has a next state with every property of `u` settled. -/
theorem after_of_done {s : State} {c : Instr} {u : State} {P : State → Prop} (h : exec c s = done s u) (hp : P (settle s u)) :
    s.after c P := ⟨settle s u, h, hp⟩

/-- A command whose meaning ends in `u` becomes `u`. -/
theorem becomes_of_done {s : State} {c : Instr} {u : State} (h : exec c s = done s u) : s.becomes c u :=
  after_of_done h (settle_delivers s u)

/-- A command whose guard does not hold changes nothing. -/
theorem ignores_of_done {s : State} {c : Instr} (h : exec c s = done s s) : s.ignores c := becomes_of_done h

end Sys2Proof.Machine
end

