-- ==== Sys2Proof/Laws/Access.lean ====
section
/-! SUPPORT. One access of a host path, said once: who is served, what an accepted and a refused write end in, and what the slot
and the answer change. -/

namespace Sys2Proof.Machine
open Sys2Proof

/-! ## Slots and answers -/

/-- A slot granted changes the record of the fewest free slots alone. -/
theorem takeSlot_eq (s : State) : takeSlot s = if s.coreOn then
    s.setReg 0x2F00 0x0E (min (s.reg 0x2F00 0x0E) (47 - (s.slotsHeld + 1))) else s := rfl

/-- The state in which an accepted access of a path is checked: its slot granted, if it brings none with it. -/
def granted (s : State) (p : HostPath) : State := if isTw p then s else takeSlot s

theorem granted_reg (s : State) (p : HostPath) {i j : Nat} (h : key i j ≠ key 0x2F00 0x0E) : (granted s p).reg i j = s.reg i j := by
  unfold granted
  split
  · rfl
  · rw [takeSlot_eq]
    split
    · exact State.reg_setReg_ne s _ h
    · rfl

theorem granted_act (s : State) (p : HostPath) (i j : Nat) : (granted s p).act i j = s.act i j := by
  unfold granted takeSlot noteSlots
  split
  · rfl
  · split <;> rfl

theorem granted_shad (s : State) (p : HostPath) (i j : Nat) : (granted s p).shad i j = s.shad i j := by
  unfold granted takeSlot noteSlots
  split
  · rfl
  · split <;> rfl

/-- Apart from registers, a granted slot changes nothing. -/
theorem granted_regs (s : State) (p : HostPath) : granted s p = { s with regs := (granted s p).regs } := by
  unfold granted takeSlot noteSlots
  split
  · rfl
  · split <;> rfl

theorem emit_paths (s : State) (l : Link) (id : Nat) (fd : Bool) (d : List Byte) : (s.emit l id fd d).paths = s.paths := by
  unfold State.emit
  split <;> rfl

/-- A reply is a frame on its link, or nothing: no path changes. -/
theorem sendReply_paths (s : State) (p : HostPath) (q : Option Asked) (code : Nat) (bs : List Byte) :
    (sendReply s p q code bs).paths = s.paths := by
  unfold sendReply
  split
  · split
    · rfl
    · exact emit_paths ..
  · rfl

/-- A response changes a path's request alone, and no other path. -/
theorem respond_path (s : State) (p : HostPath) (code : Nat) (bs : List Byte) :
    (respond s p code bs).paths[pathIx p].abort = s.paths[pathIx p].abort
      ∧ (respond s p code bs).paths[pathIx p].answer = s.paths[pathIx p].answer := by
  simp only [respond, sendReply_paths, State.modPath_paths_self, and_self]

theorem respond_other (s : State) (p : HostPath) (code : Nat) (bs : List Byte) {q : Fin 10} (h : q ≠ pathIx p) :
    (respond s p code bs).paths[q] = s.paths[q] := by
  rw [respond, sendReply_paths]; exact State.modPath_paths_ne s _ h

/-- The answer a path is given. -/
theorem answer_abort (s : State) (p : HostPath) (code : Nat) (bs : List Byte) :
    (answer s p code bs).paths[pathIx p].abort = code ∧ (answer s p code bs).paths[pathIx p].answer = bs := by
  constructor <;> simp only [answer, respond_path, State.modPath_paths_self]

/-- An answer leaves every other path alone. -/
theorem answer_other (s : State) (p : HostPath) (code : Nat) (bs : List Byte) {q : Fin 10} (h : q ≠ pathIx p) :
    (answer s p code bs).paths[q] = s.paths[q] :=
  (respond_other _ p code bs h).trans (State.modPath_paths_ne s _ h)

/-! ## An access that is heard -/

/-- A heard access runs, with its slot. -/
theorem withSlot_hears {s : State} {p : HostPath} (h : s.hears p) (k : State → State) : withSlot s p k = k (granted s p) := by
  obtain ⟨_, hp, hf, _⟩ := h
  simp [withSlot, withSlotFor, hp, hf, granted]

/-- An untagged path stages nothing. -/
theorem groupFor_untagged {s : State} {p : HostPath} (h : s.paths[pathIx p].tag = 0) (ws : List (Nat × Nat × List Byte)) :
    groupFor s p ws = none := by
  unfold groupFor
  split
  · rfl
  · simp only [State.tagOf]
    rw [dif_neg (by omega)]

/-- A heard write is checked and answered. -/
theorem hostWrite_hears {s : State} {p : HostPath} (h : s.hears p) (ws : List (Nat × Nat × List Byte)) :
    hostWrite s p ws = answerWrite (granted s p) (writeCore (granted s p) p none ws) p ws := by
  have ht : (granted s p).paths[pathIx p].tag = 0 := by rw [granted_regs]; exact h.2.2.2
  rw [hostWrite, withSlot_hears h, groupFor_untagged ht]

/-- With the core domain on nothing is left to the AON island's own checks. -/
theorem aonCode_on {s : State} (h : s.coreOn = true) (w seg : Bool) (idx sub : Nat) : s.aonCode w seg idx sub = 0 := by
  simp [State.aonCode, h]

theorem ready_coreOn {s : State} (h : s.ready = true) : s.coreOn = true := by
  simp only [State.ready, State.isOpen, Bool.and_eq_true, beq_iff_eq] at h
  simp [State.coreOn, h.1]

theorem ready_live {s : State} (h : s.ready = true) : s.live = true := by
  have h1 := ready_coreOn h
  simp only [State.ready, Bool.and_eq_true] at h
  simp [State.live, h1, h.2]

theorem firstCode_zeros : ∀ l : List Nat, (∀ c ∈ l, c = 0) → firstCode l = 0
  | [], _ => rfl
  | c :: t, h => by simp [firstCode, h c (by simp), firstCode_zeros t fun d hd => h d (by simp [hd])]

/-- A write that passes its checks is accepted. -/
theorem writeCore_accepts {s : State} {p : HostPath} {ws : List (Nat × Nat × List Byte)} (hc : s.coreOn = true)
    (hi : (itemsOf s.variant ws).1 = 0) (hl : lateCode s p none (itemsOf s.variant ws).2 = 0) :
    writeCore s p none ws = (0, acceptNow s p (itemsOf s.variant ws).2) := by
  have hg : firstCode (ws.map fun w => s.aonCode true false w.1 w.2.1) = 0 :=
    firstCode_zeros _ fun c h => by
      obtain ⟨w, _, rfl⟩ := List.mem_map.mp h
      exact aonCode_on hc ..
  simp [writeCore, hg, hi, hl]

/-- A write that fails checks 3 to 6 is refused with their code and changes nothing. -/
theorem writeCore_refuses_early {s : State} {p : HostPath} {ws : List (Nat × Nat × List Byte)} (hc : s.coreOn = true)
    (hi : (itemsOf s.variant ws).1 ≠ 0) : writeCore s p none ws = ((itemsOf s.variant ws).1, s) := by
  have hg : firstCode (ws.map fun w => s.aonCode true false w.1 w.2.1) = 0 :=
    firstCode_zeros _ fun c h => by
      obtain ⟨w, _, rfl⟩ := List.mem_map.mp h
      exact aonCode_on hc ..
  simp [writeCore, hg, hi]

/-- A write that fails checks 7 to 9 is refused with their code and changes nothing but ID_STAT, where it asked for a signature. -/
theorem writeCore_refuses {s : State} {p : HostPath} {ws : List (Nat × Nat × List Byte)} (hc : s.coreOn = true)
    (hi : (itemsOf s.variant ws).1 = 0) (hl : lateCode s p none (itemsOf s.variant ws).2 ≠ 0) :
    writeCore s p none ws = (lateCode s p none (itemsOf s.variant ws).2, noteRefusal s (itemsOf s.variant ws).2) := by
  have hg : firstCode (ws.map fun w => s.aonCode true false w.1 w.2.1) = 0 :=
    firstCode_zeros _ fun c h => by
      obtain ⟨w, _, rfl⟩ := List.mem_map.mp h
      exact aonCode_on hc ..
  simp [writeCore, hg, hi, hl]

/-- A refused write is answered with its code, and its state is the one before it but for the slot and the answer. -/
theorem answerWrite_refused {s : State} {p : HostPath} {ws : List (Nat × Nat × List Byte)} {c : Nat} (h : c ≠ 0) :
    answerWrite s (c, s) p ws = noteTw (answer s p c []) p c := by
  simp [answerWrite, h]

/-- Noting a context's result leaves every path's answer. -/
theorem noteTw_paths (s : State) (p : HostPath) (c : Nat) : (noteTw s p c).paths = s.paths := by cases p <;> rfl

/-- The number that `n` bytes, least significant first, spell. -/
theorem leVal_leBytes : ∀ n v : Nat, leVal (leBytes n v) = v % 256 ^ n
  | 0, v => by simp [leBytes, leVal, Nat.mod_one]
  | n + 1, v => by
    have e : v % 256 ^ (n + 1) = v % 256 + 256 * (v / 256 % 256 ^ n) := by rw [Nat.pow_succ', Nat.mod_mul]
    rw [leBytes, leVal, leVal_leBytes n (v / 256), BitVec.toNat_ofNat, e]

theorem leBytes_length : ∀ n v : Nat, (leBytes n v).length = n
  | 0, _ => rfl
  | n + 1, v => by rw [leBytes, List.length_cons, leBytes_length n]

end Sys2Proof.Machine
end

