-- ==== Sys2Proof/Laws/PerInstr.lean ====
section
/-! SUPPORT. Family NoWord, one lemma per command: the table gives the command no bits, so no word spells it. -/

open Sys2Proof

/-- No word of any length decodes to the command. -/
def Sys2Proof.Laws.NoWord.Statement (i : Instr) : Prop := ∀ nbits w : Nat, decodeTableWord nbits w ≠ some i

theorem Sys2Proof.Laws.NoWord.corePowerGoodTimeout (vcoreOk : Bool) : NoWord.Statement (.corePowerGoodTimeout vcoreOk) := fun _ _ h => nomatch h
theorem Sys2Proof.Laws.NoWord.coreResetRelease (strap : BitVec 4) (selfTestFailed : BitVec 9) : NoWord.Statement (.coreResetRelease strap selfTestFailed) := fun _ _ h => nomatch h
theorem Sys2Proof.Laws.NoWord.coreReset (p : HostPath) (v : U32) : NoWord.Statement (.coreReset p v) := fun _ _ h => nomatch h
theorem Sys2Proof.Laws.NoWord.vioUndervoltage : NoWord.Statement .vioUndervoltage := fun _ _ h => nomatch h
theorem Sys2Proof.Laws.NoWord.vcc5Undervoltage : NoWord.Statement .vcc5Undervoltage := fun _ _ h => nomatch h
theorem Sys2Proof.Laws.NoWord.coreRegulatorFail : NoWord.Statement .coreRegulatorFail := fun _ _ h => nomatch h
theorem Sys2Proof.Laws.NoWord.crystalLoss : NoWord.Statement .crystalLoss := fun _ _ h => nomatch h
theorem Sys2Proof.Laws.NoWord.coreClockRestart : NoWord.Statement .coreClockRestart := fun _ _ h => nomatch h
theorem Sys2Proof.Laws.NoWord.clockLossTrip : NoWord.Statement .clockLossTrip := fun _ _ h => nomatch h
theorem Sys2Proof.Laws.NoWord.dllUnlock : NoWord.Statement .dllUnlock := fun _ _ h => nomatch h
theorem Sys2Proof.Laws.NoWord.dllRelock : NoWord.Statement .dllRelock := fun _ _ h => nomatch h
theorem Sys2Proof.Laws.NoWord.vdrvUndervoltage (g : Fin 8) : NoWord.Statement (.vdrvUndervoltage g) := fun _ _ h => nomatch h
theorem Sys2Proof.Laws.NoWord.vdrvReady (g : Fin 8) : NoWord.Statement (.vdrvReady g) := fun _ _ h => nomatch h
theorem Sys2Proof.Laws.NoWord.vinPresent : NoWord.Statement .vinPresent := fun _ _ h => nomatch h
theorem Sys2Proof.Laws.NoWord.vinAbsent : NoWord.Statement .vinAbsent := fun _ _ h => nomatch h
theorem Sys2Proof.Laws.NoWord.estopAssert : NoWord.Statement .estopAssert := fun _ _ h => nomatch h
theorem Sys2Proof.Laws.NoWord.estopRelease : NoWord.Statement .estopRelease := fun _ _ h => nomatch h
theorem Sys2Proof.Laws.NoWord.dieComparatorTrip (d : Fin 4) : NoWord.Statement (.dieComparatorTrip d) := fun _ _ h => nomatch h
theorem Sys2Proof.Laws.NoWord.modeReqShip (p : HostPath) : NoWord.Statement (.modeReqShip p) := fun _ _ h => nomatch h
theorem Sys2Proof.Laws.NoWord.shipCoreOff : NoWord.Statement .shipCoreOff := fun _ _ h => nomatch h
theorem Sys2Proof.Laws.NoWord.shipAonHold : NoWord.Statement .shipAonHold := fun _ _ h => nomatch h
theorem Sys2Proof.Laws.NoWord.shipPbWakeArm : NoWord.Statement .shipPbWakeArm := fun _ _ h => nomatch h
theorem Sys2Proof.Laws.NoWord.shipExit (byVin : Bool) : NoWord.Statement (.shipExit byVin) := fun _ _ h => nomatch h
theorem Sys2Proof.Laws.NoWord.modeReqStandby (p : HostPath) : NoWord.Statement (.modeReqStandby p) := fun _ _ h => nomatch h
theorem Sys2Proof.Laws.NoWord.standbyCoreOff : NoWord.Statement .standbyCoreOff := fun _ _ h => nomatch h
theorem Sys2Proof.Laws.NoWord.latchedWake : NoWord.Statement .latchedWake := fun _ _ h => nomatch h
theorem Sys2Proof.Laws.NoWord.modeReqRun (p : HostPath) : NoWord.Statement (.modeReqRun p) := fun _ _ h => nomatch h
theorem Sys2Proof.Laws.NoWord.modeReqSafestop (p : HostPath) : NoWord.Statement (.modeReqSafestop p) := fun _ _ h => nomatch h
theorem Sys2Proof.Laws.NoWord.modeReqService (p : HostPath) : NoWord.Statement (.modeReqService p) := fun _ _ h => nomatch h
theorem Sys2Proof.Laws.NoWord.vinQualified : NoWord.Statement .vinQualified := fun _ _ h => nomatch h
theorem Sys2Proof.Laws.NoWord.holdupTimeExpired : NoWord.Statement .holdupTimeExpired := fun _ _ h => nomatch h
theorem Sys2Proof.Laws.NoWord.holdupLowBattery : NoWord.Statement .holdupLowBattery := fun _ _ h => nomatch h
theorem Sys2Proof.Laws.NoWord.huTimedExpired (r : Fin 16) : NoWord.Statement (.huTimedExpired r) := fun _ _ h => nomatch h
theorem Sys2Proof.Laws.NoWord.huVoffTurnoff (r : Fin 16) : NoWord.Statement (.huVoffTurnoff r) := fun _ _ h => nomatch h
theorem Sys2Proof.Laws.NoWord.huTimeWrite (p : HostPath) (v : U32) : NoWord.Statement (.huTimeWrite p v) := fun _ _ h => nomatch h
theorem Sys2Proof.Laws.NoWord.reqStatClear (p : HostPath) (mask : Byte) : NoWord.Statement (.reqStatClear p mask) := fun _ _ h => nomatch h
theorem Sys2Proof.Laws.NoWord.svcChallengeRead (p : HostPath) : NoWord.Statement (.svcChallengeRead p) := fun _ _ h => nomatch h
theorem Sys2Proof.Laws.NoWord.svcAuthWrite (p : HostPath) (sig : List Byte) : NoWord.Statement (.svcAuthWrite p sig) := fun _ _ h => nomatch h
theorem Sys2Proof.Laws.NoWord.svcVerifyDone : NoWord.Statement .svcVerifyDone := fun _ _ h => nomatch h
theorem Sys2Proof.Laws.NoWord.svcAuthExpire : NoWord.Statement .svcAuthExpire := fun _ _ h => nomatch h
theorem Sys2Proof.Laws.NoWord.svcPortWrite (p : HostPath) (v : Byte) : NoWord.Statement (.svcPortWrite p v) := fun _ _ h => nomatch h
theorem Sys2Proof.Laws.NoWord.svcIdleTimeout : NoWord.Statement .svcIdleTimeout := fun _ _ h => nomatch h
theorem Sys2Proof.Laws.NoWord.svckeyAssert : NoWord.Statement .svckeyAssert := fun _ _ h => nomatch h
theorem Sys2Proof.Laws.NoWord.svckeyRelease : NoWord.Statement .svckeyRelease := fun _ _ h => nomatch h
theorem Sys2Proof.Laws.NoWord.personalityWrite (p : HostPath) (n : Fin 32) (v : Byte) : NoWord.Statement (.personalityWrite p n v) := fun _ _ h => nomatch h
theorem Sys2Proof.Laws.NoWord.periodStart (n : Fin 32) (bstBelow : Bool) (duty : Nat) : NoWord.Statement (.periodStart n bstBelow duty) := fun _ _ h => nomatch h
theorem Sys2Proof.Laws.NoWord.pulseCompareFire (n : Fin 32) (e : PulseEdge) : NoWord.Statement (.pulseCompareFire n e) := fun _ _ h => nomatch h
theorem Sys2Proof.Laws.NoWord.comparatorTrip (n : Fin 32) (clocksSinceOn : Nat) (filtered : Bool) : NoWord.Statement (.comparatorTrip n clocksSinceOn filtered) := fun _ _ h => nomatch h
theorem Sys2Proof.Laws.NoWord.gateInterlockTimeout (n : Fin 32) : NoWord.Statement (.gateInterlockTimeout n) := fun _ _ h => nomatch h
theorem Sys2Proof.Laws.NoWord.prechargeDone (n : Fin 32) : NoWord.Statement (.prechargeDone n) := fun _ _ h => nomatch h
theorem Sys2Proof.Laws.NoWord.prechargeTimeout (n : Fin 32) : NoWord.Statement (.prechargeTimeout n) := fun _ _ h => nomatch h
theorem Sys2Proof.Laws.NoWord.senseWord (n : Fin 33) (raw : U16) (flip1 flip2 : BitVec 17) : NoWord.Statement (.senseWord n raw flip1 flip2) := fun _ _ h => nomatch h
theorem Sys2Proof.Laws.NoWord.tripFlagsClear (p : HostPath) (n : Fin 32) (mask : U16) : NoWord.Statement (.tripFlagsClear p n mask) := fun _ _ h => nomatch h
theorem Sys2Proof.Laws.NoWord.lswFullyEnhanced (n : Fin 32) : NoWord.Statement (.lswFullyEnhanced n) := fun _ _ h => nomatch h
theorem Sys2Proof.Laws.NoWord.lswRampTimeout (n : Fin 32) : NoWord.Statement (.lswRampTimeout n) := fun _ _ h => nomatch h
theorem Sys2Proof.Laws.NoWord.lswOverload (n : Fin 32) : NoWord.Statement (.lswOverload n) := fun _ _ h => nomatch h
theorem Sys2Proof.Laws.NoWord.coilPullDone (n : Fin 32) : NoWord.Statement (.coilPullDone n) := fun _ _ h => nomatch h
theorem Sys2Proof.Laws.NoWord.coilRiseTimeout (n : Fin 32) : NoWord.Statement (.coilRiseTimeout n) := fun _ _ h => nomatch h
theorem Sys2Proof.Laws.NoWord.coilHoldOpen (n : Fin 32) : NoWord.Statement (.coilHoldOpen n) := fun _ _ h => nomatch h
theorem Sys2Proof.Laws.NoWord.coilReleaseTimeout (n : Fin 32) : NoWord.Statement (.coilReleaseTimeout n) := fun _ _ h => nomatch h
theorem Sys2Proof.Laws.NoWord.fanStall (n : Fin 32) : NoWord.Statement (.fanStall n) := fun _ _ h => nomatch h
theorem Sys2Proof.Laws.NoWord.fanOpen (n : Fin 32) : NoWord.Statement (.fanOpen n) := fun _ _ h => nomatch h
theorem Sys2Proof.Laws.NoWord.fanTachWrite (p : HostPath) (n : Fin 32) (v : Byte) : NoWord.Statement (.fanTachWrite p n v) := fun _ _ h => nomatch h
theorem Sys2Proof.Laws.NoWord.voltageWord (k : Fin 16) (raw : U16) (flip1 flip2 : BitVec 17) : NoWord.Statement (.voltageWord k raw flip1 flip2) := fun _ _ h => nomatch h
theorem Sys2Proof.Laws.NoWord.laneDead (c : Converter) : NoWord.Statement (.laneDead c) := fun _ _ h => nomatch h
theorem Sys2Proof.Laws.NoWord.frameStart (e : Fin 9) (events : List FrameEvent) : NoWord.Statement (.frameStart e events) := fun _ _ h => nomatch h
theorem Sys2Proof.Laws.NoWord.frameEnd (e : Fin 9) : NoWord.Statement (.frameEnd e) := fun _ _ h => nomatch h
theorem Sys2Proof.Laws.NoWord.spareTakeover : NoWord.Statement .spareTakeover := fun _ _ h => nomatch h
theorem Sys2Proof.Laws.NoWord.portMaskWrite (p : HostPath) (r : Fin 16) (v : U32) : NoWord.Statement (.portMaskWrite p r v) := fun _ _ h => nomatch h
theorem Sys2Proof.Laws.NoWord.railEnable (p : HostPath) (r : Fin 16) : NoWord.Statement (.railEnable p r) := fun _ _ h => nomatch h
theorem Sys2Proof.Laws.NoWord.railDisable (p : HostPath) (r : Fin 16) : NoWord.Statement (.railDisable p r) := fun _ _ h => nomatch h
theorem Sys2Proof.Laws.NoWord.writeTransfer (idx : U16) : NoWord.Statement (.writeTransfer idx) := fun _ _ h => nomatch h
theorem Sys2Proof.Laws.NoWord.softStartTimeout (r : Fin 16) : NoWord.Statement (.softStartTimeout r) := fun _ _ h => nomatch h
theorem Sys2Proof.Laws.NoWord.truncationCross (r : Fin 16) (rising : Bool) : NoWord.Statement (.truncationCross r rising) := fun _ _ h => nomatch h
theorem Sys2Proof.Laws.NoWord.railFlagsClear (p : HostPath) (r : Fin 16) (mask : Byte) : NoWord.Statement (.railFlagsClear p r mask) := fun _ _ h => nomatch h
theorem Sys2Proof.Laws.NoWord.ledgerSnap (p : HostPath) (n : Fin 32) : NoWord.Statement (.ledgerSnap p n) := fun _ _ h => nomatch h
theorem Sys2Proof.Laws.NoWord.ledgerClear (p : HostPath) (n : Fin 32) (v : U32) : NoWord.Statement (.ledgerClear p n v) := fun _ _ h => nomatch h
theorem Sys2Proof.Laws.NoWord.mrSlotStart : NoWord.Statement .mrSlotStart := fun _ _ h => nomatch h
theorem Sys2Proof.Laws.NoWord.correctionIncrement (c : Converter) : NoWord.Statement (.correctionIncrement c) := fun _ _ h => nomatch h
theorem Sys2Proof.Laws.NoWord.stolenSample (k : Fin 16) (raw : U16) : NoWord.Statement (.stolenSample k raw) := fun _ _ h => nomatch h
theorem Sys2Proof.Laws.NoWord.trimUpdate : NoWord.Statement .trimUpdate := fun _ _ h => nomatch h
theorem Sys2Proof.Laws.NoWord.aonTrimUpdate : NoWord.Statement .aonTrimUpdate := fun _ _ h => nomatch h
theorem Sys2Proof.Laws.NoWord.roundEnable (p : HostPath) : NoWord.Statement (.roundEnable p) := fun _ _ h => nomatch h
theorem Sys2Proof.Laws.NoWord.roundDisable (p : HostPath) : NoWord.Statement (.roundDisable p) := fun _ _ h => nomatch h
theorem Sys2Proof.Laws.NoWord.stealEnable (p : HostPath) : NoWord.Statement (.stealEnable p) := fun _ _ h => nomatch h
theorem Sys2Proof.Laws.NoWord.stealDisable (p : HostPath) : NoWord.Statement (.stealDisable p) := fun _ _ h => nomatch h
theorem Sys2Proof.Laws.NoWord.seqStepStart : NoWord.Statement .seqStepStart := fun _ _ h => nomatch h
theorem Sys2Proof.Laws.NoWord.stepComplete : NoWord.Statement .stepComplete := fun _ _ h => nomatch h
theorem Sys2Proof.Laws.NoWord.stepTimeout : NoWord.Statement .stepTimeout := fun _ _ h => nomatch h
theorem Sys2Proof.Laws.NoWord.fallTimeout (r : Fin 16) : NoWord.Statement (.fallTimeout r) := fun _ _ h => nomatch h
theorem Sys2Proof.Laws.NoWord.partialRunQueuedStart : NoWord.Statement .partialRunQueuedStart := fun _ _ h => nomatch h
theorem Sys2Proof.Laws.NoWord.seqCmdRetry (p : HostPath) : NoWord.Statement (.seqCmdRetry p) := fun _ _ h => nomatch h
theorem Sys2Proof.Laws.NoWord.seqCmdSkip (p : HostPath) : NoWord.Statement (.seqCmdSkip p) := fun _ _ h => nomatch h
theorem Sys2Proof.Laws.NoWord.seqCmdAbort (p : HostPath) : NoWord.Statement (.seqCmdAbort p) := fun _ _ h => nomatch h
theorem Sys2Proof.Laws.NoWord.hiccupRetry (r : Fin 16) : NoWord.Statement (.hiccupRetry r) := fun _ _ h => nomatch h
theorem Sys2Proof.Laws.NoWord.hicClearExpire (r : Fin 16) : NoWord.Statement (.hicClearExpire r) := fun _ _ h => nomatch h
theorem Sys2Proof.Laws.NoWord.supFlagsClear (p : HostPath) (r : Fin 16) (mask : Byte) : NoWord.Statement (.supFlagsClear p r mask) := fun _ _ h => nomatch h
theorem Sys2Proof.Laws.NoWord.cntClear (p : HostPath) (r : Fin 16) (v : U32) : NoWord.Statement (.cntClear p r v) := fun _ _ h => nomatch h
theorem Sys2Proof.Laws.NoWord.pbShortPress : NoWord.Statement .pbShortPress := fun _ _ h => nomatch h
theorem Sys2Proof.Laws.NoWord.pbLongPress : NoWord.Statement .pbLongPress := fun _ _ h => nomatch h
theorem Sys2Proof.Laws.NoWord.pbIgnored : NoWord.Statement .pbIgnored := fun _ _ h => nomatch h
theorem Sys2Proof.Laws.NoWord.mrPress : NoWord.Statement .mrPress := fun _ _ h => nomatch h
theorem Sys2Proof.Laws.NoWord.rstoutPulseEnd : NoWord.Statement .rstoutPulseEnd := fun _ _ h => nomatch h
theorem Sys2Proof.Laws.NoWord.doorOpen : NoWord.Statement .doorOpen := fun _ _ h => nomatch h
theorem Sys2Proof.Laws.NoWord.doorClose : NoWord.Statement .doorClose := fun _ _ h => nomatch h
theorem Sys2Proof.Laws.NoWord.seqinChange (i : Fin 4) (high : Bool) : NoWord.Statement (.seqinChange i high) := fun _ _ h => nomatch h
theorem Sys2Proof.Laws.NoWord.herdSyncFrame (bytes : List Byte) : NoWord.Statement (.herdSyncFrame bytes) := fun _ _ h => nomatch h
theorem Sys2Proof.Laws.NoWord.herdStepFrame (bytes : List Byte) : NoWord.Statement (.herdStepFrame bytes) := fun _ _ h => nomatch h
theorem Sys2Proof.Laws.NoWord.herdEventFrame (bytes : List Byte) : NoWord.Statement (.herdEventFrame bytes) := fun _ _ h => nomatch h
theorem Sys2Proof.Laws.NoWord.herdPollFrame (bytes : List Byte) : NoWord.Statement (.herdPollFrame bytes) := fun _ _ h => nomatch h
theorem Sys2Proof.Laws.NoWord.herdModeFrame (bytes : List Byte) : NoWord.Statement (.herdModeFrame bytes) := fun _ _ h => nomatch h
theorem Sys2Proof.Laws.NoWord.herdStatusFrame (bytes : List Byte) : NoWord.Statement (.herdStatusFrame bytes) := fun _ _ h => nomatch h
theorem Sys2Proof.Laws.NoWord.herdSyncSend : NoWord.Statement .herdSyncSend := fun _ _ h => nomatch h
theorem Sys2Proof.Laws.NoWord.herdPollSend : NoWord.Statement .herdPollSend := fun _ _ h => nomatch h
theorem Sys2Proof.Laws.NoWord.herdMasterLost : NoWord.Statement .herdMasterLost := fun _ _ h => nomatch h
theorem Sys2Proof.Laws.NoWord.herdCollision : NoWord.Statement .herdCollision := fun _ _ h => nomatch h
theorem Sys2Proof.Laws.NoWord.eventSignal (p : HostPath) (v : Byte) : NoWord.Statement (.eventSignal p v) := fun _ _ h => nomatch h
theorem Sys2Proof.Laws.NoWord.chgEnable (p : HostPath) : NoWord.Statement (.chgEnable p) := fun _ _ h => nomatch h
theorem Sys2Proof.Laws.NoWord.chgDisable (p : HostPath) : NoWord.Statement (.chgDisable p) := fun _ _ h => nomatch h
theorem Sys2Proof.Laws.NoWord.searchEnable (p : HostPath) : NoWord.Statement (.searchEnable p) := fun _ _ h => nomatch h
theorem Sys2Proof.Laws.NoWord.searchDisable (p : HostPath) : NoWord.Statement (.searchDisable p) := fun _ _ h => nomatch h
theorem Sys2Proof.Laws.NoWord.searchStep (vinMv iinMa : Nat) : NoWord.Statement (.searchStep vinMv iinMa) := fun _ _ h => nomatch h
theorem Sys2Proof.Laws.NoWord.periodicSearch : NoWord.Statement .periodicSearch := fun _ _ h => nomatch h
theorem Sys2Proof.Laws.NoWord.chgCmdSearch (p : HostPath) : NoWord.Statement (.chgCmdSearch p) := fun _ _ h => nomatch h
theorem Sys2Proof.Laws.NoWord.chgCmdClearFault (p : HostPath) : NoWord.Statement (.chgCmdClearFault p) := fun _ _ h => nomatch h
theorem Sys2Proof.Laws.NoWord.sagGuard (vinMv : Nat) : NoWord.Statement (.sagGuard vinMv) := fun _ _ h => nomatch h
theorem Sys2Proof.Laws.NoWord.vinLowSet : NoWord.Statement .vinLowSet := fun _ _ h => nomatch h
theorem Sys2Proof.Laws.NoWord.vinLowClear : NoWord.Statement .vinLowClear := fun _ _ h => nomatch h
theorem Sys2Proof.Laws.NoWord.chgPrechargeDone : NoWord.Statement .chgPrechargeDone := fun _ _ h => nomatch h
theorem Sys2Proof.Laws.NoWord.chgCvEntry : NoWord.Statement .chgCvEntry := fun _ _ h => nomatch h
theorem Sys2Proof.Laws.NoWord.chgTerminate : NoWord.Statement .chgTerminate := fun _ _ h => nomatch h
theorem Sys2Proof.Laws.NoWord.chgRecharge : NoWord.Statement .chgRecharge := fun _ _ h => nomatch h
theorem Sys2Proof.Laws.NoWord.batteryOvervoltage : NoWord.Statement .batteryOvervoltage := fun _ _ h => nomatch h
theorem Sys2Proof.Laws.NoWord.prechargeTimerExpire : NoWord.Statement .prechargeTimerExpire := fun _ _ h => nomatch h
theorem Sys2Proof.Laws.NoWord.safetyTimerTick (limInput limThermal : Bool) : NoWord.Statement (.safetyTimerTick limInput limThermal) := fun _ _ h => nomatch h
theorem Sys2Proof.Laws.NoWord.safetyTimerExpire (limInput limThermal : Bool) : NoWord.Statement (.safetyTimerExpire limInput limThermal) := fun _ _ h => nomatch h
theorem Sys2Proof.Laws.NoWord.battRemovalJump : NoWord.Statement .battRemovalJump := fun _ _ h => nomatch h
theorem Sys2Proof.Laws.NoWord.battProbe (dropMv : Nat) (sensorValid : Bool) : NoWord.Statement (.battProbe dropMv sensorValid) := fun _ _ h => nomatch h
theorem Sys2Proof.Laws.NoWord.chgKick (p : HostPath) (v : U16) : NoWord.Statement (.chgKick p v) := fun _ _ h => nomatch h
theorem Sys2Proof.Laws.NoWord.chgWdExpire : NoWord.Statement .chgWdExpire := fun _ _ h => nomatch h
theorem Sys2Proof.Laws.NoWord.tsConversion (i : Fin 16) (m : TsMeas) : NoWord.Statement (.tsConversion i m) := fun _ _ h => nomatch h
theorem Sys2Proof.Laws.NoWord.tsScanEnd : NoWord.Statement .tsScanEnd := fun _ _ h => nomatch h
theorem Sys2Proof.Laws.NoWord.stopTimeout : NoWord.Statement .stopTimeout := fun _ _ h => nomatch h
theorem Sys2Proof.Laws.NoWord.dieConversion (t0 t1 t2 t3 : Int) : NoWord.Statement (.dieConversion t0 t1 t2 t3) := fun _ _ h => nomatch h
theorem Sys2Proof.Laws.NoWord.recoveryWindowClose : NoWord.Statement .recoveryWindowClose := fun _ _ h => nomatch h
theorem Sys2Proof.Laws.NoWord.thrEnWrite (p : HostPath) (i : Fin 16) (v : Byte) : NoWord.Statement (.thrEnWrite p i v) := fun _ _ h => nomatch h
theorem Sys2Proof.Laws.NoWord.faultReport (code unit detail : U16) : NoWord.Statement (.faultReport code unit detail) := fun _ _ h => nomatch h
theorem Sys2Proof.Laws.NoWord.faultAck (p : HostPath) (v : U32) : NoWord.Statement (.faultAck p v) := fun _ _ h => nomatch h
theorem Sys2Proof.Laws.NoWord.unfence (p : HostPath) (v : U16) : NoWord.Statement (.unfence p v) := fun _ _ h => nomatch h
theorem Sys2Proof.Laws.NoWord.collectorParity : NoWord.Statement .collectorParity := fun _ _ h => nomatch h
theorem Sys2Proof.Laws.NoWord.sdoExpeditedRead (l : Link) (usdo valid : Bool) (idx : U16) (sub : Byte) : NoWord.Statement (.sdoExpeditedRead l usdo valid idx sub) := fun _ _ h => nomatch h
theorem Sys2Proof.Laws.NoWord.sdoExpeditedWrite (l : Link) (usdo valid : Bool) (idx : U16) (sub : Byte) (data : List Byte) : NoWord.Statement (.sdoExpeditedWrite l usdo valid idx sub data) := fun _ _ h => nomatch h
theorem Sys2Proof.Laws.NoWord.sdoInitiate (l : Link) (usdo valid download : Bool) (idx : U16) (sub : Byte) : NoWord.Statement (.sdoInitiate l usdo valid download idx sub) := fun _ _ h => nomatch h
theorem Sys2Proof.Laws.NoWord.sdoSegment (l : Link) (toggle last : Bool) (data : List Byte) : NoWord.Statement (.sdoSegment l toggle last data) := fun _ _ h => nomatch h
theorem Sys2Proof.Laws.NoWord.sdoClientAbort (l : Link) : NoWord.Statement (.sdoClientAbort l) := fun _ _ h => nomatch h
theorem Sys2Proof.Laws.NoWord.sdoTimeout (l : Link) : NoWord.Statement (.sdoTimeout l) := fun _ _ h => nomatch h
theorem Sys2Proof.Laws.NoWord.dictWrite (p : HostPath) (idx : U16) (sub : Byte) (data : List Byte) : NoWord.Statement (.dictWrite p idx sub data) := fun _ _ h => nomatch h
theorem Sys2Proof.Laws.NoWord.fenceWrite (p : HostPath) (v : Byte) : NoWord.Statement (.fenceWrite p v) := fun _ _ h => nomatch h
theorem Sys2Proof.Laws.NoWord.fenceComplete (p : HostPath) : NoWord.Statement (.fenceComplete p) := fun _ _ h => nomatch h
theorem Sys2Proof.Laws.NoWord.tagWrite (p : HostPath) (v : Byte) : NoWord.Statement (.tagWrite p v) := fun _ _ h => nomatch h
theorem Sys2Proof.Laws.NoWord.groupRelease (g : Fin 8) : NoWord.Statement (.groupRelease g) := fun _ _ h => nomatch h
theorem Sys2Proof.Laws.NoWord.releaseWrite (p : HostPath) (g : Fin 8) : NoWord.Statement (.releaseWrite p g) := fun _ _ h => nomatch h
theorem Sys2Proof.Laws.NoWord.discardWrite (p : HostPath) (g : Fin 8) : NoWord.Statement (.discardWrite p g) := fun _ _ h => nomatch h
theorem Sys2Proof.Laws.NoWord.nmtStart (l : Link) (node : Byte) : NoWord.Statement (.nmtStart l node) := fun _ _ h => nomatch h
theorem Sys2Proof.Laws.NoWord.nmtStop (l : Link) (node : Byte) : NoWord.Statement (.nmtStop l node) := fun _ _ h => nomatch h
theorem Sys2Proof.Laws.NoWord.nmtEnterPreop (l : Link) (node : Byte) : NoWord.Statement (.nmtEnterPreop l node) := fun _ _ h => nomatch h
theorem Sys2Proof.Laws.NoWord.nmtResetNode (l : Link) (node : Byte) : NoWord.Statement (.nmtResetNode l node) := fun _ _ h => nomatch h
theorem Sys2Proof.Laws.NoWord.nmtResetComm (l : Link) (node : Byte) : NoWord.Statement (.nmtResetComm l node) := fun _ _ h => nomatch h
theorem Sys2Proof.Laws.NoWord.syncReceived (l : Link) : NoWord.Statement (.syncReceived l) := fun _ _ h => nomatch h
theorem Sys2Proof.Laws.NoWord.rpdoReceived (l : Link) (n : Fin 8) (data : List Byte) : NoWord.Statement (.rpdoReceived l n data) := fun _ _ h => nomatch h
theorem Sys2Proof.Laws.NoWord.tpdoEventCheck : NoWord.Statement .tpdoEventCheck := fun _ _ h => nomatch h
theorem Sys2Proof.Laws.NoWord.tpdoEventTimer (n : Fin 8) : NoWord.Statement (.tpdoEventTimer n) := fun _ _ h => nomatch h
theorem Sys2Proof.Laws.NoWord.emcySend (l : Link) : NoWord.Statement (.emcySend l) := fun _ _ h => nomatch h
theorem Sys2Proof.Laws.NoWord.heartbeatSend : NoWord.Statement .heartbeatSend := fun _ _ h => nomatch h
theorem Sys2Proof.Laws.NoWord.heartbeatReceived (l : Link) (node : Byte) : NoWord.Statement (.heartbeatReceived l node) := fun _ _ h => nomatch h
theorem Sys2Proof.Laws.NoWord.heartbeatTimeout (i : Fin 4) : NoWord.Statement (.heartbeatTimeout i) := fun _ _ h => nomatch h
theorem Sys2Proof.Laws.NoWord.busOff (l : Link) : NoWord.Statement (.busOff l) := fun _ _ h => nomatch h
theorem Sys2Proof.Laws.NoWord.busOffRecovery (l : Link) : NoWord.Statement (.busOffRecovery l) := fun _ _ h => nomatch h
theorem Sys2Proof.Laws.NoWord.twAddressMatch (addr : BitVec 7) (read : Bool) : NoWord.Statement (.twAddressMatch addr read) := fun _ _ h => nomatch h
theorem Sys2Proof.Laws.NoWord.twSlotWaitExpire (addr : BitVec 7) : NoWord.Statement (.twSlotWaitExpire addr) := fun _ _ h => nomatch h
theorem Sys2Proof.Laws.NoWord.twStop (bytes : List Byte) (nRead : Nat) : NoWord.Statement (.twStop bytes nRead) := fun _ _ h => nomatch h
theorem Sys2Proof.Laws.NoWord.twRepeatedStart (bytes : List Byte) (nRead : Nat) (addr : BitVec 7) (read : Bool) : NoWord.Statement (.twRepeatedStart bytes nRead addr read) := fun _ _ h => nomatch h
theorem Sys2Proof.Laws.NoWord.mailboxRead (c : Fin 8) : NoWord.Statement (.mailboxRead c) := fun _ _ h => nomatch h
theorem Sys2Proof.Laws.NoWord.mailboxWrite (c : Fin 8) : NoWord.Statement (.mailboxWrite c) := fun _ _ h => nomatch h
theorem Sys2Proof.Laws.NoWord.twTimeout (bytes : List Byte) (nRead : Nat) : NoWord.Statement (.twTimeout bytes nRead) := fun _ _ h => nomatch h
theorem Sys2Proof.Laws.NoWord.twBusRecovery (bytes : List Byte) (nRead : Nat) : NoWord.Statement (.twBusRecovery bytes nRead) := fun _ _ h => nomatch h
theorem Sys2Proof.Laws.NoWord.attnRequest : NoWord.Statement .attnRequest := fun _ _ h => nomatch h
theorem Sys2Proof.Laws.NoWord.twAddrUpdate : NoWord.Statement .twAddrUpdate := fun _ _ h => nomatch h
theorem Sys2Proof.Laws.NoWord.timebaseWrap : NoWord.Statement .timebaseWrap := fun _ _ h => nomatch h
theorem Sys2Proof.Laws.NoWord.cmpValueWrite (p : HostPath) (k : Fin 16) (v : U32) : NoWord.Statement (.cmpValueWrite p k v) := fun _ _ h => nomatch h
theorem Sys2Proof.Laws.NoWord.cmpEnable (p : HostPath) (k : Fin 16) : NoWord.Statement (.cmpEnable p k) := fun _ _ h => nomatch h
theorem Sys2Proof.Laws.NoWord.cmpDisable (p : HostPath) (k : Fin 16) : NoWord.Statement (.cmpDisable p k) := fun _ _ h => nomatch h
theorem Sys2Proof.Laws.NoWord.cmpFire (k : Fin 16) : NoWord.Statement (.cmpFire k) := fun _ _ h => nomatch h
theorem Sys2Proof.Laws.NoWord.captureEdge (k : Fin 8) (edge : BallEdge) : NoWord.Statement (.captureEdge k edge) := fun _ _ h => nomatch h
theorem Sys2Proof.Laws.NoWord.captureRead (p : HostPath) (k : Fin 8) : NoWord.Statement (.captureRead p k) := fun _ _ h => nomatch h
theorem Sys2Proof.Laws.NoWord.capCtrlWrite (p : HostPath) (k : Fin 8) (v : Byte) : NoWord.Statement (.capCtrlWrite p k v) := fun _ _ h => nomatch h
theorem Sys2Proof.Laws.NoWord.wdEnable (p : HostPath) : NoWord.Statement (.wdEnable p) := fun _ _ h => nomatch h
theorem Sys2Proof.Laws.NoWord.wdDisable (p : HostPath) : NoWord.Statement (.wdDisable p) := fun _ _ h => nomatch h
theorem Sys2Proof.Laws.NoWord.wdFirstKey (p : HostPath) : NoWord.Statement (.wdFirstKey p) := fun _ _ h => nomatch h
theorem Sys2Proof.Laws.NoWord.wdSecondKey (p : HostPath) : NoWord.Statement (.wdSecondKey p) := fun _ _ h => nomatch h
theorem Sys2Proof.Laws.NoWord.wdCheckin (p : HostPath) (v : Byte) : NoWord.Statement (.wdCheckin p v) := fun _ _ h => nomatch h
theorem Sys2Proof.Laws.NoWord.wdTimeout : NoWord.Statement .wdTimeout := fun _ _ h => nomatch h
theorem Sys2Proof.Laws.NoWord.sqeHandlerStart : NoWord.Statement .sqeHandlerStart := fun _ _ h => nomatch h
theorem Sys2Proof.Laws.NoWord.pendWrite (p : HostPath) (v : U64) : NoWord.Statement (.pendWrite p v) := fun _ _ h => nomatch h
theorem Sys2Proof.Laws.NoWord.sourcePendWrite (p : HostPath) (src : Fin 64) (v : Byte) : NoWord.Statement (.sourcePendWrite p src v) := fun _ _ h => nomatch h
theorem Sys2Proof.Laws.NoWord.gdisWrite (p : HostPath) (v : Byte) : NoWord.Statement (.gdisWrite p v) := fun _ _ h => nomatch h
theorem Sys2Proof.Laws.NoWord.intEnableWrite (p : HostPath) (m : EnMask) (v : U64) : NoWord.Statement (.intEnableWrite p m v) := fun _ _ h => nomatch h
theorem Sys2Proof.Laws.NoWord.storeCmd (p : HostPath) (v : U16) : NoWord.Statement (.storeCmd p v) := fun _ _ h => nomatch h
theorem Sys2Proof.Laws.NoWord.storeIntervalExpire : NoWord.Statement .storeIntervalExpire := fun _ _ h => nomatch h
theorem Sys2Proof.Laws.NoWord.storeEnd : NoWord.Statement .storeEnd := fun _ _ h => nomatch h
theorem Sys2Proof.Laws.NoWord.storeQueuedStart : NoWord.Statement .storeQueuedStart := fun _ _ h => nomatch h
theorem Sys2Proof.Laws.NoWord.storeVstoreWaitExpire : NoWord.Statement .storeVstoreWaitExpire := fun _ _ h => nomatch h
theorem Sys2Proof.Laws.NoWord.ksDataWrite (p : HostPath) (bytes : List Byte) : NoWord.Statement (.ksDataWrite p bytes) := fun _ _ h => nomatch h
theorem Sys2Proof.Laws.NoWord.cfgBuild (p : HostPath) : NoWord.Statement (.cfgBuild p) := fun _ _ h => nomatch h
theorem Sys2Proof.Laws.NoWord.cfgBuildDone : NoWord.Statement .cfgBuildDone := fun _ _ h => nomatch h
theorem Sys2Proof.Laws.NoWord.cfgCommit (p : HostPath) : NoWord.Statement (.cfgCommit p) := fun _ _ h => nomatch h
theorem Sys2Proof.Laws.NoWord.cfgVerifyDone : NoWord.Statement .cfgVerifyDone := fun _ _ h => nomatch h
theorem Sys2Proof.Laws.NoWord.cfgInstall (p : HostPath) : NoWord.Statement (.cfgInstall p) := fun _ _ h => nomatch h
theorem Sys2Proof.Laws.NoWord.cfgCancel (p : HostPath) : NoWord.Statement (.cfgCancel p) := fun _ _ h => nomatch h
theorem Sys2Proof.Laws.NoWord.cfgImageWrite (p : HostPath) (bytes : List Byte) : NoWord.Statement (.cfgImageWrite p bytes) := fun _ _ h => nomatch h
theorem Sys2Proof.Laws.NoWord.idChallenge (p : HostPath) (bytes : List Byte) : NoWord.Statement (.idChallenge p bytes) := fun _ _ h => nomatch h
theorem Sys2Proof.Laws.NoWord.idExport (p : HostPath) (bytes : List Byte) : NoWord.Statement (.idExport p bytes) := fun _ _ h => nomatch h
theorem Sys2Proof.Laws.NoWord.idSignDone : NoWord.Statement .idSignDone := fun _ _ h => nomatch h
theorem Sys2Proof.Laws.NoWord.cfgKeyEnrol (p : HostPath) (bytes : List Byte) : NoWord.Statement (.cfgKeyEnrol p bytes) := fun _ _ h => nomatch h
theorem Sys2Proof.Laws.NoWord.keyNewWrite (p : HostPath) (bytes : List Byte) : NoWord.Statement (.keyNewWrite p bytes) := fun _ _ h => nomatch h
theorem Sys2Proof.Laws.NoWord.keyNewSigWrite (p : HostPath) (bytes : List Byte) : NoWord.Statement (.keyNewSigWrite p bytes) := fun _ _ h => nomatch h
theorem Sys2Proof.Laws.NoWord.adcEnable (p : HostPath) : NoWord.Statement (.adcEnable p) := fun _ _ h => nomatch h
theorem Sys2Proof.Laws.NoWord.adcDisable (p : HostPath) : NoWord.Statement (.adcDisable p) := fun _ _ h => nomatch h
theorem Sys2Proof.Laws.NoWord.refSelWrite (p : HostPath) (v : Byte) : NoWord.Statement (.refSelWrite p v) := fun _ _ h => nomatch h
theorem Sys2Proof.Laws.NoWord.adcRefReady : NoWord.Statement .adcRefReady := fun _ _ h => nomatch h
theorem Sys2Proof.Laws.NoWord.adcScanStart (p : HostPath) : NoWord.Statement (.adcScanStart p) := fun _ _ h => nomatch h
theorem Sys2Proof.Laws.NoWord.adcConversionEnd (channelNv refNv : Nat) : NoWord.Statement (.adcConversionEnd channelNv refNv) := fun _ _ h => nomatch h
theorem Sys2Proof.Laws.NoWord.adcSampleRead (p : HostPath) (c : Fin 48) : NoWord.Statement (.adcSampleRead p c) := fun _ _ h => nomatch h
theorem Sys2Proof.Laws.NoWord.vsysRecovery : NoWord.Statement .vsysRecovery := fun _ _ h => nomatch h
theorem Sys2Proof.Laws.NoWord.vioRecovery : NoWord.Statement .vioRecovery := fun _ _ h => nomatch h
theorem Sys2Proof.Laws.NoWord.vcc5Recovery : NoWord.Statement .vcc5Recovery := fun _ _ h => nomatch h
theorem Sys2Proof.Laws.NoWord.dieComparatorRelease (d : Fin 4) : NoWord.Statement (.dieComparatorRelease d) := fun _ _ h => nomatch h
theorem Sys2Proof.Laws.NoWord.fanRpmTimeout (n : Fin 32) : NoWord.Statement (.fanRpmTimeout n) := fun _ _ h => nomatch h
theorem Sys2Proof.Laws.NoWord.errorPassiveChange (l : Link) (txErr rxErr : Nat) : NoWord.Statement (.errorPassiveChange l txErr rxErr) := fun _ _ h => nomatch h
theorem Sys2Proof.Laws.NoWord.vstoreOkReached : NoWord.Statement .vstoreOkReached := fun _ _ h => nomatch h
theorem Sys2Proof.Laws.NoWord.vsysPowerOnReset : NoWord.Statement .vsysPowerOnReset := fun _ _ h => nomatch h
theorem Sys2Proof.Laws.NoWord.aonPowerLoss : NoWord.Statement .aonPowerLoss := fun _ _ h => nomatch h
theorem Sys2Proof.Laws.NoWord.coreEnable : NoWord.Statement .coreEnable := fun _ _ h => nomatch h
theorem Sys2Proof.Laws.NoWord.corePowerGood : NoWord.Statement .corePowerGood := fun _ _ h => nomatch h
theorem Sys2Proof.Laws.NoWord.crystalValid : NoWord.Statement .crystalValid := fun _ _ h => nomatch h
theorem Sys2Proof.Laws.NoWord.crystalStartFallback : NoWord.Statement .crystalStartFallback := fun _ _ h => nomatch h
theorem Sys2Proof.Laws.NoWord.pllLock : NoWord.Statement .pllLock := fun _ _ h => nomatch h
theorem Sys2Proof.Laws.NoWord.configApply : NoWord.Statement .configApply := fun _ _ h => nomatch h
theorem Sys2Proof.Laws.NoWord.powerFail : NoWord.Statement .powerFail := fun _ _ h => nomatch h
theorem Sys2Proof.Laws.NoWord.brownOut : NoWord.Statement .brownOut := fun _ _ h => nomatch h
theorem Sys2Proof.Laws.NoWord.brownOutRecovery : NoWord.Statement .brownOutRecovery := fun _ _ h => nomatch h
theorem Sys2Proof.Laws.NoWord.nrstAssert : NoWord.Statement .nrstAssert := fun _ _ h => nomatch h
theorem Sys2Proof.Laws.NoWord.nrstRelease : NoWord.Statement .nrstRelease := fun _ _ h => nomatch h
end

