-- ==== Sys2Proof/Laws/TestPort.lean ====
section
/-! SUPPORT. What an edge of TCK does: it changes the test port and nothing else, and five edges with TMS high reach the reset state. -/

namespace Sys2Proof.Machine
open Sys2Proof

/-- The observe-only port drives nothing: an edge of TCK changes the test port alone (R438), and the free values drawn. -/
theorem clockTap_tap (tms tdi : Bool) (s : State) :
    clockTap tms tdi s = { s with tap := (clockTap tms tdi s).tap, freeCtr := (clockTap tms tdi s).freeCtr } := rfl

/-- The controller moves by TMS alone. -/
theorem clockTap_next (tms tdi : Bool) (s : State) : (clockTap tms tdi s).tap.state = s.tap.state.next tms := rfl

/-- Five edges with TMS high put the controller into Test-Logic-Reset from wherever it stands. -/
theorem TapState.next_five (t : TapState) : ((((t.next true).next true).next true).next true).next true = .testLogicReset := by
  cases t <;> rfl

end Sys2Proof.Machine
end

