-- ==== Sys2Proof/WellFormed.lean ====
section
/-! DEFINITION. Which commands are well formed: the facts that an event carries fit the frame, the pin or the clock they belong to. A
command that is not well formed stands for nothing that can happen; the meanings take it all the same. -/

namespace Sys2Proof

/-- A frame event lies within a frame, which lasts at most PER of 100 kHz: 4 000 core clocks (R105, R132). -/
def FrameEvent.wf : FrameEvent → Bool
  | .badWord clock _ _ _ => decide (clock < 4000)
  | .detector clock _ => decide (clock < 4000)

/-- Data of one CAN FD frame (R332). -/
def fdWf (data : List Byte) : Bool := decide (data.length ≤ 64)

/-- A pin fraction is at most the whole of VCC5 (R277). -/
def TsMeas.wf (m : TsMeas) : Bool := decide (m.frac ≤ 1000000)

/-- A temperature in 0.1 °C lies above absolute zero. -/
def tempWf (t : Int) : Bool := decide (-2731 ≤ t)

/-- A command is well formed. (DEDUCED, log entry 90). -/
def Instr.wf : Instr → Bool
  | .frameStart _ events => events.all FrameEvent.wf
  | .rpdoReceived _ _ d => fdWf d
  | .sdoSegment _ _ _ d => fdWf d
  | .sdoExpeditedWrite _ _ _ _ _ d => fdWf d
  | .tsConversion _ m => m.wf
  | .dieConversion t0 t1 t2 t3 => [t0, t1, t2, t3].all tempWf
  | .corePowerGoodTimeout _ | .coreResetRelease _ _ | .coreReset _ _ | .vioUndervoltage | .vcc5Undervoltage
  | .coreRegulatorFail | .crystalLoss | .coreClockRestart | .clockLossTrip | .dllUnlock | .dllRelock
  | .vdrvUndervoltage _ | .vdrvReady _ | .vinPresent | .vinAbsent | .estopAssert | .estopRelease | .dieComparatorTrip _
  | .modeReqShip _ | .shipCoreOff | .shipAonHold | .shipPbWakeArm | .shipExit _ | .modeReqStandby _ | .standbyCoreOff
  | .latchedWake | .modeReqRun _ | .modeReqSafestop _ | .modeReqService _ | .vinQualified | .holdupTimeExpired
  | .holdupLowBattery | .huTimedExpired _ | .huVoffTurnoff _ | .huTimeWrite _ _ | .reqStatClear _ _ | .svcChallengeRead _
  | .svcAuthWrite _ _ | .svcVerifyDone | .svcAuthExpire | .svcPortWrite _ _ | .svcIdleTimeout | .svckeyAssert
  | .svckeyRelease | .personalityWrite _ _ _ | .periodStart _ _ _ | .pulseCompareFire _ _ | .comparatorTrip _ _ _
  | .gateInterlockTimeout _ | .prechargeDone _ | .prechargeTimeout _ | .senseWord _ _ _ _ | .tripFlagsClear _ _ _
  | .lswFullyEnhanced _ | .lswRampTimeout _ | .lswOverload _ | .coilPullDone _ | .coilRiseTimeout _ | .coilHoldOpen _
  | .coilReleaseTimeout _ | .fanStall _ | .fanOpen _ | .fanTachWrite _ _ _ | .voltageWord _ _ _ _ | .laneDead _
  | .frameEnd _ | .spareTakeover | .portMaskWrite _ _ _ | .railEnable _ _ | .railDisable _ _ | .writeTransfer _
  | .softStartTimeout _ | .truncationCross _ _ | .railFlagsClear _ _ _ | .ledgerSnap _ _ | .ledgerClear _ _ _
  | .mrSlotStart | .correctionIncrement _ | .stolenSample _ _ | .trimUpdate | .aonTrimUpdate | .roundEnable _
  | .roundDisable _ | .stealEnable _ | .stealDisable _ | .seqStepStart | .stepComplete | .stepTimeout | .fallTimeout _
  | .partialRunQueuedStart | .seqCmdRetry _ | .seqCmdSkip _ | .seqCmdAbort _ | .hiccupRetry _ | .hicClearExpire _
  | .supFlagsClear _ _ _ | .cntClear _ _ _ | .pbShortPress | .pbLongPress | .pbIgnored | .mrPress | .rstoutPulseEnd
  | .doorOpen | .doorClose | .seqinChange _ _ | .herdSyncFrame _ | .herdStepFrame _ | .herdEventFrame _
  | .herdPollFrame _ | .herdModeFrame _ | .herdStatusFrame _ | .herdSyncSend | .herdPollSend | .herdMasterLost
  | .herdCollision | .eventSignal _ _ | .chgEnable _ | .chgDisable _ | .searchEnable _ | .searchDisable _
  | .searchStep _ _ | .periodicSearch | .chgCmdSearch _ | .chgCmdClearFault _ | .sagGuard _ | .vinLowSet | .vinLowClear
  | .chgPrechargeDone | .chgCvEntry | .chgTerminate | .chgRecharge | .batteryOvervoltage | .prechargeTimerExpire
  | .safetyTimerTick _ _ | .safetyTimerExpire _ _ | .battRemovalJump | .battProbe _ _ | .chgKick _ _ | .chgWdExpire
  | .tsScanEnd | .stopTimeout | .recoveryWindowClose | .thrEnWrite _ _ _ | .faultReport _ _ _ | .faultAck _ _
  | .unfence _ _ | .collectorParity | .sdoExpeditedRead _ _ _ _ _ | .sdoInitiate _ _ _ _ _ _ | .sdoClientAbort _
  | .sdoTimeout _ | .dictWrite _ _ _ _ | .fenceWrite _ _ | .fenceComplete _ | .tagWrite _ _ | .groupRelease _
  | .releaseWrite _ _ | .discardWrite _ _ | .nmtStart _ _ | .nmtStop _ _ | .nmtEnterPreop _ _ | .nmtResetNode _ _
  | .nmtResetComm _ _ | .syncReceived _ | .tpdoEventCheck | .tpdoEventTimer _ | .emcySend _ | .heartbeatSend
  | .heartbeatReceived _ _ | .heartbeatTimeout _ | .busOff _ | .busOffRecovery _ | .twAddressMatch _ _
  | .twSlotWaitExpire _ | .twStop _ _ | .twRepeatedStart _ _ _ _ | .mailboxRead _ | .mailboxWrite _ | .twTimeout _ _
  | .twBusRecovery _ _ | .attnRequest | .twAddrUpdate | .timebaseWrap | .cmpValueWrite _ _ _ | .cmpEnable _ _
  | .cmpDisable _ _ | .cmpFire _ | .captureEdge _ _ | .captureRead _ _ | .capCtrlWrite _ _ _ | .wdEnable _ | .wdDisable _
  | .wdFirstKey _ | .wdSecondKey _ | .wdCheckin _ _ | .wdTimeout | .sqeHandlerStart | .pendWrite _ _
  | .sourcePendWrite _ _ _ | .gdisWrite _ _ | .intEnableWrite _ _ _ | .storeCmd _ _ | .storeIntervalExpire | .storeEnd
  | .storeQueuedStart | .storeVstoreWaitExpire | .ksDataWrite _ _ | .cfgBuild _ | .cfgBuildDone | .cfgCommit _
  | .cfgVerifyDone | .cfgInstall _ | .cfgCancel _ | .cfgImageWrite _ _ | .idChallenge _ _ | .idExport _ _ | .idSignDone
  | .cfgKeyEnrol _ _ | .keyNewWrite _ _ | .keyNewSigWrite _ _ | .adcEnable _ | .adcDisable _ | .refSelWrite _ _
  | .adcRefReady | .adcScanStart _ | .adcConversionEnd _ _ | .adcSampleRead _ _ | .vsysRecovery | .vioRecovery
  | .vcc5Recovery | .dieComparatorRelease _ | .fanRpmTimeout _ | .errorPassiveChange _ _ _ | .vstoreOkReached
  | .vsysPowerOnReset | .aonPowerLoss | .coreEnable | .corePowerGood | .crystalValid | .crystalStartFallback | .pllLock
  | .configApply | .powerFail | .brownOut | .brownOutRecovery | .nrstAssert | .nrstRelease => true

end Sys2Proof
end

