-- ==== Sys2Proof/Tests/Slice0.lean ====
section
/-! SUPPORT. Tests: ill-formed commands, small steps with results worked out from the spec, and for every statement with hypotheses
a state and operands that meet them, clause by clause. -/

open Sys2Proof Sys2Proof.Machine

namespace Sys2Proof.Tests

/-! ## States to test on -/

/-- The device open in a mode, its supplies and clocks good, both links up. -/
def opened (m : Mode) : State :=
  { State.reset with
    pwr := { Power.reset with step := .running, vsys := .ok, vcc5 := true, vcore := true, vstoreOk := true, regMon := true,
                              vcc5Mon := true, clkMon := true, xtalOsc := true, xtalOk := true, pllLock := true, dllLock := true,
                              vdrv := 0xFF, vdrvSeen := 0xFF }
    md := { Modes.reset with mode := m }
    can := { Can.reset with nodeId := 5, nmt := .operational, links := Vector.replicate 2 { LinkState.reset with enabled := true } } }

/-- The device at a step of Table 2-5, in STANDBY. -/
def atStep (st : PowerStep) : State := { State.reset with pwr := { Power.reset with step := st } }

/-- A state whose registers hold some values (key, value), in rising order. -/
def withRegs (s : State) (l : List (Key × Nat)) : State := { s with regs := l }

/-- A state whose active copies hold some values. -/
def withActive (s : State) (l : List (Key × Nat)) : State := { s with active := l }

/-- All ports alike. -/
def withPorts (s : State) (p : Port) : State := { s with ports := Vector.replicate 32 p }

/-- All rails alike. -/
def withRails (s : State) (r : Rail) : State := { s with rails := Vector.replicate 16 r }

/-- The two-wire path of context 0, which brings its slot with it. -/
def path0 : HostPath := .tw 0

/-! ## Ill-formed commands -/

theorem test_wf_frame_event : Instr.wf (.frameStart 0 [.badWord 4000 .sample 0 false]) = false := by decide
theorem test_wf_frame_detector : Instr.wf (.frameStart 0 [.detector 4000 .overrun]) = false := by decide
theorem test_wf_rpdo_length : Instr.wf (.rpdoReceived .a 0 (List.replicate 65 0)) = false := by decide
theorem test_wf_segment_length : Instr.wf (.sdoSegment .a false true (List.replicate 65 0)) = false := by decide
theorem test_wf_expedited_length : Instr.wf (.sdoExpeditedWrite .a true true 0x1017 0 (List.replicate 65 0)) = false := by decide
theorem test_wf_pin_fraction :
    Instr.wf (.tsConversion 0 { dVbe := 0, pinHi := 0, pinLo := 0, frac := 1000001, vUp := 0, vDown := 0 }) = false := by decide
theorem test_wf_die_temperature : Instr.wf (.dieConversion 250 250 (-2732) 250) = false := by decide
theorem test_wf_accepts : Instr.wf (.frameStart 0 [.badWord 3999 .sample 0 false]) = true := by decide

/-! ## Witnesses: supplies, clocks, reset -/

theorem witness_EmptyQueuePassesOneTick : (opened .run).pending = [] ∧ (opened .run).tbRuns = true
    ∧ (∀ e : Fin 9, (opened .run).engines[e].frame = none)
    ∧ (let s := { opened .run with tb := { Timebase.reset with count := 249 } };
      s.pending = [] ∧ s.tbRuns = true ∧ s.live = true ∧ (s.tb.count + 1).toNat % 250 = 0 ∧ (31 : Fin 32).1 < s.variant.ports
        ∧ (s.pulsing 31 && s.leads 31) = false ∧ 3 ∈ portMirrors ∧ (15 : Fin 16).1 < s.variant.rails ∧ s.beatPhase 15 = none
        ∧ 0x0F ∈ railMirrors ∧ 0x0F ≠ 0x63)
    ∧ (atStep .unpowered).pending = [] ∧ (atStep .unpowered).tbRuns = false := by decide +kernel

theorem witness_InterruptRegistersHoldPendingSources : (opened .run).ready = true
    ∧ (∃ t, step (opened .run) = .next t ∧ t.ready = true) ∧ (opened .run).irq.activeA = none :=
  ⟨by decide, ⟨_, rfl, by decide +kernel⟩, by decide⟩

theorem witness_KeepStoreKeepsCanonicalForm : Memory.wf State.reset.ks.sram.user = true
    ∧ Memory.wf State.reset.ks.shadow.user = true ∧ State.reset.ks.running = none ∧ ∃ t, step State.reset = .next t :=
  ⟨by decide, by decide, rfl, _, rfl⟩

theorem witness_PowerUpStepsInOrder :
    ((atStep .aonUp).pwr.step = .aonUp ∧ (atStep .aonUp).pwr.coreWanted = true ∧ (atStep .aonUp).pwr.regFailed = false
      ∧ (atStep .aonUp).pwr.vsys ≠ .brownOut)
    ∧ (atStep .enabled).pwr.step = .enabled ∧ (atStep .good).pwr.step = .good ∧ (atStep .clocked).pwr.step = .clocked := by decide

theorem witness_PowerUpStepsSevenAndEight : (atStep .locked).pwr.step = .locked ∧ (atStep .locked).pwr.gated = false ∧ (atStep .released).pwr.step = .released := by
  decide

theorem witness_FullResetsStartAgain :
    (atStep .unpowered).latch.estop = false ∧ (atStep .unpowered).latch.die.getLsbD 3 = false
    ∧ (atStep .unpowered).pwr.step = .unpowered ∧ (atStep .nrstLow).pwr.step = .nrstLow
    ∧ ({ atStep .aonUp with pwr := { Power.reset with vsys := .brownOut } } : State).aonUp = true
    ∧ (let s := { atStep .shipHold with md := { Modes.reset with mode := .ship } };
      s.md.mode = .ship ∧ ({ s with pwr := { s.pwr with pbArmed := true } } : State).pwr.pbArmed = true)
    ∧ (opened .ship).md.mode = .ship ∧ (atStep .aonUp).ks.running = none := by decide

theorem witness_AonIslandDown : (opened .run).pwr.step ≠ .unpowered ∧ (opened .run).pwr.step ≠ .nrstLow := by decide

theorem witness_CoreDomainOff :
    (let s := { opened .run with pwr := { (opened .run).pwr with vsys := .powerFail } };
      s.aonUp = true ∧ s.pwr.vsys = .powerFail ∧ s.pwr.step ≠ .aonUp)
    ∧ (let s := { opened .ship with pwr := { (opened .ship).pwr with entering := true } };
      s.md.mode = .ship ∧ s.pwr.entering = true ∧ s.storePending .ship = false)
    ∧ (let s := { opened .standby with pwr := { (opened .standby).pwr with entering := true } };
      s.md.mode = .standby ∧ s.coreOn = true ∧ s.pwr.entering = true ∧ s.storePending .standby = false)
    ∧ (let s := { opened .safestop with pwr := { (opened .safestop).pwr with entering := true } };
      s.md.mode = .safestop ∧ s.coreOn = true ∧ s.pwr.entering = true ∧ s.storePending .standby = false)
    ∧ (let s := { atStep .aonUp with md := { Modes.reset with mode := .ship } };
      s.md.mode = .ship ∧ s.pwr.step = .aonUp ∧ s.pwr.entering = false ∧ s.ks.running = none)
    ∧ (opened .ship).md.mode = .ship := by decide

theorem witness_TripSourcesTrip :
    (opened .run).aonUp = true ∧ (opened .run).pwr.vsys = .ok ∧ (opened .run).live = true ∧ (opened .run).pwr.vcc5Mon = true
    ∧ (opened .run).pwr.vcc5 = true ∧ (opened .run).pwr.regMon = true ∧ (opened .run).pwr.vsys ≠ .brownOut
    ∧ (atStep .enabled).pwr.step = .enabled
    ∧ (let s := { opened .run with pwr := { (opened .run).pwr with gated := true } };
      s.pwr.clkMon = true ∧ s.latch.clock = false ∧ s.md.mode ≠ .ship)
    ∧ (opened .run).latch.estop = false ∧ (opened .run).md.mode ≠ .ship ∧ (opened .ship).latch.estop = false ∧ (opened .ship).md.mode = .ship
    ∧ (opened .run).latch.die.getLsbD 3 = false ∧ (opened .run).coreOn = true
    ∧ (opened .run).booting = false ∧ (atStep .enabled).booting = true := by decide

theorem witness_SuppliesRecover :
    (let s := { opened .safestop with pwr := { (opened .safestop).pwr with vsys := .powerFail } };
      s.aonUp = true ∧ s.pwr.vsys = .powerFail)
    ∧ (opened .safestop).pwr.vcc5Mon = true
    ∧ (let s := { opened .run with ks := { Keep.reset with waiting := some .command } };
      s.ks.waiting.isSome = true ∧ s.aonUp = true ∧ s.ks.running = none) := by decide

theorem witness_CoreClockLossAndReturn :
    (opened .run).coreOn = true ∧ (opened .run).pwr.gated = false ∧ (opened .run).pwr.xtalOk = true ∧ (opened .run).pwr.refAon = false
    ∧ (let s := withPorts (opened .run) { Port.reset with state := .switching, gh := true };
      (0 : Fin 32).1 < s.variant.ports ∧ s.ports[(0 : Fin 32)].state ≠ .off ∧ s.ports[(0 : Fin 32)].state ≠ .fenced
        ∧ s.ports[(0 : Fin 32)].state ≠ .held)
    ∧ (let s := { opened .run with pwr := { (opened .run).pwr with gated := true } };
      s.pwr.gated = true ∧ s.coreOn = true)
    ∧ (opened .run).live = true ∧ (opened .run).pwr.dllLock = true ∧ (opened .run).pwr.pllLock = true := by decide

theorem witness_DriverAndInputSupplies :
    (opened .run).pwr.vdrv.getLsbD 7 = true ∧ (opened .run).live = true ∧ (7 : Fin 8).1 < (opened .run).variant.groups
    ∧ (opened .run).pwr.vdrvSeen.getLsbD 7 = true ∧ (opened .run).aonUp = true ∧ (opened .run).pwr.vin = false
    ∧ (let s := { opened .run with pwr := { (opened .run).pwr with vin := true } };
      s.pwr.vin = true ∧ s.ready = true ∧ s.md.mode = .run ∧ s.chg.holdupLost = false) := by decide

/-! ## Witnesses: modes, requests, front panel, sequences -/

/-- A change of the supplies. -/
def onPwr (s : State) (f : Power → Power) : State := { s with pwr := f s.pwr }

/-- A change of the mode's record. -/
def onMd (s : State) (f : Modes → Modes) : State := { s with md := f s.md }

/-- A change of the sequencer. -/
def onSqe (s : State) (f : Sqe → Sqe) : State := { s with sqe := f s.sqe }

/-- The device in STANDBY with its core domain off, both links in low-rate operation. -/
def asleep : State := onPwr (opened .standby) fun x => { x with step := .aonUp, coreWanted := false }

theorem witness_CoreResetOnlyInSafestop :
    (opened .safestop).hears path0 ∧ (opened .run).hears path0 ∧ (opened .run).md.mode ≠ .safestop
    ∧ (1 : U32) ≠ 0x43525354 ∧ (opened .run).pwr.regFailed = false ∧ (opened .run).linkUp .b = true ∧ (5 : Byte).toNat = (opened .run).can.nodeId := by
  unfold State.hears; decide +kernel

theorem witness_ShipRefusedWhileVinPresent :
    (let s := onPwr (opened .safestop) fun x => { x with vin := true };
      s.hears path0 ∧ s.pwr.vin = true) := by
  unfold State.hears; decide +kernel

/-- The device in a mode with a live service authorisation and SVCKEY held. -/
def authorised (m : Mode) : State :=
  { onMd (opened m) (fun x => { x with svcStat := 2, authAt := 2500000 }) with
    pins := { Pins.reset with svckey := true }, tb := { Timebase.reset with count := 252500000 } }

/-- A follower of a herd, node 3, in a mode. -/
def following (m : Mode) : State := onPwr (withRegs (opened m) [(key 0x2D00 1, 1)]) fun x => { x with strap := 3 }

theorem witness_ModeWritesEnterModes :
    ((opened .safestop).hears path0 ∧ (opened .safestop).md.mode = .safestop ∧ (opened .safestop).pwr.vin = false
      ∧ (opened .safestop).latch.set = false ∧ (opened .safestop).herdFollows = false ∧ (opened .safestop).stopCause = false)
    ∧ ((opened .service).hears path0 ∧ (opened .service).herdFollows = false ∧ (opened .service).stopCause = false)
    ∧ ((opened .run).hears path0 ∧ (opened .run).herdFollows = false ∧ (opened .holdup).hears path0 ∧ (opened .holdup).herdFollows = false)
    ∧ (let s := onSqe (opened .startup) fun x => { x with stat := .powerUp, phase := .wait };
      s.hears path0 ∧ s.herdFollows = false ∧ s.sqe.phase ≠ .start)
    ∧ ((following .run).hears path0 ∧ (following .run).herdFollows = true ∧ (following .holdup).hears path0
      ∧ (following .holdup).herdFollows = true ∧ (following .startup).hears path0 ∧ (following .startup).herdFollows = true)
    ∧ ((authorised .safestop).hears path0 ∧ (authorised .safestop).serviceOk = true ∧ (authorised .safestop).md.mode = .safestop
      ∧ (authorised .run).hears path0 ∧ (authorised .run).serviceOk = true ∧ (authorised .run).md.mode = .run
      ∧ (authorised .run).herdFollows = false) := by
  unfold State.hears; decide +kernel

theorem witness_EndOfRunAndHoldup :
    (let s := withActive (withRegs (onPwr (opened .holdup) fun x => { x with vin := true })
        [(key 0x2203 3, 1), (key 0x2500 0x24, 1)]) [(key 0x2203 3, 1), (key 0x2203 0x62, 3000), (key 0x2500 0x24, 1)];
      let t := { withRails s { Rail.reset with huRun := true } with tb := { Timebase.reset with count := 1500000000 } };
      t.ready = true ∧ t.md.mode = .holdup ∧ t.pwr.vin = true ∧ t.latch.set = false ∧ t.pwr.vio = true ∧ t.huElapsed = true ∧ t.herdFollows = false ∧ t.sqe.stat = .idle
        ∧ t.sqe.queue = [] ∧ t.rails[(3 : Fin 16)].huRun = true
        ∧ t.chg.holdAt + t.act (railIdx 3) 0x61 * 1000 * ticksPerMs ≤ t.coreNow
        ∧ t.act (railIdx 3) 0x62 ≠ 0 ∧ t.enabled 3 = true) := by
  decide +kernel

theorem witness_WakesReachTheCoreDomain :
    (let s := withRegs (onPwr asleep fun x => { x with vin := true, lateWake := some .pb }) [(key 0x2000 6, 2)];
      s.coreOn = false ∧ s.pwr.lateWake = some .pb ∧ Wake.pb ≠ .modeWrite ∧ s.asleep = true ∧ s.pwr.regFailed = false ∧ s.md.mode = .standby
        ∧ s.pwr.vin = true ∧ (s.reg 0x2000 6).testBit 1 = true ∧ s.pathServes .canA = true ∧ s.slotFree = true
        ∧ s.paths[pathIx .canA].tag = 0)
    ∧ (let s := onPwr (atStep .aonUp) fun x => { x with lateWake := some .modeWrite };
      let u := onMd s fun x => { x with mode := .safestop };
      let v := onPwr u fun x => { x with lateOther := some .pb };
      u.coreOn = false ∧ u.pwr.lateWake = some .modeWrite ∧ u.md.mode = .safestop ∧ u.pwr.lateOther = none
        ∧ v.coreOn = false ∧ v.pwr.lateWake = some .modeWrite ∧ v.md.mode = .safestop ∧ v.pwr.lateOther = some .pb) := by
  decide +kernel

theorem witness_ServiceChallengeAndKey :
    (let s := onMd (opened .run) fun x => { x with challenge := [1] };
      s.hears path0 ∧ (List.replicate 64 (0 : Byte)).length = 64 ∧ s.md.svcStat = 0 ∧ s.md.challenge ≠ [])
    ∧ (opened .run).hears path0 ∧ (opened .run).keyGen = 0 ∧ (opened .run).md.svcStat ≠ 1 ∧ (opened .run).md.challenge = []
    ∧ (let s := onMd (opened .run) fun x => { x with svcStat := 1 };
      s.ready = true ∧ s.md.svcStat = 1)
    ∧ (let s := { onMd (opened .run) (fun x => { x with svcStat := 2, authAt := 7 }) with
                  tb := { Timebase.reset with count := 250000007 } };
      s.md.svcStat = 2 ∧ s.md.authAt + 10000 * ticksPerMs ≤ s.coreNow)
    ∧ (let s := { opened .service with pins := { Pins.reset with svckey := true } };
      s.hears path0 ∧ s.ready = true ∧ s.md.mode = .service ∧ s.stopCause = false ∧ (31 : Byte).toNat < s.variant.ports
        ∧ s.reg 0x2000 0x0D = 0xFF ∧ s.pins.svckey = true)
    ∧ (opened .run).pins.svckey = false := by
  unfold State.hears; decide +kernel

theorem witness_RequestFlagsAndHoldTime :
    (opened .run).hears path0 ∧ (opened .run).md.requal = false ∧ (86400 : U32).toNat ≤ 86400 ∧ (opened .run).md.mode ≠ .holdup
    ∧ (opened .run).chg.wdStopped = false ∧ chargerOk (opened .run).reg = true ∧ (opened .run).settled 0x2500
    ∧ (let s := { opened .holdup with tb := { Timebase.reset with count := 25000000 } };
      s.hears path0 ∧ s.md.mode = .holdup ∧ (1 : U32) ≠ 0 ∧ s.chg.holdAt + (1 : U32).toNat * 1000 * ticksPerMs ≤ s.coreNow
        ∧ s.herdFollows = false ∧ s.chg.wdStopped = false ∧ chargerOk s.reg = true ∧ s.settled 0x2500) := by
  unfold State.hears State.settled; decide +kernel

theorem witness_FrontPanelEvents :
    (let s := withRegs (opened .run) [(key 0x2300 0x0D, 1)];
      s.live = true ∧ s.ready = true ∧ s.md.mode = .run ∧ s.md.mode ≠ .ship ∧ s.herdFollows = false ∧ s.reg 0x2300 0x0D = 1)
    ∧ asleep.asleep = true ∧ asleep.pwr.regFailed = false ∧ asleep.md.mode = .standby := by
  decide +kernel

/-- The device in a mode with step 1 of three steps in hand, of a script and a phase, its settings (subindex, value) as given. -/
def scripted (m : Mode) (st : SeqStat) (ph : StepPhase) (l : List (Nat × Nat)) : State :=
  onSqe (withRegs (opened m) ([(key 0x2300 2, 3), (key 0x2300 3, 0), (key 0x2300 4, 3)] ++ l.map fun x => (key 0x2341 x.1, x.2))) fun x =>
    { x with stat := st, step := 1, phase := ph, begun := true }

/-- Step 1 of such a script, in its wait on a rail's power-good that has passed the limit of its time-out, with a policy. -/
def timing (m : Mode) (st : SeqStat) (policy : Nat) : State := scripted m st .wait [(3, 1), (4, 1), (5, 100), (6, policy)]

theorem witness_SequenceStepsRun :
    ((scripted .startup .powerUp .start []).ready = true ∧ ((scripted .startup .powerUp .start []).reg 0x2D00 1).testBit 0 = false
      ∧ (scripted .shutdown .powerDown .start []).ready = true ∧ ((scripted .shutdown .powerDown .start []).reg 0x2D00 1).testBit 0 = false)
    ∧ (let ok := fun (k : Nat) (s : State) => s.sqe.phase = .start ∧ s.inScript = true ∧ s.sqe.begun = true ∧ s.stepSet s.sqe.step 1 = k
        ∧ s.stepSet s.sqe.step 3 ≠ 1;
      ok 2 (scripted .startup .powerUp .start [(1, 2), (2, 5)]) ∧ ok 3 (scripted .startup .powerUp .start [(1, 3), (2, 3)])
        ∧ ok 4 (scripted .startup .powerUp .start [(1, 4), (2, 3)]) ∧ ok 5 (scripted .startup .powerUp .start [(1, 5), (2, 15)])
        ∧ ok 2 (scripted .shutdown .powerDown .start [(1, 2), (2, 0xFFFF)])
        ∧ ok 1 (scripted .startup .powerUp .start [(1, 1), (2, 1)]))
    ∧ (let s := withActive (scripted .startup .powerUp .start [(1, 1), (2, 1)]) [(key 0x2101 1, 1), (key 0x2200 1, 2)];
      s.stepSet s.sqe.step 1 = 1 ∧ s.stepSet s.sqe.step 2 = 1 ∧ s.enableFails 1 = 0 ∧ (1 : Nat).testBit (0 : Fin 16).1 = true ∧ s.blocked 0 = false
        ∧ s.inScript = true ∧ s.sqe.phase = .start)
    ∧ (let s := withRails (scripted .startup .powerUp .start [(3, 1), (4, 1)]) { Rail.reset with state := .softStart };
      s.inScript = true ∧ s.stepSet s.sqe.step 3 = 1 ∧ (s.stepSet s.sqe.step 4).testBit (0 : Fin 16).1 = true
        ∧ ∀ r : Fin 16, (s.stepSet s.sqe.step 4).testBit r.1 = true → s.railState r ≠ .fenced ∧ s.railState r ≠ .tripped)
    ∧ (let ok := fun s : State => s.sqe.phase = .wait ∧ s.metNow = false ∧ s.stepSet s.sqe.step 5 ≠ 0 ∧ s.sqe.forced = false
        ∧ s.stepSet s.sqe.step 3 ≠ 2 ∧ s.ready = true ∧ s.sqe.step + 1 < 3;
      (∀ p : Fin 3, ok (timing .startup .powerUp p.1) ∧ (timing .startup .powerUp p.1).stepSet 1 6 = p.1
        ∧ ok (timing .shutdown .powerDown p.1) ∧ (timing .shutdown .powerDown p.1).stepSet 1 6 = p.1)
        ∧ (timing .startup .powerUp 2).md.mode = .startup)
    ∧ (let s := scripted .startup .powerUp .wait [];
      let u := onPwr (onSqe s fun x => { x with step := 2 }) fun x => { x with vin := true };
      let v := onMd (onSqe (scripted .shutdown .powerDown .wait []) fun x => { x with step := 2 }) fun x => { x with stopFault := true };
      s.sqe.phase = .wait ∧ s.metNow = true ∧ s.sqe.step + 1 < s.reg 0x2300 1 + s.reg 0x2300 2
        ∧ (u.sqe.phase = .wait ∧ u.metNow = true ∧ u.reg 0x2300 1 + u.reg 0x2300 2 ≤ u.sqe.step + 1 ∧ u.pwr.vin = true ∧ u.ready = true)
        ∧ v.sqe.phase = .wait ∧ v.metNow = true ∧ v.reg 0x2300 3 + v.reg 0x2300 4 ≤ v.sqe.step + 1 ∧ v.md.stopFault = true ∧ v.ready = true)
    ∧ (let s := onSqe (opened .run) fun x => { x with queue := [.turnOff 15] };
      s.sqe.stat = .idle ∧ s.sqe.queue = .turnOff 15 :: [])
    ∧ (let s := onSqe (withRails (opened .run) { Rail.reset with state := .regulating }) fun x =>
        { x with stat := .powerDown, phase := .fall, named := 0x8000 };
      s.pos.phase = .fall ∧ s.pos.named.getLsbD 15 = true ∧ s.sqe.fallen.getLsbD 15 = false ∧ s.fallenRail 15 = false) := by
  refine ⟨by decide +kernel, by decide +kernel, by decide +kernel, by decide +kernel, by decide +kernel, by decide +kernel, by decide +kernel,
    by decide +kernel⟩

theorem witness_HaltedScriptCommands :
    (let s := onSqe (withRegs (opened .startup) [(key 0x2300 2, 2)]) fun x => { x with stat := .halted, step := 0, phase := .wait };
      s.hears path0 ∧ s.sqe.stat = .halted ∧ s.stepSet s.sqe.step 3 ≠ 1 ∧ (s.reg 0x2D00 1).testBit 0 = false
        ∧ s.sqe.step + 1 < s.reg 0x2300 1 + s.reg 0x2300 2 ∧ s.md.mode = .startup ∧ s.herdFollows = false ∧ s.sqe.phase ≠ .start)
    ∧ (let s := onSqe (withRegs (opened .startup) [(key 0x2300 2, 2), (key 0x2340 3, 1), (key 0x2340 4, 1)]) fun x =>
        { x with stat := .halted, step := 0, phase := .fall };
      s.sqe.stat = .halted ∧ s.stepSet s.sqe.step 3 = 1 ∧ s.sqe.phase = .fall
        ∧ ∀ r : Fin 16, (s.stepSet s.sqe.step 4).testBit r.1 = true → s.railFails r = 0)
    ∧ (opened .run).hears path0 ∧ (opened .run).sqe.stat ≠ .halted := by
  unfold State.hears; decide +kernel

/-! ## Witnesses: ports, rails, conversion, engines -/

/-- The device in RUN with port 1 a BUCK port, the one phase of rail 0, enabled. -/
def bucks : State :=
  let l := [(key 0x2101 1, 1), (key 0x2200 1, 2), (key 0x2200 3, 1)]
  withActive (withRegs (opened .run) l) l

/-- All ports of `bucks` switching, the main gate on. -/
def switching : State := withPorts bucks { Port.reset with state := .switching, gh := true }

/-- The device in RUN with port 1 of a personality and in a state. -/
def portIn (p : Nat) (st : PortState) : State :=
  withPorts (withActive (withRegs (opened .run) [(key 0x2101 1, p)]) [(key 0x2101 1, p)]) { Port.reset with state := st }

theorem witness_PortPeriodsAndEdges :
    (let s := withPorts bucks { Port.reset with state := .switching, backRun := 6, shortRun := 6, bstRun := 6, fired := [.blank] };
      s.live = true ∧ s.pulsing 1 = true ∧ s.leads 1 = true ∧ s.ports[(1 : Fin 32)].ending = none
        ∧ s.ports[(1 : Fin 32)].backRun < 7 ∧ s.ports[(1 : Fin 32)].shortRun < 7 ∧ s.railOf 1 = some 0 ∧ s.beatPhase 0 = some 1
        ∧ s.byCycle 1 = true ∧ s.ports[(1 : Fin 32)].bstRun < 7 ∧ s.ports[(1 : Fin 32)].fired.contains .maxOn = false
        ∧ s.ports[(1 : Fin 32)].limPend = false ∧ s.pers 1 = 1 ∧ s.ports[(1 : Fin 32)].fired.contains .blank = true)
    ∧ (let s := withPorts bucks { Port.reset with state := .switching, limPend := true, filt := true };
      s.live = true ∧ s.pulsing 1 = true ∧ s.leads 1 = true ∧ s.ports[(1 : Fin 32)].fired.contains .blank = false
        ∧ s.ports[(1 : Fin 32)].limPend = true ∧ s.ports[(1 : Fin 32)].filt = true ∧ s.ports[(1 : Fin 32)].limitNow = false)
    ∧ (let s := withActive (portIn 6 .switching) [(key 0x2101 1, 6), (key 0x2101 0x30, 99)];
      s.live = true ∧ s.pulsing 1 = true ∧ s.leads 1 = true ∧ s.railOf 1 = none ∧ s.pers 1 = 6 ∧ s.act (portIdx 1) 0x30 < 100
        ∧ s.ports[(1 : Fin 32)].fired.contains .fanDuty = false ∧ s.ports[(1 : Fin 32)].limPend = false)
    ∧ (let s := withPorts bucks { Port.reset with state := .switching, onDue := true, wrapped := true, onAt := 5, newCmd := some (3, 9) };
      s.live = true ∧ s.pulsing 1 = true ∧ s.leads 1 = true ∧ s.ports[(1 : Fin 32)].onDue = true ∧ s.ports[(1 : Fin 32)].wrapped = true
        ∧ s.ports[(1 : Fin 32)].onAt < s.portPer 1 ∧ s.ports[(1 : Fin 32)].limPend = false)
    ∧ (let s := fun b : Bool => withPorts bucks { Port.reset with state := .switching, newCmd := some (3, 9), wrapped := b, count := 90 };
      ∀ b : Bool, (s b).live = true ∧ (s b).pulsing 1 = true ∧ (s b).leads 1 = true ∧ (s b).ports[(1 : Fin 32)].ending = none
        ∧ (s b).ports[(1 : Fin 32)].onDue = false ∧ (s b).turnOnAt 1 false 0 < 90 ∧ 0 < (s b).turnOnAt 1 false 0) := by
  decide +kernel

/-- `bucks` with all ports switching at the limit code of port 1, the turn-on of the period made or still to come, and a trip mode. -/
def atLimit (due : Bool) (mode : Nat) : State :=
  withPorts (withActive bucks [(key 0x2101 1, 1), (key 0x2101 0x0E, mode), (key 0x2200 1, 2), (key 0x2200 3, 1)])
    { Port.reset with state := .switching, gh := !due, onDue := due, onAt := 5, dac := 10, cmd := 10, newCmd := some (10, 10), lim := some 10,
                      timing := some { (bucks.timingNow 1) with tripMode := mode } }

theorem witness_ComparatorTripsEndPulses :
    (let u := turnOnBy switching 1 true;
      switching.live = true ∧ switching.pulsing 1 = true ∧ switching.pers 1 = 1 ∧ u.mainOn 1 = true
        ∧ u.ports[(1 : Fin 32)].dac ≠ (u.limitOf 1 : Int) ∧ switching.act (portIdx 1) 8 ≤ 12 ∧ 11 < switching.act (portIdx 1) 8)
    ∧ (∀ (due : Bool) (mode : Fin 2),
      let s := atLimit due mode.1
      let u := turnOnBy s 1 true;
      s.live = true ∧ s.pulsing 1 = true ∧ s.pers 1 = 1 ∧ u.mainOn 1 = true ∧ u.ports[(1 : Fin 32)].dac = (u.limitOf 1 : Int)
        ∧ s.ports[(1 : Fin 32)].limitNow = false ∧ s.byCycle 1 = decide (mode = 0) ∧ s.act (portIdx 1) 8 ≤ 12 ∧ 11 < s.act (portIdx 1) 8
        ∧ s.railOf 1 = some 0 ∧ s.rails[(0 : Fin 16)].state ≠ .fenced ∧ s.rails[(0 : Fin 16)].state ≠ .held) := by
  decide +kernel

theorem witness_PortStatesMove :
    (portIn 4 .precharge).live = true ∧ (portIn 4 .precharge).ports[(1 : Fin 32)].state = .precharge
    ∧ (1 ≤ (portIn 4 .precharge).pers 1 ∧ (portIn 4 .precharge).pers 1 ≤ 5) ∧ (portIn 4 .ramp).railOf 1 = none
    ∧ (let s := withPorts (withActive (withRegs (opened .run) [(key 0x2101 1, 5), (key 0x2200 1, 2)]) [(key 0x2101 1, 5), (key 0x2200 1, 2)])
        { Port.reset with state := .pullIn };
      s.live = true ∧ s.ports[(1 : Fin 32)].state = .pullIn ∧ s.railOf 1 = some 0 ∧ s.phases 0 = [1] ∧ s.pers 1 = 5
        ∧ s.rails[(0 : Fin 16)].state ≠ .fenced)
    ∧ (portIn 4 .ramp).ports[(1 : Fin 32)].state = .ramp ∧ (portIn 5 .pullIn).ports[(1 : Fin 32)].state = .pullIn
    ∧ (portIn 5 .release).ports[(1 : Fin 32)].state = .release ∧ (portIn 6 .switching).pers 1 = 6 := by
  decide +kernel

theorem witness_PortFaultsShutGates :
    (portIn 1 .switching).live = true ∧ 1 < (portIn 1 .switching).variant.ports ∧ (portIn 1 .switching).isSwitching 1 = true
    ∧ (portIn 1 .precharge).ports[(1 : Fin 32)].state = .precharge ∧ (portIn 4 .ramp).ports[(1 : Fin 32)].state = .ramp
    ∧ ((portIn 4 .ramp).railOf 1 = none ∧ (portIn 4 .on).railOf 1 = none ∧ (portIn 5 .pullIn).railOf 1 = none ∧ (portIn 5 .hold).railOf 1 = none)
    ∧ (let s := portIn 4 .on; s.ports[(1 : Fin 32)].state = .on ∧ s.act (portIdx 1) 0x23 = 0
        ∧ (withActive s [(key 0x2101 1, 4), (key 0x2101 0x23, 100)]).act (portIdx 1) 0x23 ≠ 0)
    ∧ (portIn 5 .pullIn).ports[(1 : Fin 32)].state = .pullIn ∧ (portIn 5 .pullIn).ports[(1 : Fin 32)].pulled = false
    ∧ (portIn 5 .hold).ports[(1 : Fin 32)].state = .hold
    ∧ (let s := withActive (portIn 6 .switching) [(key 0x2101 1, 6), (key 0x2101 0x30, 20), (key 0x2101 0x31, 7)];
      s.fanDriven 1 = true ∧ s.act (portIdx 1) 0x31 ≠ 0xFF) := by
  decide +kernel

theorem witness_ControlWritesWaitForTransfer :
    (let s := opened .run;
      s.hears path0 ∧ (∀ g : Fin 8, s.cmt.groups[g].staged = []) ∧ 31 < s.variant.ports ∧ portOk s.reg (portIdx 31) = true
        ∧ s.reg (portIdx 31) 1 ≠ 3 ∧ personalityOk s s.reg 31 6 = true ∧ s.ownerOf 7 = none ∧ 15 < s.variant.rails
        ∧ maskOk s.variant s.reg 0 = true ∧ s.reg (railIdx 15) 0x17 ≤ max 1 (ones 32 0) ∧ s.reg (railIdx 15) 0x18 ≤ max 1 (ones 32 0)
        ∧ portMaskOk s (s.lookWith [(railIdx 15, 1, 0)]) 15 0 = true)
    ∧ (bucks.hears path0 ∧ (∀ g : Fin 8, bucks.cmt.groups[g].staged = []) ∧ railOk bucks.variant bucks.reg (railIdx 0) 3 = true
      ∧ bucks.md.mode = .run ∧ bucks.reg (railIdx 0) 1 ≠ 0 ∧ bucks.blocked 0 = false)
    ∧ (let o : Outstanding := { id := 3, path := .host path0, vals := [(key (portIdx 31) 0x35, 9)], acts := [] };
      let s := { opened .run with cmt := { Commit.reset with out := [o] } };
      s.oldestFor (portIdx 31) = some o ∧ o.vals = [(key (portIdx 31) 0x35, 9)] ∧ o.acts = [] ∧ s.live = true ∧ s.cmt.out = [o]
        ∧ key (portIdx 31) 0x35 % 256 = 0x35 ∧ 2 ≤ 0x35 ∧ 0x35 ≠ 0x31)
    ∧ (let s := opened .run;
      (30 : Fin 32).1 < s.variant.ports ∧ (30 : Fin 32).1 % 2 = 0 ∧ portOk s.reg (portIdx 30) = true ∧ portOk s.reg (portIdx (30 + 1)) = true
        ∧ personalityOk s s.reg 30 3 = true)
    ∧ (let o : Outstanding := { id := 3, path := .host path0, vals := [(key 0x2500 9, 700)], acts := [] };
      let s := { opened .run with cmt := { Commit.reset with out := [o] } };
      s.oldestFor 0x2500 = some o ∧ s.live = true ∧ s.cmt.out = [o])
    ∧ (let o : Outstanding := { id := 3, path := .host path0, vals := [(key (railIdx 15) 8, 3300000)], acts := [] };
      let l := [(key (railIdx 15) 8, 3300000), (key (railIdx 15) 9, 32768)];
      let s := { withActive (withRegs (withRails (opened .run) { Rail.reset with state := .regulating }) l) l with cmt := { Commit.reset with out := [o] } };
      s.oldestFor (railIdx 15) = some o ∧ s.live = true ∧ s.cmt.out = [o] ∧ s.rails[(15 : Fin 16)].state = .regulating
        ∧ targetOf (s.act (railIdx 15) 8) (s.act (railIdx 15) 9) ≠ s.rails[(15 : Fin 16)].vref ∧ 8 ∉ [1, 3, 7, 0x10, 0x12]) := by
  unfold State.hears; decide +kernel

theorem witness_RailEvents :
    (let s := withRails bucks { Rail.reset with state := .softStart };
      s.live = true ∧ isConverter (s.railPers 0) = true ∧ s.rails[(0 : Fin 16)].pg = false ∧ s.rails[(0 : Fin 16)].state = .softStart)
    ∧ (switching.act (railIdx 0) 0x10 ≠ 0 ∧ switching.actives 0 ≠ [] ∧ isConverter (switching.railPers 0) = true)
    ∧ (let s := withRails bucks { Rail.reset with state := .tripped, hicWait := true };
      s.rails[(0 : Fin 16)].hicWait = true ∧ s.railState 0 = .tripped)
    ∧ (let s := withRails bucks { Rail.reset with state := .regulating, pg := true };
      s.rails[(0 : Fin 16)].pg = true) := by
  decide +kernel

theorem witness_FlagAndCounterClears : (opened .run).hears path0 ∧ (31 : Fin 32).1 < (opened .run).variant.ports
    ∧ (0 : U32) ≠ 0x4C454447 ∧ (15 : Fin 16).1 < (opened .run).variant.rails ∧ (0x4C454447 : U32) ≠ 0x45564E54
    ∧ (opened .run).settled (portIdx 31) ∧ (opened .run).settled (railIdx 15) := by
  unfold State.hears State.settled; decide +kernel

theorem witness_ConverterWordsAreCorrectedAndKept :
    (let s := opened .run;
      s.live = true ∧ 31 < s.variant.ports ∧ s.flt.sc.getLsbD 31 = false ∧ 15 < s.variant.rails ∧ s.flt.vc.getLsbD 15 = false
        ∧ s.milk.roverFailed = false ∧ s.ports[(31 : Fin 32)].state ≠ .release
        ∧ correctSense s.sc[(31 : Fin 33)] ((0x8000 : U16).toInt) < backstopCode (s.act (portIdx 31) 5) (s.act (portIdx 31) 4) (s.timing 31).backstop) := by
  decide +kernel

/-- `bucks` with every engine active, port 1 and rail 0 due or not. -/
def framing (port rail : Bool) : State :=
  { withRails (withPorts bucks { Port.reset with state := .switching, gh := true, due := port })
      { Rail.reset with state := .regulating, due := rail } with
    engines := Vector.replicate 9 { Engine.reset with state := .active } }

/-- The ports and rails of a state with a word that the updates of the frame use. -/
def worded (s : State) : State :=
  { s with ports := s.ports.map fun p => { p with uNum := 1 }, rails := s.rails.map fun x => { x with uNum := 1 } }

/-- A frame at its end with results. -/
def ended (ports : List (Nat × (Int × Nat) × Int × Nat)) (rails : List (Nat × (Int × Int) × (Int × Int))) : FrameRun :=
  { length := 800, clock := 800, time := 64, cur := none, snap := [], tasks := [], events := [], ports := ports, rails := rails, lost := [],
    was := .off, ready := false, wait := [] }

/-- Every engine with a frame at its end, its release blocked or not. -/
def atEnd (blocked : Bool) (f : FrameRun) : State :=
  { framing false false with engines := Vector.replicate 9 { Engine.reset with state := .active, frame := some f, blocked := blocked } }

theorem witness_FramesReleaseAtTheirEnd :
    (let s := framing false false;
      s.live = true ∧ s.engines[(0 : Fin 9)].blocked = false ∧ s.engines[(0 : Fin 9)].state = .active ∧ 0 < s.engFrame 0
        ∧ s.tasksOf 0 = [] ∧ 15 < 16)
    ∧ (let s := framing true false;
      s.engines[(0 : Fin 9)].state = .active ∧ 0 < s.engFrame 0 ∧ s.tasksOf 0 = [.port 1] ∧ s.railOf 1 = some 0
        ∧ isConverter (s.pers 1) = true ∧ s.leads 1 = true ∧ s.ports[(1 : Fin 32)].heldNext = false ∧ s.milk.standin ≠ some 1)
    ∧ (let s := framing false true;
      s.engines[(0 : Fin 9)].state = .active ∧ 0 < s.engFrame 0 ∧ s.tasksOf 0 = [.rail 0] ∧ isConverter (s.railPers 0) = true
        ∧ s.rails[(0 : Fin 16)].state = .regulating)
    ∧ (let f := { ended [] [] with cur := some (.port 1), snap := bucks.active };
      let s := atEnd false f;
      let u := { s with active := f.snap };
      s.live = true ∧ s.engines[(0 : Fin 9)].frame = some f ∧ f.tasks = [] ∧ f.events = [] ∧ s.engines[(0 : Fin 9)].blocked = false
        ∧ f.ports = [] ∧ f.rails = [] ∧ f.cur = some (.port 1) ∧ u.railOf 1 = some 0 ∧ isConverter (u.pers 1) = true ∧ u.leads 1 = true
        ∧ f.wait = [] ∧ s.milk.standin ≠ some 1 ∧ s.isSwitching 1 = true ∧ u.worded (.port 1) = false
        ∧ (worded u).worded (.port 1) = true ∧ (worded u).railOf 1 = some 0 ∧ (worded s).isSwitching 1 = true
        ∧ (shareOf (worded u) 0 1 (worded s).rails[(0 : Fin 16)].yHist.1).2.2 ≠ 1000)
    ∧ (let f := { ended [] [] with cur := some (.rail 0), snap := bucks.active };
      let s := atEnd false f;
      let v := fun u : State => skim (addLost (slewRail u 0 f.was f.ready (s.goalOf 0)) 0) 0;
      s.engines[(0 : Fin 9)].frame = some f ∧ f.cur = some (.rail 0) ∧ isConverter (({ s with active := f.snap } : State).railPers 0) = true
        ∧ f.wait = [] ∧ (v { s with active := f.snap }).worded (.rail 0) = false ∧ (v (worded { s with active := f.snap })).worded (.rail 0) = true)
    ∧ (let f := ended [(1, (-5, 100), 7, 999)] [];
      let s := atEnd false f;
      s.live = true ∧ s.engines[(0 : Fin 9)].frame = some f ∧ f.tasks = [] ∧ f.events = [] ∧ s.engines[(0 : Fin 9)].blocked = false
        ∧ (999 : Nat) ≠ 1000 ∧ s.isSwitching 1 = true ∧ f.ports = [((1 : Fin 32).1, (-5, 100), 7, 999)] ∧ f.rails = [])
    ∧ (let f := ended [] [(0, (1, 2), (3, 4))];
      (atEnd false f).engines[(0 : Fin 9)].frame = some f ∧ (atEnd false f).engines[(0 : Fin 9)].blocked = false ∧ f.ports = []
        ∧ f.rails = [((0 : Fin 16).1, (1, 2), (3, 4))] ∧ (atEnd true f).engines[(0 : Fin 9)].frame = some f
        ∧ (atEnd true f).engines[(0 : Fin 9)].blocked = true)
    ∧ (let s := { bucks with engines := Vector.replicate 9 { Engine.reset with state := .covering, blocked := true } };
      s.live = true ∧ s.engines[(8 : Fin 9)].state = .covering ∧ s.engines[(8 : Fin 9)].blocked = true) := by
  refine ⟨by decide +kernel, by decide +kernel, by decide +kernel, by decide +kernel, by decide +kernel, by decide +kernel,
    by decide +kernel, by decide +kernel⟩

theorem witness_MilkRoundWalksItsSlots :
    (let walk := fun n : Nat =>
        { opened .run with milk := { Milk.reset with running := true, slot := n, visit := { Visit.reset with abandoned := true } } };
      (walk 1).live = true ∧ (walk 1).milk.running = true ∧ 1 ≤ (walk 1).milk.slot ∧ (walk 1).milk.slot < (walk 1).variant.ports
        ∧ (walk 1).milk.visit.abandoned = true ∧ (walk 32).milk.slot = (walk 32).variant.ports)
    ∧ (let s := { withRegs (opened .run) [(key 0x3000 1, 3)] with vc := Vector.replicate 16 { Conv.reset with stolen := 254 } };
      s.live = true ∧ (s.reg 0x3000 1).testBit 1 = true ∧ s.md.mode = .run ∧ 15 < s.variant.rails
        ∧ s.flt.vc.getLsbD 15 = false ∧ s.vc[(15 : Fin 16)].stolen < 255 ∧ s.vc[(15 : Fin 16)].buffer = []
        ∧ ({ s with vc := Vector.replicate 16 { Conv.reset with buffer := [7] } } : State).vc[(15 : Fin 16)].buffer = 7 :: [])
    ∧ (let s := { opened .run with thm := { Thermal.reset with
        die := Vector.replicate 4 { DieSensor.reset with reading := some 250, hist := [250] } } };
      s.live = true ∧ s.dieMean ≠ none)
    ∧ (opened .run).dieMean = none ∧ (opened .run).aonUp = true ∧ (opened .run).md.mode ≠ .ship := by
  decide +kernel

theorem witness_MilkRoundSwitches : (opened .run).hears path0 ∧ (opened .run).reg 0x3000 1 < 4 ∧ (opened .run).milk.noSpare = false
    ∧ (opened .run).md.mode = .run ∧ ((withRegs (opened .run) [(key 0x3000 1, 0)]).reg 0x3000 1).testBit 0 = false
    ∧ (let s := { opened .run with milk := { Milk.reset with noSpare := true } }; s.hears path0 ∧ s.milk.noSpare = true) := by
  unfold State.hears; decide +kernel

/-! ## Witnesses: timebase, watchdog, interrupts, keep store, identity -/

/-- A change of the timebase. -/
def onTb (s : State) (f : Timebase → Timebase) : State := { s with tb := f s.tb }

/-- A change of the watchdog. -/
def onWd (s : State) (f : Watchdog → Watchdog) : State := { s with wd := f s.wd }

/-- A change of the keep store. -/
def onKs (s : State) (f : Keep → Keep) : State := { s with ks := f s.ks }

theorem witness_TimebaseWrapsAtItsTop :
    (let s := onTb (opened .run) fun x => { x with count := 0xFFFFFFFF };
      s.tbRuns = true ∧ s.tb.count = 0xFFFFFFFF ∧ (∀ e : Fin 9, s.engines[e].frame = none)) ∧ (opened .run).tbRuns = true ∧ (opened .run).tb.count ≠ 0xFFFFFFFF := by
  decide +kernel

theorem witness_CompareChannelsArmAndFire :
    (let s := withRegs (opened .run) [(key 0x281F 1, 1)];
      s.hears path0 ∧ compareOk s.reg 0x281F = true ∧ (s.reg 0x281F 1).testBit 0 = true ∧ ahead s.tb.count 0x80000000 = true
        ∧ ahead s.tb.count 0x80000001 = false ∧ (s.reg 0x2818 1).testBit 0 = false ∧ compareOk s.reg 0x2818 = true
        ∧ s.startedNow 15 = false ∧ s.startedNow 8 = false)
    ∧ (let s := onTb (opened .run) fun x =>
        { x with cmp := Vector.replicate 16 { armed := true, late := true, from_ := 0, startAt := some 0, startBy := 2 } };
      s.hears path0 ∧ compareOk s.reg 0x281F = true ∧ s.startedNow 15 = true)
    ∧ (let s := onTb (opened .run) fun x =>
        { x with count := 9, cmp := Vector.replicate 16 { armed := true, late := true, from_ := 9, startAt := none, startBy := 0 } };
      s.tbRuns = true ∧ s.cmpDue 15 = true ∧ s.reg 0x281F 4 = 0 ∧ s.cmpDue 7 = true ∧ s.reg 0x2817 4 = 0) := by
  unfold State.hears; decide +kernel

theorem witness_CaptureChannelsCapture :
    (let capped := fun at_ => onTb (withRegs (opened .run) [(key 0x2827 1, 5)]) fun x =>
        { x with
          count := 9, cap := Vector.replicate 8 { armed := true, full := true, from_ := 4, capAt := at_, prev := 0, ovr := false } };
      let s := capped none;
      s.tbRuns = true ∧ s.capBall 7 = true ∧ s.capArmed 7 = true ∧ s.capEdge 7 true = true ∧ s.capEdge 7 false = false ∧ ahead s.tb.count 9 = false ∧ s.ownerOf 7 = none
        ∧ s.tb.cap[(7 : Fin 8)].from_ ≤ s.count64 9 ∧ s.tb.cap[(7 : Fin 8)].from_ ≤ s.count64 4 ∧ s.md.mode ≠ .ship
        ∧ (s.reg 0x2827 1).testBit 2 = true ∧ s.tb.cap[(7 : Fin 8)].full = true ∧ s.hears path0
        ∧ s.tb.cap[(7 : Fin 8)].capAt ≠ some s.now64 ∧ (capped (some 9)).tb.cap[(7 : Fin 8)].capAt = some (capped (some 9)).now64
        ∧ (capped (some 9)).hears path0)
    ∧ (let l := [(key 0x2101 1, 6), (key 0x2101 0x31, 7)];
      let s := withActive (withRegs (withPorts (opened .run) { Port.reset with tachAt := some 0xFFFFFFFF }) l) l;
      s.ownerOf 7 = some 1 ∧ s.tbRuns = true ∧ s.md.mode ≠ .ship ∧ s.capBall 7 = true ∧ ahead s.tb.count 0 = false
        ∧ s.ports[(1 : Fin 32)].tachAt = some 0xFFFFFFFF ∧ (0 : U32) ≠ 0xFFFFFFFF ∧ s.hears path0) := by
  unfold State.hears; decide +kernel

/-- The open window begins at three quarters of a period at the latest, whatever the fuses say. -/
theorem test_window_opens_within_the_period (s : State) (h : s.wd.length ≤ s.wd.count) : s.wdOpen ≤ s.wd.count := by
  have hw : Config.winFrac.toNat < 4 := Config.winFrac.isLt
  unfold State.wdOpen State.wdOpens
  split
  · omega
  · have : s.wd.length * Config.winFrac.toNat ≤ s.wd.length * 4 := Nat.mul_le_mul_left _ (by omega)
    omega

theorem witness_WatchdogKeysAndTimeout :
    (let w : Watchdog := { running := true, first := true, length := 100000, count := 99999, sub := 0, key := some path0, checked := 3 };
      let s := onWd (opened .run) fun _ => w;
      s.hears path0 ∧ s.md.mode ≠ .safestop ∧ s.wd.running = true ∧ s.wd.count < s.wd.length ∧ s.wd.key = some path0
        ∧ s.wdOpen ≤ s.wd.count ∧ s.reg 0x2600 6 % 256 &&& s.wd.checked.toNat = s.reg 0x2600 6 % 256
        ∧ ones 8 ((3 : Byte).toNat &&& s.wd.checked.toNat) = 2 ∧ ones 8 ((4 : Byte).toNat &&& s.wd.checked.toNat) = 0)
    ∧ (opened .safestop).hears path0 ∧ (opened .safestop).md.mode = .safestop
    ∧ (let s := onWd (opened .run) fun x => { x with running := true, length := 100000, count := 100000 };
      s.live = true ∧ s.wd.running = true ∧ s.wd.length ≤ s.wd.count ∧ s.waitFails = 0 ∧ hasPlace s.log .u = true) := by
  unfold State.hears; decide +kernel

theorem witness_InterruptWritesTakeEffect : (opened .run).hears path0 ∧ (63 : Fin 64).1 ∉ levelsSet (opened .run)
    ∧ (0x8000000000000000 : U64).getLsbD 62 = false ∧ (3 : Byte).getLsbD 0 = true ∧ (3 : Byte).getLsbD 1 = true := by
  unfold State.hears; decide +kernel

/-- The device in RUN with source 39 pending and enabled for the sequencer, its handler of two steps, under some running handlers. -/
def handling (l : List Handler) : State :=
  onSqe { withRegs (opened .run) [(key 0x2A00 5, 2 ^ 39), (key (0x2A40 + 39) 1, 2), (key (0x2A40 + 39) 4, 2)] with
          irq := { Irq.reset with pend := 0x8000000000 } } fun x => { x with handlers := l }

/-- A running handler of source 5. -/
def handler5 : Handler := { src := 5, first := 0, step := 0, left := 1, phase := .start, since := 0, named := 0 }

theorem witness_HandlersStartInRank :
    (let s := handling [];
      s.ready = true ∧ s.md.mode = .run ∧ s.sqe.stat = .idle ∧ s.sqe.queue = [] ∧ (s.reg 0x2A00 6).testBit 2 = false
        ∧ (s.irq.pend.getLsbD 39 = true ∧ (s.reg 0x2A00 5).testBit 39 = true)
        ∧ (∀ m : Fin 64, s.irq.pend.getLsbD m.1 = true ∧ (s.reg 0x2A00 5).testBit m.1 = true → s.rank 39 ≤ s.rank m.1)
        ∧ s.reg (0x2A40 + 39) 4 ≠ 0 ∧ s.sqe.handlers = [] ∧ 39 ∉ levelsSet s)
    ∧ (let s := handling [handler5, handler5, handler5, handler5];
      s.sqe.handlers = handler5 :: [handler5, handler5, handler5] ∧ 3 ≤ [handler5, handler5, handler5].length)
    ∧ (let s := handling [{ handler5 with src := 39 }]; s.sqe.handlers = { handler5 with src := 39 } :: [] ∧ s.level 39 ≤ s.level 39) := by
  decide +kernel

theorem witness_StoresCopyTheWholeArray :
    (let s := onKs (opened .run) fun x => { x with queued := [.config] };
      s.ks.running = none ∧ s.pwr.vstoreOk = true ∧ s.hears path0 ∧ s.coreOn = true ∧ s.reg 0x2B00 7 ≠ 0 ∧ s.ks.queued = .config :: [])
    ∧ (let s := onPwr (opened .run) fun x => { x with vstoreOk := false };
      s.hears path0 ∧ s.ks.running = none ∧ s.pwr.vstoreOk = false ∧ s.ks.waiting = none ∧ s.ks.queued = [])
    ∧ (let s := onKs (opened .run) fun x => { x with running := some (.command, .reset) };
      s.ks.running = some (.command, .reset) ∧ ∀ q ∈ s.ks.queued, q.atOnce = false)
    ∧ (let s := onPwr (onKs (opened .run) fun x => { x with waiting := some .command }) fun x => { x with vstoreOk := false };
      s.ks.waiting = some .command ∧ s.pwr.vstoreOk = false) := by
  unfold State.hears; decide +kernel

/-- Context 0 with KS_ADDR at an address. -/
def atKs (a : Nat) : State := (opened .run).modPath (pathIx path0) fun x => { x with ksAddr := a }

theorem witness_UserAreaReadsWhatWasWritten :
    (let s := atKs 0x3FFF;
      s.hears path0 ∧ (atKs 0x3FFF).paths[pathIx path0].ksAddr + 1 ≤ userSize ∧ s.touchesProt 0x3FFF 1 = false
        ∧ s.tallied 0x3FFF = false ∧ userSize < s.paths[pathIx path0].ksAddr + 2)
    ∧ (atKs 0x3F00).paths[pathIx path0].ksAddr + 256 ≤ userSize ∧ (atKs 0x3F00).touchesProt 0x3F00 256 = false := by
  unfold State.hears; decide +kernel

/-- An image of one entry, of version `v`: HU_TIME 600 in 0x2500.24, with SIGNED_ONLY set or not. -/
def imageOf (v : Nat) (signed : Bool) : List Byte :=
  let e : List Byte := [0x00, 0x25, 0x24, 4, 0x58, 0x02, 0, 0]
  let f : List Byte := [0x00, 0x2B, 0x20, 1, 1, 0, 0, 0]
  let body := if signed then e ++ f else e
  [1, 0, (if signed then 2 else 1), 0] ++ leBytes 4 State.reset.variant.product ++ leBytes 4 v ++ leBytes 4 body.length
    ++ List.replicate 16 0 ++ body

/-- The device in a mode with an image in its work buffer. -/
def imaged (m : Mode) (signed : Bool) : State := onKs (opened m) fun x => { x with cfgStat := 2, cfgWork := imageOf 1 signed }

/-- A signing key of generation 1 enrolled. -/
def keyed (s : State) : State :=
  let c : RecCopy := { seq := 1, stamp := 0, payload := List.replicate 64 7 ++ [1, 0], crc := 0 }
  let p : RecPair := { a := some c, b := none, inUse := some false }
  onKs s fun x => { x with sram := { x.sram with recs := x.sram.recs.set 5 p } }

theorem witness_ConfigurationCommands :
    ((opened .run).hears path0 ∧ (opened .run).md.mode ≠ .standby ∧ (opened .run).ks.cfgStat ≠ 1 ∧ (opened .run).ks.cfgStat ≠ 3)
    ∧ (let s := imaged .run false;
      s.hears path0 ∧ s.ks.cfgStat = 2 ∧ s.reg 0x2B00 0x21 < imageVersion s.ks.cfgWork ∧ s.needsSig = false ∧ s.ks.running = none)
    ∧ (let s := imaged .run true;
      s.hears path0 ∧ s.ks.cfgStat = 2 ∧ s.reg 0x2B00 0x21 < imageVersion s.ks.cfgWork ∧ s.needsSig = true)
    ∧ (let s := imaged .safestop false;
      s.hears path0 ∧ s.md.mode = .safestop ∧ s.latch.set = false ∧ s.ks.cfgStat ≠ 1 ∧ s.ks.cfgStat ≠ 3
        ∧ imageOk s s.ks.cfgWork = true ∧ s.needsSig = false ∧ s.ks.running = none ∧ s.reg 0x2B00 0x21 < imageVersion s.ks.cfgWork)
    ∧ (let s := onKs (keyed (imaged .run true)) fun x => { x with cfgStat := 3, cfgSig := [1] };
      s.ready = true ∧ s.ks.cfgStat = 3 ∧ s.ks.cfgOld = none ∧ s.keyGen ≠ 0 ∧ s.ks.cfgSig ≠ [] ∧ s.ks.running = none) := by
  unfold State.hears; decide +kernel

theorem witness_ConfigurationBuild :
    (let s := onKs (opened .run) fun x => { x with cfgStat := 1 };
      s.ks.cfgStat = 1 ∧ (buildImage s).length ≤ imageMax) := by
  decide +kernel

/-- A log entry of a class C report, acknowledged. -/
def entry0 : LogEntry :=
  { seq := 0, stamp := 0, code := 0x0101, unit := 0, cls := .c, ack := .a, esc := false, acked := true, fromAon := false,
    conseq := false, mode := .run, detail := 0, pos := 0, quiet := false, held := false }

theorem witness_IdentityAndKeys :
    ((opened .run).hears path0 ∧ (List.replicate 32 (0 : Byte)).length = 32 ∧ (opened .run).idFree = true ∧ (opened .run).keyGen = 0
      ∧ (opened .run).ks.running = none ∧ (opened .run).pwr.vstoreOk = true)
    ∧ (let s := onKs (opened .run) fun x => { x with sram := { x.sram with log := [entry0] } };
      s.hears path0 ∧ s.idFree = true ∧ (s.log.any fun e => e.seq.toNat == s.reg 0x2C00 8) = true)
    ∧ ((keyed (opened .run)).hears path0 ∧ (keyed (opened .run)).keyGen ≠ 0xFFFF ∧ (keyed (opened .run)).ks.running = none
      ∧ (keyed (opened .run)).pwr.vstoreOk = true)
    ∧ (keyed (opened .run)).keyGen ≠ 0
    ∧ (let s := onKs (opened .run) fun x => { x with idSign := some [1], idStat := 1 };
      s.ks.idSign = some [1] ∧ s.ready = true ∧ s.hears path0 ∧ s.idFree = false ∧ (List.replicate 16 (0 : Byte)).length = 16) := by
  unfold State.hears; decide +kernel

/-! ## Witnesses: herd, charger, temperatures -/

/-- The device in a mode with its herd bus on, strapped as a node, with members 1 to 3. -/
def herdAt (m : Mode) (node : BitVec 4) : State :=
  onPwr (withRegs (opened m) [(key 0x2D00 1, 1), (key 0x2D00 4, 0xE)]) fun x => { x with strap := node }

/-- A change of the charger. -/
def onChg (s : State) (f : Charger → Charger) : State := { s with chg := f s.chg }

theorem witness_FollowersTakeTheMastersFrames :
    (herdAt .startup 3).herdFollows = true ∧ (herdAt .startup 3).md.mode = .startup
    ∧ (onSqe (herdAt .startup 3) fun x => { x with begun := true }).sqe.begun = true ∧ (herdAt .startup 3).sensorsRead = true
    ∧ (herdAt .startup 3).stopCause = false ∧ (herdAt .startup 3).stepSet 63 1 = 0
    ∧ (let s := withRegs (herdAt .startup 3) [(key 0x2341 3, 1), (key 0x2341 4, 1), (key 0x2D00 1, 1)];
      s.herdFollows = true ∧ s.stepSet 1 3 = 1 ∧ s.stepSet 1 1 = 0 ∧ (s.stepSet 1 4).testBit (0 : Fin 16).1 = true
        ∧ ∀ r : Fin 16, (s.stepSet 1 4).testBit r.1 = true → s.railFails r = 0)
    ∧ (herdAt .startup 3).stepSet 63 3 ≠ 1 ∧ (∀ k : Fin 8, (herdAt .run 3).reg (0x2820 + k.1) 2 ≠ 10)
    ∧ (herdAt .run 3).herdFollows = true ∧ (herdAt .run 3).md.mode = .run
    ∧ herdGood [0x10] = false ∧ herdGood [] = false ∧ herdGood [0x10, 3, 0] = false := by
  decide +kernel

theorem witness_MasterRunsTheHerd :
    (herdAt .run 0).herdLeads = true ∧ (∀ k : Fin 8, (herdAt .run 0).reg (0x2820 + k.1) 2 ≠ 10) ∧ (herdAt .run 0).herd.answered = true
    ∧ nextMember (herdAt .run 0).herdMembers (herdAt .run 0).herd.last = some 1
    ∧ ((0xFF : Byte).toNat = (herdAt .run 0).sqe.step ∧ herdGood [0x80] = false)
    ∧ ((herdAt .run 0).herdMembers.testBit (3 : Fin 16).1 = true ∧ (herdAt .run 0).md.mode = .run ∧ ((herdAt .run 0).reg 0x2D00 1).testBit 1 = false)
    ∧ (let s := withRegs (herdAt .run 0) [(key 0x2D00 1, 3), (key 0x2D00 4, 0xE)];
      s.herdLeads = true ∧ s.md.mode = .run ∧ (s.reg 0x2D00 1).testBit 1 = true ∧ s.herdMembers.testBit (1 : Fin 16).1 = true)
    ∧ (herdAt .holdup 3).herdFollows = true ∧ (herdAt .run 3).herdFollows = true ∧ (herdAt .run 3).hears path0 ∧ (herdAt .run 0).hears path0 ∧ (15 : Byte).toNat < 16 := by
  unfold State.hears; decide +kernel

/-- The device in RUN with VIN good, a lead-acid battery, sensor 0 in the battery role, CHG_EN and SEARCH_EN as given. -/
def charging (ctrl : Nat) (st : ChgState) : State :=
  let l := [(key 0x2500 1, ctrl), (key 0x2500 2, 1)]
  onChg (onPwr (withActive (withRegs (opened .run) ((key 0x2420 1, 0) :: l)) l) fun x => { x with vin := true })
    fun x => { x with state := st }

theorem witness_ChargerSwitchesAndSearches :
    (let s := charging 0 .off;
      s.hears path0 ∧ chargerOk s.reg = true ∧ s.reg 0x2500 1 < 4 ∧ s.chg.wdStopped = false ∧ s.settled 0x2500 ∧ s.reg 0x2500 2 ≠ 0 ∧ s.battSensor.isSome = true
        ∧ s.chgEn = false ∧ s.chg.state = .off ∧ s.chg.cycle = false)
    ∧ (let s := charging 3 .fastCC;
      s.hears path0 ∧ chargerOk s.reg = true ∧ s.reg 0x2500 1 < 4 ∧ s.chg.wdStopped = false ∧ s.settled 0x2500 ∧ s.chgEn = true ∧ s.flt.charger = false
        ∧ s.reg 0x2500 2 ≠ 0 ∧ s.battSensor.isSome = true ∧ (s.reg 0x2500 1).testBit 1 = true
        ∧ s.chg.state.searches = true ∧ s.ready = true ∧ s.chg.searching = false ∧ s.chg.state.switching = true ∧ s.sagAt 0 = true ∧ 0 < s.chgTarget)
    ∧ (let s := charging 3 .fault; s.hears path0 ∧ s.chg.state = .fault ∧ s.flt.charger = false)
    ∧ (let s := onChg (charging 3 .fastCC) fun x => { x with searching := true };
      s.ready = true ∧ s.chg.searching = true ∧ s.chg.refTaken = false ∧ s.chg.periodic = false)
    ∧ (let s := onChg (charging 3 .fastCC) fun x => { x with searching := true, refTaken := true, vinRef := 20000, iinLim := 1950 };
      s.chg.refTaken = true ∧ s.sagAt 19000 = true ∧ s.sagAt 19001 = false ∧ s.chg.iinLim < s.chgSet 0x15
        ∧ s.chgSet 0x15 ≤ s.chg.iinLim + 50) := by
  unfold State.hears State.settled; decide +kernel

theorem witness_PrechargeTimerFaults :
    (let s := onChg (charging 3 .precharge) fun x => { x with tPre := 18000 };
      s.ready = true ∧ s.chg.state = .precharge ∧ s.tPreTop ≤ s.chg.tPre ∧ s.log.length < logSize ∧ s.waitFails = 0
        ∧ s.repeats .u chgUnit = false) := by
  decide +kernel

theorem witness_ChargerStatesAndTimers :
    (charging 3 .precharge).ready = true ∧ (charging 3 .precharge).chg.state = .precharge
    ∧ (let s := onChg (charging 3 .fastCC) fun x => { x with tSafe := 432000 };
      s.chg.state = .fastCC ∧ s.chg.state.searches = true ∧ s.tSafeTop ≤ s.chg.tSafe ∧ s.flt.charger = false ∧ s.chg.batt = true
        ∧ s.chg.wdStopped = false ∧ s.hears path0)
    ∧ (let s := charging 3 .fastCV;
      s.chg.state = .fastCV ∧ s.chargerOn = true ∧ s.flt.charger = false ∧ s.chg.batt = true ∧ 50 * s.chgSet 3 < 201 ∧ 0 < s.chgSet 0x0B)
    ∧ (charging 3 .done).chg.state = .done ∧ 0 < (charging 3 .done).packMv 7
    ∧ (let s := { charging 3 .noBatt with thm := { Thermal.reset with ts := Vector.replicate 16 { Sensor.reset with status := .valid } } };
      s.chargerOn = true ∧ s.chg.state = .noBatt ∧ 200 ≤ 50 * s.chgSet 3 ∧ s.battValid = true)
    ∧ (0 : U16) ≠ 0x4B43 := by
  unfold State.hears; decide +kernel

theorem witness_StartUpPolicyReadings :
    (let good : Sensor := { Sensor.reset with status := .valid, raw := some 250 };
      let bad : Sensor := { Sensor.reset with status := .open_ };
      let s := { withRegs (opened .startup) [(key 0x2400 1, 1), (key 0x2401 1, 2)] with
                 thm := { Thermal.reset with ts := (Vector.replicate 16 good).set 1 bad, slot := 2 } };
      s.ready = true ∧ s.idleTo 16 = true ∧ s.policy = 1 ∧ s.tsSet 0 1 ≠ 0 ∧ s.thm.ts[(0 : Fin 16)].status = .valid ∧ s.flt.sensors.getLsbD 0 = false
        ∧ s.tsSet 1 1 ≠ 0 ∧ s.thm.ts[(1 : Fin 16)].status = .open_) := by
  decide +kernel

theorem witness_SensorsDieAndStops :
    (let s := { withRegs (opened .run) [(key 0x240F 1, 2)] with thm := { Thermal.reset with stopping := true, die140 := true } };
      s.live = true ∧ s.ready = true ∧ s.slotOf 15 = true ∧ s.booting = false ∧ s.policy ≠ 0 ∧ s.tsSet 15 1 ≠ 0
        ∧ s.thm.stopping = true ∧ s.md.mode ≠ .safestop ∧ s.md.mode ≠ .ship ∧ s.stopCause = true
        ∧ s.md.mode = .run ∧ s.hears path0 ∧ sensorOk s.reg (0x2400 + 15) = true ∧ (31 : Byte).toNat < 32)
    ∧ (let s := { opened .safestop with thm := { Thermal.reset with recovRun := true } }; s.thm.recovRun = true) := by
  unfold State.hears; decide +kernel

/-! ## Witnesses: faults, access, network, two-wire -/

theorem witness_ReportsAreRecordedAndPaid :
    (let s := opened .run;
      s.live = true ∧ s.booting = false ∧ s.waitFails = 0 ∧ hasPlace s.log .c = true ∧ faultRow 0 = none ∧ (0 : U16) ≠ 0x0405
        ∧ 31 < s.variant.ports ∧ s.md.mode ≠ .ship ∧ s.reg 0x2A00 0x0B = 0)
    ∧ (∃ row, (opened .run).rowFor 0x0303 0x0101 = some row ∧ row.cls = .c ∧ row.ack = .a)
    ∧ (0x0303 : U16).toNat ∉ [0x0207, 0x0208, 0x0401]
    ∧ (∃ row, (opened .run).rowFor 0x0909 0 = some row ∧ row.cls = .c ∧ row.ack ≠ .a ∧ (opened .run).classOf row 0 = .c)
    ∧ ((opened .run).can.links[(1 : Fin 2)].enabled = true ∧ (opened .run).can.links[(1 : Fin 2)].emcy.length < 16)
    ∧ ∃ row, (opened .run).rowFor 0x0103 0 = some row ∧ row.cls = .f :=
  ⟨by decide +kernel, ⟨_, rfl, by decide +kernel⟩, by decide +kernel, ⟨_, rfl, by decide +kernel⟩, by decide +kernel, _, rfl, by decide +kernel⟩

theorem witness_AcknowledgeAndUnfence :
    ((opened .run).hears path0 ∧ (1 : U32) ≠ 0 ∧ (opened .run).latch.set = false)
    ∧ (let s := onKs { opened .safestop with latch := { Latch.reset with set := true } } fun x =>
        { x with sram := { x.sram with log := [{ entry0 with cls := .f, ack := .h, acked := false, code := 0x0106, seq := 4 }] } };
      s.hears path0 ∧ s.latch.set = true ∧ s.latch.hard = false ∧ s.sourcesQuiet = true ∧ s.aon.waiting = []
        ∧ ∀ e ∈ s.log, e.cls.fatal = true → e.acked = true ∨ (ackNames 4 e = true ∧ s.causePresent e = false))
    ∧ (let s := withPorts { opened .safestop with flt := { Collector.reset with ports := 0x80000000 } } { Port.reset with state := .fenced };
      s.unfenceOk (0x100 + 31) = true ∧ s.ports[(31 : Fin 32)].state = .fenced ∧ s.flt.ports.getLsbD 31 = true
        ∧ ∀ m ∈ s.portList, s.pairLead m.1 = s.pairLead 31 → s.senseless m = false) := by
  unfold State.hears; decide +kernel

theorem witness_AdcScansItsChannels :
    (let s := withRegs (opened .run) [(key 0x2900 1, 1), (key 0x2900 3, 0x800000000001)];
      s.hears path0 ∧ s.reg 0x2900 1 < 8 ∧ s.adcBusy = false ∧ s.reg 0x2900 3 ≠ 0 ∧ s.live = true
        ∧ (s.reg 0x2900 1).testBit 0 = true ∧ s.reg 0x2900 2 ≠ (2 : Byte).toNat)
    ∧ (let s := { opened .run with adc := { Adc.reset with left := [46, 47] } };
      s.live = true ∧ 46 < 48 ∧ s.adc.left = 46 :: [47])
    ∧ (let s := { withRegs (opened .run) [(key 0x2900 1, 5), (key 0x2900 3, 3)] with adc := { Adc.reset with left := [47] } };
      s.live = true ∧ s.adc.left = 47 :: [] ∧ (s.reg 0x2900 1).testBit 2 = true) := by
  unfold State.hears; decide +kernel

/-- A change of the CANopen services. -/
def onCan (s : State) (f : Can → Can) : State := { s with can := f s.can }

/-- Every link with a session open. -/
def inSession (s : State) (x : Session) : State :=
  onCan s fun c => { c with links := Vector.replicate 2 { LinkState.reset with enabled := true, session := some x } }

theorem witness_DictionaryTransfers :
    ((opened .run).ready = true ∧ (opened .run).pathServes .canB = true ∧ (opened .run).slotFree = true ∧ (opened .run).hears .canB
      ∧ rowsOf .hj32 0x1FFF = none ∧ (rowsOf .hj32 0x1018).isSome = true ∧ findObj .hj32 0x1018 9 = none)
    ∧ (let s := { opened .run with cmt := { Commit.reset with fences := List.replicate 47 (.host path0, 0) } };
      s.ready = true ∧ s.pathServes .canA = true ∧ s.slotFree = false)
    ∧ (∃ o, findObj .hj32 0x2B00 5 = some o ∧ o.acc = .wo)
    ∧ (∃ o, findObj .hj32 0x1017 0 = some o ∧ o.acc ≠ .wo ∧ o.writable = true
        ∧ (readObj (takeSlot (setSession (opened .run) .a none)) (pathIx (linkPath .a)) o 0x1017 0).1 = 0)
    ∧ (let s := inSession (opened .run) { usdo := true, download := true, key := key 0x1017 0, toggle := true, data := [0x10] };
      s.can.links[linkIx .a].session =
          some { usdo := true, download := true, key := key 0x1017 0, toggle := true, data := [0x10] } ∧ s.ready = true
        ∧ s.linkServes .a = true ∧ [0x10] ++ [0x27] = leBytes 2 (0x2710 : U16).toNat ∧ s.paths[pathIx (linkPath .a)].tag = 0)
    ∧ (let s := inSession (opened .run) { usdo := false, download := false, key := key 0x1008 0, toggle := false, data := List.replicate 8 1 };
      s.can.links[linkIx .b].session =
          some { usdo := false, download := false, key := key 0x1008 0, toggle := false, data := List.replicate 8 1 } ∧ s.ready = true
        ∧ s.linkServes .b = true)
    ∧ (let s := onCan (inSession (opened .run) { usdo := false, download := false, key := key 0x1008 0, toggle := false, data := [] }) fun c =>
        { c with nmt := .stopped };
      s.can.links[linkIx .b].session = some { usdo := false, download := false, key := key 0x1008 0, toggle := false, data := [] }
        ∧ s.linkServes .b = false) := by
  unfold State.hears
  refine ⟨by decide +kernel, by decide +kernel, ⟨_, rfl, by decide +kernel⟩, ⟨_, rfl, by decide +kernel⟩, by decide +kernel,
    by decide +kernel, by decide +kernel⟩

/-- Path 0 with a tag. -/
def tagged (t : Nat) : State := (opened .run).modPath (pathIx path0) fun x => { x with tag := t }

/-- Group 7 with values staged, marked by a RELEASE write. -/
def staged (l : List (Key × Nat)) : State := (opened .run).modGroup 7 fun _ => { staged := l, byWrite := true, bySrc := none, ids := l.map fun v => (v.1, 0) }

theorem witness_TagsGroupsAndFences :
    ((opened .run).ready = true ∧ (opened .run).pathServes path0 = true ∧ (opened .run).slotFree = true ∧ (8 : Byte).toNat ≤ 8
      ∧ 8 < (9 : Byte).toNat ∧ (opened .run).hears path0 ∧ (opened .run).fenceClear (.host path0) (opened .run).cmt.nextId = true)
    ∧ (let s := tagged 8;
      s.ready = true ∧ s.pathServes path0 = true ∧ s.slotFree = true ∧ 31 < s.variant.ports ∧ s.paths[pathIx path0].tag = (7 : Fin 8).1 + 1
        ∧ (s.groupOfIdx (portIdx 31)).getD 7 = 7 ∧ s.cmt.groups[(7 : Fin 8)].staged.length < 64
        ∧ valuesCode s [s.lookStaged s.cmt.groups[(7 : Fin 8)].staged [(portIdx 31, 5, 2000)]] [(portIdx 31, 5, 2000)] = 0)
    ∧ (let s := staged [(key (portIdx 31) 5, 900)];
      let x := (key (portIdx 31) 5, 900);
      s.ready = true ∧ s.cmt.groups[(7 : Fin 8)].byWrite = true ∧ s.cmt.groups[(7 : Fin 8)].staged = [x] ∧ 0x2100 ≤ x.1 / 256
        ∧ x.1 / 256 < 0x2120 ∧ 2 ≤ x.1 % 256 ∧ x.1 % 256 ≠ 0x31 ∧ s.laterOut s.cmt.groups[(7 : Fin 8)] x.1 = false
        ∧ s.outrun s.cmt.groups[(7 : Fin 8)] x.1 = false)
    ∧ (opened .run).tw.ctx[(0 : Fin 8)].busy = false
    ∧ (let s := { opened .run with tw := { TwoWire.reset with ctx := Vector.replicate 8 { Context.reset with busy := true } } };
      s.hears path0 ∧ s.tw.ctx[(0 : Fin 8)].busy = true)
    ∧ (let s := { opened .run with cmt := { Commit.reset with nextId := 1, out := [{ id := 0, path := .host path0, vals := [], acts := [] }] } };
      s.hears path0 ∧ s.fenceClear (.host path0) s.cmt.nextId = false)
    ∧ (let s := { opened .run with cmt := { Commit.reset with fences := [(.host path0, 0)] } };
      s.ready = true ∧ s.fenceDue path0 = some (.host path0, 0)) := by
  unfold State.hears; decide +kernel

/-- The device with RPDO 1 and TPDO 1 valid, of a type, each mapped to one object of two bytes. -/
def mapped (type : Nat) : State :=
  withRegs (opened .run) [(key 0x1016 1, 0x40064), (key 0x1017 0, 100), (key 0x1400 1, 0x205), (key 0x1400 2, type), (key 0x1600 0, 1),
    (key 0x1600 1, 0x10170010), (key 0x1800 1, 0x185), (key 0x1800 2, type), (key 0x1800 5, 10), (key 0x1A00 0, 1),
    (key 0x1A00 1, 0x10170010)]

theorem witness_NetworkServicesRun :
    (let s := mapped 240;
      s.ready = true ∧ s.linkUp .a = true ∧ s.md.mode ≠ .ship ∧ (5 : Byte).toNat = s.can.nodeId ∧ (4 : Byte) ≠ 0 ∧ (4 : Byte).toNat ≠ s.can.nodeId) ∧
    (let s := mapped 240;
      s.consNode 0 = (4 : Byte).toNat ∧ s.reg 0x1016 1 % 65536 ≠ 0 ∧ s.can.nmt = .operational
        ∧ s.can.rpdo = Vector.replicate 8 none ∧ s.tpdoLive 0 = true ∧ s.md.mode ≠ .ship ∧ 1 ≤ s.reg 0x1800 2 ∧ s.reg 0x1800 2 ≤ 240) ∧
    (let s := mapped 240;
      s.rpdoFrom .a = true ∧ s.slotFree = true ∧ pdoValid s.reg 0x1400 = true ∧ s.mapping 0x1600 ≠ []
        ∧ ([1] : List Byte).length < ((s.mapping 0x1600).map fun x => x.2.2).sum
        ∧ ((s.mapping 0x1600).map fun x => x.2.2).sum ≤ ([1, 2] : List Byte).length ∧ s.reg 0x1400 2 ≤ 240
        ∧ (itemsOf s.variant (rpdoValues (s.mapping 0x1600) [1, 2])).1 = 0
        ∧ lateCode (takeSlot s) (linkPath .a) none (itemsOf s.variant (rpdoValues (s.mapping 0x1600) [1, 2])).2 = 0
        ∧ s.reg 0x1017 0 ≠ 0 ∧ s.can.links[linkIx .a].enabled = true)
    ∧ (let s := mapped 254;
      s.ready = true ∧ s.tpdoEvent 0 = true ∧ s.tpdoFree 0 = true ∧ s.upLinks ≠ [] ∧ s.can.tpdoLast[(0 : Fin 8)] = none
        ∧ s.reg 0x1800 5 ≠ 0)
    ∧ (let s := onCan (mapped 254) fun c => { c with links := (c.links.set 1 .reset).set 0 { LinkState.reset with enabled := true, emcy := [[1]] } };
      s.ready = true ∧ s.upLinks = [.a] ∧ s.can.links[linkIx .a].emcy = [1] :: [] ∧ s.linkUp .a = true ∧ s.can.nmt ≠ .stopped
        ∧ s.emcyFree .a = true)
    ∧ (let s := onCan (opened .run) fun c => { c with hbArmed := Vector.replicate 4 (some .b) };
      s.ready = true ∧ s.can.hbArmed[(3 : Fin 4)] = some .b ∧ s.waitFails = 0 ∧ hasPlace s.log .c = true)
    ∧ (let s := onCan (opened .run) fun c => { c with links := Vector.replicate 2 { LinkState.reset with enabled := true, busOff := true } };
      s.ready = true ∧ s.md.mode ≠ .ship ∧ s.can.links[linkIx .b].busOff = true) := by
  refine ⟨by decide +kernel, by decide +kernel, by decide +kernel, by decide +kernel, by decide +kernel, by decide +kernel, by decide +kernel⟩

/-- The device with a two-wire transaction running in context 0. -/
def inTw (read : Bool) : State := { opened .run with tw := { TwoWire.reset with now := some (0, read) } }

/-- The device with a command waiting in the mailbox of context 0, of index, subindex, length and data as given. -/
def mailed (cmd : Nat) (idx sub len v : Nat) : State :=
  let m := leBytes 2 idx ++ leBytes 1 sub ++ [0] ++ leBytes 1 len ++ List.replicate 11 0 ++ leBytes 2 v
  let c : Context := { Context.reset with run := some cmd, mbox := Vector.ofFn fun i => m.getD i.1 0 }
  { opened .run with tw := { TwoWire.reset with ctx := Vector.replicate 8 c } }

theorem witness_TwoWireTransactions :
    (let s := { opened .run with irq := { Irq.reset with activeA := some 63 }, regs := [(key 0x2E00 4, 1)] };
      s.ready = true ∧ s.tw.now = none ∧ s.ctxOf 0x57 = none ∧ s.ctxOf 0x58 = some 0 ∧ s.tw.ctx[(0 : Fin 8)].run = none
        ∧ s.slotFree = true ∧ s.attention = true ∧ s.attnFree = true ∧ s.canWake = false ∧ s.md.mode ≠ .ship)
    ∧ (let s := { opened .run with cmt := { Commit.reset with fences := List.replicate 47 (.host path0, 0) } };
      s.ready = true ∧ s.tw.now = none ∧ s.ctxOf 0x58 = some 0 ∧ s.slotFree = false)
    ∧ (let s := inTw false;
      s.ready = true ∧ s.tw.now = some (0, false) ∧ ((0x3F : Byte) ++ (0xE0 : Byte)).toNat + 32 ≤ userSize
        ∧ 32 ≤ 0x20 - ((0x3F : Byte) ++ (0xE0 : Byte)).toNat % 0x20 ∧ s.paths[pathIx path0].tag = 0
        ∧ s.touchesProt ((0x3F : Byte) ++ (0xE0 : Byte)).toNat 32 = false ∧ s.tallied 0x3FFF = false
        ∧ s.ctxOf 0x58 = some 0 ∧ s.tw.ctx[(0 : Fin 8)].run = none ∧ s.slotsHeld ≤ 47
        ∧ s.canWake = false ∧ s.md.mode ≠ .ship ∧ s.tw.next = none
        ∧ ({ s with tw := { s.tw with next := some (0x20, 0x7F) } } : State).tw.next = some (0x20, 0x7F))
    ∧ ((inTw true).ready = true ∧ (inTw true).tw.now = some (0, true) ∧ (inTw true).md.mode ≠ .ship)
    ∧ (∃ o, findObj .hj32 0x1017 0 = some o ∧ o.acc ≠ .wo ∧ (mailed 1 0x1017 0 0 0).ready = true
        ∧ (mailed 1 0x1017 0 0 0).tw.ctx[(0 : Fin 8)].chunkKey = none ∧ (mailed 1 0x1017 0 0 0).tw.ctx[(0 : Fin 8)].run = some 1
        ∧ mbField (mailed 1 0x1017 0 0 0).tw.ctx[(0 : Fin 8)].mbox 0 2 = 0x1017
        ∧ (readObj (mailed 1 0x1017 0 0 0) (pathIx path0) o 0x1017 0).1 = 0)
    ∧ (let s := mailed 2 0x1017 0 2 0x1234;
      let m := s.tw.ctx[(0 : Fin 8)].mbox;
      s.ready = true ∧ s.tw.ctx[(0 : Fin 8)].chunkKey = none ∧ s.tw.ctx[(0 : Fin 8)].run = some 2 ∧ mbField m 0 2 = 0x1017
        ∧ mbField m 2 1 = 0 ∧ mbField m 4 1 = 2 ∧ mbField m 6 2 = 0 ∧ s.tw.ctx[(0 : Fin 8)].chunk = [] ∧ s.paths[pathIx path0].tag = 0) := by
  refine ⟨by decide +kernel, by decide +kernel, by decide +kernel, by decide +kernel, ⟨_, rfl, by decide +kernel⟩, by decide +kernel⟩

/-! ## Worked examples of the spec -/

/-- The next state of a command. -/
def next (c : Instr) (s : State) : State :=
  match exec c s with
  | .next t => t
  | _ => s

/-- "Power ports": a 2 mΩ shunt at 30 A has limit code 307; the contactor and Table 19-2. -/
theorem test_limit_codes : [limitCode 30000 2000, limitCode 1500 50000, limitCode 1800 50000, limitCode 10000 2000, limitCode 3000 5000,
    limitCode 2000 20000] = [307, 384, 460, 102, 76, 204] := by decide

/-- PER of 500 kHz, 1 MHz, 1.5 MHz and 100 kHz (R105, "Engine budget"). -/
theorem test_periods : [500000, 1000000, 1500000, 100000].map perOf = [800, 400, 267, 4000] := by decide

/-- STEP of rails 4 and 5 of Table 6-3 and of rails 1 and 2 of Table 19-8. -/
theorem test_slew_steps : [stepOf 100 400 32768, stepOf 200 800 16384, stepOf 100 400 16384, stepOf 66 400 32768]
    = [4096, 8192, 2048, 2703] := by decide

/-- The plan of Table 19-1. -/
def rackPlan : Plan :=
  { mask := fun r => [0x5, 0x30, 0x40, 0x80, 0x100, 0x200, 0x400, 0x800].getD r 0
    fsw := fun r => [500000, 1000000, 1000000, 1000000].getD r 100000
    pers := fun n => [3, 3, 3, 3, 1, 1, 1, 1, 4, 5, 5, 6].getD n 0 }

/-- Table 19-3: LOAD and the frame-defining rails of LE0–LE3. -/
theorem test_engine_budget : ([0, 1, 2, 3].map fun g => rackPlan.load g) = [184, 232, 256, 0]
    ∧ ([0, 1, 2, 3].map fun g => rackPlan.frameRail g) = [some 0, some 1, some 4, none] ∧ rackPlan.ok = true := by decide +kernel

/-- "The cycle budget": rails 4–7 on ports 8–11, rail 6 at a frequency, rail 7 on a port. -/
def groupPlan (mask7 fsw6 : Nat) : Plan :=
  { mask := fun r => if r = 7 then mask7 else if 4 ≤ r ∧ r < 7 then 2 ^ (r + 4) else 0
    fsw := fun r => if r = 6 then fsw6 else 1500000
    pers := fun _ => 1 }

/-- 2 MHz on rail 6 is refused with rail 7 on port 11 and passes, with no clock to spare, with rail 7 on port 12. -/
theorem test_budget_of_group_2 : (groupPlan 0x800 1500000).ok = true ∧ (groupPlan 0x800 2000000).ok = false
    ∧ (groupPlan 0x1000 2000000).ok = true ∧ (groupPlan 0x1000 2000000).load 2 = 200 := by decide +kernel

/-- Table 14-1: a value written to CMP15 at N = 1 000 000 with EN 1. -/
def cmpWrote (v : U32) : State :=
  next (.cmpValueWrite path0 15 v) (onTb (withRegs (opened .run) [(key 0x281F 1, 1)]) fun x => { x with count := 1000000 })

/-- Whether CMP15 is due at a count. -/
def dueAt (v c : U32) : Bool := (onTb (cmpWrote v) fun x => { x with count := c }).cmpDue 15

theorem test_compare_below_and_equal : [999999, 1000000].all (fun v => dueAt v 1000001 && !dueAt v 1000000) = true := by decide +kernel
theorem test_compare_one_to_three_above :
    [1000001, 1000002, 1000003].all (fun v => dueAt v 1000003 && !dueAt v 1000001 && !dueAt v 1000002) = true := by decide +kernel
theorem test_compare_four_above : dueAt 1000004 1000004 = true ∧ dueAt 1000004 1000003 = false := by decide +kernel
theorem test_compare_half_range : dueAt 2148483648 2148483648 = true ∧ dueAt 2148483648 1000001 = false
    ∧ dueAt 2148483649 1000001 = true := by decide +kernel

/-- Table 16-2: 13.2 V through the 16:1 divider against 2.5 V is code 0x547B. -/
theorem test_adc_code : adcCode 825000000 2500000000 = 0x547B := by decide

/-- R240: CRC-8 of one byte by hand, and the check value of this CRC-8 over the digits 1 to 9. -/
theorem test_crc8 : crc8 [0x01] = 0x07 ∧ crc8 [0x80] = 0x89
    ∧ crc8 [0x31, 0x32, 0x33, 0x34, 0x35, 0x36, 0x37, 0x38, 0x39] = 0xF4 := by decide +kernel

/-- Table 15-3: the check value of this CRC-32 over the digits 1 to 9. -/
theorem test_crc32 : crc32 [0x31, 0x32, 0x33, 0x34, 0x35, 0x36, 0x37, 0x38, 0x39] = 0xCBF43926 := by decide +kernel

/-- SHA-256 of the letters abc, the example of FIPS 180-4. -/
theorem test_sha256 : sha256 [0x61, 0x62, 0x63] = beBytes 32 0xba7816bf8f01cfea414140de5dae2223b00361a396177a9cb410ff61f20015ad := by
  decide +kernel

/-- The base point of P-256 is on the curve, and twice it has the x coordinate of the published multiples. -/
theorem test_p256 : (p256G.map fun g => onCurve g.1 g.2) = some true
    ∧ (ecMul 2 2 p256G).map Prod.fst = some 0x7cf27b188d034f7e8a52380304b51ac3c08969e277f21b35a60b48fc47669978 := by decide +kernel

/-- R277: an NTC as large as its bias resistor, of nominal value, is at 25.0 °C. -/
theorem test_ntc_at_nominal : ntcDeci 500000 10000 10000 3950 = 250 := by decide +kernel

/-- Group 0 of Table 5-5: rails 0–3, each one BUCK phase on its own port, at 1.5625 MHz, every update due. -/
def group0 : State :=
  let l := (List.range 4).map (fun n => (key (portIdx n) 1, 1))
    ++ (List.range 4).flatMap (fun r => [(key (railIdx r) 1, 2 ^ r), (key (railIdx r) 3, 1), (key (railIdx r) 7, 1562500)])
  let s := withActive (withRegs (opened .run) l) l
  { withRails (withPorts s { Port.reset with state := .switching, due := true, pNum := 1 })
      { Rail.reset with state := .regulating, due := true, pNum := 1 } with
    engines := Vector.replicate 9 { Engine.reset with state := .active } }

/-- Table 5-5: the replay of port 1 at clock 140 fits, that of port 3 at clock 228 does not: a failed replay, a held cycle. -/
theorem test_replays_of_table_5_5 :
    (let t := next (.frameEnd 0) (next (.frameStart 0 [.badWord 140 .coef 5 false, .badWord 228 .state 9 false]) group0);
      (List.finRange 4).map (fun n => t.ports[n.castLE (by decide : 4 ≤ 32)].newCmd.isSome) = [true, true, true, false]
        ∧ t.reg (engIdx 0) 0x0C = 1 ∧ t.reg (engIdx 0) 0x0B = 1 ∧ t.reg (engIdx 0) 0x0A = 1
        ∧ t.ports[(3 : Fin 32)].failAt = some 14) := by decide +kernel

/-- The EMCY messages queued on link A. -/
def emcyOf (s : State) : List (List Byte) := s.can.links[(0 : Fin 2)].emcy

/-- Table 11-7: the safety timer expires with SEQ 40 the newest entry. -/
def timedOut : State :=
  next (.safetyTimerExpire false false) { onChg (charging 3 .fastCC) (fun x => { x with tSafe := 432000 }) with seq := 40 }

theorem test_table_11_7_step_1 : timedOut.chg.state = .fault ∧ timedOut.seq = 41
    ∧ emcyOf timedOut = [[0x70, 0xFF, 0x81, 0x01, 0x07, 0x00, 0x08, 0x01]] ∧ timedOut.latch.set = false := by decide +kernel

/-- Steps 2 to 5 of Table 11-7: the fault cleared but not acknowledged, the overvoltage is raised to class F. -/
theorem test_table_11_7_step_4 :
    (let t := next .batteryOvervoltage (onChg (next (.chgCmdClearFault path0) timedOut) fun x => { x with state := .fastCC });
      t.tripped ∧ t.seq = 42 ∧ t.chg.state = .fault ∧ t.aon.firstCode = 0x0703 ∧ t.aon.lastCode = 0x0703
        ∧ (emcyOf t).getLast? = some [0x72, 0xFF, 0x81, 0x03, 0x07, 0x00, 0x08, 0x06]) := by
  unfold State.tripped State.gatesLow; decide +kernel

/-- Table 13-5: the bytes of one transaction set VSET of rail 3 to 3.400 V through the window at 0x5000. -/
theorem test_table_13_5_write :
    (let l := [(key 0x2203 8, 3300000), (key 0x2203 9, 16384), (key 0x2203 0x40, 4000000), (key 0x2203 0x41, 3900000),
        (key 0x2203 0x42, 3000000), (key 0x2203 0x44, 3100000), (key 0x2203 0x45, 2900000)];
      let s := { withRegs (opened .run) l with tw := { TwoWire.reset with now := some (0, false) } };
      let t := next (.twStop [0x51, 0x9C, 0x40, 0xE1, 0x33, 0x00] 0) s;
      t.reg 0x2203 8 = 3400000 ∧ t.tw.ctx[(0 : Fin 8)].pointer = 0x51A0 ∧ t.tw.ctx[(0 : Fin 8)].result = 1 ∧ t.cmt.out.length = 1) := by
  decide +kernel

/-- Table 19-7, order 2: 0x1018.02 reads 0x00000020. -/
theorem test_product_code : (next (.sdoExpeditedRead .a false true 0x1018 2) (opened .run)).paths[(0 : Fin 10)].answer
    = [0x20, 0, 0, 0] := by decide +kernel

/-- Table 19-7, order 3: an NMT start in STANDBY with the core domain off wakes it (R75). -/
theorem test_nmt_start :
    (let t := next (.nmtStart .a 0) asleep;
      t.pwr.coreWanted = true ∧ t.pwr.wake = some (.nmt .a) ∧ t.md.mode = .standby) := by decide +kernel

/-- Table 12-4: with UV_FAULT 1 100 000 a PG_THR of 1 040 000 is refused; after UV_FAULT 1 000 000 it is not. -/
theorem test_thresholds_in_order :
    (let s := withRegs (opened .run) [(key 0x2201 8, 1200000), (key 0x2201 9, 32768), (key 0x2201 0x40, 1300000), (key 0x2201 0x41, 1260000),
        (key 0x2201 0x42, 1140000), (key 0x2201 0x43, 20000), (key 0x2201 0x44, 1150000), (key 0x2201 0x45, 1100000), (key 0x2201 0x46, 100000)];
      let u := next (.dictWrite path0 0x2201 0x45 (leBytes 4 1000000)) s;
      (next (.dictWrite path0 0x2201 0x42 (leBytes 4 1040000)) s).paths[(2 : Fin 10)].abort = 0x06090030
        ∧ u.paths[(2 : Fin 10)].abort = 0
        ∧ (next (.dictWrite path0 0x2201 0x42 (leBytes 4 1040000)) u).paths[(2 : Fin 10)].abort = 0) := by decide +kernel

/-- Table 14-8, steps 1 to 4: a check-in made twice counts as a duplicate, and CHECKED reads 0x07. -/
theorem test_checkins :
    (let s := onWd (opened .run) fun x => { x with running := true, length := 100000, checked := 3 };
      let t := next (.wdCheckin path0 2) s;
      t.reg 0x2600 0x0B = 1 ∧ t.wd.checked = 3 ∧ (next (.wdCheckin path0 4) t).wd.checked = 7) := by decide +kernel

/-- R121: two captures 750 000 ticks apart at 2 pulses a turn are 1 000 rpm. -/
theorem test_fan_rpm :
    (let l := [(key 0x2101 1, 6), (key 0x2101 0x31, 7), (key 0x2101 0x32, 2)];
      let s := onTb (withActive (withPorts (opened .run) { Port.reset with tachAt := some 1000 }) l) fun x => { x with count := 751000 };
      (next (.captureEdge 7 ⟨true, 751000⟩) s).reg 0x2101 0x34 = 1000) := by decide +kernel

end Sys2Proof.Tests
end

section
/-! SUPPORT. What the units' business leaves alone: the frame of reports, holds, stores, fences and mode entries, said once for each
operation and composed by transitivity. -/

namespace Sys2Proof.Machine
open Sys2Proof

/-! ## The two frames -/

/-- A fenced port stays fenced, and its gates stay low. -/
def Port.StaysFenced (p q : Port) : Prop :=
  p.state = .fenced → q.state = .fenced ∧ (p.gh = false → q.gh = false) ∧ (p.gl = false → q.gl = false)

/-- What no report, hold, store, fence, trip, script end or mode entry changes: the timebase, the supplies but for the reports owed,
the course of a STANDBY entry and the charging of VSTORE, the sources of the latch. The latch and a fence stay set; the loss of
hold-up and the charger's and the ports' flags stay as they are. -/
structure Later (s t : State) : Prop where
  variant : t.variant = s.variant
  tb : t.tb = s.tb
  pwr : t.pwr = { s.pwr with owed := t.pwr.owed, entering := t.pwr.entering, vstoreChg := t.pwr.vstoreChg }
  latch : t.latch = { s.latch with set := t.latch.set, hard := t.latch.hard }
  latched : s.latch.set = true → t.latch.set = true
  fenced : ∀ n : Fin 32, s.ports[n].StaysFenced t.ports[n]
  fencedPorts : ∀ i, s.flt.ports.getLsbD i = true → t.flt.ports.getLsbD i = true
  fencedGroups : ∀ i, s.flt.groups.getLsbD i = true → t.flt.groups.getLsbD i = true
  lost : t.chg.holdupLost = s.chg.holdupLost
  chgFlags : t.reg 0x2500 0x1B = s.reg 0x2500 0x1B
  tripFlags : ∀ n : Fin 32, t.tripFlags n = s.tripFlags n

/-- What besides has no part in the modes: the mode, the sequencer and the latch stand. -/
structure Keeps (s t : State) : Prop extends Later s t where
  md : t.md = s.md
  sqe : t.sqe = s.sqe
  latchSame : t.latch = s.latch

theorem Later.refl (s : State) : Later s s :=
  ⟨rfl, rfl, rfl, rfl, id, fun _ h => ⟨h, id, id⟩, fun _ => id, fun _ => id, rfl, rfl, fun _ => rfl⟩

theorem Later.trans {s t u : State} (h : Later s t) (k : Later t u) : Later s u where
  variant := k.variant.trans h.variant
  tb := k.tb.trans h.tb
  pwr := by rw [k.pwr, h.pwr]
  latch := by rw [k.latch, h.latch]
  latched := k.latched ∘ h.latched
  fenced n hs :=
    have ⟨a, gh, gl⟩ := h.fenced n hs
    have ⟨b, gh', gl'⟩ := k.fenced n a
    ⟨b, gh' ∘ gh, gl' ∘ gl⟩
  fencedPorts i := k.fencedPorts i ∘ h.fencedPorts i
  fencedGroups i := k.fencedGroups i ∘ h.fencedGroups i
  lost := k.lost.trans h.lost
  chgFlags := k.chgFlags.trans h.chgFlags
  tripFlags n := (k.tripFlags n).trans (h.tripFlags n)

theorem Later.foldl {α : Type} {f : State → α → State} (h : ∀ s a, Later s (f s a)) (l : List α) :
    ∀ s, Later s (l.foldl f s) := by
  induction l with
  | nil => exact Later.refl
  | cons a t ih => exact fun s => (h s a).trans (ih _)

theorem Keeps.refl (s : State) : Keeps s s := ⟨.refl s, rfl, rfl, rfl⟩

theorem Keeps.trans {s t u : State} (h : Keeps s t) (k : Keeps t u) : Keeps s u :=
  ⟨h.toLater.trans k.toLater, k.md.trans h.md, k.sqe.trans h.sqe, k.latchSame.trans h.latchSame⟩

theorem Keeps.foldl {α : Type} {f : State → α → State} (h : ∀ s a, Keeps s (f s a)) (l : List α) :
    ∀ s, Keeps s (l.foldl f s) := by
  induction l with
  | nil => exact Keeps.refl
  | cons a t ih => exact fun s => (h s a).trans (ih _)

theorem Later.ite {s t u : State} {c : Prop} [Decidable c] (h : c → Later s t) (k : ¬c → Later s u) :
    Later s (if c then t else u) := by
  split
  · exact h ‹_›
  · exact k ‹_›

theorem Keeps.ite {s t u : State} {c : Prop} [Decidable c] (h : c → Keeps s t) (k : ¬c → Keeps s u) :
    Keeps s (if c then t else u) := by
  split
  · exact h ‹_›
  · exact k ‹_›

/-- What both frames look at, but for the mode and the sequencer. -/
def State.watched (s : State) :=
  (s.variant, s.tb, s.pwr, s.latch, s.ports, s.flt.ports, s.flt.groups, s.chg.holdupLost, s.regs)

/-- A change of what neither frame looks at, but perhaps of the mode and the sequencer. -/
theorem Later.of_watched {s t : State} (h : t.watched = s.watched) : Later s t := by
  simp only [State.watched, Prod.mk.injEq] at h
  obtain ⟨hv, htb, hp, hl, hports, hfp, hfg, hc, hr⟩ := h
  exact ⟨hv, htb, by rw [hp], by rw [hl], by rw [hl]; exact id, fun n => by rw [hports]; exact fun h => ⟨h, id, id⟩,
    fun i => by rw [hfp]; exact id, fun i => by rw [hfg]; exact id, hc, by rw [State.reg, State.reg, hr, hv],
    fun n => by rw [State.tripFlags, State.tripFlags, State.reg, State.reg, hr, hv]⟩

/-- A change of what neither frame looks at. -/
theorem Keeps.of_watched {s t : State} (h : (t.watched, t.md, t.sqe) = (s.watched, s.md, s.sqe)) : Keeps s t := by
  simp only [Prod.mk.injEq] at h
  obtain ⟨h, hm, hq⟩ := h
  refine ⟨.of_watched h, hm, hq, ?_⟩
  simp only [State.watched, Prod.mk.injEq] at h
  exact h.2.2.2.1

/-- Changes of the reports owed and of VSTORE's charging. -/
theorem Keeps.of_pwr (s : State) (owed : List (U16 × U16 × U32)) (chg : Bool) :
    Keeps s { s with pwr := { s.pwr with owed := owed, vstoreChg := chg } } :=
  ⟨⟨rfl, rfl, rfl, rfl, id, fun _ h => ⟨h, id, id⟩, fun _ => id, fun _ => id, rfl, rfl, fun _ => rfl⟩, rfl, rfl, rfl⟩

/-- A register that holds neither the charger's flags nor a port's trip flags. -/
abbrev unflagged (idx sub : Nat) : Prop := sub < 256 ∧ ¬(idx = 0x2500 ∧ sub = 0x1B) ∧ ¬(0x2100 ≤ idx ∧ idx < 0x2120 ∧ sub = 0x12)

/-- Any register but the charger's flags and the trip flags written. -/
theorem Keeps.setReg (s : State) {idx sub : Nat} (v : Nat) (h : unflagged idx sub) : Keeps s (s.setReg idx sub v) := by
  obtain ⟨hs, hc, ht⟩ := h
  refine ⟨⟨rfl, rfl, rfl, rfl, id, fun _ h => ⟨h, id, id⟩, fun _ => id, fun _ => id, rfl, State.reg_setReg_ne s v ?_, fun n =>
    State.reg_setReg_ne s v ?_⟩, rfl, rfl, rfl⟩
  · show (0x2500 * 256 + 0x1B : Nat) ≠ idx * 256 + sub
    omega
  · show ((0x2100 + n.1) * 256 + 0x12 : Nat) ≠ idx * 256 + sub
    omega

theorem Keeps.inc (s : State) {idx sub : Nat} (h : unflagged idx sub) : Keeps s (s.inc idx sub) := .setReg s _ h

theorem Keeps.orReg (s : State) {idx sub : Nat} (m : Nat) (h : unflagged idx sub) : Keeps s (s.orReg idx sub m) :=
  .setReg s _ h

theorem Keeps.clrReg (s : State) {idx sub : Nat} (m : Nat) (h : unflagged idx sub) : Keeps s (s.clrReg idx sub m) :=
  .setReg s _ h

/-- A port changed that stays fenced if it is. -/
theorem Keeps.modPort (s : State) (n : Fin 32) (f : Port → Port) (h : s.ports[n].StaysFenced (f s.ports[n])) :
    Keeps s (s.modPort n f) := by
  refine ⟨⟨rfl, rfl, rfl, rfl, id, fun m => ?_, fun _ => id, fun _ => id, rfl, rfl, fun _ => rfl⟩, rfl, rfl, rfl⟩
  by_cases hm : m = n
  · subst hm; rw [State.modPort_ports_self]; exact h
  · rw [State.modPort_ports_ne s f hm]; exact fun h => ⟨h, id, id⟩

theorem Keeps.modRail (s : State) (r : Fin 16) (f : Rail → Rail) : Keeps s (s.modRail r f) := .of_watched rfl

theorem unflagged_rail (r : Fin 16) (sub : Nat) (h : sub < 256) : unflagged (railIdx r.1) sub := by
  unfold unflagged railIdx
  omega

/-! ## Records and reports -/

theorem tally_keeps (s : State) (code : Nat) : Keeps s (tally s code) :=
  Keeps.foldl (fun t i => by unfold tally1; exact .ite (fun _ => .of_watched rfl) (fun _ => .refl t)) _ s

theorem pendSrc_keeps (s : State) (n : Nat) : Keeps s (pendSrc s n) := by
  unfold pendSrc
  refine .ite (fun _ => Keeps.trans ?_ (tally_keeps _ n)) (fun _ => .refl s)
  exact .of_watched rfl

theorem queueEmcy1_keeps (s : State) (l : Link) (msg : List Byte) : Keeps s (queueEmcy1 s l msg) := by
  unfold queueEmcy1
  exact .ite (fun _ => .ite (fun _ => .of_watched rfl) (fun _ => .inc s (by decide))) (fun _ => .refl s)

theorem queueEmcy_keeps (s : State) (msg : List Byte) : Keeps s (queueEmcy s msg) :=
  (queueEmcy1_keeps s .a msg).trans (queueEmcy1_keeps _ .b msg)

theorem addEntry_keeps (s : State) (e : LogEntry) : Keeps s (addEntry s e) := by
  have h1 : ∀ e1 : LogEntry, Keeps s (if placeLoses s.log e1 then s.inc 0x2700 0x0F else s) :=
    fun _ => .ite (fun _ => .inc s (by decide)) (fun _ => .refl s)
  unfold addEntry
  dsimp only
  split
  · exact .ite (fun _ => (h1 _).trans (.of_watched rfl)) (fun _ => h1 _)
  · refine (Keeps.trans ?_ (queueEmcy_keeps _ _)).trans (.ite (fun _ => pendSrc_keeps _ 25) (fun _ => .refl _))
    exact .ite (fun _ => (h1 _).trans (.of_watched rfl)) (fun _ => h1 _)

theorem logOnly_keeps (s : State) (code unit detail : U16) : Keeps s (logOnly s code unit detail) := by
  unfold logOnly
  split
  · exact .refl s
  · exact .ite (fun _ => addEntry_keeps s _) (fun _ => .refl s)

theorem logConsequent_keeps (s : State) (code unit : U16) (cause : U32) : Keeps s (logConsequent s code unit cause) := by
  unfold logConsequent
  split
  · exact .refl s
  · exact .ite (fun _ => addEntry_keeps s _) (fun _ => .refl s)

theorem aonNote_keeps (s : State) (code unit : U16) (stamp : U32) : Keeps s (aonNote s code unit stamp) := .of_watched rfl

theorem aonReport_keeps (s : State) (code unit : U16) : Keeps s (aonReport s code unit) := .of_watched rfl

/-! ## Rails and ports -/

theorem withdrawPg_keeps (s : State) (r : Fin 16) (loss : Bool) : Keeps s (withdrawPg s r loss) := by
  unfold withdrawPg
  refine (Keeps.modRail s r _).trans (.ite (fun _ => ?_) (fun _ => .refl _))
  have h : ∀ t : State, Keeps t (setSupFlag (countRail t r 0x56) r 0x10) := fun t =>
    (Keeps.inc t (unflagged_rail r 0x56 (by decide))).trans (.orReg _ _ (unflagged_rail r 0x4C (by decide)))
  exact (h _).trans (.ite (fun _ => logOnly_keeps _ _ _ _) (fun _ => .of_pwr _ _ _))

theorem railChanged_keeps (s : State) (r : Fin 16) (old : RailState) (off : Bool) : Keeps s (railChanged s r old off) := by
  unfold railChanged
  exact .ite (fun _ => .refl s)
    (fun _ => Keeps.trans (.ite (fun _ => withdrawPg_keeps s r _) (fun _ => .refl s)) (.modRail _ r _))

theorem toRail_keeps (s : State) (r : Fin 16) (st : RailState) (off : Bool) : Keeps s (toRail s r st off) :=
  (Keeps.modRail s r _).trans (railChanged_keeps _ r _ off)

/-- A port that is not fenced may take any course. -/
theorem Port.StaysFenced.of_ne {p : Port} (h : p.state ≠ .fenced) (q : Port) : p.StaysFenced q := fun e => absurd e h

theorem startPort_keeps (s : State) (r : Fin 16) (n : Fin 32) : Keeps s (startPort s r n) := by
  unfold startPort
  refine .ite (fun _ => .refl s) (fun h => .modPort s n _ (.of_ne (fun e => h (.inl e)) _))

theorem startRail_keeps (s : State) (r : Fin 16) : Keeps s (startRail s r) :=
  ((Keeps.modRail s r _).trans (Keeps.foldl (fun t n => startPort_keeps t r n) _ _)).trans (railChanged_keeps _ r _ false)

theorem readyPort_keeps (s : State) (n : Fin 32) : Keeps s (readyPort s n) := by
  unfold readyPort
  split
  iterate 3 exact .refl s
  · exact .modPort s n _ (.of_ne ‹_› _)

theorem endPort_keeps (st : PortState) (s : State) (n : Fin 32) : Keeps s (endPort st s n) := by
  unfold endPort
  split
  iterate 3 exact .refl s
  · exact .modPort s n _ (.of_ne ‹_› _)

theorem railOff_keeps (s : State) (r : Fin 16) : Keeps s (railOff s r) := by
  unfold railOff
  have h := ((Keeps.foldl (endPort_keeps .ready) (s.members r) s).trans (.modRail _ r fun x =>
    { x with state := .off, shed := 0, trunc := false })).trans (railChanged_keeps _ r (s.railState r) true)
  exact h.trans (.ite (fun _ => startRail_keeps _ r) (fun _ => .refl _))

theorem releasePort_keeps (s : State) (n : Fin 32) (forced : Bool) : Keeps s (releasePort s n forced) := by
  have go : ∀ f : Port → Port, s.ports[n].state ≠ .fenced → Keeps s (s.modPort n f) := fun f h => .modPort s n f (.of_ne h _)
  unfold releasePort
  split
  iterate 3 exact .refl s
  iterate 2 exact .ite (fun _ => go _ (by simp_all)) (fun _ => go _ (by simp_all))
  iterate 2 exact go _ (by simp_all)
  iterate 2 exact .ite (fun _ => go _ (by simp_all)) (fun _ => .refl s)
  · exact go _ ‹_›

theorem stopRail_keeps (s : State) (r : Fin 16) (forced : Bool) : Keeps s (stopRail s r forced) := by
  unfold stopRail
  extract_lets old s1
  refine (Keeps.modRail s r _ : Keeps s s1).trans (.ite (fun _ => ?_) (fun _ => ?_))
  · exact ((Keeps.modRail _ r _).trans (Keeps.foldl (fun t n => releasePort_keeps t n forced) _ _)).trans
      (railChanged_keeps _ r _ true)
  · split
    iterate 3 exact .refl _
    iterate 2 exact railOff_keeps _ r
    · exact .ite (fun _ => railOff_keeps _ r) (fun _ => .refl _)
    · exact .ite (fun _ => railOff_keeps _ r) (fun _ => toRail_keeps _ r _ true)
    iterate 2 exact .ite (fun _ => toRail_keeps _ r _ true) (fun _ => railOff_keeps _ r)

theorem writeEnable_keeps (s : State) (r : Fin 16) (v : Nat) : Keeps s (writeEnable s r v) :=
  Keeps.trans (t := (supersede s (railIdx r.1) 3).setReg (railIdx r.1) 3 v)
    (Keeps.trans (t := supersede s (railIdx r.1) 3) (.of_watched rfl) (.setReg _ v (unflagged_rail r 3 (by decide))))
    (.of_watched rfl)

theorem devDisable_keeps (s : State) (r : Fin 16) (forced : Bool) : Keeps s (devDisable s r forced) :=
  (writeEnable_keeps s r 0).trans (stopRail_keeps _ r forced)

theorem clearEnables_keeps (s : State) : Keeps s (clearEnables s) :=
  Keeps.foldl (fun t r => ((writeEnable_keeps t r 0).trans (withdrawPg_keeps _ r false)).trans (.modRail _ r _)) _ s

theorem holdPort_keeps (s : State) (n : Fin 32) : Keeps s (holdPort s n) := by
  have go : ∀ f : Port → Port, s.ports[n].state ≠ .fenced → Keeps s (s.modPort n f) := fun f h => .modPort s n f (.of_ne h _)
  unfold holdPort
  split
  iterate 2 exact .refl s
  · have hf : s.ports[n].state ≠ .fenced := by simp_all
    refine .ite (fun _ => .refl s) (fun _ => ?_)
    split
    · exact go _ hf
    · exact .ite (fun _ => go _ hf) (fun _ => go _ hf)
  · exact .ite (fun _ => go _ ‹_›) (fun _ => .refl s)

theorem holdRail_keeps (s : State) (r : Fin 16) (old : RailState) : Keeps s (holdRail s r old) := by
  unfold holdRail
  refine .ite (fun _ => .refl s) (fun _ => .ite (fun _ => (Keeps.modRail s r _).trans (railChanged_keeps _ r _ _)) (fun _ => ?_))
  refine .ite (fun _ => .ite (fun _ => ?_) (fun _ => ?_)) (fun _ => railChanged_keeps s r _ _)
  · exact (Keeps.modRail s r _).trans (startRail_keeps _ r)
  · exact (Keeps.modRail s r _).trans (railChanged_keeps _ r _ _)

/-- A port whose state and gates stand. -/
theorem Port.StaysFenced.of_same {p q : Port} (hs : q.state = p.state) (hh : q.gh = p.gh) (hl : q.gl = p.gl) : p.StaysFenced q :=
  fun e => ⟨hs.trans e, hh.trans, hl.trans⟩

theorem rephase_keeps (s : State) (r : Fin 16) : Keeps s (rephase s r) := by
  unfold rephase
  split
  · exact .refl s
  · exact Keeps.foldl (fun t n => .modPort t n _ (.of_same rfl rfl rfl)) _ s

theorem restartDwell_keeps (s : State) (r : Fin 16) : Keeps s (restartDwell s r) :=
  (Keeps.modRail s r _).trans (rephase_keeps _ r)

theorem applyHolds_keeps (s : State) : Keeps s (applyHolds s) :=
  (Keeps.foldl holdPort_keeps s.portList s).trans (Keeps.foldl (fun t x => by
    show Keeps t (if _ then _ else _)
    exact .ite (fun _ => (holdRail_keeps t x.1 x.2).trans (restartDwell_keeps _ x.1)) (fun _ => holdRail_keeps t x.1 x.2)) _ _)

end Sys2Proof.Machine
end

section
namespace Sys2Proof.Machine
open Sys2Proof

/-! ## Stores and the answers that wait for them -/

theorem emit_keeps (s : State) (l : Link) (id : Nat) (fd : Bool) (d : List Byte) : Keeps s (s.emit l id fd d) :=
  .ite (fun _ => .of_watched rfl) (fun _ => .refl s)

theorem emitAll_keeps (s : State) (id : Nat) (fd : Bool) (d : List Byte) : Keeps s (s.emitAll id fd d) :=
  (emit_keeps s .a id fd d).trans (emit_keeps _ .b id fd d)

theorem sendReply_keeps (s : State) (p : HostPath) (q : Option Asked) (code : Nat) (bs : List Byte) :
    Keeps s (sendReply s p q code bs) := by
  unfold sendReply
  split
  · exact .ite (fun _ => .refl s) (fun _ => emit_keeps s _ _ _ _)
  · exact .refl s

theorem showMailbox_keeps (s : State) (c : Fin 8) (code : Nat) : Keeps s (showMailbox s c code) := by
  refine Keeps.trans ?_ (pendSrc_keeps _ 38)
  exact .of_watched rfl

theorem setResult_keeps (s : State) (c : Fin 8) (r code : Nat) : Keeps s (setResult s c r code) := .of_watched rfl

theorem endWaiting_keeps (s : State) (c : Fin 8) (code : Nat) : Keeps s (endWaiting s c code) :=
  .ite (fun _ => (showMailbox_keeps s c code).trans (setResult_keeps _ c _ code)) (fun _ => showMailbox_keeps s c code)

theorem endOwed_keeps (s : State) (p : HostPath) (fence : Bool) (code : Nat) : Keeps s (endOwed s p fence code) := by
  have h : Keeps s (answerOwed s p fence code) := by
    refine Keeps.trans ?_ (sendReply_keeps _ p _ code [])
    exact .of_watched rfl
  unfold endOwed
  split
  · exact h.trans (endWaiting_keeps _ _ code)
  · exact h

theorem answerKeys_keeps (s : State) (ws : List KeyWait) (code : Nat) : Keeps s (answerKeys s ws code) :=
  Keeps.foldl (fun t w => by
    show Keeps t (match w.path with | none => t | some p => endOwed t p false code)
    split
    · exact .refl t
    · exact endOwed_keeps t _ false code) ws s

theorem undoKey_keeps (s : State) : Keeps s (undoKey s) := by
  unfold undoKey
  split
  · exact .refl s
  · refine Keeps.trans ?_ (answerKeys_keeps _ _ _)
    exact .of_watched rfl

theorem undoConfig_keeps (s : State) : Keeps s (undoConfig s) := by
  unfold undoConfig
  split
  · exact .refl s
  · refine Keeps.trans ?_ (Keeps.setReg _ 0x08000020 (by decide))
    exact .of_watched rfl

theorem undoLost_keeps (s : State) (cs : List StoreCause) : Keeps s (undoLost s cs) := by
  have h : Keeps s (if cs.contains .config then undoConfig s else s) :=
    .ite (fun _ => undoConfig_keeps s) (fun _ => .refl s)
  exact .ite (fun _ => h.trans (undoKey_keeps _)) (fun _ => h)

theorem skipStore_keeps (s : State) (cs : List StoreCause) : Keeps s (skipStore s cs) := by
  unfold skipStore
  extract_lets _ _ s1 s2
  have h1 : Keeps s s1 := by
    refine Keeps.trans ?_ (undoLost_keeps _ cs)
    exact .of_watched rfl
  have h2 : Keeps s s2 := h1.trans (.inc s1 (by decide))
  refine h2.trans (Keeps.trans ?_ (pendSrc_keeps _ 36))
  exact .ite (fun _ => logOnly_keeps _ _ _ _) (fun _ => .of_pwr _ _ _)

theorem storePhase1_keeps (s : State) (auto : Bool) : Keeps s (storePhase1 s auto) :=
  .ite (fun _ => .of_watched rfl) (fun _ => .ite (fun _ => .of_watched rfl) (fun _ => .refl s))

theorem startStore_keeps (s : State) (c : StoreCause) : Keeps s (startStore s c) := by
  unfold startStore
  extract_lets c1 s1
  refine (storePhase1_keeps s _ : Keeps s s1).trans (Keeps.trans (Keeps.of_pwr s1 s1.pwr.owed false) ?_)
  exact .of_watched rfl

theorem requestStore_keeps (s : State) (c : StoreCause) : Keeps s (requestStore s c) := by
  unfold requestStore
  split
  · refine .ite (fun _ => Keeps.trans ?_ (undoLost_keeps _ _)) (fun _ => .of_watched rfl)
    exact .of_watched rfl
  · exact .ite (fun _ => startStore_keeps s c) (fun _ => .ite (fun _ => skipStore_keeps s _)
      (fun _ => .ite (fun _ => .of_watched rfl) (fun _ => .of_watched rfl)))

/-! ## The charger -/

/-- `t` is `s` but for the charger, whose loss of hold-up stands, and the free values drawn. -/
structure OnlyChg (s t : State) : Prop where
  frame : t = { s with chg := t.chg, freeCtr := t.freeCtr }
  lost : t.chg.holdupLost = s.chg.holdupLost

theorem OnlyChg.refl (s : State) : OnlyChg s s := ⟨rfl, rfl⟩

theorem OnlyChg.trans {s t u : State} (h : OnlyChg s t) (k : OnlyChg t u) : OnlyChg s u :=
  ⟨k.frame.trans (congrArg (fun x : State => { x with chg := u.chg, freeCtr := u.freeCtr }) h.frame), k.lost.trans h.lost⟩

theorem OnlyChg.ite {s t u : State} {c : Prop} [Decidable c] (h : c → OnlyChg s t) (k : ¬c → OnlyChg s u) :
    OnlyChg s (if c then t else u) := by
  split
  · exact h ‹_›
  · exact k ‹_›

/-- The field of a state that a change of the charger leaves. -/
theorem OnlyChg.same {s t : State} (h : OnlyChg s t) {α : Type} (f : State → α)
    (hf : ∀ (x : State) c n, f { x with chg := c, freeCtr := n } = f x) : f t = f s := by
  rw [h.frame, hf]

theorem OnlyChg.keeps {s t : State} (h : OnlyChg s t) : Keeps s t := by
  apply Keeps.of_watched
  have hl := h.lost
  rw [h.frame] at hl ⊢
  dsimp only [State.watched] at hl ⊢
  rw [hl]

theorem askSearch_onlyChg (s : State) : OnlyChg s (askSearch s) := .ite (fun _ => ⟨rfl, rfl⟩) (fun _ => ⟨rfl, rfl⟩)

theorem askPeriodic_onlyChg (s : State) : OnlyChg s (askPeriodic s) := .ite (fun _ => ⟨rfl, rfl⟩) (fun _ => ⟨rfl, rfl⟩)

theorem toChg_onlyChg (s : State) (st : ChgState) : OnlyChg s (toChg s st) := by
  unfold toChg
  extract_lets _ s1 first _ s2
  have h1 : OnlyChg s s1 := ⟨rfl, rfl⟩
  have h2 : OnlyChg s s2 := h1.trans ⟨rfl, rfl⟩
  exact .ite (fun _ => .ite (fun _ => h2.trans (askSearch_onlyChg s2))
    (fun _ => .ite (fun _ => h2.trans (askPeriodic_onlyChg s2)) (fun _ => h2))) (fun _ => h1)

theorem startCycle_onlyChg (s : State) : OnlyChg s (startCycle s) := by
  unfold startCycle
  extract_lets st _ s1
  have h1 : OnlyChg s s1 := ⟨rfl, rfl⟩
  exact .ite (fun _ => h1.trans (toChg_onlyChg s1 _)) (fun _ => h1.trans (toChg_onlyChg s1 st))

theorem readVbat_onlyChg (s : State) : OnlyChg s (readVbat s) := ⟨rfl, rfl⟩

theorem leaveWait_onlyChg (s : State) : OnlyChg s (leaveWait s) := by
  have hr := readVbat_onlyChg s
  exact .ite (fun _ => .ite (fun _ => toChg_onlyChg s _) (fun _ => toChg_onlyChg s _))
    (fun _ => .ite (fun _ => hr.trans (startCycle_onlyChg _))
      (fun _ => .ite (fun _ => hr.trans (startCycle_onlyChg _)) (fun _ => hr.trans (toChg_onlyChg _ _))))

theorem chgSettle_onlyChg (s : State) : OnlyChg s (chgSettle s) := by
  unfold chgSettle
  split
  iterate 3 exact .refl s
  · exact .ite (fun _ => leaveWait_onlyChg s) (fun _ => .refl s)
  · exact .ite (fun _ => toChg_onlyChg s _) (fun _ => .ite (fun _ => .refl s) (fun _ => toChg_onlyChg s _))
  · exact .ite (fun _ => .refl s) (fun _ => toChg_onlyChg s _)
  all_goals
    have h1 : OnlyChg s { s with chg := { s.chg with heldPhase := s.chg.state } } := ⟨rfl, rfl⟩
    exact .ite (fun _ => h1.trans (toChg_onlyChg _ _)) (fun _ => .ite (fun _ => h1.trans (toChg_onlyChg _ _)) (fun _ => .refl s))

theorem chgSettle_keeps (s : State) : Keeps s (chgSettle s) := (chgSettle_onlyChg s).keeps

theorem chgFault_keeps (s : State) : Keeps s (chgFault s) := (toChg_onlyChg s .fault).keeps

theorem rezone_keeps (s : State) : Keeps s (rezone s) := by
  unfold rezone judgeZone
  split
  all_goals
    refine Keeps.trans ?_ (chgSettle_keeps _)
    exact .of_watched rfl

/-! ## What a mode entry does beside the mode -/

theorem breakRun_keeps (s : State) : Keeps s (breakRun s) :=
  have h : ∀ t (c : Fin 33), Keeps t (if c.1 + 1 = s.milk.slot then t.modSc c fun x => { x with rejects := 0 } else t) :=
    fun t _ => .ite (fun _ => .of_watched rfl) (fun _ => .refl t)
  .ite (fun _ => Keeps.trans (Keeps.foldl h _ s) (.of_watched rfl)) (fun _ => .refl s)

theorem stopRound_keeps (s : State) : Keeps s (stopRound s) := (breakRun_keeps s).trans (.of_watched rfl)

theorem startRound_keeps (s : State) : Keeps s (startRound s) := .ite (fun _ => .of_watched rfl) (fun _ => .refl s)

theorem discardEnables_keeps (s : State) : Keeps s (discardEnables s) := by
  refine Keeps.foldl (fun _ _ => ?_) _ s
  exact .of_watched rfl

theorem herdSend_keeps (s : State) (frame : List Byte) : Keeps s (herdSend s frame) :=
  .ite (fun _ => .of_watched rfl) (fun _ => .refl s)

theorem noteMax_keeps (s : State) (idx : Nat) (t : Option Int) : Keeps s (noteMax s idx t) := by
  unfold noteMax
  split
  · exact .refl s
  · refine .ite (fun _ => ?_) (fun _ => .refl s)
    refine Keeps.trans ?_ (Keeps.setReg _ _ ?_)
    · exact .of_watched rfl
    · unfold unflagged
      omega

theorem setEff_keeps (s : State) (i : Fin 16) (eff : Option Int) (src : Nat) (suspect : Bool) :
    Keeps s (setEff s i eff src suspect) := by
  refine Keeps.trans ?_ (noteMax_keeps _ _ eff)
  exact .of_watched rfl

theorem startReadings_keeps (s : State) : Keeps s (startReadings s) :=
  Keeps.foldl (fun t i => .ite (fun _ => setEff_keeps t i _ _ _) (fun _ => .refl t)) _ s

/-! ## Mode entries -/

/-- The transition that a mode entry records: the mode, the sequencer without its handlers, the reset outputs. -/
def State.entered (s : State) (m : Mode) (cause : Nat) : State :=
  { s with md := { s.md with mode := m, prev := s.md.mode, stamp := s.now, cause := cause }
           sqe := { s.sqe with handlers := [] }
           pins := (modeResets s m).pins }

theorem modeResets_watched (s : State) (m : Mode) : modeResets s m = { s with pins := (modeResets s m).pins } := by
  cases m <;> rfl

/-- A mode entry records its transition, and beside it keeps what the frame keeps. -/
theorem enterMode_keeps (s : State) (m : Mode) (cause : Nat) : Keeps (s.entered m cause) (enterMode s m cause) := by
  unfold enterMode
  extract_lets was pol _ _ _ s1 s2 s3 s4 s5 s6 s7
  have h1 : Keeps (s.entered m cause) s1 := .of_watched rfl
  have h2 : Keeps s1 s2 := .ite (fun _ => discardEnables_keeps s1) (fun _ => .refl s1)
  have h3 : Keeps s2 s3 := .ite (fun _ => clearEnables_keeps s2) (fun _ => .refl s2)
  have h4 : Keeps s3 s4 := by
    show Keeps s3 (modeResets s3 m)
    rw [modeResets_watched]
    exact .of_watched rfl
  have h5 : Keeps s4 s5 := .ite (fun _ => (stopRound_keeps s4).trans (startRound_keeps _))
    (fun _ => .ite (fun _ => .refl s4) (fun _ => stopRound_keeps s4))
  have h6 : Keeps s5 s6 := .ite (fun _ => herdSend_keeps s5 _) (fun _ => .refl s5)
  have h7 : Keeps s6 s7 := .ite (fun _ => (startReadings_keeps s6).trans (rezone_keeps _)) (fun _ => .refl s6)
  exact ((((((h1.trans h2).trans h3).trans h4).trans h5).trans h6).trans h7).trans
    (((applyHolds_keeps s7).trans (chgSettle_keeps _)).trans (pendSrc_keeps _ 24))

theorem enterMode_md (s : State) (m : Mode) (cause : Nat) :
    (enterMode s m cause).md = { s.md with mode := m, prev := s.md.mode, stamp := s.now, cause := cause } :=
  (enterMode_keeps s m cause).md

theorem enterMode_sqe (s : State) (m : Mode) (cause : Nat) : (enterMode s m cause).sqe = { s.sqe with handlers := [] } :=
  (enterMode_keeps s m cause).sqe

theorem enterMode_latch (s : State) (m : Mode) (cause : Nat) : (enterMode s m cause).latch = s.latch :=
  (enterMode_keeps s m cause).latchSame

theorem enterMode_later (s : State) (m : Mode) (cause : Nat) : Later s (enterMode s m cause) :=
  have h : Later s (s.entered m cause) := .of_watched rfl
  h.trans (enterMode_keeps s m cause).toLater

end Sys2Proof.Machine
end

section
namespace Sys2Proof.Machine
open Sys2Proof

/-! ## Fences -/

theorem fenceRail_keeps (s : State) (r : Fin 16) : Keeps s (fenceRail s r) := by
  unfold fenceRail
  refine .ite (fun _ => .refl s) (fun _ => ?_)
  extract_lets old s1 s2 _ s3
  have h1 : Keeps s s1 := Keeps.foldl readyPort_keeps (s.members r) s
  have h2 : Keeps s1 s2 := .modRail s1 r _
  have h3 : Keeps s2 s3 := .of_watched rfl
  exact ((h1.trans h2).trans h3).trans ((Keeps.inc s3 (unflagged_rail r 0x59 (by decide))).trans (railChanged_keeps _ r _ false))

theorem fenceRailFor_keeps (s : State) (r : Fin 16) (cause : U32) : Keeps s (fenceRailFor s r cause) :=
  .ite (fun _ => .refl s) (fun _ => (fenceRail_keeps s r).trans (logConsequent_keeps _ _ _ cause))

theorem countRail_keeps (s : State) (r : Fin 16) (sub : Nat) (h : sub < 256) : Keeps s (countRail s r sub) :=
  .inc s (unflagged_rail r sub h)

theorem setRailFlag_keeps (s : State) (r : Fin 16) (m : Nat) : Keeps s (setRailFlag s r m) :=
  .orReg s m (unflagged_rail r 0x19 (by decide))

theorem losePhase_keeps (s : State) (r : Fin 16) (was : Bool) (cause : U32) : Keeps s (losePhase s r was cause) := by
  unfold losePhase
  extract_lets s1
  have h1 : Keeps s s1 := .ite (fun _ => (countRail_keeps s r 0x59 (by decide)).trans (setRailFlag_keeps _ r 4))
    (fun _ => countRail_keeps s r 0x59 (by decide))
  exact h1.trans (.ite (fun _ => fenceRailFor_keeps s1 r cause)
    (fun _ => .ite (fun _ => (restartDwell_keeps s1 r).trans (.modRail _ r _)) (fun _ => .refl s1)))

/-- A bit set stays among the bits. -/
theorem getLsbD_setBit_of {w : Nat} {x : BitVec w} {i : Nat} (k : Nat) (h : x.getLsbD i = true) :
    (setBit x k).getLsbD i = true := by
  simp [setBit, h]

theorem fenceOne_keeps (s : State) (n : Fin 32) : Keeps s (fenceOne s n) := by
  refine Keeps.trans (Keeps.modPort s n Port.fence fun _ => ⟨rfl, fun _ => rfl, fun _ => rfl⟩) ?_
  exact ⟨⟨rfl, rfl, rfl, rfl, id, fun _ h => ⟨h, id, id⟩, fun _ => getLsbD_setBit_of _, fun _ => id, rfl, rfl, fun _ => rfl⟩, rfl, rfl, rfl⟩

theorem fencePort_keeps (s : State) (n : Fin 32) (cause : U32) : Keeps s (fencePort s n cause) := by
  have h : Keeps s (s.portList.foldl (fun t m => if s.pairLead m.1 = s.pairLead n.1 then fenceOne t m else t) s) :=
    Keeps.foldl (fun t m => .ite (fun _ => fenceOne_keeps t m) (fun _ => .refl t)) _ s
  unfold fencePort
  refine .ite (fun _ => .refl s) (fun _ => ?_)
  extract_lets lead was s1
  split
  · exact h
  · exact .ite (fun _ => h.trans (countRail_keeps _ _ 0x59 (by decide)))
      (fun _ => h.trans ((losePhase_keeps _ _ was cause).trans (railChanged_keeps _ _ _ false)))

theorem fenceGroup_keeps (s : State) (g : Fin 8) (cause : U32) : Keeps s (fenceGroup s g cause) := by
  unfold fenceGroup
  extract_lets _ s1
  have h1 : Keeps s s1 := ⟨⟨rfl, rfl, rfl, rfl, id, fun _ h => ⟨h, id, id⟩, fun _ => id, fun _ => getLsbD_setBit_of _,
    rfl, rfl, fun _ => rfl⟩, rfl, rfl, rfl⟩
  exact h1.trans (Keeps.foldl (fun t n => .ite (fun _ => fencePort_keeps t n cause) (fun _ => .refl t)) _ s1)

theorem loseRover_keeps (s : State) (cause : U32) : Keeps s (loseRover s cause) := by
  unfold loseRover
  extract_lets _ s1
  have h1 : Keeps s s1 := by
    refine Keeps.trans ?_ (stopRound_keeps _)
    exact .of_watched rfl
  split
  · exact h1
  · refine h1.trans (Keeps.trans ?_ (fencePort_keeps _ _ cause))
    exact .of_watched rfl

theorem Keeps.ofMilk (s : State) (m : Milk) : Keeps s { s with milk := m } := .of_watched rfl

theorem failSense_keeps (s : State) (n : Fin 32) (cause : U32) : Keeps s (failSense s n cause) := by
  unfold failSense
  refine .ite (fun _ => .refl s) (fun _ => ?_)
  extract_lets _ s1 rover s2
  have h1 : Keeps s s1 := .of_watched rfl
  have h2 : Keeps s1 s2 := by
    refine (stopRound_keeps s1).trans (Keeps.foldl (fun t c => ?_) _ _)
    exact .of_watched rfl
  exact h1.trans (.ite (fun _ => fencePort_keeps s1 n cause) (fun _ => h2.trans (.ofMilk s2 _)))

theorem failVolt_keeps (s : State) (k : Fin 16) (cause : U32) : Keeps s (failVolt s k cause) := by
  unfold failVolt
  refine .ite (fun _ => .refl s) (fun _ => Keeps.trans ?_ (fenceRailFor_keeps _ k cause))
  exact .of_watched rfl

theorem unflagged_eng (e sub : Nat) (h : sub < 256) : unflagged (engIdx e) sub := by
  unfold unflagged engIdx
  omega

theorem countMoved_keeps (s : State) (r : Fin 16) (k : Nat) : Keeps s (countMoved s r k) := by
  unfold countMoved
  split
  · exact .refl s
  · exact .setReg s _ (unflagged_eng _ _ (by decide))

theorem moveMaster_keeps (s : State) (r : Fin 16) (hit : Bool) (cause : U32) : Keeps s (moveMaster s r hit cause) := by
  unfold moveMaster
  refine .ite (fun _ => .refl s) (fun _ => ?_)
  split
  · exact fenceRailFor_keeps s r cause
  · refine .ite (fun _ => ?_) (fun _ => fenceRailFor_keeps s r cause)
    extract_lets e was _ _ s1
    have h1 : Keeps s (s.setReg (engIdx e) 0x11 was) := .setReg s was (unflagged_eng e 0x11 (by decide))
    have h2 : Keeps (s.setReg (engIdx e) 0x11 was) s1 := .of_watched rfl
    exact (h1.trans h2).trans ((Keeps.modRail s1 r _).trans (countMoved_keeps _ r _))

theorem loseGroup_keeps (s : State) (g : Fin 8) (run : Option FrameRun) (cause : U32) : Keeps s (loseGroup s g run cause) := by
  unfold loseGroup
  extract_lets mastered _ s1 s2
  have h1 : Keeps s s1 := .of_watched rfl
  exact ((h1.trans (logConsequent_keeps s1 _ _ cause)).trans (fenceGroup_keeps _ g cause)).trans
    (Keeps.foldl (fun t r => moveMaster_keeps t r _ cause) _ s2)

theorem fenceEngine_keeps (s : State) (e : Fin 9) (cause : U32) : Keeps s (fenceEngine s e cause) := by
  unfold fenceEngine
  refine .ite (fun _ => .refl s) (fun _ => ?_)
  extract_lets was s1 _ s2
  have h2 : Keeps s s2 := .of_watched rfl
  split
  · refine .ite (fun _ => h2.trans ?_) (fun _ => h2.trans (loseGroup_keeps s2 _ _ cause))
    exact .of_watched rfl
  · exact .ite (fun _ => h2.trans (loseGroup_keeps s2 _ _ cause)) (fun _ => h2)

theorem noteEngine_keeps (s : State) (unit detail : U16) (stamp : U32) : Keeps s (noteEngine s unit detail stamp) :=
  .ite (fun _ => (Keeps.setReg s _ (unflagged_eng _ _ (by decide))).trans (.setReg _ _ (unflagged_eng _ _ (by decide))))
    (fun _ => .refl s)

theorem fenceUnit_keeps (s : State) (unit : U16) (cause : U32) : Keeps s (fenceUnit s unit cause) := by
  unfold fenceUnit
  extract_lets k i
  refine .ite (fun _ => ?_) (fun _ => .ite (fun _ => ?_) (fun _ => .ite (fun _ => ?_) (fun _ => .ite (fun _ => ?_)
    (fun _ => .ite (fun _ => ?_) (fun _ => .ite (fun _ => ?_) (fun _ => .ite (fun _ => ?_) (fun _ => .ite (fun _ => ?_)
    (fun _ => .refl s))))))))
  · split
    · exact fencePort_keeps s _ cause
    · exact .refl s
  · split
    · exact fenceGroup_keeps s _ cause
    · exact .refl s
  · split
    · exact fenceRail_keeps s _
    · exact .refl s
  · exact .ite (fun _ => .of_watched rfl) (fun _ => .refl s)
  · split
    · exact failSense_keeps s _ cause
    · exact .ite (fun _ => loseRover_keeps s cause) (fun _ => .refl s)
  · split
    · exact failVolt_keeps s _ cause
    · exact .refl s
  · split
    · exact fenceEngine_keeps s _ cause
    · exact .refl s
  · refine Keeps.trans ?_ (chgFault_keeps _)
    exact .of_watched rfl

theorem fenceFor_keeps (s : State) (unit : U16) : Keeps s (fenceFor s unit) := by
  unfold fenceFor
  split
  · exact fenceRailFor_keeps s _ _
  · exact .refl s

/-! ## Scripts, modes and trips -/

/-- Changes of the mode, the sequencer, the pins, the sensors and the herd. -/
theorem Later.update (s : State) (md : Modes) (sqe : Sqe) (pins : Pins) (thm : Thermal) (herd : Herd) :
    Later s { s with md := md, sqe := sqe, pins := pins, thm := thm, herd := herd } := .of_watched rfl

theorem stopSqe_later (s : State) : Later s (stopSqe s) := .of_watched rfl

theorem beginPowerDown_later (s : State) (cause : Nat) : Later s (beginPowerDown s cause) :=
  ((stopSqe_later s).trans (enterMode_later _ .shutdown cause)).trans (.update _ _ _ _ _ _)

theorem beginReversal_later (s : State) (cause : Nat) : Later s (beginReversal s cause) :=
  (((stopSqe_later s).trans (enterMode_later _ .shutdown cause)).trans (.update _ _ _ _ _ _)).trans
    (Keeps.orReg _ 0x20 (by decide)).toLater

/-- A change of the course of a STANDBY entry, and of what else the frame leaves open. -/
theorem Later.ofEntering (s : State) (e : Bool) (md : Modes) (sqe : Sqe) (pins : Pins) (can : Can) :
    Later s { s with pwr := { s.pwr with entering := e }, md := md, sqe := sqe, pins := pins, can := can } :=
  ⟨rfl, rfl, rfl, rfl, id, fun _ h => ⟨h, id, id⟩, fun _ => id, fun _ => id, rfl, rfl, fun _ => rfl⟩

theorem beginStartup_later (s : State) (cause : Nat) : Later s (beginStartup s cause) := by
  unfold beginStartup
  extract_lets s1 _ _ _ _ s2
  have h1 : Later s s1 := ((Keeps.clrReg s 1 (by decide)).toLater.trans (stopSqe_later _)).trans (enterMode_later _ .startup cause)
  have h2 : Later s s2 := h1.trans (.ofEntering s1 false _ _ _ _)
  exact .ite (fun _ => h2.trans (.update s2 _ _ _ _ _))
    (fun _ => .ite (fun _ => (h2.trans (beginReversal_later s2 11)).trans (.update _ _ _ _ _ _)) (fun _ => h2))

theorem forceTiming_later (s : State) : Later s (forceTiming s) := by
  unfold forceTiming
  extract_lets _ s0 s1
  have h0 : Later s s0 := by
    refine Later.trans ?_ ((Keeps.orReg _ 4 (by decide)).trans (.orReg _ 8 (by decide))).toLater
    exact .of_watched rfl
  have h1 : Keeps s0 s1 := .ite (fun _ => Keeps.foldl (fun t r => .ite (fun _ => stopRail_keeps t r true) (fun _ => .refl t)) _ s0)
    (fun _ => .refl s0)
  exact (h0.trans h1.toLater).trans (herdSend_keeps s1 _).toLater

theorem enterStandby_later (s : State) (cause : Nat) : Later s (enterStandby s cause) :=
  (((stopSqe_later s).trans (enterMode_later _ .standby cause)).trans (.ofEntering _ true _ _ _ _)).trans
    (requestStore_keeps _ .standby).toLater

theorem enterService_later (s : State) (cause : Nat) : Later s (enterService s cause) :=
  ((stopSqe_later s).trans (enterMode_later _ .service cause)).trans (.update _ _ _ _ _ _)

theorem clrReq_later (s : State) (m : Nat) : Later s (s.clrReg 0x2000 8 m) := (Keeps.clrReg s m (by decide)).toLater

theorem offNow_later (s : State) (cause : Nat) : Later s (offNow s cause) := by
  have h1 := clrReq_later s 1
  unfold offNow
  split
  · exact h1.trans (beginReversal_later _ cause)
  iterate 2 exact h1.trans (beginPowerDown_later _ cause)
  · exact .ite (fun _ => (h1.trans (clrReq_later _ 4)).trans (enterStandby_later _ cause)) (fun _ => h1)
  · exact .refl s

theorem forcedOff_later (s : State) (cause : Nat) : Later s (forcedOff s cause) := by
  have h := offNow_later s cause
  refine .ite (fun _ => ?_) (fun _ => .ite (fun _ => h.trans (forceTiming_later _)) (fun _ => h))
  exact .of_watched rfl

theorem stopNow_later (s : State) : Later s (stopNow s) := by
  unfold stopNow
  split
  · exact (beginReversal_later s 11).trans (.update _ _ _ _ _ _)
  iterate 2 exact (beginPowerDown_later s 11).trans (.update _ _ _ _ _ _)
  · have h1 := clrReq_later s 5
    exact .ite (fun _ => ((h1.trans (.update _ _ _ _ _ _)).trans (stopSqe_later _)).trans (enterMode_later _ .safestop 11))
      (fun _ => h1.trans (.update _ _ _ _ _ _))
  · exact ((Keeps.setReg s 0xFF (by decide)).toLater.trans (.update _ _ _ _ _ _)).trans (applyHolds_keeps _).toLater
  · exact .refl s

theorem orderlyStop_later (s : State) : Later s (orderlyStop s) := by
  refine .ite (fun _ => ?_) (fun _ => stopNow_later s)
  exact .of_watched rfl

/-- The latch as a trip sets it. -/
theorem later_setLatch (s : State) (hard : Bool) : Later s { s with latch := { s.latch with set := true, hard := hard } } :=
  ⟨rfl, rfl, rfl, rfl, fun _ => rfl, fun _ h => ⟨h, id, id⟩, fun _ => id, fun _ => id, rfl, rfl, fun _ => rfl⟩

theorem trip_later (s : State) (hard : Bool) : Later s (trip s hard) := by
  unfold trip
  extract_lets _ s1 _ m s2
  have h1 : Later s s1 := later_setLatch s _
  have h2 : Later s1 s2 := ((Later.update s1 m _ _ _ _).trans (stopSqe_later _)).trans (enterMode_later _ .safestop 10)
  exact .ite (fun _ => h1) (fun _ => .ite (fun _ => h1.trans (stopSqe_later s1)) (fun _ => .ite
    (fun _ => (h1.trans (stopSqe_later s1)).trans ((applyHolds_keeps _).trans (chgSettle_keeps _)).toLater)
    (fun _ => (h1.trans h2).trans (clrReq_later s2 4))))

theorem pay_later (s : State) (row : FaultRow) (cls : FClass) (unit : U16) : Later s (pay s row cls unit) := by
  unfold pay
  extract_lets s0 s1
  have h0 : Keeps s s0 := .ite (fun _ => fenceFor_keeps s unit) (fun _ => .refl s)
  have h1 : Keeps s0 s1 := .ite (fun _ => fenceUnit_keeps s0 unit _) (fun _ => .refl s0)
  exact (h0.trans h1).toLater.trans (.ite (fun _ => trip_later s1 _) (fun _ => .refl s1))

theorem collectAt_later (s : State) (code unit detail : U16) (stamp : U32) : Later s (collectAt s code unit detail stamp) := by
  unfold collectAt
  refine .ite (fun _ => ?_) (fun _ => .ite (fun _ => ?_) (fun _ => .refl s))
  · split
    · exact .refl s
    · extract_lets cls n _ s1 s2
      have h0 : Keeps s (if n = 0 then s else s.bump 0x2700 0x0E top32 n) := .ite (fun _ => .refl s) (fun _ => .setReg s _ (by decide))
      have h1 : Keeps s s1 := h0.trans (addEntry_keeps _ _)
      have h2 : Keeps s1 s2 := .ite (fun _ => noteEngine_keeps s1 unit detail stamp) (fun _ => .refl s1)
      have h3 : Keeps s2 (if cls.fatal then aonNote s2 code unit stamp else s2) :=
        .ite (fun _ => aonNote_keeps s2 code unit stamp) (fun _ => .refl s2)
      exact ((h1.trans h2).trans h3).toLater.trans (pay_later _ _ _ _)
  · exact (aonReport_keeps s code unit).toLater.trans (trip_later _ false)

/-! ## The ends of scripts -/

theorem setPos_later (s : State) (p : StepPos) : Later s (s.setPos p) := by
  unfold State.setPos
  split <;> exact .of_watched rfl

theorem idleSqe_later (s : State) : Later s (idleSqe s) := .of_watched rfl

theorem endDown_later (s : State) : Later s (endDown s) := by
  unfold endDown
  extract_lets left s1
  have h1 : Later s s1 := Later.trans (t := setResets s 3 true) (.of_watched rfl)
    (Keeps.foldl (fun t r => devDisable_keeps t r true) left _).toLater
  exact .ite (fun _ => h1) (fun _ => h1.trans (Keeps.orReg _ 8 (by decide)).toLater)

theorem afterDown_later (s : State) : Later s (afterDown s) := by
  unfold afterDown
  extract_lets s1 _
  have h1 : Later s s1 := (endDown_later s).trans (idleSqe_later _)
  refine .ite (fun _ => h1.trans (enterMode_later s1 .safestop 9)) (fun _ => .ite (fun _ => ?_)
    (fun _ => .ite (fun _ => h1.trans (beginStartup_later s1 9))
      (fun _ => .ite (fun _ => h1.trans (enterService_later s1 9)) (fun _ => h1.trans (enterStandby_later s1 9)))))
  exact (h1.trans (Keeps.orReg s1 4 (by decide)).toLater).trans (.update _ _ _ _ _ _)

theorem callPartial_later (s : State) (p : PartialRun) : Later s (callPartial s p) := by
  unfold callPartial
  split
  · exact .ite (fun _ => .of_watched rfl) (fun _ => .of_watched rfl)
  · exact .of_watched rfl
  · exact .refl s

theorem tagRail_later (s : State) (r : Fin 16) : Later s (tagRail s r) := by
  unfold tagRail
  extract_lets s1
  have h1 : Later s s1 := (Keeps.modRail s r _).toLater
  refine .ite (fun _ => ?_) (fun _ => h1)
  split
  · exact (h1.trans (Keeps.modRail s1 r _).toLater).trans (callPartial_later _ _)
  · exact h1.trans (Keeps.modRail s1 r _).toLater
  · exact h1

theorem dropRestarts_later (s : State) : Later s (dropRestarts s) := by
  unfold dropRestarts
  extract_lets _ s1
  have h1 : Later s s1 := .of_watched rfl
  exact .ite (fun _ => h1.trans (idleSqe_later s1)) (fun _ => h1)

theorem enterHoldup_later (s : State) (cause : Nat) : Later s (enterHoldup s cause) := by
  have start : ∀ t : State, Later t { t with chg := { t.chg with holdAt := t.coreNow } } := fun _ => .of_watched rfl
  unfold enterHoldup
  extract_lets s1 _ s2 s3
  have h2 : Later s s2 := (enterMode_later s .holdup cause).trans (start s1)
  refine .ite (fun _ => .ite (fun _ => h2.trans (forcedOff_later s2 8)) (fun _ => ?_))
    (fun _ => (h2.trans (dropRestarts_later s2)).trans (Later.foldl tagRail_later _ _))
  exact ((h2.trans (beginPowerDown_later s2 8)).trans (forceTiming_later _)).trans (.update _ _ _ _ _ _)

theorem afterUp_later (s : State) : Later s (afterUp s) :=
  .ite (fun _ => (idleSqe_later s).trans (enterMode_later _ .run 9)) (fun _ => (idleSqe_later s).trans (enterHoldup_later _ 9))

theorem nextStep_later (s : State) : Later s (nextStep s) := by
  have herd : ∀ (t : State) h, Later s t → Later s { t with herd := h } := fun t h k => k.trans (.of_watched rfl)
  unfold nextStep
  extract_lets p
  split
  · exact .ite (fun _ => herd _ _ (setPos_later s _)) (fun _ => .ite (fun _ => setPos_later s _) (fun _ => afterUp_later s))
  iterate 2
    · exact .ite (fun _ => herd _ _ (setPos_later s _)) (fun _ => .ite (fun _ => setPos_later s _) (fun _ => afterDown_later s))
  · split
    · exact setPos_later s _
    · exact idleSqe_later s
  · exact .refl s
  · split
    · exact .refl s
    · exact .ite (fun _ => .of_watched rfl) (fun _ => .of_watched rfl)

theorem abortUp_later (s : State) : Later s (abortUp s) := by
  have h := (Keeps.orReg s 0x10 (by decide) : Keeps s (s.orReg 0x2300 8 0x10)).toLater.trans
    (collectAt_later _ 0x0602 (unitCode 9 0) (BitVec.ofNat 16 s.pos.step) (s.orReg 0x2300 8 0x10).now)
  exact .ite (fun _ => h) (fun _ => h.trans (orderlyStop_later _))

theorem abortRestart_later (s : State) : Later s (abortRestart s) :=
  .ite (fun _ => (abortUp_later s).trans (idleSqe_later _)) (fun _ => abortUp_later s)

theorem abortHandler_later (s : State) : Later s (abortHandler s) :=
  .ite (fun _ => (abortUp_later s).trans (.of_watched rfl)) (fun _ => abortUp_later s)

theorem applyPolicy_later (s : State) (policy : Nat) : Later s (applyPolicy s policy) := by
  have forced : Later s (nextStep (forceTiming (s.orReg 0x2300 8 0x10))) :=
    ((Keeps.orReg s 0x10 (by decide)).toLater.trans (forceTiming_later _)).trans (nextStep_later _)
  unfold applyPolicy
  refine .ite (fun _ => (setPos_later s _).trans (.of_watched rfl)) (fun _ => ?_)
  split
  · refine .ite (fun _ => ?_) (fun _ => .ite (fun _ => nextStep_later s) (fun _ => abortUp_later s))
    exact .of_watched rfl
  · exact .ite (fun _ => forced) (fun _ => nextStep_later s)
  · split
    · exact .ite (fun _ => abortRestart_later s) (fun _ => nextStep_later s)
    · exact .ite (fun _ => forced) (fun _ => nextStep_later s)
  · exact .ite (fun _ => abortHandler_later s) (fun _ => nextStep_later s)
  iterate 2 exact .refl s

theorem failStep_later (s : State) (cause : Nat) : Later s (failStep s cause) := by
  unfold failStep
  extract_lets step s1
  have h1 : Keeps s s1 := (((Keeps.orReg s 1 (by decide)).trans (.setReg _ step (by decide))).trans
    (.setReg _ s.now.toNat (by decide))).trans (.setReg _ cause (by decide))
  exact (h1.trans (logOnly_keeps s1 _ _ _)).toLater.trans (applyPolicy_later _ _)

theorem judgeWaits_later (s : State) : Later s (judgeWaits s) :=
  .ite (fun _ => .refl s) (fun _ => failStep_later s _)

/-- A report, with all that it makes of its unit, the modes and a wait in progress, keeps what the frame keeps. -/
theorem report_later (s : State) (code unit detail : U16) : Later s (report s code unit detail) :=
  (collectAt_later s code unit detail s.now).trans (judgeWaits_later _)

end Sys2Proof.Machine
end

section
namespace Sys2Proof.Machine
open Sys2Proof

/-! ## What a later state shows -/

theorem Later.booting {s t : State} (h : Later s t) : t.booting = s.booting := by
  simp only [State.booting]; rw [h.pwr, h.latch]

theorem Later.aonUp {s t : State} (h : Later s t) : t.aonUp = s.aonUp := by simp only [State.aonUp]; rw [h.pwr]

theorem Later.coreOn {s t : State} (h : Later s t) : t.coreOn = s.coreOn := by simp only [State.coreOn]; rw [h.pwr]

theorem Later.live {s t : State} (h : Later s t) : t.live = s.live := by simp only [State.live, h.coreOn]; rw [h.pwr]

theorem Later.isOpen {s t : State} (h : Later s t) : t.isOpen = s.isOpen := by simp only [State.isOpen]; rw [h.pwr]

theorem Later.ready {s t : State} (h : Later s t) : t.ready = s.ready := by simp only [State.ready, h.isOpen]; rw [h.pwr]

/-- With the latch set no gate is driven and neither output says "OK" (R35, R37). -/
theorem safe_of_latched {t : State} (h : t.latch.set = true) : t.gatesLow ∧ t.safeA ≠ .high ∧ t.safeB = .hiZ := by
  have hok : t.safeOk = false := by simp [State.safeOk, h]
  refine ⟨fun n => by simp [State.ghOn, State.glOn, h], ?_, by simp [State.safeB, hok]⟩
  simp only [State.safeA, hok]
  split <;> simp

/-- A command's end with the dictionary closed adds nothing. -/
theorem settle_of_not_ready (old : State) {s : State} (h : s.ready = false) : settle old s = s := by
  simp [settle, settleAux, h]

/-! ## A sequencer at rest fails no wait -/

/-- No script, no partial run, no handler and no wait is in progress. -/
def Sqe.AtRest (q : Sqe) : Prop := q.stat = .idle ∧ q.phase = .none_ ∧ q.handlers = []

theorem waitFails_of_rest {s : State} (h : s.sqe.AtRest) : s.waitFails = 0 := by
  obtain ⟨hi, hp, hh⟩ := h
  have hpos : s.pos.phase ≠ .wait := by simp [State.pos, State.runner, hi, hh, hp]
  have : maskRails 0 = [] := by decide
  simp [State.waitFails, State.pgWaits, hpos, this]

theorem judgeWaits_of_rest {s : State} (h : s.sqe.AtRest) : judgeWaits s = s := by
  simp [judgeWaits, waitFails_of_rest h]

/-! ## Trips (R35) -/

theorem trip_latched (s : State) (hard : Bool) : (trip s hard).latch.set = true := by
  unfold trip
  extract_lets _ s1 _ m s2
  split
  · rfl
  split
  · rfl
  split
  · exact ((applyHolds_keeps (stopSqe s1)).trans (chgSettle_keeps _)).toLater.latched rfl
  · exact (enterMode_later _ .safestop 10).latched rfl

/-- Once a full reset's power-up is over, a trip outside SHIP leads to SAFESTOP and leaves the sequencer at rest. -/
theorem trip_safestop {s : State} (hb : s.booting = false) (hm : s.md.mode ≠ .ship) (hard : Bool) :
    (trip s hard).md.mode = .safestop ∧ (trip s hard).sqe.AtRest := by
  unfold trip
  extract_lets _ s1 _ m s2
  simp only [hb, hm, Bool.false_eq_true, if_false]
  split
  · next h =>
    have k := (applyHolds_keeps (stopSqe s1)).trans (chgSettle_keeps _)
    rw [k.md, k.sqe]
    exact ⟨h, rfl, rfl, rfl⟩
  · show s2.md.mode = _ ∧ s2.sqe.AtRest
    rw [enterMode_md, enterMode_sqe]
    exact ⟨rfl, rfl, rfl, rfl⟩

/-- `t` is a trip's outcome from `s`: what the frame keeps, the latch set, and SAFESTOP outside SHIP once a full reset's power-up is
over. -/
structure Trips (s t : State) : Prop where
  later : Later s t
  latched : t.latch.set = true
  safestop : s.booting = false → s.md.mode ≠ .ship → t.md.mode = .safestop

theorem Trips.of_keeps {s t u : State} (h : Trips s t) (k : Keeps t u) : Trips s u :=
  ⟨h.later.trans k.toLater, k.latched h.latched, fun hb hm => by rw [k.md]; exact h.safestop hb hm⟩

theorem Keeps.trips {s t : State} (h : Keeps s t) (hard : Bool) : Trips s (trip t hard) :=
  ⟨h.toLater.trans (trip_later t hard), trip_latched t hard, fun hb hm =>
    (trip_safestop (h.toLater.booting.trans hb) (by rw [h.md]; exact hm) hard).1⟩

/-- A row of class F is recorded in class F or as a hard stop (R302, R303). -/
theorem classOf_fatal (s : State) {row : FaultRow} (h : row.cls = .f) (unit : U16) : (s.classOf row unit).fatal = true := by
  unfold State.classOf
  split
  · rw [h]; rfl
  · simp only [h, State.raised]
    split <;> rfl

/-- What a collected report has done when it comes to paying for it: the entry, and for an engine or a fatal class its notes. -/
def State.recorded (s : State) (row : FaultRow) (code unit detail : U16) (stamp : U32) : State :=
  let cls := s.classOf row unit
  let n := FClass.steps row.cls cls
  let s1 := addEntry (if n = 0 then s else s.bump 0x2700 0x0E top32 n)
    { mkEntry s code unit cls row.ack detail with esc := n != 0, stamp := stamp }
  let s2 := if code = 0x0309 then noteEngine s1 unit detail stamp else s1
  if cls.fatal then aonNote s2 code unit stamp else s2

theorem recorded_keeps (s : State) (row : FaultRow) (code unit detail : U16) (stamp : U32) :
    Keeps s (s.recorded row code unit detail stamp) := by
  unfold State.recorded
  extract_lets cls n _ s1 s2
  have h1 : Keeps s s1 := Keeps.trans (.ite (fun _ => .refl s) (fun _ => .setReg s _ (by decide))) (addEntry_keeps _ _)
  have h2 : Keeps s1 s2 := .ite (fun _ => noteEngine_keeps s1 unit detail stamp) (fun _ => .refl s1)
  exact (h1.trans h2).trans (.ite (fun _ => aonNote_keeps s2 code unit stamp) (fun _ => .refl s2))

/-- A report that the collector takes is recorded and then paid for. -/
theorem collectAt_live {s : State} {code unit : U16} {row : FaultRow} (hl : s.live = true) (hr : s.rowFor code unit = some row)
    (detail : U16) (stamp : U32) :
    collectAt s code unit detail stamp = pay (s.recorded row code unit detail stamp) row (s.classOf row unit) unit := by
  simp [collectAt, hl, hr, State.recorded]

/-- What a report has fenced when it comes to the trip. -/
def fencedFor (s : State) (row : FaultRow) (cls : FClass) (unit : U16) : State :=
  let s0 := if row.code = 0x0308 then fenceFor s unit else s
  if fencesItself row || (cls == .u && row.cls == .c) then fenceUnit s0 unit s.seq else s0

theorem fencedFor_keeps (s : State) (row : FaultRow) (cls : FClass) (unit : U16) : Keeps s (fencedFor s row cls unit) :=
  Keeps.trans (.ite (fun _ => fenceFor_keeps s unit) (fun _ => .refl s)) (.ite (fun _ => fenceUnit_keeps _ unit _) (fun _ => .refl _))

theorem pay_eq (s : State) (row : FaultRow) (cls : FClass) (unit : U16) :
    pay s row cls unit = if cls.fatal then trip (fencedFor s row cls unit) (cls == .hardStop) else fencedFor s row cls unit := rfl

/-- A class F report that the collector takes trips (R296, R35); the waits of a sequencer at rest need no judging. -/
theorem report_trips {s : State} {code unit : U16} {row : FaultRow} (hl : s.live = true) (hr : s.rowFor code unit = some row)
    (hf : row.cls = .f) (detail : U16) : Trips s (report s code unit detail) := by
  have k := (recorded_keeps s row code unit detail s.now).trans (fencedFor_keeps _ row (s.classOf row unit) unit)
  have e : collect s code unit detail = trip (fencedFor (s.recorded row code unit detail s.now) row (s.classOf row unit) unit)
      (s.classOf row unit == .hardStop) := by
    rw [collect, collectAt_live hl hr, pay_eq, classOf_fatal s hf, if_pos rfl]
  have j := judgeWaits_later (collect s code unit detail)
  rw [report]
  refine ⟨report_later s code unit detail, j.latched (by rw [e]; exact trip_latched _ _), fun hb hm => ?_⟩
  have t := trip_safestop (k.toLater.booting.trans hb) (by rw [k.md]; exact hm) (s.classOf row unit == .hardStop)
  rw [e, judgeWaits_of_rest t.2]
  exact t.1

/-- Without a rail's UV_FENCE the row of a report is that of its code. -/
theorem rowFor_of_ne (s : State) {code : U16} (h : code ≠ 0x0405) (unit : U16) : s.rowFor code unit = faultRow code :=
  if_neg fun e => h e.1

/-- A class F report of a supply, through the collector or without its clock through the AON record, trips (R311, R470). -/
theorem supplyReport_trips (s : State) {code unit : U16} {row : FaultRow} (hr : s.rowFor code unit = some row) (hf : row.cls = .f) :
    Trips s (supplyReport s code unit) := by
  unfold supplyReport
  split
  · exact report_trips ‹_› hr hf 0
  · exact (aonReport_keeps s code unit).trips false

/-- What a command that trips shows at its end, told of the state that it started from or of one before it that was in the same mode
and booting no less. -/
theorem Trips.safe_of (old : State) {s₀ s t : State} (h : Trips s t) (hb : s₀.booting = false → s.booting = false)
    (hm : s.md.mode = s₀.md.mode) :
    (settle old t).latch.set = true ∧ (settle old t).gatesLow ∧ (settle old t).safeA ≠ .high ∧ (settle old t).safeB = .hiZ ∧
      (s₀.booting = false → s₀.md.mode ≠ .ship → (settle old t).md.mode = .safestop) :=
  have ⟨hg, ha, hsb⟩ := safe_of_latched (t := settle old t) h.latched
  ⟨h.latched, hg, ha, hsb, fun b m => h.safestop (hb b) (by rw [hm]; exact m)⟩

theorem Trips.safe (old : State) {s t : State} (h : Trips s t) : (settle old t).latch.set = true ∧ (settle old t).gatesLow ∧
    (settle old t).safeA ≠ .high ∧ (settle old t).safeB = .hiZ ∧
      (s.booting = false → s.md.mode ≠ .ship → (settle old t).md.mode = .safestop) :=
  h.safe_of old id rfl

end Sys2Proof.Machine
end

section
namespace Sys2Proof.Machine
open Sys2Proof

/-! ## The trip sources of the AON island -/

/-- Loss of the core regulator: the latch set with its source, SAFESTOP outside SHIP whatever the power-up, the core domain off for
good (R65). -/
theorem loseRegulator_trips (s : State) :
    (loseRegulator s).latch.set = true ∧ (loseRegulator s).latch.coreReg = true ∧
      (s.md.mode ≠ .ship → (loseRegulator s).md.mode = .safestop) ∧ (loseRegulator s).pwr.regFailed = true ∧
      (loseRegulator s).coreOn = false := by
  unfold loseRegulator
  extract_lets _ s1 _ e msg s2 _ _ _ s3
  have ht : Trips { s with latch := { s.latch with coreReg := true } } s1 := (aonReport_keeps _ 0x0104 (devUnit 4)).trips false
  have k := (requestStore_keeps { s2 with
    pwr := { s2.pwr with regFailed := true, wake := none, lateWake := none, lateOther := none }
    tw := { s2.tw with wakeAddr := none }
    can := { s2.can with links := Vector.ofFn fun i => { s2.can.links[i] with rate := s2.can.links[i].nom } } } .regFail).trans
      (emitAll_keeps s3 (0x80 + s3.can.nodeId) false msg)
  have hl := k.latchSame
  have hp := k.pwr
  refine ⟨?_, ?_, fun hm => ?_, ?_, k.toLater.coreOn⟩
  · rw [hl]; exact ht.latched
  · rw [hl]; exact congrArg Latch.coreReg ht.later.latch
  · rw [k.md]
    exact ht.safestop (by simp [State.booting]) hm
  · rw [hp]

theorem getLsbD_setBit_self {w i : Nat} (x : BitVec w) (h : i < w) : (setBit x i).getLsbD i = true := by
  rw [setBit, BitVec.getLsbD_or, BitVec.getLsbD_ofNat, Nat.testBit_two_pow_self]
  simp [h]

theorem pinEvent_keeps (s : State) (b : Nat) : Keeps s (pinEvent s b) := by
  have h1 : Keeps s (s.orReg 0x2300 0x0F (2 ^ b)) := .orReg s _ (by decide)
  unfold pinEvent
  refine .ite (fun _ => .refl s) (fun _ => .ite (fun _ => ?_) (fun _ => .ite (fun _ => .of_watched rfl) (fun _ => .refl s)))
  exact .ite (fun _ => h1) (fun _ => h1.trans (logOnly_keeps _ _ _ _))

/-- Step 4 reached with VCORE alone (R48, R49). -/
def State.goodWithoutVcc5 (s : State) : State :=
  { s with pwr := { s.pwr with step := .good, regMon := true, vcc5Mon := true, vcc5 := false, vcore := true, xtalOsc := true } }

theorem doCorePowerGoodTimeout_true {s : State} (h : s.pwr.step = .enabled) :
    doCorePowerGoodTimeout true s = trip (aonReport s.goodWithoutVcc5 0x0103 (devUnit 3)) false := if_pos h

theorem doCorePowerGoodTimeout_false {s : State} (h : s.pwr.step = .enabled) : doCorePowerGoodTimeout false s = loseRegulator s :=
  if_pos h

/-- Settles O13: each source is a fatal report, or a trip with its note in the AON record; the frame keeps what else is said. -/
theorem tripSourcesTrip : Obligations.TripSourcesTrip := by
  intro s trips
  refine ⟨fun ha hv => ?_, fun hl => ?_, fun hm hv => ?_, fun hm hb => ?_, fun vcoreOk hs => ?_, fun hm hc => ?_, fun ha he hm => ?_,
    fun he hm => ?_, fun d ha hd hon => ?_⟩
  · refine after_of_done (u := doPowerFail s) rfl ?_
    have t := (supplyReport_trips { s with pwr := { s.pwr with vsys := .powerFail } } (rowFor_of_ne (code := 0x0101) _ (by decide) (devUnit 1)) rfl).of_keeps
      (requestStore_keeps _ .powerFail)
    rw [doPowerFail, if_pos ⟨ha, hv⟩]
    exact ⟨t.safe s, congrArg Power.vsys t.later.pwr⟩
  · refine after_of_done (u := doVioUndervoltage s) rfl ?_
    have t := report_trips (s := { s with pwr := { s.pwr with vio := false } }) hl (rowFor_of_ne (code := 0x0102) _ (by decide) (devUnit 2)) rfl 0
    rw [doVioUndervoltage, if_pos hl]
    exact ⟨t.safe s, congrArg Power.vio t.later.pwr⟩
  · refine after_of_done (u := doVcc5Undervoltage s) rfl ?_
    have t := supplyReport_trips { s with pwr := { s.pwr with vcc5 := false } } (rowFor_of_ne (code := 0x0103) _ (by decide) (devUnit 3)) rfl
    rw [doVcc5Undervoltage, if_pos ⟨hm, hv⟩]
    exact ⟨t.safe s, congrArg Power.vcc5 t.later.pwr⟩
  · refine after_of_done (u := doCoreRegulatorFail s) rfl ?_
    obtain ⟨hl, hr, hs, hf, ho⟩ := loseRegulator_trips s
    have ⟨hg, ha, hb'⟩ := safe_of_latched (t := settle s (loseRegulator s)) hl
    rw [doCoreRegulatorFail, if_pos ⟨hm, hb⟩]
    exact ⟨hl, hg, ha, hb', hs, hf, ho, hr⟩
  · refine after_of_done (u := doCorePowerGoodTimeout vcoreOk s) rfl ?_
    cases vcoreOk with
    | true =>
      have t := (aonReport_keeps s.goodWithoutVcc5 0x0103 (devUnit 3)).trips false
      rw [doCorePowerGoodTimeout_true hs]
      exact ⟨t.safe_of s (by simp [State.booting, State.goodWithoutVcc5, hs]) rfl, nofun⟩
    | false =>
      obtain ⟨hl, hr, hm, hf, ho⟩ := loseRegulator_trips s
      rw [doCorePowerGoodTimeout_false hs]
      have ⟨hg, ha, hb⟩ := safe_of_latched (t := settle s (loseRegulator s)) hl
      exact ⟨⟨hl, hg, ha, hb, fun _ => hm⟩, fun _ => ⟨hm, hf⟩⟩
  · refine after_of_done (u := doClockLossTrip s) rfl ?_
    have t := (aonReport_keeps
      { s with latch := { s.latch with clock := true }, pwr := { s.pwr with gated := true, pllLock := false, dllLock := false } } 0x0105 (devUnit 5)).trips false
    rw [doClockLossTrip, if_pos ⟨hm, hc⟩]
    exact ⟨t.safe s, congrArg Latch.clock t.later.latch, congrArg Power.gated t.later.pwr⟩
  · refine after_of_done (u := doEstopAssert s) rfl ?_
    have k := pinEvent_keeps { s with latch := { s.latch with estop := true } } 8
    have t := supplyReport_trips (pinEvent { s with latch := { s.latch with estop := true } } 8)
      (rowFor_of_ne (code := 0x010A) _ (by decide) (devUnit 6)) rfl
    have later := k.toLater.trans t.later
    have e : doEstopAssert s = supplyReport (pinEvent { s with latch := { s.latch with estop := true } } 8) 0x010A (devUnit 6) := by
      rw [doEstopAssert, he, if_neg (by simp), if_pos ⟨ha, hm⟩]
    rw [e]
    exact ⟨t.safe_of s (fun hb => k.toLater.booting.trans hb) (congrArg Modes.mode k.md), congrArg Latch.estop later.latch⟩
  · refine becomes_of_done (u := _) ?_
    show done s (doEstopAssert s) = _
    rw [doEstopAssert, he, if_neg (by simp), if_neg (fun h => h.2 hm)]
  · refine after_of_done (u := doDieComparatorTrip d s) rfl ?_
    have t := supplyReport_trips { s with latch := { s.latch with die := setBit s.latch.die d.1 }, thm := { s.thm with dieHard := true } }
      (rowFor_of_ne (code := 0x080A) _ (by decide) (devUnit 9)) rfl
    rw [doDieComparatorTrip, if_pos ⟨ha, hd, hon⟩]
    refine ⟨t.safe s, ?_⟩
    rw [settle_latch, t.later.latch]
    exact getLsbD_setBit_self _ d.2

end Sys2Proof.Machine
end

section
namespace Sys2Proof.Machine
open Sys2Proof

/-! ## Supplies and sources that come back -/

/-- A clear of the latch is all that the modes and the supplies see of it, and an unacknowledged fatal entry forbids it (R36). -/
theorem tryClearLatch_keeps (s : State) : ∃ b, Keeps { s with latch := { s.latch with set := b } } (tryClearLatch s) ∧
    ((s.unacked.any fun e => e.cls.fatal) = true → b = s.latch.set) := by
  unfold tryClearLatch
  split
  · next h =>
    refine ⟨false, ?_, fun hu => ?_⟩
    · refine Keeps.trans ?_ ((applyHolds_keeps _).trans (chgSettle_keeps _))
      exact .of_watched rfl
    · simp [hu] at h
  · exact ⟨s.latch.set, .refl s, fun _ => rfl⟩

theorem causeEnded_keeps (s : State) : ∃ b, Keeps { s with latch := { s.latch with set := b } } (causeEnded s) ∧
    ((s.unacked.any fun e => e.cls.fatal) = true → b = s.latch.set) := by
  unfold causeEnded
  split
  · obtain ⟨b, k, hb⟩ := tryClearLatch_keeps (recause s)
    refine ⟨b, Keeps.trans ?_ k, hb⟩
    exact .of_watched rfl
  · exact ⟨s.latch.set, .refl s, fun _ => rfl⟩

/-- Settles O14: a cause that ends touches the latch at most, and that only with no unacknowledged fatal entry. -/
theorem suppliesRecover : Obligations.SuppliesRecover := by
  intro s calmly
  have calm : ∀ s₁ : State, s₁.md = s.md → s₁.tb = s.tb → s₁.pwr.resetCause = s.pwr.resetCause → s₁.pwr.step = s.pwr.step →
      s₁.latch.set = s.latch.set → s₁.unacked = s.unacked → calmly (settle s (causeEnded s₁)) := by
    intro s₁ hm ht hr hs hl hu
    obtain ⟨b, k, hb⟩ := causeEnded_keeps s₁
    have hp := k.pwr
    refine ⟨congrArg Modes.mode (k.md.trans hm), k.tb.trans ht, (congrArg Power.resetCause hp).trans hr,
      (congrArg Power.step hp).trans hs, fun h => ?_⟩
    rw [← hu] at h
    exact (congrArg Latch.set k.latchSame).trans ((hb h).trans hl)
  refine ⟨fun ha hv => ?_, ?_, fun hm => ?_, ?_, fun d => ?_, ?_⟩
  · refine after_of_done (u := doVsysRecovery s) rfl ?_
    rw [doVsysRecovery, if_pos ⟨ha, hv⟩]
    obtain ⟨b, k, -⟩ := causeEnded_keeps { s with pwr := { s.pwr with vsys := .ok } }
    exact ⟨congrArg Power.vsys k.pwr, calm _ rfl rfl rfl rfl rfl rfl⟩
  · refine after_of_done (u := doVioRecovery s) rfl ?_
    obtain ⟨b, k, -⟩ := causeEnded_keeps { s with pwr := { s.pwr with vio := true } }
    exact ⟨congrArg Power.vio k.pwr, calm _ rfl rfl rfl rfl rfl rfl⟩
  · refine after_of_done (u := doVcc5Recovery s) rfl ?_
    rw [doVcc5Recovery, if_pos hm]
    obtain ⟨b, k, -⟩ := causeEnded_keeps { s with pwr := { s.pwr with vcc5 := true } }
    exact ⟨congrArg Power.vcc5 k.pwr, calm _ rfl rfl rfl rfl rfl rfl⟩
  · refine after_of_done (u := doEstopRelease s) rfl ?_
    obtain ⟨b, k, -⟩ := causeEnded_keeps { s with latch := { s.latch with estop := false } }
    exact ⟨congrArg Latch.estop k.latchSame, calm _ rfl rfl rfl rfl rfl rfl⟩
  · refine after_of_done (u := doDieComparatorRelease d s) rfl ?_
    obtain ⟨b, k, -⟩ := causeEnded_keeps { s with latch := { s.latch with die := clrBit s.latch.die d.1 } }
    exact ⟨congrArg Latch.die k.latchSame, calm _ rfl rfl rfl rfl rfl rfl⟩
  · refine after_of_done (u := doVstoreOkReached s) rfl ?_
    rw [doVstoreOkReached]
    split
    · next c hc =>
      split
      · exact ⟨congrArg Power.vstoreOk (startStore_keeps _ c).pwr, fun _ _ _ => ⟨rfl, rfl⟩⟩
      · next hn => exact ⟨rfl, fun _ ha hr => absurd ⟨ha, hr⟩ hn⟩
    · next hc => exact ⟨rfl, fun hw => by rw [show s.ks.waiting = none from hc] at hw; cases hw⟩

/-! ## Loss of the AON island -/

theorem cutStore_latch (s : State) : (cutStore s).latch = s.latch := by unfold cutStore; split <;> rfl

theorem cutStore_pending (s : State) : (cutStore s).pending = s.pending := by unfold cutStore; split <;> rfl

/-- A reset device drives no gate. -/
theorem gatesLow_of_reset {s : State} (h : s.ports = Vector.replicate 32 .reset) : s.gatesLow := fun n => by
  have hn : s.ports[n] = .reset := by rw [h]; exact Vector.getElem_replicate n.2
  simp [State.ghOn, State.glOn, hn, Port.reset]

/-- A full reset with neither ESTOP nor a die comparator asserted trips nothing. -/
theorem standingTrips_of_quiet {s : State} (he : s.latch.estop = false) (hd : s.latch.die = 0) : standingTrips s = s := by
  simp [standingTrips, he, hd]

/-- A full reset with neither asserted leaves the reset values and the commands that wait (R58). -/
theorem fullReset_of_quiet {s : State} (he : s.latch.estop = false) (hd : s.latch.die = 0) (cause : Byte) :
    let t := fullReset s cause
    t.tb = .reset ∧ t.regs = [] ∧ t.ports = Vector.replicate 32 .reset ∧ t.irq = .reset ∧ t.latch = .reset ∧ t.pending = s.pending := by
  have hl := cutStore_latch s
  unfold fullReset
  extract_lets s0 r _ _ _ _ _ t u
  have ht : u = t := standingTrips_of_quiet (by show s0.latch.estop = _; rw [hl, he]) (by show s0.latch.die = _; rw [hl, hd])
  rw [ht]
  refine ⟨rfl, rfl, rfl, rfl, ?_, cutStore_pending s⟩
  show { Latch.reset with estop := s0.latch.estop, die := s0.latch.die } = _
  rw [hl, he, hd]
  rfl

/-- Settles O11: a full reset without ESTOP and without a die comparator trips nothing, and a cut store keeps the latch. -/
theorem aonIslandDown : Obligations.AonIslandDown := by
  intro s down
  obtain ⟨htb, hregs, hports, hirq, hlatch, hpend⟩ :=
    fullReset_of_quiet (s := { s with latch := { s.latch with estop := false, die := 0 } }) rfl rfl 0
  have hset : ∀ st, (aonDown s st).latch.set = false := fun st => congrArg Latch.set hlatch
  refine ⟨fun hs => ?_, fun hs hn => ?_⟩
  · refine after_of_done (u := doAonPowerLoss s) rfl ?_
    rw [doAonPowerLoss, if_neg hs, settle_of_not_ready s rfl]
    exact ⟨⟨rfl, rfl, congrArg Timebase.count htb, hregs, gatesLow_of_reset hports, hirq, hset .unpowered, rfl, hpend⟩, rfl⟩
  · refine after_of_done (u := doNrstAssert s) rfl ?_
    rw [doNrstAssert, if_neg (by simp [hs, hn]), settle_of_not_ready s rfl]
    exact ⟨rfl, rfl, congrArg Timebase.count htb, hregs, gatesLow_of_reset hports, hirq, hset .nrstLow, rfl, hpend⟩

end Sys2Proof.Machine
end

section
namespace Sys2Proof.Machine
open Sys2Proof

/-! ## Reports that fence a unit -/

/-- What the report of a row has fenced stays so through the trip and the judging of the waits. -/
theorem report_live_later {s : State} {code unit : U16} {row : FaultRow} (hl : s.live = true) (hr : s.rowFor code unit = some row)
    (detail : U16) :
    Later (fencedFor (s.recorded row code unit detail s.now) row (s.classOf row unit) unit) (report s code unit detail) := by
  rw [report, collect, collectAt_live hl hr, pay_eq]
  exact .trans (.ite (fun _ => trip_later _ _) (fun _ => .refl _)) (judgeWaits_later _)

theorem fencedFor_of_fencesItself {row : FaultRow} (h : fencesItself row = true) (hc : row.code ≠ 0x0308) (s : State) (cls : FClass)
    (unit : U16) : fencedFor s row cls unit = fenceUnit s unit s.seq := by
  rw [fencedFor, if_neg hc, h]
  rfl

/-- A group fenced is marked so. -/
theorem fenceGroup_groups (s : State) (g : Fin 8) (cause : U32) : (fenceGroup s g cause).flt.groups.getLsbD g.1 = true := by
  unfold fenceGroup
  extract_lets _ s1
  have k : Keeps s1 (s1.portList.foldl (fun t n => if groupOf n = g then fencePort t n cause else t) s1) :=
    Keeps.foldl (fun t n => .ite (fun _ => fencePort_keeps t n cause) (fun _ => .refl t)) _ s1
  exact k.toLater.fencedGroups _ (getLsbD_setBit_self _ g.2)

theorem fenceUnit_group (s : State) (g : Fin 8) (cause : U32) : fenceUnit s (unitCode 2 g.1) cause = fenceGroup s g cause := by
  have h : unitKind (unitCode 2 g.1) = 2 ∧ unitIndex (unitCode 2 g.1) = g.1 := by revert g; decide
  simp [fenceUnit, h]

/-! ## The drivers' supplies and VIN -/

/-- The rails that HOLDUP turns off or marks to be turned off keep the mode. -/
theorem callPartial_md (s : State) (p : PartialRun) : (callPartial s p).md = s.md := by
  unfold callPartial
  split
  · split <;> rfl
  · rfl
  · rfl

theorem tagRail_md (s : State) (r : Fin 16) : (tagRail s r).md = s.md := by
  unfold tagRail
  dsimp only
  split
  · split
    · exact callPartial_md _ _
    · rfl
    · rfl
  · rfl

theorem foldl_md {α : Type} {f : State → α → State} (h : ∀ s a, (f s a).md = s.md) (l : List α) :
    ∀ s, (l.foldl f s).md = s.md := by
  induction l with
  | nil => exact fun _ => rfl
  | cons a t ih => exact fun s => (ih _).trans (h s a)

theorem dropRestarts_md (s : State) : (dropRestarts s).md = s.md := by
  unfold dropRestarts
  dsimp only
  split <;> rfl

/-- Hold-up that is not lost is entered with nothing but its own mode change. -/
theorem enterHoldup_md {s : State} (h : s.chg.holdupLost = false) (cause : Nat) :
    (enterHoldup s cause).md = (enterMode s .holdup cause).md := by
  have hl : (enterMode s .holdup cause).chg.holdupLost = false := (enterMode_later s .holdup cause).lost.trans h
  simp only [enterHoldup, hl, Bool.false_eq_true, if_false]
  exact (foldl_md tagRail_md _ _).trans (dropRestarts_md _)

theorem vinGone_later (s : State) : Later s (vinGone s) := by
  unfold vinGone
  refine .ite (fun _ => enterHoldup_later s 7) (fun _ => .ite (fun _ => ?_) (fun _ => (chgSettle_keeps s).toLater))
  exact (clrReq_later s 4).trans (enterStandby_later _ 7)

theorem doVdrvReady_vdrv (g : Fin 8) (s : State) : (doVdrvReady g s).pwr.vdrv = setBit s.pwr.vdrv g.1 ∧
    (doVdrvReady g s).pwr.vdrvSeen = if s.aonUp then setBit s.pwr.vdrvSeen g.1 else s.pwr.vdrvSeen := by
  unfold doVdrvReady
  extract_lets _ s1
  split
  · have h := (applyHolds_keeps s1).pwr
    exact ⟨congrArg Power.vdrv h, congrArg Power.vdrvSeen h⟩
  · exact ⟨rfl, rfl⟩

/-- Settles O16: a report of 0x0109 fences its group, and what follows keeps the fence and the supplies. -/
theorem driverAndInputSupplies : Obligations.DriverAndInputSupplies := by
  intro s
  refine ⟨fun g hg => ?_, fun g => ?_, fun hv => ?_, fun hv => ?_⟩
  · refine after_of_done (u := doVdrvUndervoltage g s) rfl ?_
    rw [doVdrvUndervoltage, if_pos hg]
    extract_lets _ s1
    split
    · next h =>
      split
      · next hl =>
        have hr : s1.rowFor 0x0109 (unitCode 2 g.1) = some ⟨0x0109, .u, .h, 0x3200⟩ := rowFor_of_ne _ (by decide) _
        have k := report_later s1 0x0109 (unitCode 2 g.1) 0
        have f := report_live_later hl hr 0
        rw [fencedFor_of_fencesItself (by decide) (by decide), fenceUnit_group] at f
        exact ⟨congrArg Power.vdrv k.pwr, fun _ _ _ => f.fencedGroups _ (fenceGroup_groups _ _ _)⟩
      · next hl => exact ⟨rfl, fun h => absurd h hl⟩
    · next h =>
      refine ⟨rfl, fun hl hlt hs => absurd ?_ h⟩
      have hc : s.coreOn = true := by simp only [State.live, Bool.and_eq_true] at hl; exact hl.1
      simp only [Bool.and_eq_true, decide_eq_true_eq]
      exact ⟨⟨hc, hlt⟩, hs⟩
  · refine after_of_done (u := doVdrvReady g s) rfl ?_
    obtain ⟨hv, hs⟩ := doVdrvReady_vdrv g s
    exact ⟨hv, fun ha => hs.trans (if_pos ha)⟩
  · refine after_of_done (u := doVinPresent s) rfl ?_
    rw [doVinPresent, if_neg (by simp [hv])]
    extract_lets _ s1
    split
    · have k := (askSearch_onlyChg s1).trans (chgSettle_onlyChg _)
      exact ⟨k.same State.pwr fun _ _ _ => rfl, k.same State.md fun _ _ _ => rfl⟩
    · split <;> exact ⟨rfl, rfl⟩
  · refine after_of_done (u := doVinAbsent s) rfl ?_
    rw [doVinAbsent, if_pos hv]
    extract_lets _ s1
    split
    · have k := vinGone_later s1
      refine ⟨congrArg Power.vin k.pwr, fun _ hm hl => ?_⟩
      have e : vinGone s1 = enterHoldup s1 7 := if_pos hm
      have hmd := (enterHoldup_md (s := s1) hl 7).trans (enterMode_md s1 .holdup 7)
      rw [e, settle_md, hmd]
      exact ⟨rfl, hm, rfl⟩
    · next h => exact ⟨rfl, fun hr => absurd hr h⟩

end Sys2Proof.Machine
end

section
namespace Sys2Proof.Machine
open Sys2Proof

/-! ## The end of hold-up -/

/-- A partial run called changes the sequencer alone. -/
theorem callPartial_frame (s : State) (p : PartialRun) : callPartial s p = { s with sqe := (callPartial s p).sqe } := by
  unfold callPartial
  split
  · split <;> rfl
  · rfl
  · rfl

/-- Back in RUN, the search asked for and the rails' marks of HOLDUP taken away: the mode entry is all that the modes and the latch
see of it. -/
theorem backToRun_enters (s : State) : (backToRun s).md = (enterMode (askSearch s) .run 6).md ∧ (backToRun s).latch = s.latch ∧
    Later s (backToRun s) := by
  unfold backToRun
  extract_lets m s1 s2
  have k : Keeps s1 s2 := Keeps.foldl (fun t r => Keeps.modRail t r _) _ s1
  have h : Later s s2 :=
    ((askSearch_onlyChg s).keeps.toLater.trans (enterMode_later _ .run 6)).trans k.toLater
  have hl : s2.latch = s.latch :=
    (k.latchSame.trans (enterMode_latch _ _ _)).trans (askSearch_onlyChg s).keeps.latchSame
  split
  · exact ⟨k.md, hl, h⟩
  · rw [callPartial_frame]
    exact ⟨k.md, hl, h.trans (.of_watched rfl)⟩

/-- In HOLDUP with its rails marked the outputs stand at "OK" unless the latch is set. -/
theorem safeOk_of_run {s : State} (ho : s.isOpen = true) (hl : s.latch.set = false) (hm : s.md.mode = .run) : s.safeOk = true := by
  simp [State.safeOk, ho, hl, hm]

theorem beginPowerDown_md (s : State) (cause : Nat) : (beginPowerDown s cause).md = { s.md with
    mode := .shutdown, prev := s.md.mode, stamp := s.now, cause := cause, stopFault := false, svcAsked := false, byHoldup := false,
    requal := false } := by
  show { (enterMode (stopSqe s) .shutdown cause).md with stopFault := false, svcAsked := false, byHoldup := false, requal := false } = _
  rw [enterMode_md]
  rfl

/-- The end of hold-up on a node that follows no master (R81). -/
theorem holdupExpired_of_free {s : State} (h : s.herdFollows = false) : holdupExpired s =
    { beginPowerDown s 8 with md := { (beginPowerDown s 8).md with byHoldup := true } } := by
  simp [holdupExpired, h]

theorem holdupExpired_md {s : State} (h : s.herdFollows = false) : (holdupExpired s).md = { s.md with
    mode := .shutdown, prev := s.md.mode, stamp := s.now, cause := 8, stopFault := false, svcAsked := false, byHoldup := true,
    requal := false } := by
  rw [holdupExpired_of_free h, beginPowerDown_md]

theorem holdupExpired_stat {s : State} (h : s.herdFollows = false) : (holdupExpired s).sqe.stat = .powerDown := by
  rw [holdupExpired_of_free h]
  rfl

theorem Later.ofMd (s : State) (md : Modes) : Later s { s with md := md } := .of_watched rfl

theorem holdupExpired_later {s : State} (h : s.herdFollows = false) : Later s (holdupExpired s) := by
  rw [holdupExpired_of_free h]
  exact (beginPowerDown_later s 8).trans (.ofMd _ _)

/-- Low battery's flag is no concern of the HERD's. -/
theorem herdFollows_orReg (s : State) (m : Nat) : (s.orReg 0x2500 0x1B m).herdFollows = s.herdFollows := by
  have h : (s.orReg 0x2500 0x1B m).reg 0x2D00 1 = s.reg 0x2D00 1 := State.reg_setReg_ne s _ (by decide)
  simp only [State.herdFollows, State.herdRuns, State.herdRole, h]
  rfl

/-- An idle sequencer begins a partial run at once. -/
theorem callPartial_of_idle {s : State} (hi : s.sqe.stat = .idle) (hq : s.sqe.queue = []) (p : PartialRun) : callPartial s p =
    { s with sqe := { s.sqe with stat := .partialRun, partial_ := some p, step := 0xFF, phase := .start, named := 0, restart := 0 } } := by
  simp [callPartial, hi, hq]

theorem settle_safeA (old s : State) : (settle old s).safeA = s.safeA := rfl

theorem settle_safeB (old s : State) : (settle old s).safeB = s.safeB := rfl

/-- Settles O19: each end enters its mode once, and the rails turned off begin a partial run. -/
theorem endOfRunAndHoldup : Obligations.EndOfRunAndHoldup := by
  intro s hr hm
  have hready := hr
  simp only [State.ready, Bool.and_eq_true, Bool.not_eq_true'] at hready
  obtain ⟨hopen, hgate⟩ := hready
  refine ⟨fun hv => ?_, fun he hf => ?_, fun hf => ?_, fun r hi hq => ⟨fun hrun hen hdue => ?_, fun hvoff hen => ?_⟩⟩
  · refine after_of_done (u := doVinQualified s) rfl ?_
    have e : doVinQualified s = backToRun s := by
      simp [doVinQualified, hv, hopen, hm, hgate, vinQualified]
    obtain ⟨hmd, hl, k⟩ := backToRun_enters s
    rw [enterMode_md] at hmd
    rw [e]
    have hmode : (backToRun s).md.mode = .run := by rw [hmd]
    rw [settle_md, settle_safeA, settle_safeB]
    refine ⟨hmode, ?_, by rw [hmd], fun hs hvio => ?_⟩
    · rw [hmd]
      exact (congrArg Modes.mode (askSearch_onlyChg s).keeps.md).trans hm
    · have ho := k.isOpen.trans hopen
      have hok := safeOk_of_run ho (by rw [hl]; exact hs) hmode
      have hstep : (backToRun s).pwr.step ≠ .unpowered := by
        simp only [State.isOpen, beq_iff_eq] at ho
        rw [ho]; decide
      have hio : (backToRun s).pwr.vio = true := (congrArg Power.vio k.pwr).trans hvio
      rw [State.safeA, State.safeB, if_neg hstep, hok, hio]
      exact ⟨rfl, rfl⟩
  · refine after_of_done (u := doHoldupTimeExpired s) rfl ?_
    rw [doHoldupTimeExpired, if_pos ⟨hr, hm, he⟩]
    rw [settle_md, settle_sqe, holdupExpired_md hf]
    exact ⟨rfl, hm, rfl, holdupExpired_stat hf, rfl⟩
  · refine after_of_done (u := doHoldupLowBattery s) rfl ?_
    rw [doHoldupLowBattery, if_pos ⟨hr, hm⟩]
    have hf' := (herdFollows_orReg s 0x100).trans hf
    rw [settle_md, settle_sqe, settle_reg s _ (by decide), holdupExpired_md hf', (holdupExpired_later hf').chgFlags, State.reg_orReg]
    exact ⟨rfl, rfl, holdupExpired_stat hf', by rw [Nat.testBit_or]; simp [show Nat.testBit 256 8 = true by decide]⟩
  · refine becomes_of_done ?_
    show done s (doHuTimedExpired r s) = _
    rw [doHuTimedExpired, if_pos ⟨hr, hm, hrun, hen, hdue⟩]
    exact congrArg (done s) (callPartial_of_idle (s := s.modRail r _) hi hq _)
  · refine becomes_of_done ?_
    show done s (doHuVoffTurnoff r s) = _
    rw [doHuVoffTurnoff, if_pos ⟨hr, hm, hvoff, hen⟩]
    exact congrArg (done s) (callPartial_of_idle (s := s.modRail r _) hi hq _)

end Sys2Proof.Machine
end

section
namespace Sys2Proof.Machine
open Sys2Proof

/-! ## What an entry of the log changes -/

/-- `t` is `s` but for what a record of a fault writes: the log's own objects, the EMCY queues, the interrupt controller and the
AON record. A subindex that no count of these has reads as before. -/
structure Noted (s t : State) : Prop where
  frame : t = { s with regs := t.regs, ks := t.ks, can := t.can, seq := t.seq, irq := t.irq, aon := t.aon }
  reg : ∀ idx sub, sub < 14 → t.reg idx sub = s.reg idx sub

theorem Noted.refl (s : State) : Noted s s := ⟨rfl, fun _ _ _ => rfl⟩

theorem Noted.trans {s t u : State} (h : Noted s t) (k : Noted t u) : Noted s u :=
  ⟨k.frame.trans (congrArg (fun x : State =>
      { x with regs := u.regs, ks := u.ks, can := u.can, seq := u.seq, irq := u.irq, aon := u.aon }) h.frame),
    fun i j hj => (k.reg i j hj).trans (h.reg i j hj)⟩

theorem Noted.ite {s t u : State} {c : Prop} [Decidable c] (h : c → Noted s t) (k : ¬c → Noted s u) :
    Noted s (if c then t else u) := by
  split
  · exact h ‹_›
  · exact k ‹_›

theorem Noted.foldl {α : Type} {f : State → α → State} (h : ∀ s a, Noted s (f s a)) (l : List α) :
    ∀ s, Noted s (l.foldl f s) := by
  induction l with
  | nil => exact Noted.refl
  | cons a t ih => exact fun s => (h s a).trans (ih _)

/-- The field of a state that a record leaves. -/
theorem Noted.same {s t : State} (h : Noted s t) {α : Type} (f : State → α)
    (hf : ∀ (x : State) r k c q i a, f { x with regs := r, ks := k, can := c, seq := q, irq := i, aon := a } = f x) : f t = f s := by
  rw [h.frame, hf]

/-- A count beyond the subindexes that stand. -/
theorem Noted.inc (s : State) {idx sub : Nat} (h : 14 ≤ sub ∧ sub < 256) (k : Nat) : Noted s (s.bump idx sub top32 k) :=
  ⟨rfl, fun i j hj => State.reg_setReg_ne s _ (by show (i * 256 + j : Nat) ≠ idx * 256 + sub; omega)⟩

theorem tally_noted (s : State) (code : Nat) : Noted s (tally s code) :=
  Noted.foldl (fun t i => by unfold tally1; exact .ite (fun _ => ⟨rfl, fun _ _ _ => rfl⟩) (fun _ => .refl t)) _ s

theorem pendSrc_noted (s : State) (n : Nat) : Noted s (pendSrc s n) := by
  unfold pendSrc
  refine .ite (fun _ => Noted.trans ?_ (tally_noted _ n)) (fun _ => .refl s)
  exact ⟨rfl, fun _ _ _ => rfl⟩

theorem queueEmcy1_noted (s : State) (l : Link) (msg : List Byte) : Noted s (queueEmcy1 s l msg) := by
  unfold queueEmcy1
  exact .ite (fun _ => .ite (fun _ => ⟨rfl, fun _ _ _ => rfl⟩) (fun _ => .inc s (by decide) 1)) (fun _ => .refl s)

theorem addEntry_noted (s : State) (e : LogEntry) : Noted s (addEntry s e) := by
  have h1 : ∀ e1 : LogEntry, Noted s (if placeLoses s.log e1 then s.inc 0x2700 0x0F else s) :=
    fun _ => .ite (fun _ => .inc s (by decide) 1) (fun _ => .refl s)
  have h2 : ∀ (t : State) q l p, Noted t (({ t with seq := q } : State).setLog l |>.writeRec 3 p) := fun t q l p => ⟨rfl, fun _ _ _ => rfl⟩
  unfold addEntry
  dsimp only
  split
  · exact .ite (fun _ => (h1 _).trans (h2 _ _ _ _)) (fun _ => h1 _)
  · refine (Noted.trans ?_ ((queueEmcy1_noted _ .a _).trans (queueEmcy1_noted _ .b _))).trans
      (.ite (fun _ => pendSrc_noted _ 25) (fun _ => .refl _))
    exact .ite (fun _ => (h1 _).trans (h2 _ _ _ _)) (fun _ => h1 _)

/-- But for an engine's fault, a report's record is no more than this. -/
theorem recorded_noted (s : State) (row : FaultRow) {code : U16} (hc : code ≠ 0x0309) (unit detail : U16) (stamp : U32) :
    Noted s (s.recorded row code unit detail stamp) := by
  unfold State.recorded
  extract_lets cls n _ s1 s2
  have h1 : Noted s s1 := Noted.trans (.ite (fun _ => .refl s) (fun _ => .inc s (by decide) _)) (addEntry_noted _ _)
  have e : s2 = s1 := if_neg hc
  rw [e]
  exact h1.trans (.ite (fun _ => ⟨rfl, fun _ _ _ => rfl⟩) (fun _ => .refl s1))

/-- A record makes no wait fail. -/
theorem Noted.waitFails {s t : State} (h : Noted s t) : t.waitFails = s.waitFails := by
  have hs : ∀ step sub, sub < 14 → t.stepSet step sub = s.stepSet step sub := fun step sub hs => h.reg _ sub hs
  have hr : t.runner = s.runner := h.same State.runner fun _ _ _ _ _ _ _ => rfl
  have hp : t.pos = s.pos := h.same State.pos fun _ _ _ _ _ _ _ => rfl
  have hq : t.sqe = s.sqe := h.same State.sqe fun _ _ _ _ _ _ _ => rfl
  have hf : t.railFails = s.railFails := h.same State.railFails fun _ _ _ _ _ _ _ => rfl
  have hn : t.restartNow = s.restartNow := h.same State.restartNow fun _ _ _ _ _ _ _ => rfl
  simp only [State.waitFails, State.pgWaits, hs _ 3 (by decide), hs _ 4 (by decide), hr, hp, hq, hf, hn]

/-! ## An entry and its EMCY -/

/-- The entry as the log holds it, but for its place. -/
def LogEntry.placed (s : State) (e : LogEntry) : LogEntry := { e with seq := nextSeq s.seq, acked := e.ack == .a }

/-- An entry with a place stands in the log (R309). -/
theorem exists_mem_placeEntry {log : List LogEntry} {e : LogEntry} (h : hasPlace log e.cls = true) :
    ∃ p, { e with pos := p } ∈ placeEntry log e := by
  unfold placeEntry
  split
  · exact ⟨_, List.mem_append_right _ (List.mem_singleton.mpr rfl)⟩
  · next hn =>
    split
    · exact ⟨_, List.mem_append_right _ (List.mem_singleton.mpr rfl)⟩
    · next hv => simp [hasPlace, hn, hv] at h

theorem pendSrc_log (s : State) (n : Nat) : (pendSrc s n).log = s.log ∧ (pendSrc s n).seq = s.seq ∧ (pendSrc s n).can = s.can := by
  have h1 : ∀ (t : State) c i, (tally1 t c i).log = t.log ∧ (tally1 t c i).seq = t.seq ∧ (tally1 t c i).can = t.can := by
    intro t c i
    unfold tally1
    split <;> exact ⟨rfl, rfl, rfl⟩
  have hf : ∀ (c : Nat) (l : List Nat) (t : State), let u := l.foldl (fun s i => tally1 s c i) t
      u.log = t.log ∧ u.seq = t.seq ∧ u.can = t.can := by
    intro c l
    induction l with
    | nil => exact fun _ => ⟨rfl, rfl, rfl⟩
    | cons a l ih =>
      intro t
      obtain ⟨hl, hs, hc⟩ := ih (tally1 t c a)
      obtain ⟨hl', hs', hc'⟩ := h1 t c a
      exact ⟨hl.trans hl', hs.trans hs', hc.trans hc'⟩
  unfold pendSrc
  split
  · exact hf _ _ _
  · exact ⟨rfl, rfl, rfl⟩

theorem queueEmcy1_log (s : State) (l : Link) (msg : List Byte) :
    (queueEmcy1 s l msg).log = s.log ∧ (queueEmcy1 s l msg).seq = s.seq := by
  unfold queueEmcy1
  split
  · split <;> exact ⟨rfl, rfl⟩
  · exact ⟨rfl, rfl⟩

theorem queueEmcy1_links_ne (s : State) {l : Link} {i : Fin 2} (h : i ≠ linkIx l) (msg : List Byte) :
    (queueEmcy1 s l msg).can.links[i] = s.can.links[i] := by
  unfold queueEmcy1
  split
  · split
    · exact State.modLink_can_links_ne s _ h
    · rfl
  · rfl

theorem queueEmcy1_emcy {s : State} {l : Link} (he : s.can.links[linkIx l].enabled = true)
    (hl : s.can.links[linkIx l].emcy.length < 16) (msg : List Byte) :
    (queueEmcy1 s l msg).can.links[linkIx l].emcy = s.can.links[linkIx l].emcy ++ [msg] := by
  rw [queueEmcy1, if_pos (by rw [he]; rfl), if_pos hl, State.modLink_can_links_self]

/-- A message stands last on every enabled link that has a place for it (R312). -/
theorem queueEmcy_emcy {s : State} {i : Fin 2} (he : s.can.links[i].enabled = true) (hl : s.can.links[i].emcy.length < 16)
    (msg : List Byte) : (queueEmcy s msg).can.links[i].emcy = s.can.links[i].emcy ++ [msg] := by
  unfold queueEmcy
  match i with
  | 0 => rw [queueEmcy1_links_ne _ (l := .b) (by decide)]; exact queueEmcy1_emcy (l := .a) he hl msg
  | 1 =>
    have h := queueEmcy1_links_ne s (l := .a) (i := linkIx .b) (by decide) msg
    have e := queueEmcy1_emcy (s := queueEmcy1 s .a msg) (l := .b) (by rw [h]; exact he) (by rw [h]; exact hl) msg
    rw [h] at e
    exact e

/-- The state with the entry in its log, before its EMCY. -/
def State.logged (s : State) (e : LogEntry) : State :=
  let s1 := if placeLoses s.log (e.placed s) then s.inc 0x2700 0x0F else s
  let t := { s1 with seq := nextSeq s.seq }.setLog (placeEntry s.log (e.placed s))
  t.writeRec 3 (headPayload t)

theorem logged_log (s : State) (e : LogEntry) : (s.logged e).log = placeEntry s.log (e.placed s) ∧ (s.logged e).seq = nextSeq s.seq ∧
    (s.logged e).can = s.can := by
  refine ⟨rfl, rfl, ?_⟩
  show (if placeLoses s.log (e.placed s) then s.inc 0x2700 0x0F else s).can = s.can
  split <;> rfl

/-- An entry with a place that sends nothing (R298, R309). -/
theorem addEntry_of_quiet {s : State} {e : LogEntry} (hp : hasPlace s.log e.cls = true) (ha : e.ack = .a) :
    addEntry s e = s.logged e := by
  unfold addEntry
  dsimp only
  rw [if_pos ha, if_pos hp]
  rfl

/-- The state with the entry in its log and its EMCY queued. -/
def State.loud (s : State) (e : LogEntry) : State := pendSrc (queueEmcy (s.logged e) (emcyOf (s.logged e) (e.placed s))) 25

/-- The entry's place is no part of its EMCY (Table 11-6), and the error register is the log's. -/
theorem emcyOf_congr {s t : State} (h : t.log = s.log) (e : LogEntry) (p : Nat) : emcyOf t { e with pos := p } = emcyOf s e := by
  have he : t.errReg = s.errReg := by simp only [State.errReg, State.unacked, h]
  unfold emcyOf
  rw [he]
  rfl

theorem loud_log (s : State) (e : LogEntry) : (s.loud e).log = placeEntry s.log (e.placed s) := by
  obtain ⟨h1, -, -⟩ := pendSrc_log (queueEmcy (s.logged e) (emcyOf (s.logged e) (e.placed s))) 25
  have h2 : ∀ (t : State) m, (queueEmcy t m).log = t.log := fun t m => (queueEmcy1_log _ .b m).1.trans (queueEmcy1_log t .a m).1
  exact (h1.trans (h2 _ _)).trans (logged_log s e).1

/-- The entry's EMCY stands last on every enabled link that has a place for it. -/
theorem loud_emcy {s : State} {i : Fin 2} (he : s.can.links[i].enabled = true) (hl : s.can.links[i].emcy.length < 16) (e : LogEntry)
    (p : Nat) : (s.loud e).can.links[i].emcy = s.can.links[i].emcy ++ [emcyOf (settle s (s.loud e)) { e.placed s with pos := p }] := by
  have hc := (logged_log s e).2.2
  have hlog : (settle s (s.loud e)).log = (s.logged e).log := (loud_log s e).trans (logged_log s e).1.symm
  have h := queueEmcy_emcy (s := s.logged e) (i := i) (by rw [hc]; exact he) (by rw [hc]; exact hl) (emcyOf (s.logged e) (e.placed s))
  rw [emcyOf_congr hlog, State.loud, (pendSrc_log _ 25).2.2, h, hc]

/-- An entry with a place whose EMCY is queued (R309, R312). -/
theorem addEntry_of_loud {s : State} {e : LogEntry} (hp : hasPlace s.log e.cls = true) (ha : e.ack ≠ .a) :
    addEntry s e = s.loud e := by
  unfold addEntry
  dsimp only
  rw [if_neg ha, if_pos hp, if_pos hp]
  rfl

/-! ## What the interrupt controller adds to the EMCY queues -/

/-- `t` is `s` but for what delivery adds: the EMCY queues only grow, and not at all where no source is notified. -/
structure Queues (s t : State) : Prop extends Adds s t where
  can : s.reg 0x2A00 0x0B = 0 → t.can = s.can
  grows : ∀ i : Fin 2, s.can.links[i].emcy <+: t.can.links[i].emcy

theorem Queues.refl (s : State) : Queues s s := ⟨.refl s, fun _ => rfl, fun _ => List.prefix_rfl⟩

theorem Queues.trans {s t u : State} (h : Queues s t) (k : Queues t u) : Queues s u :=
  ⟨h.toAdds.trans k.toAdds, fun e => (k.can ((h.reg (by decide)).trans e)).trans (h.can e), fun i => (h.grows i).trans (k.grows i)⟩

theorem Queues.ite {s t u : State} {c : Prop} [Decidable c] (h : c → Queues s t) (k : ¬c → Queues s u) :
    Queues s (if c then t else u) := by
  split
  · exact h ‹_›
  · exact k ‹_›

theorem Queues.foldl {α : Type} {f : State → α → State} (h : ∀ s a, Queues s (f s a)) (l : List α) :
    ∀ s, Queues s (l.foldl f s) := by
  induction l with
  | nil => exact Queues.refl
  | cons a t ih => exact fun s => (h s a).trans (ih _)

/-- Where the queues stand. -/
theorem Queues.of_can {s t : State} (h : Adds s t) (hc : t.can = s.can) : Queues s t :=
  ⟨h, fun _ => hc, fun i => by rw [hc]⟩

theorem pendSrc_queues (s : State) (n : Nat) : Queues s (pendSrc s n) := .of_can (pendSrc_adds s n) (pendSrc_log s n).2.2

theorem queueEmcy1_grows (s : State) (l : Link) (msg : List Byte) (i : Fin 2) :
    s.can.links[i].emcy <+: (queueEmcy1 s l msg).can.links[i].emcy := by
  unfold queueEmcy1
  split
  · split
    · by_cases h : i = linkIx l
      · subst h; rw [State.modLink_can_links_self]; exact List.prefix_append _ _
      · rw [State.modLink_can_links_ne s _ h]
    · exact List.prefix_rfl
  · exact List.prefix_rfl

theorem queueEmcy_grows (s : State) (msg : List Byte) (i : Fin 2) : s.can.links[i].emcy <+: (queueEmcy s msg).can.links[i].emcy :=
  (queueEmcy1_grows s .a msg i).trans (queueEmcy1_grows _ .b msg i)

theorem notifyA_queues (s : State) (n : Fin 64) : Queues s (notifyA s n) := by
  refine ⟨notifyA_adds s n, fun h => ?_, fun i => ?_⟩
  · simp [notifyA, h]
  · unfold notifyA
    split
    · exact queueEmcy_grows s _ i
    · exact List.prefix_rfl

theorem deliverA_queues (s : State) : Queues s (deliverA s) := by
  unfold deliverA
  split
  · exact .of_can (Adds.irq s _ BitVec.and_self) rfl
  · split
    · exact .refl s
    · next n _ _ =>
      exact (Queues.of_can ((Adds.irq s { s.irq with activeA := some n } BitVec.and_self).trans (Adds.inc _ (countsKey_src _))) rfl).trans
        (notifyA_queues _ n)

theorem deliverB_queues (s : State) : Queues s (deliverB s) := by
  refine .of_can (deliverB_adds s) ?_
  unfold deliverB
  split
  · rfl
  · split <;> rfl

theorem settleAux_queues (old s : State) : Queues s (settleAux old s) := by
  have edges : Queues s (pendEdges old s) := by
    unfold pendEdges
    extract_lets s1 s2
    have h1 : Queues s s1 := .ite (fun _ => .refl s) (fun _ => pendSrc_queues s 31)
    have h2 : Queues s1 s2 := .ite (fun _ => .refl s1) (fun _ => pendSrc_queues s1 32)
    exact (h1.trans h2).trans (.ite (fun _ => .refl s2) (fun _ => pendSrc_queues s2 34))
  have served : ∀ t, Queues t (dropServed t) := fun t => by
    unfold dropServed
    extract_lets t1
    have h1 : Queues t t1 := .ite (fun _ => deliverA_queues t) (fun _ => .refl t)
    exact h1.trans (.ite (fun _ => deliverB_queues t1) (fun _ => .refl t1))
  have levels : ∀ t, Queues t (pendLevels t) := fun t =>
    Queues.foldl (fun u n => .ite (fun _ => .refl u) (fun _ => pendSrc_queues u n)) _ t
  unfold settleAux
  refine .ite (fun _ => ?_) (fun _ => .refl s)
  exact ((((edges.trans (served _)).trans (levels _)).trans (deliverA_queues _)).trans (deliverB_queues _)).trans
    (.of_can (Adds.irq _ _ BitVec.and_self) rfl)

/-- Where no source is notified a command's end leaves the CAN objects. -/
theorem settle_can (old s : State) (h : s.reg 0x2A00 0x0B = 0) : (settle old s).can = s.can := by
  show { s.can with links := (settleAux old s).can.links } = s.can
  rw [(settleAux_queues old s).can h]

theorem settle_emcy (old s : State) (i : Fin 2) : s.can.links[i].emcy <+: (settle old s).can.links[i].emcy :=
  (settleAux_queues old s).grows i

/-! ## The rows of Table 11-4 -/

/-- The row of a report that is not of class U is its code's. -/
theorem rowFor_mem {s : State} {code unit : U16} {row : FaultRow} (h : s.rowFor code unit = some row) (hu : row.cls ≠ .u) :
    row ∈ faultTable ∧ row.code = code ∧ faultRow code = some row := by
  unfold State.rowFor at h
  split at h
  · cases h; exact absurd rfl hu
  · exact ⟨List.mem_of_find?_eq_some h, by simpa using List.find?_some h, h⟩

/-- The codes whose FAULT_REPORT has a reaction of its own. -/
def ownCodes : List Nat :=
  [0x0207, 0x0208, 0x0209, 0x020A, 0x0401, 0x0602, 0x0604, 0x0805, 0x0809, 0x0605, 0x0701, 0x0702, 0x0703, 0x0704, 0x0901, 0x0902, 0x0903]

theorem ownReaction_of_notMem {code : U16} (h : code.toNat ∉ ownCodes) (s : State) (unit : U16) : ownReaction s code unit = s := by
  unfold ownReaction
  split <;> simp_all [ownCodes]

theorem classC_table : ∀ row ∈ faultTable, row.cls = .c → fencesItself row = false ∧ row.code ≠ 0x0308 ∧ row.code ≠ 0x0309 ∧
    (row.code.toNat ∉ [0x0207, 0x0208, 0x0401] → row.code.toNat ∉ ownCodes) ∧
    (row.ack ≠ .a → row.code.toNat ∉ [0x0207, 0x0208, 0x0401]) := by decide

theorem classF_table : ∀ row ∈ faultTable, row.cls = .f → row.code.toNat ∉ ownCodes := by decide

/-- A report of a class C row that is not raised makes its entry and nothing else. -/
theorem faultReport_of_classC {s : State} {code unit : U16} {row : FaultRow} (hl : s.live = true) (hr : s.rowFor code unit = some row)
    (hc : row.cls = .c) (hx : s.classOf row unit = .c) (hn : code.toNat ∉ [0x0207, 0x0208, 0x0401]) (hw : s.waitFails = 0)
    (detail : U16) :
    doFaultReport code unit detail s = addEntry s (mkEntry s code unit .c row.ack detail) := by
  obtain ⟨hmem, rfl, hrow⟩ := rowFor_mem hr (by rw [hc]; decide)
  obtain ⟨hf, h308, h309, hown, -⟩ := classC_table row hmem hc
  have hrec : s.recorded row row.code unit detail s.now = addEntry s (mkEntry s row.code unit .c row.ack detail) := by
    unfold State.recorded
    dsimp only
    rw [if_neg h309, hx, hc]
    rfl
  have hpay : pay (s.recorded row row.code unit detail s.now) row .c unit = s.recorded row row.code unit detail s.now := by
    rw [pay_eq, if_neg (by decide), fencedFor, if_neg h308, hf, hc]
    rfl
  have hwait := (recorded_noted s row h309 unit detail s.now).waitFails.trans hw
  have hrep : report s row.code unit detail = s.recorded row row.code unit detail s.now := by
    rw [report, collect, collectAt_live hl hr, hx, hpay, judgeWaits, if_pos hwait]
  rw [doFaultReport, if_pos ⟨hl, by rw [hrow]; rfl⟩, ownReaction_of_notMem (hown hn), hrep, hrec]

/-! ## A backstop report fences its port -/

/-- A port fenced by its report: its bit set and its gates low. -/
def State.PortFenced (s : State) (n : Fin 32) : Prop :=
  s.ports[n].state = .fenced ∧ s.flt.ports.getLsbD n.1 = true ∧ s.ports[n].gh = false ∧ s.ports[n].gl = false

theorem State.PortFenced.later {s t : State} {n : Fin 32} (h : s.PortFenced n) (k : Later s t) : t.PortFenced n := by
  obtain ⟨hs, hb, hh, hl⟩ := h
  obtain ⟨hs', hh', hl'⟩ := k.fenced n hs
  exact ⟨hs', k.fencedPorts _ hb, hh' hh, hl' hl⟩

theorem fenceOne_fences (s : State) (n : Fin 32) : (fenceOne s n).PortFenced n := by
  have h : (fenceOne s n).ports[n] = s.ports[n].fence := State.modPort_ports_self s n _
  have hb : (fenceOne s n).flt.ports.getLsbD n.1 = true := getLsbD_setBit_self _ n.2
  refine ⟨?_, hb, ?_, ?_⟩ <;> rw [h] <;> rfl

/-- Fencing the ports that `p` names, in order, fences each of them. -/
theorem foldl_fenceOne (p : Fin 32 → Prop) [DecidablePred p] {n : Fin 32} (hp : p n) (l : List (Fin 32)) :
    n ∈ l → ∀ s : State, (l.foldl (fun t m => if p m then fenceOne t m else t) s).PortFenced n := by
  have hk : ∀ (t : State) m, Keeps t (if p m then fenceOne t m else t) :=
    fun t m => .ite (fun _ => fenceOne_keeps t m) (fun _ => .refl t)
  induction l with
  | nil => exact fun h => absurd h List.not_mem_nil
  | cons a l ih =>
    intro h s
    rcases List.mem_cons.mp h with rfl | h
    · rw [List.foldl_cons, if_pos hp]
      exact (fenceOne_fences s n).later (Keeps.foldl hk l _).toLater
    · exact ih h _

theorem fencePort_fences {s : State} {n : Fin 32} (hn : n.1 < s.variant.ports) (hs : s.ports[n].state ≠ .fenced) (cause : U32) :
    (fencePort s n cause).PortFenced n := by
  have h := foldl_fenceOne (fun m => s.pairLead m.1 = s.pairLead n.1) (n := n) rfl s.portList (by simp [State.portList, hn]) s
  unfold fencePort
  rw [if_neg hs]
  dsimp only
  split
  · exact h
  · next r _ =>
    split
    · exact h.later (countRail_keeps _ r _ (by decide)).toLater
    · exact h.later ((losePhase_keeps _ r _ cause).trans (railChanged_keeps _ r _ false)).toLater

theorem fenceUnit_port (s : State) (n : Fin 32) (cause : U32) : fenceUnit s (unitCode 1 n.1) cause = fencePort s n cause := by
  have h : unitKind (unitCode 1 n.1) = 1 ∧ unitIndex (unitCode 1 n.1) = n.1 := by revert n; decide
  simp [fenceUnit, h]

/-- A backstop report on a present port fences it (R298). -/
theorem report_backstop {s : State} (hl : s.live = true) {n : Fin 32} (hn : n.1 < s.variant.ports) (detail : U16) :
    (report s 0x0201 (unitCode 1 n.1) detail).ports[n].state = .fenced ∧
      (s.ports[n].state ≠ .fenced → (report s 0x0201 (unitCode 1 n.1) detail).PortFenced n) := by
  have hr : s.rowFor 0x0201 (unitCode 1 n.1) = some ⟨0x0201, .u, .h, 0x2300⟩ := rowFor_of_ne s (by decide) _
  have k := report_live_later hl hr detail
  rw [fencedFor_of_fencesItself (by decide) (by decide), fenceUnit_port] at k
  have w := recorded_noted s ⟨0x0201, .u, .h, 0x2300⟩ (code := 0x0201) (by decide) (unitCode 1 n.1) detail s.now
  have hp := w.same State.ports fun _ _ _ _ _ _ _ => rfl
  have hv := w.same State.variant fun _ _ _ _ _ _ _ => rfl
  by_cases hs : s.ports[n].state = .fenced
  · exact ⟨((report_later s _ _ detail).fenced n hs).1, fun h => absurd hs h⟩
  · have f := (fencePort_fences (by rw [hv]; exact hn) (by rw [hp]; exact hs) _).later k
    exact ⟨f.1, fun _ => f⟩

/-! ## Reports are recorded -/

theorem tripped_of_trips {s t : State} (old : State) (h : Trips s t) (hb : s.booting = false) (hm : s.md.mode ≠ .ship) :
    (settle old t).tripped :=
  have ⟨hl, hg, _, _, hmode⟩ := h.safe old
  ⟨hl, hmode hb hm, hg⟩

/-- Settles O54: a class C report is its entry alone, a class F report a trip, a backstop report a fence. -/
theorem reportsAreRecordedAndPaid : Obligations.ReportsAreRecordedAndPaid := by
  intro s hl
  refine ⟨fun code unit detail row hr => ⟨fun hc ha hn hw hp => ?_, fun hc ha hx hw hp => ?_, fun hf hb hm => ?_⟩,
    fun code unit detail hnone hw h405 => ?_, fun n detail hn => ?_, fun hb hm => ?_⟩
  · refine after_of_done (u := doFaultReport code unit detail s) rfl ?_
    have hx : s.classOf row unit = .c := by rw [State.classOf, if_pos (.inl (by rw [ha]; decide)), hc]
    rw [faultReport_of_classC hl hr hc hx hn hw, ha]
    let e := mkEntry s code unit .c .a detail
    rw [addEntry_of_quiet (e := e) hp rfl]
    obtain ⟨hlog, hseq, hcan⟩ := logged_log s e
    obtain ⟨p, hmem⟩ := exists_mem_placeEntry (e := e.placed s) hp
    have w := addEntry_noted s e
    rw [addEntry_of_quiet (e := e) hp rfl] at w
    refine ⟨w.same State.md fun _ _ _ _ _ _ _ => rfl, hseq, { e.placed s with pos := p }, by rw [settle_log, hlog]; exact hmem,
      rfl, rfl, rfl, rfl, rfl, rfl, rfl, rfl, fun hq => ?_⟩
    rw [settle_can s _ ((w.reg _ _ (by decide)).trans hq), hcan]
  · refine after_of_done (u := doFaultReport code unit detail s) rfl ?_
    obtain ⟨hmem, hcode, -⟩ := rowFor_mem hr (by rw [hc]; decide)
    have hn := (classC_table row hmem hc).2.2.2.2 ha
    rw [hcode] at hn
    rw [faultReport_of_classC hl hr hc hx hn hw]
    let e := mkEntry s code unit .c row.ack detail
    rw [addEntry_of_loud (e := e) hp ha]
    obtain ⟨p, hmem⟩ := exists_mem_placeEntry (e := e.placed s) hp
    refine ⟨{ e.placed s with pos := p }, by rw [settle_log, loud_log]; exact hmem, rfl, rfl, rfl,
      by simpa [LogEntry.placed, e, mkEntry] using ha, fun i he hi => ?_⟩
    have h := List.prefix_iff_eq_take.mp (settle_emcy s (s.loud e) i)
    rw [loud_emcy he hi e p, List.length_append] at h
    exact h.symm
  · refine after_of_done (u := doFaultReport code unit detail s) rfl ?_
    obtain ⟨hmem, hcode, hrow⟩ := rowFor_mem hr (by rw [hf]; decide)
    have hown := classF_table row hmem hf
    rw [hcode] at hown
    rw [doFaultReport, if_pos ⟨hl, by rw [hrow]; rfl⟩, ownReaction_of_notMem hown]
    exact tripped_of_trips s (report_trips hl hr hf detail) hb hm
  · refine ignores_of_done ?_
    show done s (doFaultReport code unit detail s) = _
    have hr : s.rowFor code unit = none := (rowFor_of_ne s h405 unit).trans hnone
    have hrep : report s code unit detail = s := by
      rw [report, collect, collectAt, if_pos hl, hr]
      simp [judgeWaits, hw]
    rw [doFaultReport, if_neg (by simp [hnone]), hrep]
  · refine after_of_done (u := doFaultReport 0x0201 (unitCode 1 n.1) detail s) rfl ?_
    rw [doFaultReport, if_pos ⟨hl, by decide⟩, ownReaction_of_notMem (by decide)]
    obtain ⟨hf, hp⟩ := report_backstop hl hn detail
    exact ⟨hf, fun h => (hp h).2⟩
  · refine after_of_done (u := doCollectorParity s) rfl ?_
    rw [doCollectorParity, if_pos hl]
    have t := ((addEntry_keeps s (mkEntry s 0x010C (devUnit 8) .f .h 0)).trans (aonNote_keeps _ 0x010C (devUnit 8) s.now)).trips false
    exact tripped_of_trips s t hb hm

end Sys2Proof.Machine
end

section
namespace Sys2Proof.Machine
open Sys2Proof

/-! ## Frames leave the timebase -/

/-- The timebase stands. -/
structure TbSame (s t : State) : Prop where
  tb : t.tb = s.tb

theorem TbSame.refl (s : State) : TbSame s s := ⟨rfl⟩

theorem TbSame.trans {s t u : State} (h : TbSame s t) (k : TbSame t u) : TbSame s u := ⟨k.tb.trans h.tb⟩

theorem TbSame.ite {s t u : State} {c : Prop} [Decidable c] (h : TbSame s t) (k : TbSame s u) : TbSame s (if c then t else u) := by
  split
  · exact h
  · exact k

theorem TbSame.iteFst {α : Type} {s : State} {x y : State × α} {c : Prop} [Decidable c] (h : TbSame s x.1) (k : TbSame s y.1) :
    TbSame s (if c then x else y).1 := by
  split
  · exact h
  · exact k

theorem TbSame.foldl {α : Type} {f : State → α → State} (h : ∀ s a, TbSame s (f s a)) (l : List α) : ∀ s, TbSame s (l.foldl f s) := by
  induction l with
  | nil => exact .refl
  | cons a t ih => exact fun s => (h s a).trans (ih _)

theorem Keeps.tbSame {s t : State} (h : Keeps s t) : TbSame s t := ⟨h.tb⟩

theorem modRail_tb (s : State) (r : Fin 16) (f : Rail → Rail) : TbSame s (s.modRail r f) := ⟨rfl⟩

theorem modPort_tb (s : State) (n : Fin 32) (f : Port → Port) : TbSame s (s.modPort n f) := ⟨rfl⟩

theorem modEng_tb (s : State) (e : Fin 9) (f : Engine → Engine) : TbSame s (s.modEng e f) := ⟨rfl⟩

theorem modSc_tb (s : State) (n : Fin 33) (f : Conv → Conv) : TbSame s (s.modSc n f) := ⟨rfl⟩

theorem modVc_tb (s : State) (k : Fin 16) (f : Conv → Conv) : TbSame s (s.modVc k f) := ⟨rfl⟩

theorem noteReload_tb (s : State) (e : Fin 9) (addr : Nat) (at_ : U32) : TbSame s (noteReload s e addr at_).1 := ⟨rfl⟩

theorem inc_tb (s : State) (idx sub : Nat) : TbSame s (s.inc idx sub) := ⟨rfl⟩

theorem report_tb (s : State) (code unit detail : U16) : TbSame s (report s code unit detail) := ⟨(report_later s code unit detail).tb⟩

theorem collectAt_tb (s : State) (code unit detail : U16) (stamp : U32) : TbSame s (collectAt s code unit detail stamp) :=
  ⟨(collectAt_later s code unit detail stamp).tb⟩

/-! ### Rails -/

theorem slewRail_tb (s : State) (r : Fin 16) (was : RailState) (ready : Bool) (goal : Int) :
    TbSame s (slewRail s r was ready goal) := by
  have h : ∀ f st, TbSame s (toRail (s.modRail r f) r st false) := fun f st => (modRail_tb s r f).trans (toRail_keeps _ r st false).tbSame
  unfold slewRail
  extract_lets x
  split
  · refine .ite ?_ (.refl s)
    exact .ite ((h _ _).trans (setRailFlag_keeps _ r _).tbSame) (h _ _)
  iterate 2 exact .ite (.ite (h _ _) (modRail_tb s r _)) (.ite (modRail_tb s r _) (.refl s))
  · refine .ite ?_ (.refl s)
    exact .ite ((modRail_tb s r _).trans (railOff_keeps _ r).tbSame) (modRail_tb s r _)
  · exact .refl s

theorem addPhase_tb (s : State) (r : Fin 16) (n : Fin 32) : TbSame s (addPhase s r n) := by
  unfold addPhase
  extract_lets s1 s2
  have h1 : TbSame s s1 := modRail_tb s r _
  have h2 : TbSame s1 s2 := TbSame.foldl (fun t m => .ite (startPort_keeps t r m).tbSame (.refl t)) _ s1
  exact (h1.trans h2).trans ((countRail_keeps s2 r 0x58 (by decide)).trans (restartDwell_keeps _ r)).tbSame

theorem addShed_tb (s : State) (r : Fin 16) : TbSame s (addShed s r) := by
  unfold addShed
  extract_lets shed
  exact .ite (.refl s) ((setRailFlag_keeps s r 8).tbSame.trans (TbSame.foldl (fun t n => addPhase_tb t r n) _ _))

theorem shedPhase_tb (s : State) (r : Fin 16) (n : Fin 32) : TbSame s (shedPhase s r n) := by
  unfold shedPhase
  extract_lets s1 s2
  have h1 : TbSame s s1 := modRail_tb s r _
  have h2 : TbSame s1 s2 := TbSame.foldl (fun t m => .ite (endPort_keeps .ready t m).tbSame (.refl t)) _ s1
  exact (h1.trans h2).trans ((countRail_keeps s2 r 0x57 (by decide)).trans (restartDwell_keeps _ r)).tbSame

theorem skim_tb (s : State) (r : Fin 16) : TbSame s (skim s r) := by
  unfold skim
  extract_lets x ibar low
  refine .ite (modRail_tb s r _) ?_
  have h1 : ∀ f, TbSame s (s.modRail r f) := modRail_tb s r
  refine .ite ((h1 _).trans (addShed_tb _ r)) (.ite ?_ (.ite ?_ (h1 _)))
  · split
    · exact (h1 _).trans (addPhase_tb _ r _)
    · exact h1 _
  · split
    · exact (h1 _).trans (shedPhase_tb _ r _)
    · exact h1 _

theorem addLost_tb (s : State) (r : Fin 16) : TbSame s (addLost s r) := by
  unfold addLost
  refine .ite ?_ (.refl s)
  dsimp only
  split
  · exact .ite ((modRail_tb s r _).trans (addPhase_tb _ r _)) (modRail_tb s r _)
  · exact modRail_tb s r _

theorem rampRail_tb (s : State) (r : Fin 16) : TbSame s (rampRail s r) := by
  unfold rampRail
  exact TbSame.foldl (fun t n => .ite (modPort_tb t n _) (.refl t)) _ s

/-! ### Updates -/

theorem lawOf_tb (s : State) (r : Fin 16) (n : Fin 32) : TbSame s (lawOf s r n).2 := by
  unfold lawOf
  split
  · exact ⟨rfl⟩
  · split <;> exact ⟨rfl⟩

theorem resultOf_tb (s : State) (t : Task) (f : FrameRun) : TbSame s (resultOf s t f).1 := by
  unfold resultOf
  split
  · exact .refl s
  · split
    · exact .refl s
    · split
      · exact .refl s
      · exact lawOf_tb s _ _

theorem resultOrWait_tb (s : State) (t : Task) (f : FrameRun) : TbSame s (resultOrWait s t f).1 := by
  unfold resultOrWait
  split
  · exact resultOf_tb s t f
  · exact .refl s

theorem finishTask_tb (s : State) (e : Fin 9) (t : Task) (goal : Int) (f : FrameRun) : TbSame s (finishTask s e t goal f).1 := by
  unfold finishTask
  split
  · next r =>
    split
    · dsimp only
      have h : TbSame s (skim (addLost (slewRail s r f.was f.ready goal) r) r) :=
        ((slewRail_tb s r _ _ goal).trans (addLost_tb _ r)).trans (skim_tb _ r)
      generalize skim (addLost (slewRail s r f.was f.ready goal) r) r = u at h
      have k := resultOrWait_tb u (.rail r) f
      generalize resultOrWait u (.rail r) f = v at k
      exact (h.trans k).trans ⟨rfl⟩
    · exact rampRail_tb s r
  · split
    · exact .refl s
    · split
      · exact inc_tb s _ _
      · exact resultOrWait_tb s _ f

theorem finishCur_tb (s : State) (e : Fin 9) (f : FrameRun) : TbSame s (finishCur s e f).1 := by
  unfold finishCur
  split
  · exact .refl s
  · next t _ =>
    exact ⟨(finishTask_tb { s with active := f.snap } e t _ f).tb⟩

/-! ### Replays and held cycles -/

theorem holdCycle_tb (s : State) (e : Fin 9) (n : Fin 32) : TbSame s (holdCycle s e n) :=
  ((inc_tb s _ _).trans (modPort_tb _ n _)).trans (report_tb _ _ _ _)

theorem abandonUpdate_tb (s : State) (e : Fin 9) (t : Task) (at_ : U32) : TbSame s (abandonUpdate s e t at_) := by
  have h1 := inc_tb s (engIdx e.1) 0x0C
  unfold abandonUpdate
  dsimp only
  generalize s.inc (engIdx e.1) 0x0C = s1 at h1
  split
  · next n =>
    have h2 := h1.trans ((modPort_tb s1 n fun p => { p with failAt := some at_ }).trans (holdCycle_tb _ e n))
    exact .ite (h2.trans (report_tb _ _ _ _)) h2
  · next r =>
    have h2 := h1.trans (modRail_tb s1 r fun x => { x with failAt := some at_ })
    generalize s1.modRail r (fun x => { x with failAt := some at_ }) = s2 at h2
    have h3 : TbSame s2 (if s2.spans r then (s2.members r).foldl (fun t n => t.modPort n fun p => { p with heldNext := true }) s2 else s2) :=
      .ite (TbSame.foldl (fun t n => modPort_tb t n _) _ s2) (.refl s2)
    exact .ite ((h2.trans h3).trans (report_tb _ _ _ _)) (h2.trans h3)

theorem dropSense_tb (s : State) (n : Fin 33) : TbSame s (dropSense s n) := by
  unfold dropSense
  have h := modSc_tb s n
  exact .ite (.ite ((h _).trans (report_tb _ _ _ _)) ((h _).trans (report_tb _ _ _ _))) (h _)

theorem dropVolt_tb (s : State) (k : Fin 16) : TbSame s (dropVolt s k) := by
  unfold dropVolt
  have h := modVc_tb s k
  exact .ite ((h _).trans (report_tb _ _ _ _)) (h _)

theorem addLedger_tb (s : State) (n : Fin 32) (w : Int) : TbSame s (addLedger s n w) := by
  unfold addLedger
  split
  iterate 2 exact .refl s
  · exact .ite ⟨rfl⟩ (.refl s)

theorem portDrop_tb (s : State) (n : Fin 32) : TbSame s (portDrop s n) := by
  unfold portDrop
  split
  · exact .refl s
  · exact addLedger_tb s n _

theorem drawHeld_tb (s : State) (c : Converter) (age : Nat) : TbSame s (s.drawHeld c age).2 := by
  unfold State.drawHeld
  dsimp only
  split <;> exact ⟨rfl⟩

theorem badSample_tb (s : State) (e : Fin 9) (t : Task) (used : Bool) (age : Nat) (again : Bool) :
    TbSame s (badSample s e t used age again) := by
  have h1 := (inc_tb s (engIdx e.1) 9).trans (report_tb _ 0x0301 (unitCode 7 e.1) 0)
  unfold badSample
  dsimp only
  generalize report (s.inc (engIdx e.1) 9) 0x0301 (unitCode 7 e.1) 0 = s1 at h1
  split
  · have h2 := h1.trans (inc_tb s1 (engIdx e.1) 0x0D)
    generalize s1.inc (engIdx e.1) 0x0D = s2 at h2
    split
    · next c _ =>
      have h3 : ∀ u, TbSame s u → TbSame s (dropSense ((report u 0x0304 (unitCode 5 c.1) 0).modSc c fun q => { q with lastRaw := none }) c) :=
        fun u hu => (hu.trans (report_tb u _ _ _)).trans ((modSc_tb _ c _).trans (dropSense_tb _ c))
      cases t with
      | port n => exact h3 _ (h2.trans (portDrop_tb s2 n))
      | rail r => exact h3 _ h2
    · exact h2.trans ((report_tb s2 _ _ _).trans (dropVolt_tb _ _))
  · have h2 := h1.trans (drawHeld_tb s1 (s.wordUnit t) age)
    generalize s1.drawHeld (s.wordUnit t) age = v at h2
    cases t with
    | port n =>
      have h3 : ∀ f w, TbSame s (addLedger (v.2.modPort n f) n w) := fun f w => (h2.trans (modPort_tb _ n f)).trans (addLedger_tb _ n w)
      dsimp only
      split
      · exact (h3 _ _).trans (modSc_tb _ _ _)
      · exact h3 _ _
    | rail r =>
      have h3 : ∀ f g, TbSame s ((v.2.modRail r f).modVc r g) := fun f g => (h2.trans (modRail_tb _ r f)).trans (modVc_tb _ r g)
      exact h3 _ _

theorem runWords_tb (e : Fin 9) (t : Task) (base : U32) (left frame : Nat) (evs : List FrameEvent) :
    ∀ (s : State) (start stop : Nat), TbSame s (runWords e t base left frame evs s start stop).1 := by
  induction evs with
  | nil => exact fun s _ _ => .refl s
  | cons ev evs ih =>
    intro s start stop
    unfold runWords
    dsimp only
    refine .iteFst (.refl s) ?_
    split
    · exact .refl s
    · exact .iteFst (abandonUpdate_tb s e t _) ((badSample_tb s e t _ _ _).trans (ih _ _ _))
    · next addr again _ =>
      have h1 := (inc_tb s (engIdx e.1) 0x0A).trans (report_tb _ 0x0302 (unitCode 7 e.1) 0)
      generalize report (s.inc (engIdx e.1) 0x0A) 0x0302 (unitCode 7 e.1) 0 = s1 at h1
      have h2 : ∀ a c, TbSame s (noteReload s1 e a c).1 := fun a c => h1.trans (noteReload_tb s1 e a c)
      refine .iteFst (abandonUpdate_tb s e t _) (.iteFst (h2 _ _) (.iteFst ?_ ?_))
      · exact (h2 _ _).trans (abandonUpdate_tb _ e t _)
      · exact (h2 _ _).trans (ih _ _ _)

/-! ### A frame -/

theorem runTasks_tb (e : Fin 9) (upto : Nat) (ts : List Task) :
    ∀ (s : State) (f : FrameRun), TbSame s (runTasks e upto ts s f).1 := by
  induction ts with
  | nil =>
    intro s f
    unfold runTasks
    split
    · exact .refl s
    · dsimp only
      exact .iteFst (finishCur_tb s e f) (.refl s)
  | cons t rest ih =>
    intro s f
    unfold runTasks
    have h := finishCur_tb s e f
    generalize finishCur s e f = v at h
    obtain ⟨s0, f0⟩ := v
    refine .iteFst (.refl s) (.iteFst ?_ ?_)
    · cases t with
      | port n => exact (h.trans (holdCycle_tb s0 e n)).trans (ih _ _)
      | rail r => exact h.trans (ih _ _)
    · dsimp only
      have k := runWords_tb e t (s0.frameBase f0) (s0.planned f0 rest) f0.length f0.events s0 f0.time (f0.time + t.cost)
      split
      · next hw => rw [hw] at k; exact h.trans k
      iterate 2
        next hw => rw [hw] at k; exact (h.trans k).trans (ih _ _)

theorem failEngine_tb (s : State) (e : Fin 9) (cause clock : Nat) (at_ : U32) : TbSame s (failEngine s e cause clock at_) := by
  unfold failEngine
  exact ((modEng_tb s e _).trans (collectAt_tb _ _ _ _ _)).trans (modEng_tb _ e _)

theorem advance_tb (s : State) (e : Fin 9) (upto : Nat) : TbSame s (advance s e upto) := by
  unfold advance
  split
  · exact .refl s
  · next f _ =>
    have h := runTasks_tb e upto f.tasks s f
    split
    · next s1 f1 he =>
      rw [he] at h
      exact h.trans (.ite ⟨rfl⟩ ⟨rfl⟩)
    · next s1 _ cause clock he =>
      rw [he] at h
      exact TbSame.trans h (failEngine_tb _ _ _ _ _)

theorem tickFrame_tb (s : State) (e : Fin 9) : TbSame s (tickFrame s e) := by
  unfold tickFrame
  split
  · exact .refl s
  · exact (modEng_tb s e _).trans (advance_tb _ e _)

end Sys2Proof.Machine
end

section
namespace Sys2Proof.Machine
open Sys2Proof

/-! ## The status mirrors (R27) -/

/-- `t` is `s` but for mirrors of the objects that `I` names. -/
structure Copies (I : Nat → Prop) (s t : State) : Prop where
  frame : t = { s with mirror := t.mirror }
  other : ∀ i sub, ¬I i → sub < 256 → t.mirrored i sub = s.mirrored i sub

theorem Copies.refl (I : Nat → Prop) (s : State) : Copies I s s := ⟨rfl, fun _ _ _ _ => rfl⟩

theorem Copies.trans {I : Nat → Prop} {s t u : State} (h : Copies I s t) (k : Copies I t u) : Copies I s u :=
  ⟨k.frame.trans (congrArg (fun x : State => { x with mirror := u.mirror }) h.frame),
    fun i sub hi hs => (k.other i sub hi hs).trans (h.other i sub hi hs)⟩

theorem Copies.mono {I J : Nat → Prop} {s t : State} (h : Copies I s t) (hij : ∀ i, I i → J i) : Copies J s t :=
  ⟨h.frame, fun i sub hi => h.other i sub (hi ∘ hij i)⟩

theorem Copies.foldl {α : Type} {I : Nat → Prop} {f : State → α → State} {l : List α} (h : ∀ s, ∀ a ∈ l, Copies I s (f s a)) :
    ∀ s, Copies I s (l.foldl f s) := by
  induction l with
  | nil => exact Copies.refl I
  | cons a t ih => exact fun s => (h s a List.mem_cons_self).trans (ih (fun u b hb => h u b (List.mem_cons_of_mem a hb)) _)

/-- One copy leaves every other mirror. -/
theorem copyStatus_other (s : State) {idx sub i j : Nat} (v : Nat) (h : key i j ≠ key idx sub) :
    (s.copyStatus idx sub v).mirrored i j = s.mirrored i j := cellGet_cellPut_ne _ _ _ _ h

/-- Copies of subindexes of one object. -/
theorem foldl_copyStatus (i : Nat) (f : Nat → Nat) {subs : List Nat} (h : ∀ sub ∈ subs, sub < 256) (s : State) :
    Copies (· = i) s (subs.foldl (fun t sub => t.copyStatus i sub (f sub)) s) :=
  Copies.foldl (fun t sub hsub => ⟨rfl, fun j k hj hk => copyStatus_other t _ (by
    have := h sub hsub
    show (j * 256 + k : Nat) ≠ i * 256 + sub
    omega)⟩) s

/-- After them each subindex copied holds its value. -/
theorem foldl_copyStatus_self (i : Nat) (f : Nat → Nat) {subs : List Nat} {sub : Nat} (h : sub ∈ subs) :
    ∀ s : State, (subs.foldl (fun t sub => t.copyStatus i sub (f sub)) s).mirrored i sub = f sub := by
  induction subs using List.reverseRecOn with
  | nil => exact absurd h List.not_mem_nil
  | append_singleton l a ih =>
    intro s
    rw [List.foldl_concat]
    by_cases ha : sub = a
    · subst ha; exact cellGet_cellPut_self _ _ _ _
    · rw [copyStatus_other _ _ (by show (i * 256 + sub : Nat) ≠ i * 256 + a; omega)]
      exact ih (by simpa [ha] using h) s

theorem mirrorPort_copies (s : State) (n : Fin 32) : Copies (· = portIdx n.1) s (mirrorPort s n) :=
  foldl_copyStatus _ _ (by decide) s

theorem mirrorRail_copies (s : State) (r : Fin 16) : Copies (· = railIdx r.1) s (mirrorRail s r) :=
  foldl_copyStatus _ _ (by decide) s

theorem mirrorEngine_copies (s : State) (e : Fin 9) : Copies (· = engIdx e.1) s (mirrorEngine s e) :=
  foldl_copyStatus _ _ (by decide) s

/-- Objects copied one after the other, each its live values: each holds them afterwards, since no copy is of another's object and
none is read by a live value. -/
theorem foldl_copies_self {α : Type} {f : State → α → State} {ix : α → Nat} {live : State → α → Nat → Nat} {subs : List Nat}
    (hself : ∀ s a, ∀ sub ∈ subs, (f s a).mirrored (ix a) sub = live s a sub) (hcopies : ∀ s a, Copies (· = ix a) s (f s a))
    (hinj : ∀ a b, ix a = ix b → a = b) (hlive : ∀ (s : State) m a sub, live { s with mirror := m } a sub = live s a sub)
    {a : α} {sub : Nat} (hsub : sub ∈ subs) (hlt : sub < 256) {l : List α} (ha : a ∈ l) :
    ∀ s : State, (l.foldl f s).mirrored (ix a) sub = live s a sub := by
  induction l using List.reverseRecOn with
  | nil => exact absurd ha List.not_mem_nil
  | append_singleton l b ih =>
    intro s
    rw [List.foldl_concat]
    by_cases hb : a = b
    · subst hb
      have k : Copies (fun _ => True) s (l.foldl f s) := Copies.foldl (fun t c _ => (hcopies t c).mono fun _ _ => trivial) s
      rw [hself _ _ sub hsub, k.frame, hlive]
    · rw [(hcopies _ b).other _ _ (fun e => hb (hinj a b e)) hlt]
      exact ih (by simpa [hb] using ha) s

/-! ### The refresh of what has no period boundary -/

theorem measureChg_onlyChg (s : State) : OnlyChg s (measureChg s) := by
  have h1 : ∀ t : State, OnlyChg t (readVin t) := fun t => ⟨rfl, rfl⟩
  have h2 : ∀ t : State, OnlyChg t (measureOut t) := fun t => by
    unfold measureOut
    exact .ite (fun _ => ⟨rfl, rfl⟩) (fun _ => ⟨rfl, rfl⟩)
  have h3 : ∀ t : State, OnlyChg t (measureIn t) := fun t => ⟨rfl, rfl⟩
  exact (((readVbat_onlyChg s).trans (h1 _)).trans (h2 _)).trans (h3 _)

/-- Objects beyond the ports and the rails: the sensors, the charger, the engines. -/
def slowIdx (i : Nat) : Prop := 0x2300 ≤ i

/-- The charger and the sensors copied after their measurements. -/
theorem mirrorSlow_copies (s : State) : Copies slowIdx (measureChg s) (mirrorSlow s) := by
  have h : ∀ (i : Nat) (f : Nat → Nat) {subs : List Nat}, slowIdx i → (∀ sub ∈ subs, sub < 256) → ∀ t : State,
      Copies slowIdx t (subs.foldl (fun u sub => u.copyStatus i sub (f sub)) t) := fun i f _ hi hs t =>
    (foldl_copyStatus i f hs t).mono fun j hj => by subst hj; exact hi
  unfold mirrorSlow
  extract_lets s0 s1 s2
  have h1 : Copies slowIdx s0 s1 := h _ _ (by unfold slowIdx; omega) (by decide) s0
  have h2 : Copies slowIdx s1 s2 := Copies.foldl (fun t i _ => h _ _ (by unfold slowIdx; omega) (by decide) t) s1
  exact (h1.trans h2).trans (Copies.foldl (fun t d _ => h _ _ (by unfold slowIdx; omega) (by decide) t) s2)

/-- `t` is `s` but for the mirrors, the charger's measurements and the free values they draw. -/
structure Refreshed (s t : State) : Prop where
  frame : t = { s with chg := t.chg, mirror := t.mirror, freeCtr := t.freeCtr }

theorem Refreshed.refl (s : State) : Refreshed s s := ⟨rfl⟩

theorem Refreshed.trans {s t u : State} (h : Refreshed s t) (k : Refreshed t u) : Refreshed s u :=
  ⟨k.frame.trans (congrArg (fun x : State => { x with chg := u.chg, mirror := u.mirror, freeCtr := u.freeCtr }) h.frame)⟩

theorem Refreshed.tb {s t : State} (h : Refreshed s t) : t.tb = s.tb := by rw [h.frame]

theorem Copies.refreshed {I : Nat → Prop} {s t : State} (h : Copies I s t) : Refreshed s t :=
  ⟨h.frame.trans (by rw [h.frame])⟩

theorem OnlyChg.refreshed {s t : State} (h : OnlyChg s t) : Refreshed s t := ⟨h.frame.trans (by rw [h.frame])⟩

/-- What the refresh of every 250th tick leaves: nothing but mirrors and measurements changed, and the ports and rails of its lists as
they are live. -/
theorem mirrorIdle_spec (s : State) : Refreshed s (mirrorIdle s) ∧
    (∀ n : Fin 32, n.1 < s.variant.ports → (s.pulsing n && s.leads n) = false →
      ∀ sub ∈ portMirrors, (mirrorIdle s).mirrored (portIdx n.1) sub = s.livePort n sub) ∧
    (∀ r : Fin 16, r.1 < s.variant.rails → s.beatPhase r = none →
      ∀ sub ∈ railMirrors, (mirrorIdle s).mirrored (railIdx r.1) sub = s.liveRail r sub) := by
  unfold mirrorIdle
  extract_lets s1 s2
  have k1 : Copies (fun i => i < 0x2200) s s1 :=
    Copies.foldl (fun t n _ => (mirrorPort_copies t n).mono fun i hi => by unfold portIdx at hi; omega) s
  have k2 : Copies (fun i => 0x2200 ≤ i) s1 s2 :=
    Copies.foldl (fun t r _ => (mirrorRail_copies t r).mono fun i hi => by unfold railIdx at hi; omega) s1
  have k3 : Copies slowIdx s2 (mirrorEngines s2) :=
    Copies.foldl (fun t e _ => (mirrorEngine_copies t e).mono fun i hi => by unfold engIdx at hi; unfold slowIdx; omega) s2
  have k4 := measureChg_onlyChg (mirrorEngines s2)
  have k5 := mirrorSlow_copies (mirrorEngines s2)
  have slow : ∀ i sub, i < 0x2300 → sub < 256 → (mirrorSlow (mirrorEngines s2)).mirrored i sub = s2.mirrored i sub := by
    intro i sub hi hs
    have hn : ¬slowIdx i := by unfold slowIdx; omega
    rw [k5.other i sub hn hs, k4.same (fun x => x.mirrored i sub) fun _ _ _ => rfl, k3.other i sub hn hs]
  refine ⟨(((k1.refreshed.trans k2.refreshed).trans k3.refreshed).trans k4.refreshed).trans k5.refreshed,
    fun n hn hp sub hsub => ?_, fun r hr hb sub hsub => ?_⟩
  · have hlt : sub < 256 := (by decide : ∀ x ∈ portMirrors, x < 256) sub hsub
    have hi : portIdx n.1 < 0x2200 := by unfold portIdx; omega
    rw [slow _ sub (by omega) hlt, k2.other _ sub (by omega) hlt]
    exact foldl_copies_self (ix := fun n : Fin 32 => portIdx n.1) (live := State.livePort)
      (fun t m sub h => foldl_copyStatus_self _ (t.livePort m) h t) mirrorPort_copies
      (fun a b h => Fin.ext (by unfold portIdx at h; omega)) (fun _ _ _ _ => rfl) hsub hlt
      (List.mem_filter.mpr ⟨by simp [State.portList, hn], by rw [hp]; rfl⟩) s
  · have hlt : sub < 256 := (by decide : ∀ x ∈ railMirrors, x < 256) sub hsub
    have hi : railIdx r.1 < 0x2300 := by unfold railIdx; omega
    have hlive : s1.liveRail r sub = s.liveRail r sub := by rw [k1.frame]; rfl
    rw [slow _ sub hi hlt, ← hlive]
    exact foldl_copies_self (ix := fun r : Fin 16 => railIdx r.1) (live := State.liveRail)
      (fun t m sub h => foldl_copyStatus_self _ (t.liveRail m) h t) mirrorRail_copies
      (fun a b h => Fin.ext (by unfold railIdx at h; omega)) (fun _ _ _ _ => rfl) hsub hlt
      (by simp [State.railList, hr, hb]) s1

/-! ## One tick -/

/-- `t` is `s` but for its ports. -/
structure OnlyPorts (s t : State) : Prop where
  frame : t = { s with ports := t.ports }

theorem OnlyPorts.refl (s : State) : OnlyPorts s s := ⟨rfl⟩

theorem OnlyPorts.trans {s t u : State} (h : OnlyPorts s t) (k : OnlyPorts t u) : OnlyPorts s u :=
  ⟨k.frame.trans (congrArg (fun x : State => { x with ports := u.ports }) h.frame)⟩

theorem OnlyPorts.ite {s t u : State} {c : Prop} [Decidable c] (h : c → OnlyPorts s t) (k : ¬c → OnlyPorts s u) :
    OnlyPorts s (if c then t else u) := by
  split
  · exact h ‹_›
  · exact k ‹_›

theorem OnlyPorts.foldl {α : Type} {f : State → α → State} (h : ∀ s a, OnlyPorts s (f s a)) (l : List α) :
    ∀ s, OnlyPorts s (l.foldl f s) := by
  induction l with
  | nil => exact OnlyPorts.refl
  | cons a t ih => exact fun s => (h s a).trans (ih _)

theorem modPort_onlyPorts (s : State) (n : Fin 32) (f : Port → Port) : OnlyPorts s (s.modPort n f) := ⟨rfl⟩

theorem beginMain_onlyPorts (s : State) (n : Fin 32) (duty : Nat) (pulse : Bool) : OnlyPorts s (beginMain s n duty pulse) := by
  unfold beginMain
  dsimp only
  split
  case h_2 => split <;> exact (modPort_onlyPorts _ _ _).trans (modPort_onlyPorts _ _ _)
  all_goals exact modPort_onlyPorts _ _ _

theorem turnOn_onlyPorts (s : State) (n : Fin 32) : OnlyPorts s (turnOn s n) :=
  ((modPort_onlyPorts s n _).trans (modPort_onlyPorts _ n _)).trans (beginMain_onlyPorts _ n _ _)

theorem turnOnBy_onlyPorts (s : State) (n : Fin 32) (ends : Bool) : OnlyPorts s (turnOnBy s n ends) := by
  unfold turnOnBy
  exact .ite (fun _ => turnOn_onlyPorts s n) (fun _ => .refl s)

theorem tickPort_onlyPorts (s : State) (n : Fin 32) : OnlyPorts s (tickPort s n) := by
  unfold tickPort
  refine .ite (fun _ => ?_) (fun _ => .refl s)
  extract_lets s1 p
  have h : OnlyPorts s s1 := (modPort_onlyPorts s n _).trans (turnOnBy_onlyPorts _ n false)
  exact .ite (fun _ => h.trans (modPort_onlyPorts _ _ _)) (fun _ => h)

/-- With no frame in progress a tick leaves the engines. -/
theorem tickFrames_of_none {s : State} (h : ∀ e : Fin 9, s.engines[e].frame = none) (l : List (Fin 9)) : l.foldl tickFrame s = s := by
  induction l with
  | nil => rfl
  | cons e l ih => rw [List.foldl_cons, tickFrame, h e]; exact ih

theorem tickCharger_onlyChg (s : State) : OnlyChg s (tickCharger s) := by
  unfold tickCharger
  exact .ite (fun _ => ⟨rfl, rfl⟩) (fun _ => .ite (fun _ => ⟨rfl, rfl⟩) (fun _ => ⟨rfl, rfl⟩))

/-- The timebase one tick on (R370). -/
def State.tbNext (s : State) : Timebase :=
  { s.tb with count := s.tb.count + 1, wraps := s.tb.wraps + (if s.tb.count = 0xFFFFFFFF then 1 else 0),
              gapTicks := if s.coreOn && s.pwr.gated then s.tb.gapTicks + 1 else s.tb.gapTicks, fresh := [] }

/-- The core domain's part of a tick, for a device that is live or not. -/
def coreTick (live : Bool) (s : State) : State :=
  if live then
    let s2 := s.portList.foldl tickPort { s with wd := s.wd.tick }
    tickCharger (s2.engList.foldl tickFrame s2)
  else s

theorem tick_of_runs {s : State} (h : s.tbRuns = true) : tick s = coreTick s.live (idleMirror { s with tb := s.tbNext }) := by
  have e : (if s.tb.count = 0xFFFFFFFF then doTimebaseWrap s else { s with tb := { s.tb with count := s.tb.count + 1 } }) =
      { s with tb := { s.tb with count := s.tb.count + 1, wraps := s.tb.wraps + (if s.tb.count = 0xFFFFFFFF then 1 else 0) } } := by
    by_cases hc : s.tb.count = 0xFFFFFFFF
    · rw [if_pos hc, doTimebaseWrap, if_pos ⟨h, hc⟩, if_pos hc, hc]
      rfl
    · rw [if_neg hc, if_neg hc, show s.tb.wraps + 0 = s.tb.wraps from BitVec.add_zero _]
  unfold tick
  rw [if_pos h, e]
  rfl

theorem idleMirror_refreshed (s : State) : Refreshed s (idleMirror s) := by
  unfold idleMirror
  split
  · exact (mirrorIdle_spec s).1
  · exact .refl s

/-- `t` is `s` with the timebase, the watchdog, the ports, the charger, the mirrors and the free values of `t`. -/
structure Ticked (s t : State) : Prop where
  frame : t = { s with tb := t.tb, wd := t.wd, ports := t.ports, chg := t.chg, mirror := t.mirror, freeCtr := t.freeCtr }

theorem Ticked.trans {s t u : State} (h : Ticked s t) (k : Ticked t u) : Ticked s u :=
  ⟨k.frame.trans (congrArg (fun x : State =>
    { x with tb := u.tb, wd := u.wd, ports := u.ports, chg := u.chg, mirror := u.mirror, freeCtr := u.freeCtr }) h.frame)⟩

theorem Refreshed.ticked {s t : State} (h : Refreshed s t) : Ticked s t := ⟨h.frame.trans (by rw [h.frame])⟩

theorem OnlyPorts.ticked {s t : State} (h : OnlyPorts s t) : Ticked s t := ⟨h.frame.trans (by rw [h.frame])⟩

/-- With no frame in progress the core domain's part leaves the mirrors. -/
theorem coreTick_ticked {s : State} (hf : ∀ e : Fin 9, s.engines[e].frame = none) (live : Bool) :
    Ticked s (coreTick live s) ∧ (coreTick live s).mirror = s.mirror := by
  unfold coreTick
  split
  · extract_lets s2
    have k2 : OnlyPorts { s with wd := s.wd.tick } s2 := OnlyPorts.foldl tickPort_onlyPorts _ _
    have he : s2.engines = s.engines := by rw [k2.frame]
    rw [tickFrames_of_none (by rw [he]; exact hf)]
    have k3 := tickCharger_onlyChg s2
    exact ⟨(Ticked.trans ⟨rfl⟩ k2.ticked).trans k3.refreshed.ticked, by rw [k3.same State.mirror fun _ _ _ => rfl, k2.frame]⟩
  · exact ⟨⟨rfl⟩, rfl⟩

/-- A tick with the timebase running and no frame in progress: its frame, the next timebase, and the mirrors as the refresh left them. -/
theorem tick_spec {s : State} (h : s.tbRuns = true) (hf : ∀ e : Fin 9, s.engines[e].frame = none) :
    Ticked s (tick s) ∧ (tick s).mirror = (idleMirror { s with tb := s.tbNext }).mirror := by
  rw [tick_of_runs h]
  have k : Ticked s (idleMirror { s with tb := s.tbNext }) := Ticked.trans ⟨rfl⟩ (idleMirror_refreshed _).ticked
  obtain ⟨k', hm⟩ := coreTick_ticked (s := idleMirror { s with tb := s.tbNext }) (by rw [k.frame]; exact hf) s.live
  exact ⟨k.trans k', hm⟩

theorem OnlyPorts.tbSame {s t : State} (h : OnlyPorts s t) : TbSame s t := ⟨by rw [h.frame]⟩

theorem OnlyChg.tbSame {s t : State} (h : OnlyChg s t) : TbSame s t := ⟨by rw [h.frame]⟩

theorem coreTick_tb (live : Bool) (s : State) : TbSame s (coreTick live s) := by
  have h : ∀ (t : State) (l : List (Fin 32)) (k : List (Fin 9)), TbSame t (tickCharger (k.foldl tickFrame (l.foldl tickPort t))) :=
    fun t l k => ((TbSame.foldl (fun u n => (tickPort_onlyPorts u n).tbSame) l t).trans (TbSame.foldl tickFrame_tb k _)).trans
      (tickCharger_onlyChg _).tbSame
  have w : TbSame s { s with wd := s.wd.tick } := ⟨rfl⟩
  unfold coreTick
  exact .ite (w.trans (h _ _ _)) (.refl s)

/-- The tick moves the timebase on, whatever the engines do. -/
theorem tick_tb {s : State} (h : s.tbRuns = true) : (tick s).tb = s.tbNext := by
  rw [tick_of_runs h, (coreTick_tb _ _).tb, (idleMirror_refreshed _).tb]

theorem liveRail_tb (s : State) (tb : Timebase) (r : Fin 16) {sub : Nat} (h : sub ∈ railMirrors) (hu : sub ≠ 0x63) :
    ({ s with tb := tb } : State).liveRail r sub = s.liveRail r sub := by
  have hstate : ({ s with tb := tb } : State).railState r = s.railState r := rfl
  have hact : ({ s with tb := tb } : State).actives r = s.actives r := rfl
  have hph : ({ s with tb := tb } : State).phases r = s.phases r := rfl
  have havg : ({ s with tb := tb } : State).iAvg = s.iAvg := rfl
  simp only [railMirrors, List.mem_cons, List.not_mem_nil, or_false] at h
  rcases h with rfl | rfl | rfl | rfl | rfl | rfl | rfl | rfl | rfl
  case inr.inr.inr.inr.inr.inr.inr.inr => exact absurd rfl hu
  all_goals simp only [State.liveRail, hstate, hact, hph, havg, State.act]

/-- On a 250th tick the refresh runs. -/
theorem idleMirror_of_250 {s : State} (hl : s.live = true) (h : s.tb.count.toNat % 250 = 0) : idleMirror s = mirrorIdle s := by
  simp [idleMirror, hl, h]

/-- Settles O2: a tick changes ports, charger and mirrors alone; on a 250th tick the mirrors are those of the refresh. -/
theorem emptyQueuePassesOneTick : Obligations.EmptyQueuePassesOneTick := by
  intro s hq
  have hstep : step s = execTick s := by rw [step, hq]
  by_cases h : s.tbRuns = true
  · have htb : (settle s (tick s)).tb = s.tbNext := tick_tb h
    refine ⟨settle s (tick s), by rw [hstep, execTick, if_pos h]; rfl, fun _ => ?_, fun hf => ?_, fun hn => ?_⟩
    · rw [htb]; exact ⟨rfl, rfl⟩
    · obtain ⟨⟨hframe⟩, hmirror⟩ := tick_spec h hf
      refine ⟨?_, by rw [htb]; rfl, by rw [htb]; rfl, fun _ hl hd => ?_⟩
      · exact (congrArg (fun x : State => x.delivers (settle s (tick s))) hframe.symm).mpr (settle_delivers s (tick s))
      · have hm : (settle s (tick s)).mirror = (mirrorIdle { s with tb := s.tbNext }).mirror := by
          rw [← idleMirror_of_250 (s := { s with tb := s.tbNext }) hl hd]
          exact hmirror
        obtain ⟨-, hports, hrails⟩ := mirrorIdle_spec { s with tb := s.tbNext }
        refine ⟨fun n hn hp sub hsub => ?_, fun r hr hb sub hsub hu => ?_⟩
        · rw [State.mirrored, hm]
          exact hports n hn hp sub hsub
        · rw [State.mirrored, hm, ← liveRail_tb s s.tbNext r hsub hu]
          exact hrails r hr hb sub hsub
    · exact absurd h (by rw [hn]; decide)
  · refine ⟨s, by rw [hstep, execTick, if_neg h], fun hr => absurd hr h, fun _ => ⟨?_, rfl, rfl, fun hr => absurd hr h⟩, fun _ => rfl⟩
    exact ⟨rfl, rfl, rfl, fun _ => rfl, BitVec.and_self⟩

end Sys2Proof.Machine
end

section
namespace Sys2Proof.Machine
open Sys2Proof

/-! ## A setting written -/

/-- `t` is `s` but for an answer: the paths' records, the frames sent, a context's result. -/
structure Replied (s t : State) : Prop where
  frame : t = { s with paths := t.paths, sent := t.sent, tw := t.tw }

theorem Replied.trans {s t u : State} (h : Replied s t) (k : Replied t u) : Replied s u :=
  ⟨k.frame.trans (congrArg (fun x : State => { x with paths := u.paths, sent := u.sent, tw := u.tw }) h.frame)⟩

/-- The field of a state that an answer leaves. -/
theorem Replied.same {s t : State} (h : Replied s t) {α : Type} (f : State → α)
    (hf : ∀ (x : State) p q w, f { x with paths := p, sent := q, tw := w } = f x) : f t = f s := by
  rw [h.frame, hf]

theorem sendReply_replied (s : State) (p : HostPath) (q : Option Asked) (code : Nat) (bs : List Byte) :
    Replied s (sendReply s p q code bs) := by
  unfold sendReply
  split
  · split
    · exact ⟨rfl⟩
    · unfold State.emit
      split <;> exact ⟨rfl⟩
  · exact ⟨rfl⟩

theorem answer_replied (s : State) (p : HostPath) (code : Nat) (bs : List Byte) : Replied s (answer s p code bs) :=
  Replied.trans ⟨rfl⟩ (sendReply_replied _ p _ code bs)

theorem noteTw_replied (s : State) (p : HostPath) (code : Nat) : Replied s (noteTw s p code) := by
  cases p <;> exact ⟨rfl⟩

/-- An accepted write that nothing waits for is answered with 0. -/
theorem answerWrite_took {s t : State} {p : HostPath} {ws : List (Nat × Nat × List Byte)} (h : waitsOn s t ws = false) :
    Replied t (answerWrite s (0, t) p ws) ∧ (answerWrite s (0, t) p ws).took p := by
  have e : answerWrite s (0, t) p ws = noteTw (answer t p 0 []) p 0 := by simp [answerWrite, h]
  rw [e]
  exact ⟨(answer_replied t p 0 []).trans (noteTw_replied _ p 0), by rw [State.took, noteTw_paths]; exact (answer_abort t p 0 []).1⟩

/-- With nothing staged no view of R326 is laid over the pending values. -/
theorem stagedFor_of_empty {s : State} (h : ∀ g : Fin 8, s.cmt.groups[g].staged = []) (vs : Vals) : s.stagedFor vs = [] := by
  refine List.flatMap_eq_nil_iff.mpr fun v _ => ?_
  split
  · split
    · rfl
    · exact h _
  · rfl

theorem looksOf_of_empty {s : State} (h : ∀ g : Fin 8, s.cmt.groups[g].staged = []) (vs : Vals) : looksOf s none vs = [s.lookWith vs] := by
  simp [looksOf, stagedFor_of_empty h]

/-- The item that a write of one number makes. -/
theorem itemsOf_num {v : Variant} {idx sub n x : Nat} {o : Obj} (ho : findObj v idx sub = some o) (hrw : o.acc = .rw)
    (hty : o.ty = .num n false) (hmask : o.mask = none) (hx : x < 256 ^ n) :
    itemsOf v [(idx, sub, leBytes n x)] = (0, [{ idx := idx, sub := sub, obj := o, val := x, bytes := leBytes n x }]) := by
  have hlen : lengthOk idx sub o (leBytes n x).length = true := by simp [lengthOk, hty, Ty.size, leBytes_length]
  have hval : o.keep (leVal (leBytes n x)) = x := by rw [Obj.keep, hmask, leVal_leBytes, Nat.mod_eq_of_lt hx]
  simp [itemsOf, itemOf, ho, Obj.writable, hrw, hlen, hval]

/-- An object of a port or of a rail. -/
def unitIdx (idx : Nat) : Prop := 0x2100 ≤ idx ∧ idx < 0x2120 ∨ 0x2200 ≤ idx ∧ idx < 0x2210

theorem unitIdx_port (n : Fin 32) : unitIdx (portIdx n.1) := .inl (by unfold portIdx; omega)

theorem unitIdx_rail (r : Fin 16) : unitIdx (railIdx r.1) := .inr (by unfold railIdx; omega)

/-- Pending copies written change registers alone. -/
theorem setPending_regs (vs : Vals) : ∀ s : State, setPending s vs = { s with regs := (setPending s vs).regs } := by
  induction vs with
  | nil => exact fun _ => rfl
  | cons v t ih =>
    intro s
    have h : setPending s (v :: t) = setPending (s.setReg v.1 v.2.1 v.2.2) t := rfl
    rw [h]
    exact ih _

theorem acceptLater_fences (s : State) (p : PathId) (vs : Vals) : (acceptLater s p vs).cmt.fences = s.cmt.fences := by
  unfold acceptLater acceptWrite
  split
  · rfl
  · show (setPending s vs).cmt.fences = _
    rw [setPending_regs]

/-- A setting of a port or of a rail written by a heard path, its checks passed: it waits with what it carries (R20). -/
theorem hostPut_unit {s : State} {p : HostPath} (h : s.hears p) (hst : ∀ g : Fin 8, s.cmt.groups[g].staged = []) {idx sub n x : Nat}
    {o : Obj} (hidx : unitIdx idx) (ho : findObj s.variant idx sub = some o) (hrw : o.acc = .rw) (hty : o.ty = .num n false)
    (hmask : o.mask = none) (hx : x < 256 ^ n) (hval : valueOk s.variant o idx sub x = true)
    (hrel : relatedOk (granted s p) ((granted s p).lookWith (expand1 (granted s p) (idx, sub, x))) idx sub = true)
    (hnow : nowOk (granted s p) ((granted s p).lookWith [(idx, sub, x)]) idx sub x = true) :
    Replied (acceptLater (granted s p) (.host p) (expand1 (granted s p) (idx, sub, x))) (hostPut s p idx sub n x) ∧
      (hostPut s p idx sub n x).took p := by
  have hregs := granted_regs s p
  have hv : (granted s p).variant = s.variant := by rw [hregs]
  have hc : (granted s p).coreOn = true := by rw [hregs]; exact ready_coreOn h.1
  have hst' : ∀ g : Fin 8, (granted s p).cmt.groups[g].staged = [] := by rw [hregs]; exact hst
  rw [hostPut, hostWrite_hears h]
  generalize granted s p = g at *
  have hne : idx ≠ 0x2B00 ∧ idx ≠ 0x2C00 ∧ idx ≠ 0x2500 := by unfold unitIdx at hidx; omega
  obtain ⟨hB, hC, h5⟩ := hne
  have hitems := itemsOf_num (v := g.variant) (by rw [hv]; exact ho) hrw hty hmask hx
  have hnum : numsOf [{ idx := idx, sub := sub, obj := o, val := x, bytes := leBytes n x }] = [(idx, sub, x)] := by
    simp [numsOf, Item.isNum, hty]
  have hexp : expand g [(idx, sub, x)] = expand1 g (idx, sub, x) := by simp [expand]
  have hmap : ∀ look, mapCode s.variant look idx sub x = 0 := by
    intro look
    unfold unitIdx at hidx
    simp only [mapCode]
    rw [if_pos (by simp; omega)]
  have hvals : valuesCode g (looksOf g none (expand g [(idx, sub, x)])) [(idx, sub, x)] = 0 := by
    rw [looksOf_of_empty hst', hexp]
    simp [valuesCode, hv, ho, hval, hrw, hrel, hmap]
  have hlate : lateCode g p none [{ idx := idx, sub := sub, obj := o, val := x, bytes := leBytes n x }] = 0 := by
    simp only [lateCode, hnum, hvals]
    simp [firstCode, rangeCode, roomCode, tagCode, stateCode, nowCode, hnow, hB, hC]
  have hlater : isLater idx sub o = true := by
    unfold unitIdx at hidx
    simp [isLater, isControl, hrw, h5]
    omega
  have hacc : acceptNow g p [{ idx := idx, sub := sub, obj := o, val := x, bytes := leBytes n x }] =
      acceptLater g (.host p) (expand1 g (idx, sub, x)) := by
    simp [acceptNow, laterVals, hlater, hexp, actNow, acceptLater]
  rw [writeCore_accepts hc (by rw [hitems]) (by rw [hitems]; exact hlate), hitems, hacc]
  exact answerWrite_took (by simp [waitsOn, acceptLater_fences, hC])

/-! ### What the write leaves -/

theorem countsKey_unit {idx sub : Nat} (h : unitIdx idx) (hs : sub < 256) : countsKey (key idx sub) = false := by
  unfold unitIdx at h
  unfold countsKey
  simp only [decide_eq_false_iff_not]
  unfold key
  omega

/-- The pending copies written, the other copies as they were, the write the last that waits (R20). -/
theorem acceptLater_spec (s : State) (p : PathId) {vs : Vals} (h : vs ≠ []) :
    (acceptLater s p vs).active = s.active ∧ (acceptLater s p vs).shadow = s.shadow ∧ (acceptLater s p vs).variant = s.variant ∧
      (acceptLater s p vs).regs = (setPending s vs).regs ∧ (acceptLater s p vs).cmt.out =
        s.cmt.out ++ [{ id := s.cmt.nextId, path := p, vals := vs.map fun v => (key v.1 v.2.1, v.2.2), acts := [] }] := by
  unfold acceptLater acceptWrite
  rw [if_neg (fun e => h e.1)]
  dsimp only
  rw [setPending_regs]
  exact ⟨rfl, rfl, rfl, rfl, rfl⟩

/-- A write of a port's or a rail's settings as its path and the later transfers see it. -/
theorem accepted_after {s u : State} {p : HostPath} {vs : Vals} (h : vs ≠ []) (hu : Replied (acceptLater (granted s p) (.host p) vs) u)
    (ht : u.took p) :
    (settle s u).took p ∧ (settle s u).active = s.active ∧ (settle s u).shadow = s.shadow ∧
      (∀ idx sub, unitIdx idx → sub < 256 → (settle s u).reg idx sub = (setPending (granted s p) vs).reg idx sub) ∧
      (settle s u).cmt.out = s.cmt.out ++ [{ id := s.cmt.nextId, path := .host p, vals := vs.map fun v => (key v.1 v.2.1, v.2.2), acts := [] }] := by
  have hregs := granted_regs s p
  obtain ⟨ha, hs, hv, hr, ho⟩ := acceptLater_spec (granted s p) (.host p) h
  refine ⟨ht, ?_, ?_, fun idx sub hi hsub => ?_, ?_⟩
  · rw [settle_active, hu.same State.active fun _ _ _ _ => rfl, ha, hregs]
  · rw [settle_shadow, hu.same State.shadow fun _ _ _ _ => rfl, hs, hregs]
  · rw [settle_reg s u (countsKey_unit hi hsub), hu.same (fun x => x.reg idx sub) fun _ _ _ _ => rfl, State.reg, State.reg, hr, hv]
    rw [setPending_regs]
  · rw [settle_cmt, hu.same State.cmt fun _ _ _ _ => rfl, ho, hregs]

/-! ### The rows -/

/-- PERSONALITY, FAN_TACH, PORT_MASK and ENABLE (Tables 4-11 and 6-8). -/
def persRow : Obj := ⟨0x01, 0x01, .num 1 false, .rw, 0, 0, 6, none⟩
def tachRow : Obj := ⟨0x31, 0x31, .num 1 false, .rw, 255, 0, 255, none⟩
def maskRow : Obj := ⟨0x01, 0x01, .num 4 false, .rw, 0, 0, 4294967295, none⟩
def enableRow : Obj := ⟨0x03, 0x03, .num 1 false, .rw, 0, 0, 1, none⟩

theorem findObj_port (v : Variant) (n : Fin 32) (h : n.1 < v.ports) :
    findObj v (portIdx n.1) 1 = some persRow ∧ findObj v (portIdx n.1) 0x31 = some tachRow := by
  cases v <;> revert n <;> decide

theorem findObj_rail (v : Variant) (r : Fin 16) (h : r.1 < v.rails) :
    findObj v (railIdx r.1) 1 = some maskRow ∧ findObj v (railIdx r.1) 3 = some enableRow := by
  cases v <;> revert r <;> decide

/-! ### The checks -/

theorem relatedOk_port (s : State) (look : Look) (n : Fin 32) (sub : Nat) :
    relatedOk s look (portIdx n.1) sub = portOk look (portIdx n.1) := if_pos (by unfold portIdx; omega)

theorem relatedOk_rail (s : State) (look : Look) (r : Fin 16) (sub : Nat) :
    relatedOk s look (railIdx r.1) sub = railOk s.variant look (railIdx r.1) sub := by
  rw [relatedOk, if_neg (by unfold railIdx; omega), if_pos (by unfold railIdx; omega)]

theorem nowOk_port (s : State) (look : Look) (n : Fin 32) (sub x : Nat) :
    nowOk s look (portIdx n.1) sub x = portNow s look n sub x := by
  have h : 0x2100 ≤ portIdx n.1 ∧ portIdx n.1 < 0x2120 := by unfold portIdx; omega
  have hn : (⟨portIdx n.1 - 0x2100, by omega⟩ : Fin 32) = n := Fin.ext (by show portIdx n.1 - 0x2100 = n.1; unfold portIdx; omega)
  rw [nowOk, if_neg (by omega), dif_pos h, hn]

theorem nowOk_rail (s : State) (look : Look) (r : Fin 16) (sub x : Nat) :
    nowOk s look (railIdx r.1) sub x = railNow s look r sub x := by
  have h : 0x2200 ≤ railIdx r.1 ∧ railIdx r.1 < 0x2210 := by unfold railIdx; omega
  have hr : (⟨railIdx r.1 - 0x2200, by omega⟩ : Fin 16) = r := Fin.ext (by show railIdx r.1 - 0x2200 = r.1; unfold railIdx; omega)
  rw [nowOk, if_neg (by omega), dif_neg (by omega), dif_pos h, hr]

/-- Of the registers that checks read only SLOTS_MIN shows a granted slot. -/
theorem granted_look (s : State) (p : HostPath) (vs : Vals) {idx sub : Nat} (h : sub ≠ 0x0E) (hs : sub < 256) :
    (granted s p).lookWith vs idx sub = s.lookWith vs idx sub := by
  have hk : key idx sub ≠ key 0x2F00 0x0E := by show (idx * 256 + sub : Nat) ≠ 0x2F00 * 256 + 0x0E; omega
  rw [State.lookWith, State.lookWith, granted_reg s p hk]

/-- A value laid over the pending ones leaves those of other subindexes. -/
theorem lookWith_one_ne (s : State) {idx sub x i j : Nat} (h : idx ≠ i ∨ sub ≠ j) : s.lookWith [(idx, sub, x)] i j = s.reg i j := by
  have hn : ¬(idx = i ∧ sub = j) := by omega
  simp [State.lookWith, Vals.find, hn]

theorem lookWith_one_self (s : State) (idx sub x : Nat) : s.lookWith [(idx, sub, x)] idx sub = x := by
  simp [State.lookWith, Vals.find]

/-- What `portOk` reads. -/
theorem portOk_congr {look look' : Look} {idx : Nat} (h : ∀ sub ∈ [4, 5, 0x21, 0x28, 0x2A], look idx sub = look' idx sub) :
    portOk look idx = portOk look' idx := by
  simp only [portOk, h 4 (by decide), h 5 (by decide), h 0x21 (by decide), h 0x28 (by decide), h 0x2A (by decide)]

/-- What `railOk` reads for a write of ENABLE. -/
theorem railOk_enable_congr {v : Variant} {look look' : Look} {idx : Nat}
    (h : ∀ sub ∈ [8, 9, 0x10, 0x40, 0x41, 0x42, 0x43, 0x44, 0x45, 0x46], look idx sub = look' idx sub) :
    railOk v look idx 3 = railOk v look' idx 3 := by
  simp [railOk, vsetOk, thresholdsOk, h 8 (by decide), h 9 (by decide), h 0x10 (by decide), h 0x40 (by decide), h 0x41 (by decide),
    h 0x42 (by decide), h 0x43 (by decide), h 0x44 (by decide), h 0x45 (by decide), h 0x46 (by decide)]

theorem all_of_eq {l : List Nat} {f g : Nat → Bool} (h : ∀ n ∈ l, f n = g n) : l.all f = l.all g := by
  rw [Bool.eq_iff_iff, List.all_eq_true, List.all_eq_true]
  exact forall₂_congr fun n hn => by rw [h n hn]

/-- What `maskOk` reads. -/
theorem maskOk_congr {v : Variant} {look look' : Look} (h : ∀ n < 32, look (portIdx n) 1 = look' (portIdx n) 1) (m : Nat) :
    maskOk v look m = maskOk v look' m := by
  have hm : ∀ n ∈ (List.range 32).filter fun n => m.testBit n, look (portIdx n) 1 = look' (portIdx n) 1 := fun n hn =>
    h n (List.mem_range.mp (List.mem_filter.mp hn).1)
  simp only [maskOk]
  generalize (List.range 32).filter (fun n => m.testBit n) = ns at *
  have hf : (ns.filter fun n => look (portIdx n) 1 == 3) = ns.filter fun n => look' (portIdx n) 1 == 3 :=
    List.filter_congr fun n hn => by rw [hm n hn]
  have ha : (ns.all fun n => look (portIdx n) 1 != 0 && !(look (portIdx n) 1 == 3 && n % 2 == 1)) =
      ns.all fun n => look' (portIdx n) 1 != 0 && !(look' (portIdx n) 1 == 3 && n % 2 == 1) :=
    all_of_eq fun n hn => by rw [hm n hn]
  rw [hf, ha]
  cases ns with
  | nil => rfl
  | cons k t =>
    have hk : ((k :: t).all fun n => look (portIdx n) 1 == look (portIdx k) 1) = (k :: t).all fun n => look' (portIdx n) 1 == look' (portIdx k) 1 :=
      all_of_eq fun n hn => by rw [hm n hn, hm k (List.mem_cons_self ..)]
    dsimp only
    rw [hk, hm k (List.mem_cons_self ..)]

theorem persIn_congr {look look' : Look} (h : ∀ n, look (portIdx n) 1 = look' (portIdx n) 1) : persIn look = persIn look' := by
  funext n
  simp only [persIn, h]

/-- What `portMaskOk` reads: personalities, memberships and periods. -/
theorem portMaskOk_congr {s t : State} {look look' : Look} (hv : t.variant = s.variant) (hr : t.railState = s.railState)
    (hp : ∀ n, look (portIdx n) 1 = look' (portIdx n) 1) (hm : ∀ r, look (railIdx r) 1 = look' (railIdx r) 1)
    (hf : ∀ r, look (railIdx r) 7 = look' (railIdx r) 7) (r : Fin 16) (x : Nat) : portMaskOk t look r x = portMaskOk s look' r x := by
  simp only [portMaskOk, planOf, leadOf, inRail, hv, hr, persIn_congr hp, hm, hf]

/-! ### What a write carries -/

theorem expand1_port {s : State} {n : Fin 32} {sub x : Nat} (h : sub ≠ 1 ∨ (x ≠ 3 ∧ s.reg (portIdx n.1) 1 ≠ 3)) :
    expand1 s (portIdx n.1, sub, x) = [(portIdx n.1, sub, x)] := by
  have hi : 0x2100 ≤ portIdx n.1 ∧ portIdx n.1 < 0x2120 := by unfold portIdx; omega
  unfold expand1
  dsimp only
  rw [if_neg (by omega), if_neg (by omega)]
  split
  · rw [if_neg (by omega), if_neg (by omega)]
  · rfl

theorem expand1_pair {s : State} {n : Fin 32} (h : n.1 % 2 = 0) :
    expand1 s (portIdx n.1, 1, 3) = [(portIdx n.1, 1, 3), (portIdx (n.1 + 1), 1, 3)] := by
  have hi : 0x2100 ≤ portIdx n.1 ∧ portIdx n.1 < 0x2120 ∧ portIdx n.1 % 2 = 0 := by unfold portIdx; omega
  unfold expand1
  dsimp only
  rw [if_neg (by omega), if_neg (by omega), if_pos (by omega), if_pos rfl]
  rfl

theorem expand1_rail {s : State} {r : Fin 16} {sub x : Nat}
    (h : sub = 1 → s.reg (railIdx r.1) 0x17 ≤ max 1 (ones 32 x) ∧ s.reg (railIdx r.1) 0x18 ≤ max 1 (ones 32 x)) :
    expand1 s (railIdx r.1, sub, x) = [(railIdx r.1, sub, x)] := by
  have hi : 0x2200 ≤ railIdx r.1 ∧ railIdx r.1 < 0x2210 := by unfold railIdx; omega
  unfold expand1
  dsimp only
  rw [if_neg (by omega)]
  split
  · next hs =>
    obtain ⟨h1, h2⟩ := h hs.2.2
    simp
    omega
  · rw [if_neg (by omega)]

/-! ### The four writes -/

/-- One setting accepted waits alone. -/
theorem waits_one {s : State} {p : HostPath} {idx sub x : Nat} {u : State} (hi : unitIdx idx) (hs : sub < 256)
    (hu : Replied (acceptLater (granted s p) (.host p) [(idx, sub, x)]) u) (ht : u.took p) :
    (settle s u).took p ∧ (settle s u).reg idx sub = x ∧ (settle s u).act idx sub = s.act idx sub ∧ (settle s u).shad idx sub = s.shad idx sub ∧
      (settle s u).cmt.out = s.cmt.out ++ [{ id := s.cmt.nextId, path := .host p, vals := [(key idx sub, x)], acts := [] }] := by
  have hv : (settle s u).variant = s.variant := by
    rw [settle_variant, hu.same State.variant fun _ _ _ _ => rfl, (acceptLater_spec _ _ (by simp)).2.2.1, granted_regs]
  obtain ⟨ht', ha, hsh, hr, ho⟩ := accepted_after (by simp) hu ht
  refine ⟨ht', ?_, by rw [State.act, ha, hv]; rfl, by rw [State.shad, hsh, hv]; rfl, ho⟩
  rw [hr idx sub hi hs]
  exact State.reg_setReg _ _ _ _

theorem granted_reg_sub (s : State) (p : HostPath) {idx sub : Nat} (h : sub ≠ 0x0E) (hs : sub < 256) :
    (granted s p).reg idx sub = s.reg idx sub :=
  granted_reg s p (by show (idx * 256 + sub : Nat) ≠ 0x2F00 * 256 + 0x0E; omega)

theorem granted_lookWith_ne (s : State) (p : HostPath) {idx sub x i j : Nat} (h : idx ≠ i ∨ sub ≠ j) (hj : j ≠ 0x0E) (hs : j < 256) :
    (granted s p).lookWith [(idx, sub, x)] i j = s.reg i j := by
  rw [lookWith_one_ne _ h, granted_reg_sub s p hj hs]

theorem inRail_congr {v : Variant} {look look' : Look} {m n : Nat} (hl : leadOf look m = leadOf look' n)
    (hm : ∀ r, look (railIdx r) 1 = look' (railIdx r) 1) (except : Nat) : inRail v look except m = inRail v look' except n := by
  simp only [inRail, hl, hm]

theorem leadOf_congr {look look' : Look} (h : ∀ n, look (portIdx n) 1 = look' (portIdx n) 1) (n : Nat) : leadOf look n = leadOf look' n := by
  simp only [leadOf, persIn_congr h]

/-- The checks of a personality hold in the state with the slot granted: the odd port that joins a pair is then led by the even port,
which is in no rail. -/
theorem granted_personalityOk {s : State} (p : HostPath) {n : Fin 32} {x : Nat} (hx : x ≠ 3 ∨ n.1 % 2 = 0)
    (h : personalityOk s s.reg n x = true) :
    personalityOk (granted s p) ((granted s p).lookWith [(portIdx n.1, 1, x)]) n x = true := by
  have hv : (granted s p).variant = s.variant := by rw [granted_regs]
  have hsw : (granted s p).isSwitching n = s.isSwitching n := by rw [granted_regs]; rfl
  have hreg : ∀ i, (granted s p).reg i 1 = s.reg i 1 := fun i => granted_reg_sub s p (by decide) (by decide)
  have hin : inRail s.variant (granted s p).reg 99 n.1 = inRail s.variant s.reg 99 n.1 :=
    inRail_congr (leadOf_congr (fun _ => hreg _) n.1) (fun _ => hreg _) 99
  simp only [personalityOk, hv, hsw, hreg, hin, Bool.and_eq_true] at h ⊢
  obtain ⟨⟨⟨hr, hs⟩, ho⟩, hlast⟩ := h
  refine ⟨⟨⟨hr, hs⟩, ho⟩, ?_⟩
  by_cases h3 : x = 3
  · subst h3
    have heven : n.1 % 2 = 0 := by omega
    by_cases hold : s.reg (portIdx n.1) 1 = 3
    · simp [hold]
    · have hlook : (granted s p).lookWith [(portIdx n.1, 1, 3)] (portIdx (n.1 + 1)) 1 = s.reg (portIdx (n.1 + 1)) 1 :=
        granted_lookWith_ne s p (.inl (by unfold portIdx; omega)) (by decide) (by decide)
      have hm : ∀ r, (granted s p).lookWith [(portIdx n.1, 1, 3)] (railIdx r) 1 = s.reg (railIdx r) 1 := fun r =>
        granted_lookWith_ne s p (.inl (by unfold portIdx railIdx; omega)) (by decide) (by decide)
      have hlead1 : leadOf ((granted s p).lookWith [(portIdx n.1, 1, 3)]) (n.1 + 1) = n.1 := by
        have hp : persIn ((granted s p).lookWith [(portIdx n.1, 1, 3)]) (n.1 + 1) = 3 := by
          rw [persIn, if_neg (by omega), Nat.add_sub_cancel, lookWith_one_self, if_pos rfl]
        rw [leadOf, if_pos ⟨hp, by omega⟩, Nat.add_sub_cancel]
      have hlead2 : leadOf s.reg n.1 = n.1 := if_neg fun e => by omega
      have hin2 : inRail s.variant ((granted s p).lookWith [(portIdx n.1, 1, 3)]) 99 (n.1 + 1) = inRail s.variant s.reg 99 n.1 :=
        inRail_congr (hlead1.trans hlead2.symm) hm 99
      rw [hlook, hin2, hr]
      simp [hold] at hlast ⊢
      exact hlast.1
  · simp [h3]

/-- Values laid over the pending ones leave the other subindexes. -/
theorem lookWith_of_ne (s : State) {vs : Vals} {i j : Nat} (h : ∀ v ∈ vs, v.2.1 ≠ j) : s.lookWith vs i j = s.reg i j := by
  have hf : Vals.find vs i j = none := by
    unfold Vals.find
    induction vs with
    | nil => rfl
    | cons v t ih =>
      rw [List.foldl_cons, if_neg fun e => h v (List.mem_cons_self ..) e.2]
      exact ih fun w hw => h w (List.mem_cons_of_mem _ hw)
  simp [State.lookWith, hf]

/-- Every value that a write of a personality carries is a personality. -/
theorem expand1_personality {s : State} {n : Fin 32} {x : Nat} (h : x ≠ 3 ∧ s.reg (portIdx n.1) 1 ≠ 3 ∨ x = 3 ∧ n.1 % 2 = 0) :
    ∀ v ∈ expand1 s (portIdx n.1, 1, x), v.2.1 = 1 := by
  rcases h with h | ⟨rfl, h⟩
  · rw [expand1_port (.inr h)]; simp
  · rw [expand1_pair h]; simp

theorem personalityWrite_waits {s : State} {p : HostPath} (h : s.hears p) (hst : ∀ g : Fin 8, s.cmt.groups[g].staged = []) {n : Fin 32}
    (hn : n.1 < s.variant.ports) (hok : portOk s.reg (portIdx n.1) = true) {v : Byte} (hv : v.toNat ≤ 6)
    (h3 : v.toNat ≠ 3 ∧ s.reg (portIdx n.1) 1 ≠ 3 ∨ v.toNat = 3 ∧ n.1 % 2 = 0) (hp : personalityOk s s.reg n v.toNat = true) :
    Replied (acceptLater (granted s p) (.host p) (expand1 (granted s p) (portIdx n.1, 1, v.toNat))) (hostPut s p (portIdx n.1) 1 1 v.toNat) ∧
      (hostPut s p (portIdx n.1) 1 1 v.toNat).took p := by
  refine hostPut_unit h hst (unitIdx_port n) (findObj_port _ n hn).1 rfl rfl rfl (by omega) ?_ ?_ ?_
  · have hi : 0x2100 ≤ portIdx n.1 ∧ portIdx n.1 < 0x2120 ∧ portIdx n.1 % 2 = n.1 % 2 := by unfold portIdx; omega
    have henc : encodingOk s.variant (portIdx n.1) 1 v.toNat = true := by
      rw [encodingOk, if_neg (by omega), if_neg (by omega), if_neg (by omega), if_pos (by omega)]
      simp
      omega
    simp [valueOk, persRow, Obj.keep, Obj.value, henc]
    omega
  · rw [relatedOk_port, ← hok]
    refine portOk_congr fun sub hsub => ?_
    have hs : sub ≠ 1 ∧ sub ≠ 0x0E ∧ sub < 256 := by simp at hsub; omega
    rw [lookWith_of_ne, granted_reg_sub s p hs.2.1 hs.2.2]
    intro w hw
    rw [expand1_personality _ w hw]
    · exact Ne.symm hs.1
    · rwa [granted_reg_sub s p (by decide) (by decide)]
  · rw [nowOk_port, portNow, if_pos rfl]
    exact granted_personalityOk p (h3.imp And.left And.right) hp

theorem fanTachWrite_waits {s : State} {p : HostPath} (h : s.hears p) (hst : ∀ g : Fin 8, s.cmt.groups[g].staged = []) {n : Fin 32}
    (hn : n.1 < s.variant.ports) (hok : portOk s.reg (portIdx n.1) = true) {v : Byte}
    (hv : v = 0xFF ∨ (v.toNat < 8 ∧ s.ownerOf v.toNat = none)) :
    Replied (acceptLater (granted s p) (.host p) [(portIdx n.1, 0x31, v.toNat)]) (hostPut s p (portIdx n.1) 0x31 1 v.toNat) ∧
      (hostPut s p (portIdx n.1) 0x31 1 v.toNat).took p := by
  have he : expand1 (granted s p) (portIdx n.1, 0x31, v.toNat) = [(portIdx n.1, 0x31, v.toNat)] := expand1_port (.inl (by decide))
  have h8 : v.toNat < 8 ∨ v.toNat = 0xFF := hv.elim (fun e => .inr (by rw [e]; rfl)) fun e => .inl e.1
  rw [← he]
  refine hostPut_unit h hst (unitIdx_port n) (findObj_port _ n hn).2 rfl rfl rfl (by omega) ?_ ?_ ?_
  · have hi : 0x2100 ≤ portIdx n.1 ∧ portIdx n.1 < 0x2120 := by unfold portIdx; omega
    have henc : encodingOk s.variant (portIdx n.1) 0x31 v.toNat = true := by
      rw [encodingOk, if_neg (by omega), if_neg (by omega), if_neg (by omega), if_neg (by omega), if_pos (by omega)]
      simpa using h8
    simp [valueOk, tachRow, Obj.keep, Obj.value, henc]
    omega
  · rw [relatedOk_port, ← hok, he]
    refine portOk_congr fun sub hsub => ?_
    have hs : sub ≠ 0x31 ∧ sub ≠ 0x0E ∧ sub < 256 := by simp at hsub; omega
    exact granted_lookWith_ne s p (.inr (Ne.symm hs.1)) hs.2.1 hs.2.2
  · have ho : (granted s p).ownerOf v.toNat = s.ownerOf v.toNat := by rw [granted_regs]; rfl
    rw [nowOk_port, portNow, if_neg (by decide), if_pos rfl, ho]
    rcases hv with rfl | ⟨-, hv⟩
    · rfl
    · rw [hv, Bool.or_true]

/-- No encoding restricts PORT_MASK or ENABLE. -/
theorem encodingOk_rail (v : Variant) {idx sub x : Nat} (h : 0x2200 ≤ idx ∧ idx < 0x2210) (hs : sub ≠ 0x5A) : encodingOk v idx sub x = true := by
  unfold encodingOk
  repeat rw [if_neg (by omega)]

theorem portMaskWrite_waits {s : State} {p : HostPath} (h : s.hears p) (hst : ∀ g : Fin 8, s.cmt.groups[g].staged = []) {r : Fin 16}
    (hr : r.1 < s.variant.rails) {m : U32} (hm : maskOk s.variant s.reg m.toNat = true)
    (h17 : s.reg (railIdx r.1) 0x17 ≤ max 1 (ones 32 m.toNat)) (h18 : s.reg (railIdx r.1) 0x18 ≤ max 1 (ones 32 m.toNat))
    (hp : portMaskOk s (s.lookWith [(railIdx r.1, 1, m.toNat)]) r m.toNat = true) :
    Replied (acceptLater (granted s p) (.host p) [(railIdx r.1, 1, m.toNat)]) (hostPut s p (railIdx r.1) 1 4 m.toNat) ∧
      (hostPut s p (railIdx r.1) 1 4 m.toNat).took p := by
  have hv : (granted s p).variant = s.variant := by rw [granted_regs]
  have hi : 0x2200 ≤ railIdx r.1 ∧ railIdx r.1 < 0x2210 := by unfold railIdx; omega
  have h17' := granted_reg_sub s p (idx := railIdx r.1) (sub := 0x17) (by decide) (by decide)
  have h18' := granted_reg_sub s p (idx := railIdx r.1) (sub := 0x18) (by decide) (by decide)
  have he : expand1 (granted s p) (railIdx r.1, 1, m.toNat) = [(railIdx r.1, 1, m.toNat)] :=
    expand1_rail fun _ => ⟨h17'.le.trans h17, h18'.le.trans h18⟩
  rw [← he]
  refine hostPut_unit h hst (unitIdx_rail r) (findObj_rail _ r hr).1 rfl rfl rfl (by omega) ?_ ?_ ?_
  · simp [valueOk, maskRow, Obj.keep, Obj.value, encodingOk_rail s.variant hi]
    omega
  · have hport : ∀ n < 32, (granted s p).lookWith [(railIdx r.1, 1, m.toNat)] (portIdx n) 1 = s.reg (portIdx n) 1 := fun n hn =>
      granted_lookWith_ne s p (.inl (by unfold portIdx; omega)) (by decide) (by decide)
    rw [relatedOk_rail, he, railOk, if_pos rfl, lookWith_one_self, hv, maskOk_congr hport, hm, minPhasesOk, lookWith_one_self,
      lookWith_one_ne _ (.inr (by decide)), lookWith_one_ne _ (.inr (by decide)), h17', h18']
    simp [h17, h18]
  · rw [nowOk_rail, railNow, if_pos rfl, ← hp]
    refine portMaskOk_congr hv (by rw [granted_regs]; rfl) (fun n => ?_) (fun q => ?_) (fun q => ?_) r _
    all_goals exact granted_look s p _ (by decide) (by decide)

theorem enableWrite_waits {s : State} {p : HostPath} (h : s.hears p) (hst : ∀ g : Fin 8, s.cmt.groups[g].staged = []) {r : Fin 16}
    (hr : r.1 < s.variant.rails) (hok : railOk s.variant s.reg (railIdx r.1) 3 = true) (hmd : s.md.mode = .run ∨ s.md.mode = .holdup)
    {x : Nat} (hx : x ≤ 1) (hb : x = 1 → s.reg (railIdx r.1) 1 ≠ 0 ∧ s.blocked r = false) :
    Replied (acceptLater (granted s p) (.host p) [(railIdx r.1, 3, x)]) (hostPut s p (railIdx r.1) 3 1 x) ∧
      (hostPut s p (railIdx r.1) 3 1 x).took p := by
  have hv : (granted s p).variant = s.variant := by rw [granted_regs]
  have hi : 0x2200 ≤ railIdx r.1 ∧ railIdx r.1 < 0x2210 := by unfold railIdx; omega
  have he : expand1 (granted s p) (railIdx r.1, 3, x) = [(railIdx r.1, 3, x)] := expand1_rail fun e => absurd e (by decide)
  rw [← he]
  refine hostPut_unit h hst (unitIdx_rail r) (findObj_rail _ r hr).2 rfl rfl rfl (by omega) ?_ ?_ ?_
  · simp [valueOk, enableRow, Obj.keep, Obj.value, encodingOk_rail s.variant hi]
    omega
  · rw [relatedOk_rail, he, hv, ← hok]
    refine railOk_enable_congr fun sub hsub => ?_
    have hs : sub ≠ 3 ∧ sub ≠ 0x0E ∧ sub < 256 := by simp at hsub; omega
    exact granted_lookWith_ne s p (.inr (Ne.symm hs.1)) hs.2.1 hs.2.2
  · have hmd' : (granted s p).md.mode = s.md.mode := by rw [granted_regs]
    have hbl : (granted s p).blocked r = s.blocked r := by
      have h12 := fun i => granted_reg_sub s p (idx := i) (sub := 0x12) (by decide) (by decide)
      have h13 := fun i => granted_reg_sub s p (idx := i) (sub := 0x13) (by decide) (by decide)
      have hthm : (granted s p).thm = s.thm := by rw [granted_regs]
      simp only [State.blocked, h12, h13, hthm]
    have h1 : (granted s p).lookWith [(railIdx r.1, 3, x)] (railIdx r.1) 1 = s.reg (railIdx r.1) 1 :=
      granted_lookWith_ne s p (.inr (by decide)) (by decide) (by decide)
    rw [nowOk_rail, railNow, if_neg (by decide), if_pos rfl, enableOk, hmd', hbl, h1]
    have hx01 : x = 0 ∨ (s.reg (railIdx r.1) 1 ≠ 0 ∧ s.blocked r = false) := by
      rcases (by omega : x = 0 ∨ x = 1) with rfl | rfl
      · exact .inl rfl
      · exact .inr (hb rfl)
    rcases hmd with e | e <;> simpa [e] using hx01

end Sys2Proof.Machine
end

section
namespace Sys2Proof.Machine
open Sys2Proof

/-! ## A write transferred -/

/-- What the transfer of one setting leaves for the rest of its clock: the copies, the writes that wait, the settings of a low subindex. -/
structure Settled (s t : State) : Prop where
  active : t.active = s.active
  shadow : t.shadow = s.shadow
  cmt : t.cmt = s.cmt
  variant : t.variant = s.variant

theorem Settled.refl (s : State) : Settled s s := ⟨rfl, rfl, rfl, rfl⟩

theorem Settled.trans {s t u : State} (h : Settled s t) (k : Settled t u) : Settled s u :=
  ⟨k.active.trans h.active, k.shadow.trans h.shadow, k.cmt.trans h.cmt, k.variant.trans h.variant⟩

theorem OnlyChg.settled {s t : State} (h : OnlyChg s t) : Settled s t :=
  ⟨h.same State.active fun _ _ _ => rfl, h.same State.shadow fun _ _ _ => rfl, h.same State.cmt fun _ _ _ => rfl,
    h.same State.variant fun _ _ _ => rfl⟩

theorem Noted.settled {s t : State} (h : Noted s t) : Settled s t :=
  ⟨h.same State.active fun _ _ _ _ _ _ _ => rfl, h.same State.shadow fun _ _ _ _ _ _ _ => rfl, h.same State.cmt fun _ _ _ _ _ _ _ => rfl,
    h.same State.variant fun _ _ _ _ _ _ _ => rfl⟩

/-! ### A new goal (R165) -/

/-- `t` is `s` but for a rail's supervision: no copy, no setting of a low subindex, neither state nor reference nor goal of the rail. -/
structure Supervised (r : Fin 16) (s t : State) : Prop extends Settled s t where
  reg : ∀ idx sub, sub < 14 → t.reg idx sub = s.reg idx sub
  state : t.rails[r].state = s.rails[r].state
  vref : t.rails[r].vref = s.rails[r].vref
  target : t.rails[r].target = s.rails[r].target

theorem Supervised.refl (r : Fin 16) (s : State) : Supervised r s s := ⟨.refl s, fun _ _ _ => rfl, rfl, rfl, rfl⟩

theorem Supervised.trans {r : Fin 16} {s t u : State} (h : Supervised r s t) (k : Supervised r t u) : Supervised r s u :=
  ⟨h.toSettled.trans k.toSettled, fun i j hj => (k.reg i j hj).trans (h.reg i j hj), k.state.trans h.state, k.vref.trans h.vref,
    k.target.trans h.target⟩

theorem Supervised.ite {r : Fin 16} {s t u : State} {c : Prop} [Decidable c] (h : Supervised r s t) (k : Supervised r s u) :
    Supervised r s (if c then t else u) := by
  split
  · exact h
  · exact k

theorem Noted.supervised {s t : State} (h : Noted s t) (r : Fin 16) : Supervised r s t :=
  have hr : t.rails = s.rails := h.same State.rails fun _ _ _ _ _ _ _ => rfl
  ⟨h.settled, h.reg, by rw [hr], by rw [hr], by rw [hr]⟩

/-- A flag set or a count raised beyond the settings of a low subindex. -/
theorem setReg_supervised (s : State) (r : Fin 16) {idx sub : Nat} (v : Nat) (h : 14 ≤ sub ∧ sub < 256) : Supervised r s (s.setReg idx sub v) :=
  ⟨⟨rfl, rfl, rfl, rfl⟩, fun i j hj => State.reg_setReg_ne s v (by show (i * 256 + j : Nat) ≠ idx * 256 + sub; omega), rfl, rfl, rfl⟩

theorem modRail_supervised (s : State) (r : Fin 16) (f : Rail → Rail) (h : ∀ x, (f x).state = x.state ∧ (f x).vref = x.vref ∧ (f x).target = x.target) :
    Supervised r s (s.modRail r f) := by
  obtain ⟨h1, h2, h3⟩ := h s.rails[r]
  refine ⟨⟨rfl, rfl, rfl, rfl⟩, fun _ _ _ => rfl, ?_, ?_, ?_⟩ <;> rw [State.modRail_rails_self] <;> assumption

theorem logOnly_noted (s : State) (code unit detail : U16) : Noted s (logOnly s code unit detail) := by
  unfold logOnly
  split
  · exact .refl s
  · exact .ite (fun _ => addEntry_noted s _) (fun _ => .refl s)

theorem withdrawPg_supervised (s : State) (r : Fin 16) (loss : Bool) : Supervised r s (withdrawPg s r loss) := by
  unfold withdrawPg
  extract_lets s1 s2
  have h1 : Supervised r s s1 := modRail_supervised s r _ fun _ => ⟨rfl, rfl, rfl⟩
  have h2 : Supervised r s s2 := (h1.trans (setReg_supervised s1 r _ (by decide))).trans (setReg_supervised _ r _ (by decide))
  refine .ite (.ite (h2.trans ((logOnly_noted s2 _ _ _).supervised r)) (h2.trans ?_)) h1
  exact ⟨⟨rfl, rfl, rfl, rfl⟩, fun _ _ _ => rfl, rfl, rfl, rfl⟩

theorem railChanged_supervised (s : State) (r : Fin 16) (old : RailState) (off : Bool) : Supervised r s (railChanged s r old off) := by
  unfold railChanged
  extract_lets new s1
  have h1 : Supervised r s s1 := .ite (withdrawPg_supervised s r _) (.refl r s)
  exact .ite (.refl r s) (h1.trans (modRail_supervised s1 r _ fun _ => ⟨rfl, rfl, rfl⟩))

/-- The rail's goal is that of VSET and DIV_RATIO; a regulating rail whose reference is not there slews (R165). -/
theorem retarget_spec (s : State) (r : Fin 16) : Settled s (retarget s r) ∧ (∀ idx sub, sub < 14 → (retarget s r).reg idx sub = s.reg idx sub) ∧
    (retarget s r).rails[r].target = targetOf (s.act (railIdx r.1) 8) (s.act (railIdx r.1) 9) ∧
    (retarget s r).rails[r].vref = s.rails[r].vref ∧
    (s.rails[r].state = .regulating → (retarget s r).rails[r].target ≠ s.rails[r].vref → (retarget s r).rails[r].state = .slewing) := by
  unfold retarget
  extract_lets goal s1
  have ht : s1.rails[r].target = goal := by rw [State.modRail_rails_self]
  have hv : s1.rails[r].vref = s.rails[r].vref := by rw [State.modRail_rails_self]
  split
  · let s2 := s1.modRail r fun x => { x with state := .slewing }
    have k : Supervised r s2 (toRail s1 r .slewing false) := railChanged_supervised s2 r _ _
    have hst : s2.rails[r].state = .slewing := by rw [State.modRail_rails_self]
    have hv2 : s2.rails[r].vref = s1.rails[r].vref := by rw [State.modRail_rails_self]
    have ht2 : s2.rails[r].target = s1.rails[r].target := by rw [State.modRail_rails_self]
    refine ⟨(show Settled s s2 from ⟨rfl, rfl, rfl, rfl⟩).trans k.toSettled, fun i j hj => k.reg i j hj, ?_, ?_, fun _ _ => k.state.trans hst⟩
    · rw [k.target, ht2, ht]
    · rw [k.vref, hv2, hv]
  · next hn =>
    refine ⟨⟨rfl, rfl, rfl, rfl⟩, fun _ _ _ => rfl, ht, hv, fun hr hg => absurd ⟨hr, ?_⟩ hn⟩
    rwa [ht] at hg

/-! ### The writes that a transfer takes -/

/-- Where only `o` names the indices of a transfer, the writes taken are `o`. -/
theorem sharing_eq {o : Outstanding} {i : Nat} (ho : ∀ j ∈ o.idxs, j = i) {l : List Outstanding}
    (hl : ∀ w ∈ l, w.idxs.contains i = true → w = o) : ∀ idxs : List Nat, (∀ j ∈ idxs, j = i) → ∀ w ∈ sharing l idxs, w = o := by
  induction l with
  | nil => exact fun _ _ w hw => nomatch hw
  | cons a t ih =>
    intro idxs hi
    have ih' := ih fun w hw => hl w (List.mem_cons_of_mem _ hw)
    unfold sharing
    split
    · next h =>
      have ha : a = o := by
        obtain ⟨j, hj, hc⟩ := List.any_eq_true.mp h
        have hji : j = i := hi j (List.contains_iff_mem.mp hc)
        exact hl a (List.mem_cons_self ..) (List.contains_iff_mem.mpr (hji ▸ hj))
      intro w hw
      rcases List.mem_append.mp hw with hw | hw
      · refine ih' _ (fun j hj => ?_) w hw
        rcases List.mem_append.mp hj with hj | hj
        · exact ho j (ha ▸ hj)
        · exact hi j hj
      · rw [List.mem_singleton.mp hw, ha]
    · exact ih' idxs hi

/-- A write that names one of the indices is taken. -/
theorem mem_sharing {o : Outstanding} {i : Nat} (ho : o.idxs.contains i = true) {l : List Outstanding} (hl : o ∈ l) :
    ∀ idxs : List Nat, i ∈ idxs → o ∈ sharing l idxs := by
  induction l with
  | nil => nomatch hl
  | cons a t ih =>
    intro idxs hi
    unfold sharing
    rcases List.mem_cons.mp hl with rfl | hl
    · rw [if_pos (List.any_eq_true.mpr ⟨i, List.contains_iff_mem.mp ho, List.contains_iff_mem.mpr hi⟩)]
      exact List.mem_append_right _ (List.mem_singleton.mpr rfl)
    · split
      · exact List.mem_append_left _ (ih hl _ (List.mem_append_right _ hi))
      · exact ih hl _ hi

/-- A write no longer on the list is not transferred again. -/
theorem transferOne_gone {s : State} {id : Nat} (h : ∀ w ∈ s.cmt.out, w.id ≠ id) : transferOne s id = s := by
  have hf : (s.cmt.out.find? fun o => o.id == id) = none := List.find?_eq_none.mpr fun w hw => by simpa using h w hw
  rw [transferOne, hf]

/-- A write taken more than once is transferred once. -/
theorem foldl_transferOne {s t : State} {id : Nat} (h : transferOne s id = t) (ht : ∀ w ∈ t.cmt.out, w.id ≠ id) {ids : List Nat}
    (hne : ids ≠ []) (hids : ∀ j ∈ ids, j = id) : ids.foldl transferOne s = t := by
  have hrest : ∀ l : List Nat, (∀ j ∈ l, j = id) → l.foldl transferOne t = t := by
    intro l
    induction l with
    | nil => exact fun _ => rfl
    | cons a l ih =>
      intro hl
      rw [List.foldl_cons, hl a (List.mem_cons_self ..), transferOne_gone ht]
      exact ih fun j hj => hl j (List.mem_cons_of_mem _ hj)
  cases ids with
  | nil => exact absurd rfl hne
  | cons a l =>
    rw [List.foldl_cons, hids a (List.mem_cons_self ..), h]
    exact hrest l fun j hj => hids j (List.mem_cons_of_mem _ hj)

/-! ### One setting transferred -/

/-- No personality transferred, no driver supply reported (R44). -/
theorem reportDrivers_single (s : State) {k : Key} (old : Nat) (h : ¬(0x2100 ≤ k / 256 ∧ k / 256 < 0x2120 ∧ k % 256 = 1)) :
    reportDrivers s [(k, old)] = s := by
  have hstep : ∀ (l : List Nat) (f : State → Nat → State), (∀ t g, f t g = t) → ∀ t, l.foldl f t = t := by
    intro l f hf
    induction l with
    | nil => exact fun _ => rfl
    | cons a l ih => exact fun t => by rw [List.foldl_cons, hf, ih]
  refine hstep _ _ (fun t g => ?_) s
  have hk : (decide (0x2100 ≤ k / 256) && decide (k / 256 < 0x2120) && k % 256 == 1) = false := by
    rw [Bool.eq_false_iff]
    intro e
    simp only [Bool.and_eq_true, decide_eq_true_eq, beq_iff_eq] at e
    exact h ⟨e.1.1, e.1.2, e.2⟩
  simp [hk]

theorem transferAll_single (s : State) (x : Key × Nat) (h : ¬(0x2100 ≤ x.1 / 256 ∧ x.1 / 256 < 0x2120 ∧ x.1 % 256 = 1)) :
    transferAll s [x] = afterValue (s.transfer (x.1 / 256) (x.1 % 256) x.2) (x.1 / 256) (x.1 % 256) (s.act (x.1 / 256) (x.1 % 256)) :=
  reportDrivers_single _ _ h

/-- What is asked of the writes that wait for an index: `o` is the oldest, holds the one setting `x`, and no earlier write names the index. -/
structure State.soleFor (s : State) (i : Nat) (o : Outstanding) (x : Key × Nat) : Prop where
  oldest : s.oldestFor i = some o
  vals : o.vals = [x]
  acts : o.acts = []
  only : ∀ w ∈ s.cmt.out, w.id ≤ o.id → (w.id = o.id ∨ w.idxs.contains i = true) → w = o

/-- The index of the setting that its transfer names. -/
theorem State.soleFor.index {s : State} {i : Nat} {o : Outstanding} {x : Key × Nat} (h : s.soleFor i o x) : x.1 / 256 = i := by
  have hname : o.idxs.contains i = true := List.find?_some (p := fun o : Outstanding => o.idxs.contains i) h.oldest
  have := List.contains_iff_mem.mp hname
  rw [Outstanding.idxs, h.vals, h.acts] at this
  exact (List.mem_singleton.mp this).symm

/-- A write whose transfer holds one setting: what the device is when the setting acts. -/
def State.moving (s : State) (o : Outstanding) (x : Key × Nat) : State :=
  (dropOut (noteMoved s o.id [x]) o.id).transfer (x.1 / 256) (x.1 % 256) x.2

/-- The transfer of an index where only `o` waits for it, with one setting that is no personality. -/
theorem transferWrite_single {s : State} {i : Nat} {o : Outstanding} {x : Key × Nat} (h : s.soleFor i o x)
    (hpers : ¬(0x2100 ≤ x.1 / 256 ∧ x.1 / 256 < 0x2120 ∧ x.1 % 256 = 1))
    (hkeep : ∀ old, (afterValue (s.moving o x) (x.1 / 256) (x.1 % 256) old).cmt = (s.moving o x).cmt) :
    transferWrite s i = afterValue (s.moving o x) i (x.1 % 256) (s.act i (x.1 % 256)) := by
  have hi := h.index
  obtain ⟨hold, hv, ha, honly⟩ := h
  have hmem : o ∈ s.cmt.out := List.mem_of_find?_eq_some hold
  have hname : o.idxs.contains i = true := List.find?_some (p := fun o : Outstanding => o.idxs.contains i) hold
  have hidxs : o.idxs = [x.1 / 256] := by rw [Outstanding.idxs, hv, ha]; rfl
  have hws : ∀ w ∈ sharing (s.cmt.out.filter fun w => decide (w.id ≤ o.id)).reverse [i], w = o := by
    refine sharing_eq (i := i) (fun j hj => ?_) (fun w hw hc => ?_) [i] fun j hj => List.mem_singleton.mp hj
    · rw [hidxs, List.mem_singleton] at hj
      rw [hj, hi]
    · obtain ⟨hw, hle⟩ := List.mem_filter.mp (List.mem_reverse.mp hw)
      exact honly w hw (by simpa using hle) (.inr hc)
  have hin : o ∈ sharing (s.cmt.out.filter fun w => decide (w.id ≤ o.id)).reverse [i] :=
    mem_sharing hname (List.mem_reverse.mpr (List.mem_filter.mpr ⟨hmem, by simp⟩)) [i] (List.mem_singleton.mpr rfl)
  have hbusy : s.persWaits o = false := by
    rw [State.persWaits, hv, List.any_cons, List.any_nil, Bool.or_false, State.persBusy]
    split
    · next hp =>
      have : x.1 % 256 ≠ 1 := fun e => hpers ⟨hp.1, hp.2, e⟩
      simp [this]
    · rfl
  have hfind : (s.cmt.out.find? fun w => w.id == o.id) = some o := by
    obtain ⟨w, hw⟩ : ∃ w, (s.cmt.out.find? fun w => w.id == o.id) = some w :=
      Option.isSome_iff_exists.mp (List.find?_isSome.mpr ⟨o, hmem, by simp⟩)
    have hid : w.id = o.id := by simpa using List.find?_some hw
    rw [hw, honly w (List.mem_of_find?_eq_some hw) (le_of_eq hid) (.inl hid)]
  have hone : transferOne s o.id = afterValue (s.moving o x) i (x.1 % 256) (s.act i (x.1 % 256)) := by
    rw [transferOne, hfind]
    show moveWrite (noteMoved s o.id o.vals) o = _
    have h := transferAll_single (dropOut (noteMoved s o.id [x]) o.id) x hpers
    rw [moveWrite, hv, ha, List.foldl_nil, h, hi]
    simp only [State.moving, hi]
    rfl
  rw [transferWrite, hold]
  dsimp only
  rw [if_neg (by
    rw [Bool.not_eq_true, List.any_eq_false]
    intro w hw
    rw [hws w hw, hbusy]
    exact Bool.false_ne_true)]
  refine foldl_transferOne hone (fun w hw => ?_) (List.ne_nil_of_mem (List.mem_map_of_mem hin)) fun j hj => ?_
  · rw [← hi, hkeep] at hw
    have : (w.id != o.id) = true := (List.mem_filter.mp hw).2
    simpa using this
  · obtain ⟨w, hw, rfl⟩ := List.mem_map.mp hj
    rw [hws w hw]

theorem countsKey_below {i sub : Nat} (h : i < 0x2A40) (hs : sub < 256) : countsKey (key i sub) = false := by
  rw [countsKey, decide_eq_false_iff_not, key, key]
  omega

/-- The setting stands in the shadow and active copies, the pending copy is as it was, the write off the list. -/
theorem moving_moved {s u : State} {o : Outstanding} {x : Key × Nat} {i : Nat} (hi : x.1 / 256 = i) (hrange : i < 0x2A40)
    (hu : Settled (s.moving o x) u) (hreg : u.reg i (x.1 % 256) = s.reg i (x.1 % 256)) :
    (settle s u).act i (x.1 % 256) = x.2 ∧ (settle s u).shad i (x.1 % 256) = x.2 ∧ (settle s u).reg i (x.1 % 256) = s.reg i (x.1 % 256) ∧
      (settle s u).cmt.out = s.cmt.out.filter fun q => q.id != o.id := by
  subst hi
  have hk : countsKey (key (x.1 / 256) (x.1 % 256)) = false :=
    countsKey_below hrange (Nat.mod_lt _ (by decide))
  refine ⟨?_, ?_, ?_, ?_⟩
  · rw [settle_act, State.act, hu.active, hu.variant]
    exact State.act_transfer ..
  · rw [settle_shad, State.shad, hu.shadow, hu.variant]
    exact State.shad_transfer ..
  · rw [settle_reg s u hk, hreg]
  · rw [settle_cmt, hu.cmt]
    rfl

theorem afterValue_port {s : State} {i sub old : Nat} (h : 0x2100 ≤ i ∧ i < 0x2120) (h1 : sub ≠ 1) (h31 : sub ≠ 0x31) :
    afterValue s i sub old = s := by
  rw [afterValue, dif_pos h]
  dsimp only
  rw [if_neg h1, if_neg fun e => h31 e.1]

/-- A setting of a rail but its membership, enable, period and truncation or skim settings acts only as a new goal. -/
theorem afterValue_rail (s : State) (r : Fin 16) {sub : Nat} (h : sub ∉ [1, 3, 7, 0x10, 0x12]) (old : Nat) :
    afterValue s (railIdx r.1) sub old = if sub = 8 ∨ sub = 9 then retarget s r else s := by
  have hr : 0x2200 ≤ railIdx r.1 ∧ railIdx r.1 < 0x2210 := by unfold railIdx; omega
  have hq : (⟨railIdx r.1 - 0x2200, by omega⟩ : Fin 16) = r := Fin.ext (by show railIdx r.1 - 0x2200 = r.1; unfold railIdx; omega)
  simp only [List.mem_cons, List.not_mem_nil, or_false, not_or] at h
  obtain ⟨h1, h3, h7, h10, h12⟩ := h
  rw [afterValue, dif_neg (by omega), dif_pos hr, hq]
  dsimp only
  simp only [h1, h3, h7, h10, h12, false_and, if_false]

/-- The copies after the transfer of a setting that no other waits with. -/
theorem transferWrite_moved {s : State} {i : Nat} {o : Outstanding} {x : Key × Nat} (h : s.soleFor i o x) (hrange : i < 0x2A40)
    (hpers : ¬(0x2100 ≤ i ∧ i < 0x2120 ∧ x.1 % 256 = 1)) (hset : ∀ old, Settled (s.moving o x) (afterValue (s.moving o x) i (x.1 % 256) old))
    (hreg : ∀ old, (afterValue (s.moving o x) i (x.1 % 256) old).reg i (x.1 % 256) = s.reg i (x.1 % 256)) :
    transferWrite s i = afterValue (s.moving o x) i (x.1 % 256) (s.act i (x.1 % 256)) ∧
      let t := settle s (transferWrite s i)
      t.act i (x.1 % 256) = x.2 ∧ t.shad i (x.1 % 256) = x.2 ∧ t.reg i (x.1 % 256) = s.reg i (x.1 % 256) ∧
        t.cmt.out = s.cmt.out.filter fun q => q.id != o.id := by
  have hi := h.index
  have e : transferWrite s i = afterValue (s.moving o x) i (x.1 % 256) (s.act i (x.1 % 256)) :=
    transferWrite_single h (by rwa [hi]) fun old => by rw [hi]; exact (hset old).cmt
  refine ⟨e, ?_⟩
  rw [e]
  exact moving_moved hi hrange (hset _) (hreg _)

/-- Settles O30: a checked setting is the one pending value its path leaves waiting; the transfer of an index takes the one write that
waits for it, and what that setting does then touches none of the copies. -/
theorem controlWritesWaitForTransfer : Obligations.ControlWritesWaitForTransfer := by
  intro s
  refine ⟨fun p h hst => ?_, fun idx o hold x hv ha hlive honly => ?_⟩
  · intro waits
    refine ⟨fun n hn hok => ⟨fun v hv h3 hreg hp => ?_, fun heven _ hp => ?_, fun v hv => ?_⟩,
      fun r hr => ⟨fun m hm h17 h18 hp => ?_, fun hok hmd => ⟨fun hmask hb => ?_, ?_⟩⟩⟩
    · have hv3 : v.toNat ≠ 3 := fun e => h3 (BitVec.eq_of_toNat_eq e)
      obtain ⟨hw, ht⟩ := personalityWrite_waits h hst hn hok hv (.inl ⟨hv3, hreg⟩) hp
      rw [expand1_port (.inr ⟨hv3, by rwa [granted_reg_sub s p (by decide) (by decide)]⟩)] at hw
      exact after_of_done rfl (waits_one (unitIdx_port n) (by decide) hw ht)
    · obtain ⟨hw, ht⟩ := personalityWrite_waits (v := 3) h hst hn hok (by decide) (.inr ⟨rfl, heven⟩) hp
      rw [show (3 : Byte).toNat = 3 from rfl, expand1_pair heven] at hw
      obtain ⟨ht', ha, hs, hr, ho⟩ := accepted_after (by simp) hw ht
      have hi1 : unitIdx (portIdx (n.1 + 1)) := .inl (by unfold portIdx; omega)
      refine after_of_done (u := hostPut s p (portIdx n.1) 1 1 3) rfl ⟨ht', ha, hs, ?_, ?_, ho⟩
      · rw [hr _ 1 (unitIdx_port n) (by decide)]
        exact (State.reg_setReg_ne _ _ (by show (portIdx n.1 * 256 + 1 : Nat) ≠ portIdx (n.1 + 1) * 256 + 1; unfold portIdx; omega)).trans (State.reg_setReg ..)
      · rw [hr _ 1 hi1 (by decide)]
        exact State.reg_setReg ..
    · obtain ⟨hw, ht⟩ := fanTachWrite_waits h hst hn hok hv
      exact after_of_done rfl (waits_one (unitIdx_port n) (by decide) hw ht)
    · obtain ⟨hw, ht⟩ := portMaskWrite_waits h hst hr hm h17 h18 hp
      exact after_of_done rfl (waits_one (unitIdx_rail r) (by decide) hw ht)
    · obtain ⟨hw, ht⟩ := enableWrite_waits (x := 1) h hst hr hok hmd (by decide) fun _ => ⟨hmask, hb⟩
      exact after_of_done rfl (waits_one (unitIdx_rail r) (by decide) hw ht)
    · obtain ⟨hw, ht⟩ := enableWrite_waits (x := 0) h hst hr hok hmd (by decide) fun e => absurd e (by decide)
      exact after_of_done rfl (waits_one (unitIdx_rail r) (by decide) hw ht)
  · intro i sub moved
    have hsole : s.soleFor i o x := ⟨hold, hv, ha, honly⟩
    have hexec : exec (.writeTransfer idx) s = done s (transferWrite s i) := congrArg (done s) (if_pos hlive)
    refine ⟨fun hplain => after_of_done hexec ?_, fun r hr hsub => after_of_done hexec ?_⟩
    · rcases hplain with ⟨hlo, hhi, h2, h31⟩ | h5
      · have hid : ∀ old, afterValue (s.moving o x) i sub old = s.moving o x := fun old =>
          afterValue_port ⟨hlo, hhi⟩ (Nat.ne_of_gt h2) h31
        exact (transferWrite_moved hsole (by omega) (fun e => absurd e.2.2 (Nat.ne_of_gt h2)) (fun old => by rw [hid]; exact .refl _) fun old => by rw [hid]; rfl).2
      · have hchg : ∀ old, afterValue (s.moving o x) i sub old = chgSettle (s.moving o x) := fun old => by rw [h5]; rfl
        have hon := chgSettle_onlyChg (s.moving o x)
        refine (transferWrite_moved hsole (by omega) (by omega) (fun old => by rw [hchg]; exact hon.settled) fun old => ?_).2
        rw [hchg]
        exact hon.same (fun t => t.reg i sub) fun _ _ _ => rfl
    · have hi : i < 0x2210 ∧ 0x2200 ≤ i := by rw [hr]; unfold railIdx; omega
      obtain ⟨kset, kreg, ktarget, kvref, kslew⟩ := retarget_spec (s.moving o x) r
      have hrail : ∀ old, afterValue (s.moving o x) i sub old = if sub = 8 ∨ sub = 9 then retarget (s.moving o x) r else s.moving o x :=
        fun old => by rw [hr]; exact afterValue_rail _ r hsub old
      obtain ⟨e, hmoved⟩ := transferWrite_moved hsole (by omega) (by omega) (fun old => by rw [hrail]; split; exacts [kset, .refl _])
        fun old => by
          rw [hrail]
          split
          · next h89 => exact kreg i sub (by rcases h89 with e | e <;> rw [e] <;> decide)
          · rfl
      refine ⟨hmoved, fun h89 => ?_⟩
      rw [settle_act, settle_act, settle_rails, e, hrail, if_pos h89]
      refine ⟨?_, kvref, kslew⟩
      rw [ktarget, State.act, State.act, State.act, State.act, kset.active, kset.variant, hr]

end Sys2Proof.Machine
end

section
namespace Sys2Proof.Machine
open Sys2Proof

/-! ## What the gates change -/

/-- `q` is `p` but for its gates and what is measured of them. -/
structure OnlyGates (p q : Port) : Prop where
  frame : q = { p with gh := q.gh, gl := q.gl, glAt := q.glAt, lowTime := q.lowTime }

theorem OnlyGates.refl (p : Port) : OnlyGates p p := ⟨rfl⟩

theorem OnlyGates.trans {p q r : Port} (h : OnlyGates p q) (k : OnlyGates q r) : OnlyGates p r :=
  ⟨k.frame.trans (congrArg (fun x : Port => { x with gh := r.gh, gl := r.gl, glAt := r.glAt, lowTime := r.lowTime }) h.frame)⟩

/-- What the gates leave of a port. -/
theorem OnlyGates.same {p q : Port} (h : OnlyGates p q) {α : Type} (f : Port → α)
    (hf : ∀ (x : Port) a b c d, f { x with gh := a, gl := b, glAt := c, lowTime := d } = f x) : f q = f p := by
  rw [h.frame, hf]

/-- `p` with the gates of `q` and what a main-gate turn-on takes as in `q`. -/
def Port.withTurn (p q : Port) : Port :=
  { p with gh := q.gh, gl := q.gl, glAt := q.glAt, lowTime := q.lowTime, newCmd := q.newCmd, cmd := q.cmd, lim := q.lim, dac := q.dac, skip := q.skip, onDue := q.onDue, pulsed := q.pulsed, ramp := q.ramp }

/-- `q` is `p` but for its gates and what its main-gate turn-on takes. -/
structure TurnedOn (p q : Port) : Prop where
  frame : q = p.withTurn q

theorem TurnedOn.refl (p : Port) : TurnedOn p p := ⟨rfl⟩

theorem TurnedOn.trans {p q r : Port} (h : TurnedOn p q) (k : TurnedOn q r) : TurnedOn p r :=
  by
  refine ⟨k.frame.trans ?_⟩
  rw [h.frame]
  rfl

/-- `f` reads nothing that a turn-on changes. -/
abbrev TurnBlind {α : Type} (f : Port → α) : Prop := ∀ p q : Port, f (p.withTurn q) = f p

/-- What a turn-on leaves of a port. -/
theorem TurnedOn.same {p q : Port} (h : TurnedOn p q) {α : Type} (f : Port → α) (hf : TurnBlind f) : f q = f p := by
  rw [h.frame, hf]

theorem OnlyGates.turnedOn {p q : Port} (h : OnlyGates p q) : TurnedOn p q := ⟨h.frame.trans (by rw [h.frame]; rfl)⟩

theorem takeCmd_turnedOn (p : Port) (live : Nat) : TurnedOn p (p.takeCmd live) := by
  unfold Port.takeCmd
  cases hn : p.newCmd with
  | none => exact ⟨rfl⟩
  | some c => exact ⟨rfl⟩

theorem takePulse_turnedOn (p : Port) (pulse : Bool) (slope : Nat) : TurnedOn p (p.takePulse pulse slope) := ⟨rfl⟩

/-! ### On a port or its pair -/

/-- `t` is `s` but for port `n` and its pair's, and these but for what `R` lets change. -/
structure Within (R : Port → Port → Prop) (n : Fin 32) (s t : State) : Prop where
  only : OnlyPorts s t
  ports : ∀ m : Fin 32, R s.ports[m] t.ports[m]
  others : ∀ m : Fin 32, m ≠ n → m ≠ s.mate n → t.ports[m] = s.ports[m]

/-- The field of a state that a change of ports leaves. -/
theorem OnlyPorts.same {s t : State} (h : OnlyPorts s t) {α : Type} (f : State → α) (hf : ∀ (x : State) p, f { x with ports := p } = f x) :
    f t = f s := by
  rw [h.frame, hf]

theorem OnlyPorts.mate {s t : State} (h : OnlyPorts s t) (n : Fin 32) : t.mate n = s.mate n := h.same (fun x => x.mate n) fun _ _ => rfl

theorem Within.refl {R : Port → Port → Prop} (hR : ∀ p, R p p) (n : Fin 32) (s : State) : Within R n s s :=
  ⟨.refl s, fun _ => hR _, fun _ _ _ => rfl⟩

theorem Within.trans {R : Port → Port → Prop} (hR : ∀ p q r, R p q → R q r → R p r) {n : Fin 32} {s t u : State} (h : Within R n s t)
    (k : Within R n t u) : Within R n s u :=
  ⟨h.only.trans k.only, fun m => hR _ _ _ (h.ports m) (k.ports m), fun m hn hm =>
    (k.others m hn (by rw [h.only.mate]; exact hm)).trans (h.others m hn hm)⟩

theorem Within.mono {R Q : Port → Port → Prop} (hRQ : ∀ p q, R p q → Q p q) {n : Fin 32} {s t : State} (h : Within R n s t) : Within Q n s t :=
  ⟨h.only, fun m => hRQ _ _ (h.ports m), h.others⟩

theorem Within.modPort {R : Port → Port → Prop} (hR : ∀ p, R p p) (s : State) {n k : Fin 32} (hk : k = n ∨ k = s.mate n) {f : Port → Port}
    (hf : ∀ p, R p (f p)) : Within R n s (s.modPort k f) := by
  refine ⟨modPort_onlyPorts s k f, fun m => ?_, fun m hn hm => State.modPort_ports_ne s f ?_⟩
  · by_cases hm : m = k
    · subst hm; rw [State.modPort_ports_self]; exact hf _
    · rw [State.modPort_ports_ne s f hm]; exact hR _
  · rcases hk with rfl | rfl
    · exact hn
    · exact hm

/-- `t` is `s` but for the gates of port `n` and its pair's. -/
abbrev Gated (n : Fin 32) : State → State → Prop := Within OnlyGates n

/-- `t` is `s` but for a turn-on of port `n`. -/
abbrev Turned (n : Fin 32) : State → State → Prop := Within TurnedOn n

theorem Gated.trans {n : Fin 32} {s t u : State} (h : Gated n s t) (k : Gated n t u) : Gated n s u := Within.trans (fun _ _ _ => .trans) h k

theorem Turned.trans {n : Fin 32} {s t u : State} (h : Turned n s t) (k : Turned n t u) : Turned n s u := Within.trans (fun _ _ _ => .trans) h k

theorem Gated.turned {n : Fin 32} {s t : State} (h : Gated n s t) : Turned n s t := Within.mono (fun _ _ => OnlyGates.turnedOn) h

theorem beginMain_gated (s : State) (n : Fin 32) (duty : Nat) (pulse : Bool) : Gated n s (beginMain s n duty pulse) := by
  unfold beginMain
  dsimp only
  split
  case h_2 =>
    split <;> exact Gated.trans (Within.modPort .refl s (.inl rfl) fun _ => ⟨rfl⟩) (Within.modPort .refl _ (.inr rfl) fun _ => ⟨rfl⟩)
  all_goals exact Within.modPort .refl s (.inl rfl) fun _ => ⟨rfl⟩

theorem restGates_gated (s : State) (n : Fin 32) : Gated n s (restGates s n) := by
  unfold restGates
  split
  · exact Gated.trans (Within.modPort .refl s (.inl rfl) fun _ => ⟨rfl⟩) (Within.modPort .refl _ (.inr rfl) fun _ => ⟨rfl⟩)
  · exact Within.refl .refl n s
  all_goals exact Within.modPort .refl s (.inl rfl) fun _ => ⟨rfl⟩

theorem endMain_gated (s : State) (n : Fin 32) (clock : Nat) : Gated n s (endMain s n clock) := by
  unfold endMain
  dsimp only
  split
  case h_2 =>
    split
    case h_3 => exact Within.modPort .refl s (.inr rfl) fun _ => ⟨rfl⟩
    all_goals exact Within.modPort .refl s (.inl rfl) fun _ => ⟨rfl⟩
  all_goals exact Within.modPort .refl s (.inl rfl) fun _ => ⟨rfl⟩

/-! ## The turn-on (R98, R113, R134) -/

/-- The port at its turn-on before its gates. -/
def State.commanded (s : State) (n : Fin 32) : State := s.modPort n fun p => p.takeCmd (s.limit n.1)

def State.pulsed (s : State) (n : Fin 32) : State :=
  (s.commanded n).modPort n fun p => p.takePulse (!(s.commanded n).noPulse n) (s.timing n).slope

theorem turnOn_eq (s : State) (n : Fin 32) :
    turnOn s n = beginMain (s.pulsed n) n ((s.commanded n).act (portIdx n.1) 0x30) (!(s.commanded n).noPulse n) := rfl

theorem pulsed_port (s : State) (n : Fin 32) : (s.pulsed n).ports[n] =
    (s.ports[n].takeCmd (s.limit n.1)).takePulse (!(s.commanded n).noPulse n) (s.timing n).slope := by
  rw [State.pulsed, State.modPort_ports_self, State.commanded, State.modPort_ports_self]

theorem pulsed_turned (s : State) (n : Fin 32) : Turned n s (s.pulsed n) :=
  Turned.trans (Within.modPort .refl s (.inl rfl) fun p => takeCmd_turnedOn p _)
    (Within.modPort .refl _ (.inl rfl) fun p => takePulse_turnedOn p _ _)

theorem turnOn_turned (s : State) (n : Fin 32) : Turned n s (turnOn s n) :=
  (pulsed_turned s n).trans (beginMain_gated _ n _ _).turned

theorem turnOnBy_turned (s : State) (n : Fin 32) (ends : Bool) : Turned n s (turnOnBy s n ends) := by
  unfold turnOnBy
  dsimp only
  split
  · exact turnOn_turned s n
  · exact Within.refl .refl n s

/-- `q` is `p` with the command released since taken, clamped to plus and minus the limit code it was computed with. -/
structure Port.Takes (p q : Port) (live : Nat) : Prop where
  newCmd : q.newCmd = none
  cmd : q.cmd = (p.newCmd.map Prod.fst).getD p.cmd
  lim : q.lim = (p.newCmd.map Prod.snd).or p.lim
  dac : q.dac = clampInt (-((q.lim.getD live : Nat) : Int)) (q.lim.getD live : Nat) q.cmd
  onDue : q.onDue = false

theorem takeCmd_takes (p : Port) (live : Nat) (pulse : Bool) (slope : Nat) : p.Takes ((p.takeCmd live).takePulse pulse slope) live := by
  unfold Port.takeCmd
  cases hn : p.newCmd with
  | none => exact ⟨hn, by simp [Port.takePulse, hn], by simp [Port.takePulse, hn], rfl, rfl⟩
  | some c => exact ⟨rfl, by simp [Port.takePulse, hn], by simp [Port.takePulse, hn], rfl, rfl⟩

theorem turnOn_takes (s : State) (n : Fin 32) : s.ports[n].Takes (turnOn s n).ports[n] (s.limit n.1) := by
  have h := takeCmd_takes s.ports[n] (s.limit n.1) (!(s.commanded n).noPulse n) (s.timing n).slope
  rw [← pulsed_port] at h
  have k : OnlyGates (s.pulsed n).ports[n] (turnOn s n).ports[n] := (beginMain_gated (s.pulsed n) n _ _).ports n
  obtain ⟨h1, h2, h3, h4, h5⟩ := h
  rw [k.frame]
  exact ⟨h1, h2, h3, h4, h5⟩

/-- Where its clock has come, a turn-on still due is made. -/
theorem turnOnBy_of {s : State} {n : Fin 32} {ends : Bool} (hd : s.ports[n].onDue = true) (hp : s.ports[n].onAt < max 1 (s.portPer n))
    (hc : ends = true ∨ s.ports[n].wrapped = true ∨ s.ports[n].onAt ≤ s.ports[n].count) : turnOnBy s n ends = turnOn s n := if_pos ⟨hd, hp, hc⟩

theorem turnOnBy_of_made {s : State} {n : Fin 32} (h : s.ports[n].onDue = false) (ends : Bool) : turnOnBy s n ends = s :=
  if_neg fun e => by rw [h] at e; exact absurd e.1 (by decide)

/-- In a period just begun the turn-on is made where its clock has passed, and stays due where it has not. -/
theorem turnOnBy_begun {s : State} {n : Fin 32} (hd : s.ports[n].onDue = true) (hw : s.ports[n].wrapped = false) :
    let p := s.ports[n]
    let q := (turnOnBy s n false).ports[n]
    q.onDue = !(decide (p.onAt < max 1 (s.portPer n)) && decide (p.onAt ≤ p.count)) ∧
      if q.onDue then q.newCmd = p.newCmd ∧ q.cmd = p.cmd ∧ q.dac = p.dac else p.Takes q (s.limit n.1) := by
  intro p q
  by_cases h : p.onAt < max 1 (s.portPer n) ∧ p.onAt ≤ p.count
  · have hq : q = (turnOn s n).ports[n] := congrArg (fun t : State => t.ports[n]) (turnOnBy_of hd h.1 (.inr (.inr h.2)))
    have ht : p.Takes q (s.limit n.1) := by rw [hq]; exact turnOn_takes s n
    exact ⟨by rw [ht.onDue]; simp [h.1, h.2], by rw [ht.onDue]; exact ht⟩
  · have e : turnOnBy s n false = s := by
      refine if_neg ?_
      rw [hw]
      rintro ⟨-, h1, h2⟩
      simp at h2
      exact h ⟨h1, h2⟩
    have hq : q = p := congrArg (fun t : State => t.ports[n]) e
    have hdq : q.onDue = true := by rw [hq]; exact hd
    refine ⟨?_, by rw [hdq]; exact ⟨by rw [hq], by rw [hq], by rw [hq]⟩⟩
    rw [hdq]
    simp only [not_and] at h
    by_cases h1 : p.onAt < max 1 (s.portPer n)
    · simp [h h1]
    · simp [h1]

end Sys2Proof.Machine
end

section
namespace Sys2Proof.Machine
open Sys2Proof

/-! ## An edge fired (R106) -/

/-- `q` is `p` but for its gates, the end of its blanking and what waited for it; a turn-on made stays made. -/
structure EdgeDone (p q : Port) : Prop where
  frame : q = { p with gh := q.gh, gl := q.gl, glAt := q.glAt, lowTime := q.lowTime, blanked := q.blanked, limPend := q.limPend, filt := q.filt, onDue := q.onDue }
  made : p.onDue = false → q.onDue = false

theorem EdgeDone.refl (p : Port) : EdgeDone p p := ⟨rfl, id⟩

theorem EdgeDone.trans {p q r : Port} (h : EdgeDone p q) (k : EdgeDone q r) : EdgeDone p r :=
  ⟨k.frame.trans (congrArg (fun x : Port =>
    { x with gh := r.gh, gl := r.gl, glAt := r.glAt, lowTime := r.lowTime, blanked := r.blanked, limPend := r.limPend, filt := r.filt, onDue := r.onDue }) h.frame),
    k.made ∘ h.made⟩

theorem OnlyGates.edgeDone {p q : Port} (h : OnlyGates p q) : EdgeDone p q := ⟨by rw [h.frame], fun hd => by rw [h.frame]; exact hd⟩

theorem EdgeDone.takes {p q r : Port} {live : Nat} (k : EdgeDone q r) (h : p.Takes q live) : p.Takes r live := by
  have hd := k.made h.onDue
  obtain ⟨h1, h2, h3, h4, h5⟩ := h
  rw [k.frame] at hd ⊢
  exact ⟨h1, h2, h3, h4, hd⟩

/-- What an edge done leaves of a port. -/
theorem EdgeDone.fired {p q : Port} (h : EdgeDone p q) : q.fired = p.fired := by rw [h.frame]

/-- The edges of a port or its pair done. -/
abbrev Edged (n : Fin 32) : State → State → Prop := Within EdgeDone n

theorem Edged.trans {n : Fin 32} {s t u : State} (h : Edged n s t) (k : Edged n t u) : Edged n s u := Within.trans (fun _ _ _ => .trans) h k

theorem Gated.edged {n : Fin 32} {s t : State} (h : Gated n s t) : Edged n s t := Within.mono (fun _ _ => OnlyGates.edgeDone) h

theorem Gated.foldl {n : Fin 32} {f : State → Fin 32 → State} {l : List (Fin 32)} {s : State} (hl : ∀ q ∈ l, q = n ∨ q = s.mate n)
    (hf : ∀ (t : State) q, q = n ∨ q = t.mate n → Gated n t (f t q)) : Gated n s (l.foldl f s) := by
  induction l generalizing s with
  | nil => exact Within.refl .refl n s
  | cons a l ih =>
    have h := hf s a (hl a (List.mem_cons_self ..))
    exact h.trans (ih fun q hq => by rw [h.only.mate]; exact hl q (List.mem_cons_of_mem _ hq))

theorem mem_pairOf {s : State} {n q : Fin 32} (h : q ∈ s.pairOf n) : q = n ∨ q = s.mate n := by
  unfold State.pairOf at h
  split at h
  · simpa using h
  · exact .inl (List.mem_singleton.mp h)

/-- The port with its edge noted and its counter at the edge's clock. -/
def State.noted (s : State) (n : Fin 32) (e : PulseEdge) : State :=
  let goal := if s.ports[n].wrapped then s.ports[n].count else max s.ports[n].count (min (s.edgeAt n e) (s.portPer n - 1))
  s.modPort n fun p => { p with fired := e :: p.fired, count := goal, ramp := p.lower (s.timing n).slope (goal - p.count) }

/-- The state in which an edge acts: its turn-on made where its clock has come. -/
def State.firing (s : State) (n : Fin 32) (e : PulseEdge) : State := turnOnBy (s.noted n e) n false

theorem noted_port (s : State) (n : Fin 32) (e : PulseEdge) : ∃ c r, (s.noted n e).ports[n] = { s.ports[n] with fired := e :: s.ports[n].fired, count := c, ramp := r } :=
  ⟨_, _, State.modPort_ports_self ..⟩

theorem firing_turned (s : State) (n : Fin 32) (e : PulseEdge) : Turned n (s.noted n e) (s.firing n e) := turnOnBy_turned _ n false

/-- What neither the note nor the turn-on touches. -/
theorem firing_same (s : State) (n : Fin 32) (e : PulseEdge) {α : Type} (f : Port → α)
    (h1 : ∀ (x : Port) a b c, f { x with fired := a, count := b, ramp := c } = f x)
    (h2 : TurnBlind f) :
    f (s.firing n e).ports[n] = f s.ports[n] := by
  obtain ⟨c, r, hn⟩ := noted_port s n e
  rw [((firing_turned s n e).ports n).same f h2, hn, h1]

theorem firing_fired (s : State) (n : Fin 32) (e : PulseEdge) : (s.firing n e).ports[n].fired = e :: s.ports[n].fired := by
  obtain ⟨c, r, hn⟩ := noted_port s n e
  rw [((firing_turned s n e).ports n).same Port.fired (fun _ _ => rfl), hn]

theorem firing_only (s : State) (n : Fin 32) (e : PulseEdge) : OnlyPorts s (s.firing n e) :=
  OnlyPorts.trans (t := s.noted n e) ⟨rfl⟩ (firing_turned s n e).only

theorem firing_others (s : State) (n : Fin 32) (e : PulseEdge) {m : Fin 32} (hn : m ≠ n) (hm : m ≠ s.mate n) : (s.firing n e).ports[m] = s.ports[m] :=
  ((firing_turned s n e).others m hn hm).trans (State.modPort_ports_ne s _ hn)

/-- An edge after the turn-on's clock finds the command taken. -/
theorem firing_takes {s : State} {n : Fin 32} (e : PulseEdge) (hd : s.ports[n].onDue = true) (hw : s.ports[n].wrapped = true)
    (hp : s.ports[n].onAt < s.portPer n) : s.ports[n].Takes (s.firing n e).ports[n] (s.limit n.1) := by
  obtain ⟨c, r, hn⟩ := noted_port s n e
  have hper : (s.noted n e).portPer n = s.portPer n := rfl
  have e1 : s.firing n e = turnOn (s.noted n e) n :=
    turnOnBy_of (by rw [hn]; exact hd) (by rw [hn, hper]; exact lt_of_lt_of_le hp (le_max_right ..)) (.inr (.inl (by rw [hn]; exact hw)))
  obtain ⟨h1, h2, h3, h4, h5⟩ := turnOn_takes (s.noted n e) n
  rw [← e1, hn] at *
  exact ⟨h1, h2, h3, h4, h5⟩

/-! ### The three edges -/

/-- The end of blanking but for the limit trip that waited. -/
def State.unblanked (s : State) (n : Fin 32) (clock : Nat) : State :=
  let s2 := s.modPort n fun q => { q with blanked := true, limPend := false, filt := false }
  if s.ports[n].crossed && s2.mainOn n then endMain s2 n clock else s2

theorem unblanked_edged (s : State) (n : Fin 32) (clock : Nat) :
    Edged n s (s.unblanked n clock) ∧ (s.unblanked n clock).ports[n].blanked = true := by
  unfold State.unblanked
  extract_lets s2
  have h2 : Edged n s s2 := Within.modPort .refl s (.inl rfl) fun _ => ⟨rfl, id⟩
  have hb : s2.ports[n].blanked = true := by rw [State.modPort_ports_self]
  have hg := endMain_gated s2 n clock
  split
  · exact ⟨h2.trans hg.edged, by rw [(hg.ports n).same Port.blanked fun _ _ _ _ _ => rfl]; exact hb⟩
  · exact ⟨h2, hb⟩

/-- The end of the maximum duty of a port that has one. -/
def State.maxed (s : State) (n : Fin 32) (pers clock dead : Nat) : State :=
  let s2 := endMain (s.modPort n fun p => { p with onDue := false }) n clock
  (s2.pairOf n).foldl (fun u q => if u.ports[q].refreshNow then u.modPort q fun p => p.gates (pers == 5) true (clock + dead) else u) s2

theorem maxed_edged (s : State) (n : Fin 32) (pers clock dead : Nat) : Edged n s (s.maxed n pers clock dead) := by
  unfold State.maxed
  extract_lets s2
  have h1 : Edged n s (s.modPort n fun p => { p with onDue := false }) := Within.modPort .refl s (.inl rfl) fun _ => ⟨rfl, fun _ => rfl⟩
  have h2 : Edged n s s2 := h1.trans (endMain_gated _ n clock).edged
  refine h2.trans (Gated.foldl (fun q hq => mem_pairOf hq) fun t q hq => ?_).edged
  split
  · exact Within.modPort .refl t hq fun _ => ⟨rfl⟩
  · exact Within.refl .refl n t

/-- The main gate of a BUCK port is GHn: it falls, and a refresh turns GLn on (R94, R106). -/
theorem maxed_gh {s : State} {n : Fin 32} (h : s.pers n.1 = 1) (clock dead : Nat) : (s.maxed n 1 clock dead).ports[n].gh = false := by
  unfold State.maxed
  extract_lets s2
  have hend : s2 = (s.modPort n fun p => { p with onDue := false }).modPort n fun q => q.gates false (!q.rectOff)
      (clock + deadClocks (((s.modPort n fun p => { p with onDue := false }).timing n).dtHL)) := by
    have hp : (s.modPort n fun p => { p with onDue := false }).pers n.1 = 1 := h
    unfold s2 endMain
    dsimp only
    rw [hp]
    rfl
  have hg : s2.ports[n].gh = false := by rw [hend, State.modPort_ports_self]; rfl
  have hpair : s2.pairOf n = [n] := if_neg fun e => by rw [hend] at e; exact absurd (h.symm.trans e) (by decide)
  rw [hpair, List.foldl_cons, List.foldl_nil]
  split
  · rw [State.modPort_ports_self]; rfl
  · exact hg

theorem doPulseCompareFire_eq {s : State} {n : Fin 32} {e : PulseEdge} (hl : s.live = true) (hp : s.pulsing n = true) (hn : s.leads n = true)
    (hf : s.ports[n].fired.contains e = false) : doPulseCompareFire n e s =
      match e with
      | .blank =>
        if (s.firing n e).ports[n].limPend then limitTrip ((s.firing n e).unblanked n (s.edgeAt n e)) n (s.firing n e).ports[n].filt
        else (s.firing n e).unblanked n (s.edgeAt n e)
      | .maxOn =>
        if s.pers n.1 = 4 ∨ s.pers n.1 = 6 then s.firing n e
        else (s.firing n e).maxed n (s.pers n.1) (s.edgeAt n e) (deadClocks (s.timing n).dtHL)
      | .fanDuty =>
        if s.pers n.1 = 6 ∧ s.act (portIdx n.1) 0x30 < 100 then
          (s.firing n e).modPort n fun p => { p.gates p.gh false (s.edgeAt n e) with onDue := false }
        else s.firing n e := by
  unfold doPulseCompareFire
  rw [if_pos ⟨hl, hp, hn, hf⟩]
  cases e <;> rfl

theorem fire_edged {s : State} {n : Fin 32} {e : PulseEdge} (hl : s.live = true) (hp : s.pulsing n = true) (hn : s.leads n = true)
    (hf : s.ports[n].fired.contains e = false) (hlim : s.ports[n].limPend = false) : Edged n (s.firing n e) (doPulseCompareFire n e s) := by
  rw [doPulseCompareFire_eq hl hp hn hf]
  have hpend : (s.firing n e).ports[n].limPend = false :=
    (firing_same s n e Port.limPend (fun _ _ _ _ => rfl) fun _ _ => rfl).trans hlim
  cases e with
  | blank =>
    dsimp only
    rw [if_neg (by rw [hpend]; decide)]
    exact (unblanked_edged _ n _).1
  | maxOn =>
    dsimp only
    split
    · exact Within.refl .refl n _
    · exact maxed_edged _ n _ _ _
  | fanDuty =>
    dsimp only
    split
    · exact Within.modPort .refl _ (.inl rfl) fun _ => ⟨rfl, fun _ => rfl⟩
    · exact Within.refl .refl n _

theorem fire_blanked {s : State} {n : Fin 32} (hl : s.live = true) (hp : s.pulsing n = true) (hn : s.leads n = true)
    (hf : s.ports[n].fired.contains .blank = false) (hlim : s.ports[n].limPend = false) : (doPulseCompareFire n .blank s).ports[n].blanked = true := by
  rw [doPulseCompareFire_eq hl hp hn hf]
  have hpend : (s.firing n .blank).ports[n].limPend = false :=
    (firing_same s n .blank Port.limPend (fun _ _ _ _ => rfl) fun _ _ => rfl).trans hlim
  dsimp only
  rw [if_neg (by rw [hpend]; decide)]
  exact (unblanked_edged _ n _).2

theorem fire_maxOn {s : State} {n : Fin 32} (hl : s.live = true) (hp : s.pulsing n = true) (hn : s.leads n = true)
    (hf : s.ports[n].fired.contains .maxOn = false) (h1 : s.pers n.1 = 1) : (doPulseCompareFire n .maxOn s).ports[n].gh = false := by
  rw [doPulseCompareFire_eq hl hp hn hf]
  dsimp only
  rw [h1, if_neg (by decide)]
  have hpers : (s.firing n .maxOn).pers n.1 = 1 := ((firing_only s n .maxOn).same (fun t => t.pers n.1) fun _ _ => rfl).trans h1
  exact maxed_gh hpers _ _

theorem fire_fanDuty {s : State} {n : Fin 32} (hl : s.live = true) (hp : s.pulsing n = true) (hn : s.leads n = true)
    (hf : s.ports[n].fired.contains .fanDuty = false) (h6 : s.pers n.1 = 6) (hd : s.act (portIdx n.1) 0x30 < 100) :
    (doPulseCompareFire n .fanDuty s).ports[n].gl = false := by
  rw [doPulseCompareFire_eq hl hp hn hf]
  dsimp only
  rw [if_pos ⟨h6, hd⟩, State.modPort_ports_self]
  rfl

/-! ### A limit trip that waited for blanking's end (R99, R101) -/

theorem tripPort_keeps (s : State) (n : Fin 32) : Keeps s (tripPort s n) := by
  unfold tripPort
  split
  case h_4 h _ => exact .modPort s n _ (.of_ne (fun e => h (by assumption)) _)
  all_goals exact .refl s

theorem tripRail_later (s : State) (r : Fin 16) : Later s (tripRail s r) := by
  unfold tripRail tripRailBy
  refine .ite (fun _ => .refl s) fun _ => ?_
  extract_lets old s1 s2 top
  have h1 : Keeps s s1 := Keeps.foldl tripPort_keeps _ s
  have h2 : Later s s2 := ((h1.trans (.modRail s1 r _)).trans (railChanged_keeps _ r old false)).toLater
  have h3 : Later s2 (setSupFlag s2 r 0x20) := (Keeps.orReg s2 _ (unflagged_rail r 0x4C (by decide))).toLater
  exact .ite (fun _ => .ite (fun _ => h2.trans (Keeps.modRail s2 r _).toLater)
      (fun _ => ((h2.trans h3).trans (report_later _ _ _ _)).trans (judgeWaits_later _)))
    (fun _ => h2.trans (judgeWaits_later s2))

/-- A trip leaves the flags it sets (R102). -/
theorem tripBy_tripFlags (s : State) (n : Fin 32) (flag : Nat) (code : U16) (oc : Bool) :
    (tripBy s n flag code oc).tripFlags n = s.tripFlags n ||| flag := by
  unfold tripBy
  extract_lets s1
  have h1 : s1.tripFlags n = s.tripFlags n ||| flag := ((report_later _ _ _ _).tripFlags n).trans (State.reg_setReg ..)
  split
  · exact h1
  · next r _ =>
    refine ((tripRail_later _ r).tripFlags n).trans ?_
    split
    · exact ((countRail_keeps s1 r 0x54 (by decide)).tripFlags n).trans h1
    · exact h1

/-- The first limit trip of a period that the filter accepts sets LIMIT (R101). -/
theorem limitTrip_limit {s : State} {n : Fin 32} (h : s.ports[n].limitNow = false) : ((limitTrip s n true).tripFlags n).testBit 0 = true := by
  have hs : ∀ x : Nat, (x ||| 1).testBit 0 = true := fun x => by simp
  unfold limitTrip
  extract_lets s1
  have h1 : (s1.tripFlags n).testBit 0 = true := by
    have e : s1 = ((setTrip s n 1).inc (portIdx n.1) 0x13).modPort n fun p => { p with limitNow := true } :=
      if_pos (by rw [h]; rfl)
    have hne : key (portIdx n.1) 0x12 ≠ key (portIdx n.1) 0x13 := by
      show (portIdx n.1 * 256 + 0x12 : Nat) ≠ portIdx n.1 * 256 + 0x13
      omega
    have k : ((setTrip s n 1).inc (portIdx n.1) 0x13).tripFlags n = s.tripFlags n ||| 1 :=
      (State.reg_setReg_ne _ _ hne).trans (State.reg_setReg ..)
    rw [e]
    show (((setTrip s n 1).inc (portIdx n.1) 0x13).tripFlags n).testBit 0 = true
    rw [k]
    exact hs _
  split
  · exact h1
  · rw [if_pos rfl, tripBy_tripFlags]
    exact hs _

/-- With a crossing at the limit code waiting that the filter accepted, the end of blanking sets LIMIT. -/
theorem fire_limit {s : State} {n : Fin 32} (hl : s.live = true) (hp : s.pulsing n = true) (hn : s.leads n = true)
    (hf : s.ports[n].fired.contains .blank = false) (hlim : s.ports[n].limPend = true) (hfilt : s.ports[n].filt = true)
    (hnow : s.ports[n].limitNow = false) : ((doPulseCompareFire n .blank s).tripFlags n).testBit 0 = true := by
  rw [doPulseCompareFire_eq hl hp hn hf]
  have h1 : (s.firing n .blank).ports[n].limPend = true :=
    (firing_same s n .blank Port.limPend (fun _ _ _ _ => rfl) fun _ _ => rfl).trans hlim
  have h2 : (s.firing n .blank).ports[n].filt = true :=
    (firing_same s n .blank Port.filt (fun _ _ _ _ => rfl) fun _ _ => rfl).trans hfilt
  have h3 : (s.firing n .blank).ports[n].limitNow = false :=
    (firing_same s n .blank Port.limitNow (fun _ _ _ _ => rfl) fun _ _ => rfl).trans hnow
  have h4 : ((s.firing n .blank).unblanked n (s.edgeAt n .blank)).ports[n].limitNow = false := by
    rw [((unblanked_edged (s.firing n .blank) n (s.edgeAt n .blank)).1.ports n).frame]
    exact h3
  dsimp only
  rw [if_pos h1, h2]
  exact limitTrip_limit h4

end Sys2Proof.Machine
end

section
namespace Sys2Proof.Machine
open Sys2Proof

/-! ## What a period start leaves standing -/

/-- `t` is `s` but for its ports, rails, registers and mirrors; no port changes its state or its way to one, no rail sheds or adds a phase. -/
structure Stands (s t : State) : Prop where
  frame : t = { s with ports := t.ports, rails := t.rails, regs := t.regs, mirror := t.mirror }
  states : ∀ m : Fin 32, t.ports[m].state = s.ports[m].state
  endings : ∀ m : Fin 32, t.ports[m].ending = s.ports[m].ending
  shed : ∀ r : Fin 16, t.rails[r].shed = s.rails[r].shed

theorem Stands.refl (s : State) : Stands s s := ⟨rfl, fun _ => rfl, fun _ => rfl, fun _ => rfl⟩

theorem Stands.trans {s t u : State} (h : Stands s t) (k : Stands t u) : Stands s u :=
  ⟨k.frame.trans (congrArg (fun x : State => { x with ports := u.ports, rails := u.rails, regs := u.regs, mirror := u.mirror }) h.frame),
    fun m => (k.states m).trans (h.states m), fun m => (k.endings m).trans (h.endings m), fun r => (k.shed r).trans (h.shed r)⟩

/-- What reads none of these stands. -/
theorem Stands.same {s t : State} (h : Stands s t) {α : Type} (f : State → α)
    (hf : ∀ (x : State) p r g m, f { x with ports := p, rails := r, regs := g, mirror := m } = f x) : f t = f s := by
  rw [h.frame, hf]

theorem Stands.pers {s t : State} (h : Stands s t) (n : Nat) : t.pers n = s.pers n := h.same (fun x => x.pers n) fun _ _ _ _ _ => rfl

theorem Stands.mate {s t : State} (h : Stands s t) (n : Fin 32) : t.mate n = s.mate n := h.same (fun x => x.mate n) fun _ _ _ _ _ => rfl

theorem Stands.limit {s t : State} (h : Stands s t) (n : Nat) : t.limit n = s.limit n := h.same (fun x => x.limit n) fun _ _ _ _ _ => rfl

theorem Stands.portPer {s t : State} (h : Stands s t) (n : Fin 32) : t.portPer n = s.portPer n := h.same (fun x => x.portPer n) fun _ _ _ _ _ => rfl

theorem Stands.railOf {s t : State} (h : Stands s t) (n : Fin 32) : t.railOf n = s.railOf n := h.same (fun x => x.railOf n) fun _ _ _ _ _ => rfl

theorem Stands.timingNow {s t : State} (h : Stands s t) (n : Fin 32) : t.timingNow n = s.timingNow n :=
  h.same (fun x => x.timingNow n) fun _ _ _ _ _ => rfl

theorem Stands.pulsing {s t : State} (h : Stands s t) (n : Fin 32) : t.pulsing n = s.pulsing n := by
  simp only [State.pulsing, h.states n]

theorem Stands.beatPhase {s t : State} (h : Stands s t) (r : Fin 16) : t.beatPhase r = s.beatPhase r := by
  have hp : t.phases r = s.phases r := h.same (fun x => x.phases r) fun _ _ _ _ _ => rfl
  have ha : t.isActive r = s.isActive r := by
    funext n
    simp only [State.isActive, h.shed r, h.endings n, h.states n]
  have hpul : t.pulsing = s.pulsing := funext h.pulsing
  simp only [State.beatPhase, State.actives, hp, ha, hpul]

theorem OnlyPorts.stands {s t : State} (h : OnlyPorts s t) (hs : ∀ m : Fin 32, t.ports[m].state = s.ports[m].state)
    (he : ∀ m : Fin 32, t.ports[m].ending = s.ports[m].ending) : Stands s t :=
  ⟨h.frame.trans (by rw [h.frame]), hs, he, fun r => by rw [h.frame]⟩

theorem Turned.stands {n : Fin 32} {s t : State} (h : Turned n s t) : Stands s t :=
  h.only.stands (fun m => (h.ports m).same Port.state (fun _ _ => rfl))
    fun m => (h.ports m).same Port.ending (fun _ _ => rfl)

theorem modPort_stands (s : State) (n : Fin 32) {f : Port → Port} (hf : ∀ p, (f p).state = p.state ∧ (f p).ending = p.ending) :
    Stands s (s.modPort n f) := by
  have h : ∀ m : Fin 32, (s.modPort n f).ports[m].state = s.ports[m].state ∧ (s.modPort n f).ports[m].ending = s.ports[m].ending := fun m => by
    by_cases hm : m = n
    · subst hm; rw [State.modPort_ports_self]; exact hf _
    · rw [State.modPort_ports_ne s f hm]; exact ⟨rfl, rfl⟩
  exact (modPort_onlyPorts s n f).stands (fun m => (h m).1) fun m => (h m).2

theorem Stands.foldl {α : Type} {f : State → α → State} (h : ∀ s a, Stands s (f s a)) (l : List α) : ∀ s, Stands s (l.foldl f s) := by
  induction l with
  | nil => exact Stands.refl
  | cons a t ih => exact fun s => (h s a).trans (ih _)

theorem setReg_stands (s : State) (idx sub v : Nat) : Stands s (s.setReg idx sub v) := ⟨rfl, fun _ => rfl, fun _ => rfl, fun _ => rfl⟩

theorem modRail_stands (s : State) (r : Fin 16) {f : Rail → Rail} (hf : ∀ x, (f x).shed = x.shed) : Stands s (s.modRail r f) := by
  refine ⟨rfl, fun _ => rfl, fun _ => rfl, fun q => ?_⟩
  by_cases hq : q = r
  · subst hq; rw [State.modRail_rails_self]; exact hf _
  · rw [State.modRail_rails_ne s f hq]

theorem Copies.stands {I : Nat → Prop} {s t : State} (h : Copies I s t) : Stands s t :=
  ⟨h.frame.trans (by rw [h.frame]), fun m => by rw [h.frame], fun m => by rw [h.frame], fun r => by rw [h.frame]⟩

/-! ### The course of a port -/

/-- What of a port the business of its period leaves: its counter, edges, settings latched, words, command. -/
structure Course where
  count : Nat
  wrapped : Bool
  fired : List PulseEdge
  timing : Option PortTiming
  onAt : Nat
  onDue : Bool
  newCmd : Option (Int × Nat)
  cmd : Int
  lim : Option Nat
  dac : Int
  sum : Int
  num : Nat
  pSum : Int
  pNum : Nat
  bstRun : Nat
  backRun : Nat
  shortRun : Nat

def Port.course (p : Port) : Course :=
  { count := p.count, wrapped := p.wrapped, fired := p.fired, timing := p.timing, onAt := p.onAt, onDue := p.onDue, newCmd := p.newCmd,
    cmd := p.cmd, lim := p.lim, dac := p.dac, sum := p.sum, num := p.num, pSum := p.pSum, pNum := p.pNum, bstRun := p.bstRun, backRun := p.backRun, shortRun := p.shortRun }

/-- Port `n` runs on and no trip flag changes. -/
structure Idle (n : Fin 32) (s t : State) : Prop extends Stands s t where
  course : t.ports[n].course = s.ports[n].course
  flags : ∀ m : Fin 32, t.tripFlags m = s.tripFlags m

theorem Idle.refl (n : Fin 32) (s : State) : Idle n s s := ⟨.refl s, rfl, fun _ => rfl⟩

theorem Idle.trans {n : Fin 32} {s t u : State} (h : Idle n s t) (k : Idle n t u) : Idle n s u :=
  ⟨h.toStands.trans k.toStands, k.course.trans h.course, fun m => (k.flags m).trans (h.flags m)⟩

theorem Idle.foldl {α : Type} {n : Fin 32} {f : State → α → State} (h : ∀ s a, Idle n s (f s a)) (l : List α) : ∀ s, Idle n s (l.foldl f s) := by
  induction l with
  | nil => exact Idle.refl n
  | cons a t ih => exact fun s => (h s a).trans (ih _)

theorem Idle.ite {n : Fin 32} {s t u : State} {c : Prop} [Decidable c] (h : c → Idle n s t) (k : ¬c → Idle n s u) :
    Idle n s (if c then t else u) := by
  split
  · exact h ‹_›
  · exact k ‹_›

/-- A change of some port that leaves its course and its state. -/
theorem modPort_idle (n : Fin 32) (s : State) (k : Fin 32) {f : Port → Port} (hf : ∀ p, (f p).state = p.state ∧ (f p).ending = p.ending)
    (hc : ∀ p, (f p).course = p.course) : Idle n s (s.modPort k f) := by
  refine ⟨modPort_stands s k hf, ?_, fun _ => rfl⟩
  by_cases hn : n = k
  · subst hn; rw [State.modPort_ports_self]; exact hc _
  · rw [State.modPort_ports_ne s f hn]

/-- A change of another port that leaves its state. -/
theorem modPort_idle_ne {n : Fin 32} (s : State) {k : Fin 32} (h : n ≠ k) {f : Port → Port}
    (hf : ∀ p, (f p).state = p.state ∧ (f p).ending = p.ending) : Idle n s (s.modPort k f) :=
  ⟨modPort_stands s k hf, by rw [State.modPort_ports_ne s f h], fun _ => rfl⟩

theorem setReg_idle (n : Fin 32) (s : State) {idx sub : Nat} (v : Nat) (h : unflagged idx sub) : Idle n s (s.setReg idx sub v) :=
  ⟨setReg_stands s idx sub v, rfl, (Keeps.setReg s v h).tripFlags⟩

theorem modRail_idle (n : Fin 32) (s : State) (r : Fin 16) {f : Rail → Rail} (hf : ∀ x, (f x).shed = x.shed) : Idle n s (s.modRail r f) :=
  ⟨modRail_stands s r hf, rfl, fun _ => rfl⟩

theorem Copies.idle {I : Nat → Prop} {s t : State} (h : Copies I s t) (n : Fin 32) : Idle n s t :=
  ⟨h.stands, by rw [h.frame], fun m => by rw [h.frame]; rfl⟩

/-! ## The period that ends -/

theorem countRefresh_idle (s : State) (n : Fin 32) : Idle n s (countRefresh s n) := by
  unfold countRefresh
  extract_lets r pulsed
  refine Idle.foldl (fun t q => ?_) _ s
  exact modPort_idle n t q (fun _ => ⟨rfl, rfl⟩) fun _ => rfl

theorem mirrorPeriod_idle (s : State) (n : Fin 32) : Idle n s (mirrorPeriod s n) := by
  unfold mirrorPeriod
  extract_lets s1
  have h1 : Idle n s s1 := Idle.foldl (fun t q => (mirrorPort_copies t q).idle n) _ s
  split
  · exact h1
  · next r _ =>
    refine .ite (fun _ => (h1.trans ((mirrorRail_copies s1 r).idle n)).trans ?_) (fun _ => h1)
    exact Idle.foldl (fun t e => (mirrorEngine_copies t e).idle n) _ _

/-- The port makes its rail's period, or has no rail. -/
def State.beats (s : State) (n : Fin 32) : Prop := s.railOf n = none ∨ ∃ r, s.railOf n = some r ∧ s.beatPhase r = some n

theorem Stands.beats {s t : State} (h : Stands s t) (n : Fin 32) : t.beats n ↔ s.beats n := by
  simp only [State.beats, h.railOf, h.beatPhase]

theorem foldl_modPort_not_mem (f : Port → Port) {l : List (Fin 32)} {n : Fin 32} (h : n ∉ l) :
    ∀ s : State, (l.foldl (fun t m => t.modPort m f) s).ports[n] = s.ports[n] := by
  induction l with
  | nil => exact fun _ => rfl
  | cons a l ih =>
    intro s
    rw [List.foldl_cons, ih fun hm => h (List.mem_cons_of_mem a hm), State.modPort_ports_ne]
    exact fun e => h (e ▸ List.mem_cons_self ..)

/-- Each of some ports changed once. -/
theorem foldl_modPort_mem (f : Port → Port) {l : List (Fin 32)} {n : Fin 32} (hl : l.Nodup) (h : n ∈ l) :
    ∀ s : State, (l.foldl (fun t m => t.modPort m f) s).ports[n] = f s.ports[n] := by
  induction l with
  | nil => exact absurd h List.not_mem_nil
  | cons a l ih =>
    intro s
    obtain ⟨ha, hl⟩ := List.nodup_cons.mp hl
    rw [List.foldl_cons]
    rcases List.mem_cons.mp h with rfl | h
    · rw [foldl_modPort_not_mem f ha, State.modPort_ports_self]
    · rw [ih hl h, State.modPort_ports_ne _ _ fun e : n = a => ha (e ▸ h)]

/-- A port of a rail is among its members. -/
theorem mem_members_of_railOf {s : State} {n : Fin 32} {r : Fin 16} (h : s.railOf n = some r) : n ∈ s.members r :=
  List.mem_filter.mpr ⟨List.mem_finRange n, List.find?_some (p := fun r : Fin 16 => (s.mask r.1).testBit (s.pairLead n.1)) h⟩

theorem members_nodup (s : State) (r : Fin 16) : (s.members r).Nodup := (List.nodup_finRange 32).filter _

/-- The words of the ended period close where the port makes its rail's period, and stand else. -/
theorem closeStats_spec (s : State) (n : Fin 32) : Stands s (closeStats s n) ∧ (∀ m : Fin 32, (closeStats s n).tripFlags m = s.tripFlags m) ∧
    (s.beats n ∧ (closeStats s n).ports[n] = s.ports[n].closeWords ∨ ¬s.beats n ∧ (closeStats s n).ports[n] = s.ports[n]) := by
  have hw : ∀ (t : State) m, Stands t (t.modPort m Port.closeWords) := fun t m => modPort_stands t m fun _ => ⟨rfl, rfl⟩
  unfold closeStats
  split
  · next hr => exact ⟨hw s n, fun _ => rfl, .inl ⟨.inl hr, State.modPort_ports_self ..⟩⟩
  · next r hr =>
    split
    · next hb =>
      extract_lets s1
      have h1 : Stands s s1 := modRail_stands s r fun _ => rfl
      have hregs : ∀ (l : List (Fin 32)) (t : State), OnlyPorts t (l.foldl (fun t m => t.modPort m Port.closeWords) t) := fun l t =>
        OnlyPorts.foldl (fun t m => modPort_onlyPorts t m _) l t
      refine ⟨h1.trans (Stands.foldl hw _ s1), fun m => ?_, .inl ⟨.inr ⟨r, hr, hb⟩, ?_⟩⟩
      · exact (hregs _ s1).same (fun t => t.tripFlags m) fun _ _ => rfl
      · exact foldl_modPort_mem _ (members_nodup s1 r) (mem_members_of_railOf (s := s1) hr) s1
    · next hb =>
      refine ⟨.refl s, fun _ => rfl, .inr ⟨?_, rfl⟩⟩
      rintro (e | ⟨q, hq, hbq⟩)
      · exact nomatch hr.symm.trans e
      · have hqr := Option.some.inj (hr.symm.trans hq)
        exact hb (hqr ▸ hbq)

/-- The state in which a period has ended: its turn-on made, refresh, runs and words counted, the status copied, a trip of one period cleared. -/
def State.closed (s : State) (n : Fin 32) : State :=
  let m := mirrorPeriod (closeStats ((countRefresh (turnOnBy s n true) n).modPort n Port.endPeriod) n) n
  if s.byCycle n then m.clrReg (portIdx n.1) 0x12 1 else m

/-- A period ended, as the next one finds the port. -/
structure Closed (n : Fin 32) (s t : State) : Prop extends Stands s t where
  count : t.ports[n].count = s.ports[n].count
  wrapped : t.ports[n].wrapped = s.ports[n].wrapped
  bstRun : t.ports[n].bstRun = s.ports[n].bstRun
  backRun : t.ports[n].backRun ≤ s.ports[n].backRun + 1
  shortRun : t.ports[n].shortRun ≤ s.ports[n].shortRun + 1
  command : s.ports[n].onDue = false → t.ports[n].newCmd = s.ports[n].newCmd ∧ t.ports[n].cmd = s.ports[n].cmd ∧
    t.ports[n].lim = s.ports[n].lim ∧ t.ports[n].dac = s.ports[n].dac
  words : s.beats n → t.ports[n].pSum = s.ports[n].sum ∧ t.ports[n].pNum = s.ports[n].num ∧ t.ports[n].sum = 0 ∧ t.ports[n].num = 0
  clears : s.byCycle n = true → (t.tripFlags n).testBit 0 = false

theorem testBit_clear_one (x : Nat) : (x - (x &&& 1)).testBit 0 = false := by
  rw [Nat.testBit_zero, decide_eq_false_iff_not, Nat.and_one_is_mod]
  omega

/-- The course of a port at its turn-on. -/
theorem turnOnBy_course (s : State) (n : Fin 32) (ends : Bool) : ∃ d c k l a, (turnOnBy s n ends).ports[n].course =
    { s.ports[n].course with onDue := d, newCmd := c, cmd := k, lim := l, dac := a } := by
  have h := ((turnOnBy_turned s n ends).ports n).frame
  generalize (turnOnBy s n ends).ports[n] = q at h
  exact ⟨q.onDue, q.newCmd, q.cmd, q.lim, q.dac, congrArg Port.course h⟩

/-- The end of a period changes no port's state and clears a trip of that period alone (R102). -/
theorem closed_stands {s : State} {n : Fin 32} : Stands s (s.closed n) ∧ (s.byCycle n = true → ((s.closed n).tripFlags n).testBit 0 = false) := by
  unfold State.closed
  extract_lets m
  have h0 := (turnOnBy_turned s n true).stands
  have h1 := h0.trans (countRefresh_idle _ n).toStands
  have h2 := h1.trans (modPort_stands _ n (f := Port.endPeriod) fun _ => ⟨rfl, rfl⟩)
  have h3 : Stands s m := (h2.trans (closeStats_spec _ n).1).trans (mirrorPeriod_idle _ n).toStands
  by_cases hby : s.byCycle n = true
  · rw [if_pos hby]
    refine ⟨h3.trans (setReg_stands m _ _ _), fun _ => ?_⟩
    rw [State.tripFlags, State.clrReg, State.reg_setReg]
    exact testBit_clear_one _
  · rw [if_neg hby]
    exact ⟨h3, fun e => absurd e hby⟩

theorem Port.endPeriod_runs (p : Port) : p.endPeriod.backRun ≤ p.backRun + 1 ∧ p.endPeriod.shortRun ≤ p.shortRun + 1 := by
  constructor
  · show (if p.backNow then p.backRun + 1 else 0) ≤ p.backRun + 1
    split <;> omega
  · show (if p.shortNow then p.shortRun + 1 else 0) ≤ p.shortRun + 1
    split <;> omega

theorem Port.endPeriod_course (p : Port) :
    p.endPeriod.course = { p.course with backRun := p.endPeriod.backRun, shortRun := p.endPeriod.shortRun } := rfl

theorem Port.closeWords_course (p : Port) : p.closeWords.course = { p.course with pSum := p.course.sum, pNum := p.course.num, sum := 0, num := 0 } := rfl

/-- The period of a port closed and its status copied. -/
theorem closes_course (s : State) (n : Fin 32) : let c := s.ports[n].course
    s.beats n ∧ (mirrorPeriod (closeStats s n) n).ports[n].course = { c with pSum := c.sum, pNum := c.num, sum := 0, num := 0 } ∨
      ¬s.beats n ∧ (mirrorPeriod (closeStats s n) n).ports[n].course = c := by
  intro c
  rw [(mirrorPeriod_idle _ n).course]
  rcases (closeStats_spec s n).2.2 with ⟨hb, e⟩ | ⟨hb, e⟩
  · exact .inl ⟨hb, by rw [e, Port.closeWords_course]⟩
  · exact .inr ⟨hb, by rw [e]⟩

theorem closed_ports (s : State) (n : Fin 32) :
    (s.closed n).ports = (mirrorPeriod (closeStats ((countRefresh (turnOnBy s n true) n).modPort n Port.endPeriod) n) n).ports := by
  unfold State.closed
  extract_lets m
  split <;> rfl

/-- The course of a port at its period's end: its runs counted, its words taken where it makes its rail's period. -/
theorem closed_course (s : State) (n : Fin 32) : let c := (turnOnBy s n true).ports[n].course
    ∃ b k u v x y, b ≤ c.backRun + 1 ∧ k ≤ c.shortRun + 1 ∧
      (s.closed n).ports[n].course = { c with backRun := b, shortRun := k, sum := u, num := v, pSum := x, pNum := y } ∧
      (s.beats n → x = c.sum ∧ y = c.num ∧ u = 0 ∧ v = 0) := by
  intro c
  have hsa := (turnOnBy_turned s n true).stands.trans (countRefresh_idle (turnOnBy s n true) n).toStands
  have hca : (countRefresh (turnOnBy s n true) n).ports[n].course = c := (countRefresh_idle (turnOnBy s n true) n).course
  have hk := closes_course ((countRefresh (turnOnBy s n true) n).modPort n Port.endPeriod) n
  rw [closed_ports]
  generalize countRefresh (turnOnBy s n true) n = sa at hsa hca hk
  have hb : Stands s (sa.modPort n Port.endPeriod) := hsa.trans (modPort_stands sa n fun _ => ⟨rfl, rfl⟩)
  obtain ⟨h1, h2⟩ := sa.ports[n].endPeriod_runs
  have hback : sa.ports[n].backRun = c.backRun := congrArg Course.backRun hca
  have hshort : sa.ports[n].shortRun = c.shortRun := congrArg Course.shortRun hca
  rw [← hb.beats n]
  rw [State.modPort_ports_self, Port.endPeriod_course, hca] at hk
  rcases hk with ⟨-, e⟩ | ⟨hbeat, e⟩
  · exact ⟨_, _, _, _, _, _, hback ▸ h1, hshort ▸ h2, e, fun _ => ⟨rfl, rfl, rfl, rfl⟩⟩
  · exact ⟨_, _, _, _, _, _, hback ▸ h1, hshort ▸ h2, e, fun h => absurd h hbeat⟩

theorem closed_spec (s : State) (n : Fin 32) : Closed n s (s.closed n) := by
  obtain ⟨hst, hlim⟩ := closed_stands (s := s) (n := n)
  obtain ⟨b, k, u, v, x, y, hb, hk, e, hwords⟩ := closed_course s n
  obtain ⟨d, c, g, l, a, ht⟩ := turnOnBy_course s n true
  rw [ht] at hb hk e hwords
  refine { toStands := hst, count := congrArg Course.count e, wrapped := congrArg Course.wrapped e, bstRun := congrArg Course.bstRun e,
           backRun := (congrArg Course.backRun e).trans_le hb, shortRun := (congrArg Course.shortRun e).trans_le hk,
           command := fun hd => ?_, words := fun h => ?_, clears := hlim }
  · rw [turnOnBy_of_made hd true] at ht
    exact ⟨(congrArg Course.newCmd e).trans (congrArg Course.newCmd ht).symm, (congrArg Course.cmd e).trans (congrArg Course.cmd ht).symm,
      (congrArg Course.lim e).trans (congrArg Course.lim ht).symm, (congrArg Course.dac e).trans (congrArg Course.dac ht).symm⟩
  · obtain ⟨h1, h2, h3, h4⟩ := hwords h
    exact ⟨(congrArg Course.pSum e).trans h1, (congrArg Course.pNum e).trans h2, (congrArg Course.sum e).trans h3, (congrArg Course.num e).trans h4⟩

end Sys2Proof.Machine
end

section
namespace Sys2Proof.Machine
open Sys2Proof

/-! ## The period that begins -/

theorem stepRegion_keeps (p : Port) (buck boost : Nat) : (p.stepRegion buck boost).state = p.state ∧ (p.stepRegion buck boost).ending = p.ending ∧
    (p.stepRegion buck boost).course = p.course := by
  unfold Port.stepRegion
  split
  · exact ⟨rfl, rfl, rfl⟩
  · extract_lets run
    split <;> exact ⟨rfl, rfl, rfl⟩

/-- A pair in the region that its period has. -/
def State.regioned (s : State) (n : Fin 32) (duty : Nat) : State :=
  if s.pers n.1 = 3 then s.modPort n fun p => { p.stepRegion (duty % 2 ^ 17) (duty / 2 ^ 17) with boostDuty := duty / 2 ^ 17 } else s

/-- The clock of the turn-on in the period that begins. -/
def State.begunAt (s : State) (n : Fin 32) (duty : Nat) : Nat := s.turnOnAt n (s.mainOn n) (s.regioned n duty).ports[n].region

/-- A period as `runPeriod` begins it, before its updates fall due and its bootstraps are checked. -/
def State.begun (s : State) (n : Fin 32) (duty : Nat) : State :=
  let pers := s.pers n.1
  let s0 := s.regioned n duty
  let s1 := (s0.setReg (portIdx n.1) 0x17 (dutyShown pers s.ports[n].region duty)).modPort n fun p =>
    { (p.newPeriod pers (s.begunAt n duty)) with timing := some (s.timingNow n) }
  if pers = 3 then s1.modPort (s1.mate n) fun p =>
    { p with bstLow := false, refreshNow := false, glAt := 0, lowTime := 0, ghNew := s0.ports[n].region == 0 && !p.gh }
  else s1

theorem mate_ne {s : State} {n : Fin 32} (h : s.pers n.1 = 3) : n ≠ s.mate n := by
  rw [State.mate, if_pos h]
  intro e
  have := congrArg Fin.val e
  simp only at this
  omega

/-- The course of a port in a new period: its counter from 0 or from where it has come, its edges re-armed, its turn-on still to come. -/
def Course.renewed (c : Course) (t : PortTiming) (onAt : Nat) : Course :=
  { c with count := if c.wrapped then c.count else 0, wrapped := false, fired := [], timing := some t, onAt := onAt, onDue := true }

theorem begun_spec (s : State) (n : Fin 32) (duty : Nat) : Stands s (s.begun n duty) ∧
    (∀ m : Fin 32, (s.begun n duty).tripFlags m = s.tripFlags m) ∧
    (s.begun n duty).ports[n].course = s.ports[n].course.renewed (s.timingNow n) (s.begunAt n duty) := by
  unfold State.begun
  extract_lets pers s0 s1
  have h0 : Idle n s s0 := .ite (fun _ => modPort_idle n s n (fun p => by
      obtain ⟨h1, h2, -⟩ := stepRegion_keeps p (duty % 2 ^ 17) (duty / 2 ^ 17)
      exact ⟨h1, h2⟩) fun p => (stepRegion_keeps p (duty % 2 ^ 17) (duty / 2 ^ 17)).2.2) fun _ => .refl n s
  have hu : unflagged (portIdx n.1) 0x17 := by unfold unflagged; omega
  have h1 := h0.trans (setReg_idle n s0 (dutyShown pers s.ports[n].region duty) hu)
  have hs1 : Stands s s1 := h1.toStands.trans (modPort_stands _ n fun _ => ⟨rfl, rfl⟩)
  have hf1 : ∀ m : Fin 32, s1.tripFlags m = s.tripFlags m := h1.flags
  have hc1 : s1.ports[n].course = s.ports[n].course.renewed (s.timingNow n) (s.begunAt n duty) := by
    rw [← h0.course]
    exact congrArg Port.course (State.modPort_ports_self ..)
  split
  · next h3 =>
    have hmate : n ≠ s1.mate n := mate_ne ((hs1.pers n.1).trans h3)
    have hm : Idle n s1 _ := modPort_idle_ne s1 (k := s1.mate n)
      (f := fun p => { p with bstLow := false, refreshNow := false, glAt := 0, lowTime := 0, ghNew := s0.ports[n].region == 0 && !p.gh })
      hmate fun _ => ⟨rfl, rfl⟩
    exact ⟨hs1.trans hm.toStands, fun m => (hm.flags m).trans (hf1 m), hm.course.trans hc1⟩
  · exact ⟨hs1, hf1, hc1⟩

theorem unflagged_countMoved (e : Nat) : unflagged (engIdx e) 0x11 := unflagged_eng e 0x11 (by decide)

theorem countMoved_idle (n : Fin 32) (s : State) (r : Fin 16) (k : Nat) : Idle n s (countMoved s r k) := by
  unfold countMoved
  split
  · exact .refl n s
  · exact setReg_idle n s _ (unflagged_countMoved _)

theorem markDue_idle (s : State) (n : Fin 32) : Idle n s (markDue s n) := by
  unfold markDue
  split
  · exact .refl n s
  · next r _ =>
    refine .ite (fun _ => ?_) (fun _ => .refl n s)
    extract_lets x s0 s1
    have h0 : Idle n s s0 := .ite (fun _ => (modRail_idle n s r (f := fun y => { y with moving := y.moving - 1 }) fun _ => rfl).trans (countMoved_idle n _ r 1)) (fun _ => .refl n s)
    have h1 : Idle n s0 s1 := modRail_idle n s0 r fun _ => rfl
    exact (h0.trans h1).trans (Idle.foldl (fun t m => modPort_idle n t m (f := fun p => { p with due := true }) (fun _ => ⟨rfl, rfl⟩) fun _ => rfl) _ s1)

/-- Only the other phases move (R108). -/
theorem movePhases_idle (s : State) (n : Fin 32) : Idle n s (movePhases s n) := by
  unfold movePhases
  split
  · exact .refl n s
  · next r _ =>
    refine .ite (fun _ => Idle.foldl (fun t m => ?_) _ s) (fun _ => .refl n s)
    exact .ite (fun _ => .refl n t) (fun hm => modPort_idle_ne t (Ne.symm hm) fun _ => ⟨rfl, rfl⟩)

/-! ### The bootstraps (R94, R95) -/

theorem unflagged_refresh (q : Fin 32) : unflagged (portIdx q.1) 0x15 := by unfold unflagged; omega

theorem refreshPort_idle (n : Fin 32) (s : State) (q : Fin 32) : Idle n s (refreshPort s q) :=
  (setReg_idle n s _ (unflagged_refresh q)).trans (modPort_idle n _ q (fun _ => ⟨rfl, rfl⟩) fun _ => rfl)

theorem refreshDue_idle (s : State) (n q : Fin 32) : Idle n s (refreshDue s n q) :=
  .ite (fun _ => refreshPort_idle n s q) (fun _ => .refl n s)

/-- With the bootstrap in order the check ends the run of bad ones and changes nothing else of the port's course. -/
theorem bstStart_good (s : State) (n : Fin 32) : Stands s (bstStart s n false) ∧
    (∀ m : Fin 32, (bstStart s n false).tripFlags m = s.tripFlags m) ∧
    ∃ k, (bstStart s n false).ports[n].course = { s.ports[n].course with bstRun := k } := by
  unfold bstStart
  extract_lets s1
  have h1 : Stands s s1 ∧ (∀ m : Fin 32, s1.tripFlags m = s.tripFlags m) ∧ ∃ k, s1.ports[n].course = { s.ports[n].course with bstRun := k } := by
    by_cases hc : (isConverter (s.pers n.1) && (s.legs n).contains n) = true
    · have e : s1 = s.modPort n fun p => { p with bstRun := 0 } := if_pos hc
      rw [e]
      exact ⟨modPort_stands s n fun _ => ⟨rfl, rfl⟩, fun _ => rfl, 0, by rw [State.modPort_ports_self]; rfl⟩
    · have e : s1 = s := if_neg hc
      rw [e]
      exact ⟨.refl s, fun _ => rfl, _, rfl⟩
  obtain ⟨hst, hfl, k, hk⟩ := h1
  have h2 : Idle n s1 ((s1.legs n).foldl (fun t q => refreshDue t n q) s1) := Idle.foldl (fun t q => refreshDue_idle t n q) _ s1
  exact ⟨hst.trans h2.toStands, fun m => (h2.flags m).trans (hfl m), k, h2.course.trans hk⟩

/-- A bootstrap below 3.6 V on a BUCK or BOOST port short of eight in a row: BST_UV, a refresh inserted, GHn kept off. -/
def State.bstLow (s : State) (n : Fin 32) : State :=
  (refreshPort (setTrip s n 0x20) n).modPort n fun p => { p with bstRun := p.bstRun + 1, bstLow := true }

theorem bstLow_port (s : State) (n : Fin 32) : (s.bstLow n).ports[n] =
    { s.ports[n] with refresh := 0, refreshNow := true, bstRun := s.ports[n].bstRun + 1, bstLow := true } := by
  rw [State.bstLow, State.modPort_ports_self, refreshPort, State.modPort_ports_self]
  rfl

theorem bstLow_stands (s : State) (n : Fin 32) : Stands s (s.bstLow n) :=
  ((setReg_stands s _ _ _).trans (refreshPort_idle n _ n).toStands).trans (modPort_stands _ n fun _ => ⟨rfl, rfl⟩)

theorem bstLow_flag (s : State) (n : Fin 32) : ((s.bstLow n).tripFlags n).testBit 5 = true := by
  have h : (s.bstLow n).tripFlags n = s.tripFlags n ||| 0x20 :=
    ((refreshPort_idle n (setTrip s n 0x20) n).flags n).trans (State.reg_setReg ..)
  rw [h, Nat.testBit_or]
  simp [Nat.testBit]

theorem bstStart_low {s : State} {n : Fin 32} (hp : s.pers n.1 = 1 ∨ s.pers n.1 = 2) (hr : s.ports[n].bstRun < 7) :
    bstStart s n true = s.bstLow n := by
  have h3 : s.pers n.1 ≠ 3 := by omega
  have hlegs : s.legs n = [n] := if_neg h3
  have hconv : isConverter (s.pers n.1) = true := by rcases hp with e | e <;> rw [e] <;> rfl
  have hcheck : bstCheck s n true = s.bstLow n := by
    rw [bstCheck, if_pos rfl]
    have h8 : ¬8 ≤ (s.bstLow n).ports[n].bstRun := by rw [bstLow_port]; show ¬8 ≤ s.ports[n].bstRun + 1; omega
    exact if_neg h8
  have hlegs1 : (s.bstLow n).legs n = [n] := if_neg (by rw [(bstLow_stands s n).pers]; exact h3)
  have hdue : refreshDue (s.bstLow n) n n = s.bstLow n := if_neg fun e => by
    have h := e.2.2.1
    rw [bstLow_port] at h
    exact nomatch h
  rw [bstStart, if_pos (by rw [hconv, hlegs]; simp), hcheck]
  rw [hlegs1, List.foldl_cons, List.foldl_nil, hdue]

/-! ### A period run -/

/-- The period with its updates due and its bootstraps checked, before its gates. -/
def State.checked (s : State) (n : Fin 32) (below : Bool) (duty : Nat) : State := bstStart (movePhases (markDue (s.begun n duty) n) n) n below

theorem runPeriod_eq (s : State) (n : Fin 32) (below : Bool) (duty : Nat) : runPeriod s n below duty =
    if (s.checked n below duty).pulsing n then
      turnOnBy (if s.begunAt n duty = 0 then s.checked n below duty else restGates (s.checked n below duty) n) n false
    else s.checked n below duty := rfl

/-- The period with its bootstrap still to be checked. -/
theorem begun_due (s : State) (n : Fin 32) (duty : Nat) : let t := movePhases (markDue (s.begun n duty) n) n
    Stands s t ∧ (∀ m : Fin 32, t.tripFlags m = s.tripFlags m) ∧ t.ports[n].course = s.ports[n].course.renewed (s.timingNow n) (s.begunAt n duty) := by
  obtain ⟨h1, h2, h3⟩ := begun_spec s n duty
  have k := (markDue_idle (s.begun n duty) n).trans (movePhases_idle _ n)
  exact ⟨h1.trans k.toStands, fun m => (k.flags m).trans (h2 m), k.course.trans h3⟩

theorem checked_good (s : State) (n : Fin 32) (duty : Nat) : Stands s (s.checked n false duty) ∧
    (∀ m : Fin 32, (s.checked n false duty).tripFlags m = s.tripFlags m) ∧
    ∃ k, (s.checked n false duty).ports[n].course = { s.ports[n].course.renewed (s.timingNow n) (s.begunAt n duty) with bstRun := k } := by
  obtain ⟨h1, h2, h3⟩ := begun_due s n duty
  obtain ⟨k1, k2, k, k3⟩ := bstStart_good (movePhases (markDue (s.begun n duty) n) n) n
  exact ⟨h1.trans k1, fun m => (k2 m).trans (h2 m), k, by rw [State.checked, k3, h3]⟩

/-! ## The period start -/

theorem runCheck_of_short {s : State} {n : Fin 32} (hb : s.ports[n].backRun < 8) (hs : s.ports[n].shortRun < 8) : runCheck s n = s := by
  unfold runCheck
  extract_lets s1
  have e : s1 = s := if_neg (by omega)
  rw [e]
  exact if_neg fun h => absurd h.2.1 (Nat.not_le.mpr hs)

/-- A port that is not turned off and has no eight periods in a row to report runs on. -/
theorem doPeriodStart_eq {s : State} {n : Fin 32} (hl : s.live = true) (hp : s.pulsing n = true) (hn : s.leads n = true)
    (he : s.ports[n].ending = none) (hb : s.ports[n].backRun < 7) (hs : s.ports[n].shortRun < 7) (below : Bool) (duty : Nat) :
    doPeriodStart n below duty s = runPeriod (s.closed n) n below duty := by
  have hc := closed_spec s n
  have hback := hc.backRun
  have hshort := hc.shortRun
  have hcheck : runCheck (s.closed n) n = s.closed n := runCheck_of_short (by omega) (by omega)
  have hend : (s.closed n).ports[n].ending = none := (hc.endings n).trans he
  have hpul : (s.closed n).pulsing n = true := (hc.pulsing n).trans hp
  have h1 : ¬(s.live = true ∧ s.leads n = false) := fun e => by rw [hn] at e; exact nomatch e.2
  unfold doPeriodStart
  rw [if_neg h1, if_pos ⟨hl, hp, hn⟩]
  show (if (runCheck (s.closed n) n).ports[n].ending.isSome then _ else if (runCheck (s.closed n) n).pulsing n then
    runPeriod (runCheck (s.closed n) n) n below duty else _) = _
  rw [hcheck, hend, if_neg (by decide), if_pos hpul]

/-- The gates before a period's turn-on. -/
theorem rest_gated (s : State) (n : Fin 32) (o : Nat) : Gated n s (if o = 0 then s else restGates s n) := by
  split
  · exact Within.refl .refl n s
  · exact restGates_gated s n

/-- A period begun on a port as the period before left it. -/
structure Begins (n : Fin 32) (s t : State) : Prop extends Stands s t where
  flags : ∀ m : Fin 32, t.tripFlags m = s.tripFlags m
  count : t.ports[n].count = if s.ports[n].wrapped then s.ports[n].count else 0
  fired : t.ports[n].fired = []
  timing : t.ports[n].timing = some (s.timingNow n)
  words : t.ports[n].pSum = s.ports[n].pSum ∧ t.ports[n].pNum = s.ports[n].pNum ∧ t.ports[n].sum = s.ports[n].sum ∧ t.ports[n].num = s.ports[n].num
  due : t.ports[n].onDue = !(decide (t.ports[n].onAt < max 1 (s.portPer n)) && decide (t.ports[n].onAt ≤ t.ports[n].count))
  command : if t.ports[n].onDue then t.ports[n].newCmd = s.ports[n].newCmd ∧ t.ports[n].cmd = s.ports[n].cmd ∧ t.ports[n].dac = s.ports[n].dac
    else s.ports[n].Takes t.ports[n] (s.limit n.1)

/-- A period started with its bootstrap in order. -/
theorem runPeriod_good {s : State} {n : Fin 32} (hp : s.pulsing n = true) (duty : Nat) : Begins n s (runPeriod s n false duty) := by
  obtain ⟨hst, hfl, k, hcourse⟩ := checked_good s n duty
  have hrun : runPeriod s n false duty =
      turnOnBy (if s.begunAt n duty = 0 then s.checked n false duty else restGates (s.checked n false duty) n) n false :=
    if_pos ((hst.pulsing n).trans hp)
  rw [hrun]
  have hg := rest_gated (s.checked n false duty) n (s.begunAt n duty)
  generalize s.checked n false duty = c at *
  generalize (if s.begunAt n duty = 0 then c else restGates c n) = v at *
  have hcv : v.ports[n].course = c.ports[n].course := (hg.ports n).same Port.course fun _ _ _ _ _ => rfl
  have hv := hcv.trans hcourse
  have hstv : Stands s v := hst.trans hg.turned.stands
  have ht := turnOnBy_turned v n false
  obtain ⟨hdue, hcmd⟩ := turnOnBy_begun (s := v) (n := n) (congrArg Course.onDue hv) (congrArg Course.wrapped hv)
  have same : ∀ {α : Type} (f : Port → α), TurnBlind f →
      f (turnOnBy v n false).ports[n] = f v.ports[n] := fun f hf => (ht.ports n).same f hf
  have hcount : (turnOnBy v n false).ports[n].count = v.ports[n].count := same Port.count (fun _ _ => rfl)
  have hon : (turnOnBy v n false).ports[n].onAt = v.ports[n].onAt := same Port.onAt (fun _ _ => rfl)
  refine { toStands := hstv.trans ht.stands, flags := fun m => ?_, count := ?_, fired := ?_, timing := ?_, words := ⟨?_, ?_, ?_, ?_⟩, due := ?_, command := ?_ }
  · exact ((ht.only.same (fun t => t.tripFlags m) fun _ _ => rfl).trans (hg.only.same (fun t => t.tripFlags m) fun _ _ => rfl)).trans (hfl m)
  · exact hcount.trans (congrArg Course.count hv)
  · exact (same Port.fired (fun _ _ => rfl)).trans (congrArg Course.fired hv)
  · exact (same Port.timing (fun _ _ => rfl)).trans (congrArg Course.timing hv)
  · exact (same Port.pSum (fun _ _ => rfl)).trans (congrArg Course.pSum hv)
  · exact (same Port.pNum (fun _ _ => rfl)).trans (congrArg Course.pNum hv)
  · exact (same Port.sum (fun _ _ => rfl)).trans (congrArg Course.sum hv)
  · exact (same Port.num (fun _ _ => rfl)).trans (congrArg Course.num hv)
  · rw [hcount, hon, ← hstv.portPer n]
    exact hdue
  · have h1 : v.ports[n].newCmd = s.ports[n].newCmd := congrArg Course.newCmd hv
    have h2 : v.ports[n].cmd = s.ports[n].cmd := congrArg Course.cmd hv
    have h3 : v.ports[n].dac = s.ports[n].dac := congrArg Course.dac hv
    have h4 : v.ports[n].lim = s.ports[n].lim := congrArg Course.lim hv
    rw [hstv.limit, h1, h2, h3] at hcmd
    split at hcmd
    · next hd => rw [if_pos hd]; exact hcmd
    · next hd =>
      rw [if_neg hd]
      obtain ⟨k1, k2, k3, k4, k5⟩ := hcmd
      exact ⟨k1, by rw [k2, h1, h2], by rw [k3, h1, h4], k4, k5⟩

/-- The main gate of a BUCK port is GHn, a BOOST port's GLn (Table 4-2). -/
theorem beginMain_buck {s : State} {n : Fin 32} (h : s.pers n.1 = 1) (duty : Nat) (pulse : Bool) :
    beginMain s n duty pulse = s.modPort n fun q => q.gates pulse false s.ports[n].onAt := by
  unfold beginMain
  rw [h]
  rfl

theorem beginMain_boost {s : State} {n : Fin 32} (h : s.pers n.1 = 2) (duty : Nat) (pulse : Bool) :
    beginMain s n duty pulse = s.modPort n fun q => q.gates false pulse s.ports[n].onAt := by
  unfold beginMain
  rw [h]
  rfl

/-- A turn-on with GHn kept off leaves it off. -/
theorem turnOn_gh {s : State} {n : Fin 32} (hp : s.pers n.1 = 1 ∧ s.ports[n].bstLow = true ∨ s.pers n.1 = 2) : (turnOn s n).ports[n].gh = false := by
  rw [turnOn_eq]
  rcases hp with ⟨h1, hb⟩ | h2
  · have hlow : (s.commanded n).ports[n].bstLow = true := by
      rw [State.commanded, State.modPort_ports_self, (takeCmd_turnedOn _ _).same Port.bstLow (fun _ _ => rfl)]
      exact hb
    have hc : (s.commanded n).pers n.1 = 1 := h1
    have hno : (s.commanded n).noPulse n = true := by
      simp only [State.noPulse, hlow, hc]
      simp
    rw [beginMain_buck (s := s.pulsed n) h1, State.modPort_ports_self, hno]
    rfl
  · rw [beginMain_boost (s := s.pulsed n) h2, State.modPort_ports_self]
    rfl

/-- Between a period's start and its turn-on both gates of a BUCK or BOOST port are low. -/
theorem restGates_gh {s : State} {n : Fin 32} (hp : s.pers n.1 = 1 ∨ s.pers n.1 = 2) : (restGates s n).ports[n].gh = false := by
  have h : restGates s n = s.modPort n fun q => q.gates false false 0 := by
    unfold restGates
    rcases hp with e | e <;> rw [e] <;> rfl
  rw [h, State.modPort_ports_self]
  rfl

/-- A period started with the bootstrap of a BUCK or BOOST port below 3.6 V. -/
theorem runPeriod_low {s : State} {n : Fin 32} (hp : s.pulsing n = true) (hpers : s.pers n.1 = 1 ∨ s.pers n.1 = 2) (hb : s.ports[n].bstRun < 7)
    (duty : Nat) : let t := runPeriod s n true duty
    t.ports[n].gh = false ∧ t.ports[n].refreshNow = true ∧ (t.tripFlags n).testBit 5 = true ∧ t.ports[n].bstRun = s.ports[n].bstRun + 1 := by
  obtain ⟨hst, -, hcourse⟩ := begun_due s n duty
  have hbst : (movePhases (markDue (s.begun n duty) n) n).ports[n].bstRun = s.ports[n].bstRun := congrArg Course.bstRun hcourse
  have hpers' : (movePhases (markDue (s.begun n duty) n) n).pers n.1 = s.pers n.1 := hst.pers n.1
  have hchecked : s.checked n true duty = (movePhases (markDue (s.begun n duty) n) n).bstLow n :=
    bstStart_low (by rw [hpers']; exact hpers) (by rw [hbst]; exact hb)
  have hdue : (movePhases (markDue (s.begun n duty) n) n).ports[n].onDue = true := congrArg Course.onDue hcourse
  have hon : (movePhases (markDue (s.begun n duty) n) n).ports[n].onAt = s.begunAt n duty := congrArg Course.onAt hcourse
  have hpul : (s.checked n true duty).pulsing n = true := by
    rw [hchecked]
    exact ((bstLow_stands _ n).pulsing n).trans ((hst.pulsing n).trans hp)
  rw [runPeriod_eq, if_pos hpul, hchecked]
  generalize movePhases (markDue (s.begun n duty) n) n = d at *
  have hport := bstLow_port d n
  have hflag := bstLow_flag d n
  have hlp : (d.bstLow n).pers n.1 = s.pers n.1 := ((bstLow_stands d n).pers n.1).trans hpers'
  generalize d.bstLow n = l at *
  have hg := rest_gated l n (s.begunAt n duty)
  have hgh : (turnOnBy (if s.begunAt n duty = 0 then l else restGates l n) n false).ports[n].gh = false := by
    have hlow : ∀ {v : State}, Gated n l v → (turnOn v n).ports[n].gh = false := fun {v} hv => by
      have h1 : v.pers n.1 = l.pers n.1 := hv.only.same (fun t => t.pers n.1) fun _ _ => rfl
      have h2 : v.ports[n].bstLow = l.ports[n].bstLow := (hv.ports n).same Port.bstLow fun _ _ _ _ _ => rfl
      exact turnOn_gh (by rw [h1, h2, hlp, hport]; exact hpers.imp (fun e => ⟨e, rfl⟩) id)
    by_cases ho : s.begunAt n duty = 0
    · have h0 : l.ports[n].onAt = 0 := by rw [hport]; exact hon.trans ho
      rw [if_pos ho, turnOnBy_of (by rw [hport]; exact hdue) (by rw [h0]; omega) (.inr (.inr (by rw [h0]; exact Nat.zero_le _)))]
      exact hlow (Within.refl .refl n l)
    · rw [if_neg ho]
      unfold turnOnBy
      dsimp only
      split
      · exact hlow (restGates_gated l n)
      · exact restGates_gh (by rw [hlp]; exact hpers)
  generalize (if s.begunAt n duty = 0 then l else restGates l n) = v at *
  have ht := turnOnBy_turned v n false
  have same : ∀ {α : Type} (f : Port → α), TurnBlind f →
      f (turnOnBy v n false).ports[n] = f l.ports[n] := fun f hf =>
    ((ht.ports n).same f hf).trans ((hg.ports n).turnedOn.same f hf)
  refine ⟨hgh, ?_, ?_, ?_⟩
  · exact (same Port.refreshNow (fun _ _ => rfl)).trans (by rw [hport])
  · rw [ht.only.same (fun t => t.tripFlags n) fun _ _ => rfl, hg.only.same (fun t => t.tripFlags n) fun _ _ => rfl]
    exact hflag
  · exact (same Port.bstRun (fun _ _ => rfl)).trans (by rw [hport, hbst])

/-- A period begun after the one before has closed: what a command released, the words and the limit trip then become. -/
theorem Begins.command_of_closed {n : Fin 32} {s u t : State} (hc : Closed n s u) (hb : Begins n u t) (hd : s.ports[n].onDue = false) :
    if t.ports[n].onDue then t.ports[n].newCmd = s.ports[n].newCmd ∧ t.ports[n].cmd = s.ports[n].cmd ∧ t.ports[n].dac = s.ports[n].dac
    else s.ports[n].Takes t.ports[n] (s.limit n.1) := by
  obtain ⟨k1, k2, k3, k4⟩ := hc.command hd
  have hcmd := hb.command
  rw [hc.limit, k1, k2, k4] at hcmd
  split at hcmd
  · next h => rw [if_pos h]; exact hcmd
  · next h =>
    rw [if_neg h]
    obtain ⟨j1, j2, j3, j4, j5⟩ := hcmd
    exact ⟨j1, by rw [j2, k1, k2], by rw [j3, k1, k3], j4, j5⟩

theorem Begins.words_of_closed {n : Fin 32} {s u t : State} (hc : Closed n s u) (hb : Begins n u t) (hbeat : s.beats n) :
    t.ports[n].pSum = s.ports[n].sum ∧ t.ports[n].pNum = s.ports[n].num ∧ t.ports[n].sum = 0 ∧ t.ports[n].num = 0 := by
  obtain ⟨k1, k2, k3, k4⟩ := hc.words hbeat
  obtain ⟨h1, h2, h3, h4⟩ := hb.words
  exact ⟨h1.trans k1, h2.trans k2, h3.trans k3, h4.trans k4⟩

/-! ## The obligation -/

theorem settle_tripFlags (old s : State) (n : Fin 32) : (settle old s).tripFlags n = s.tripFlags n :=
  settle_reg old s (countsKey_below (by unfold portIdx; omega) (by decide))

/-- Settles O26: a period start closes the period before and begins the next with the port's course renewed, its turn-on made where its
clock has passed; an edge makes the turn-on that its clock has passed and then acts on its port and the pair's alone. -/
theorem portPeriodsAndEdges : Obligations.PortPeriodsAndEdges := by
  intro s n hl hp hn takes
  refine ⟨fun duty he hb hs => ⟨after_of_done (u := doPeriodStart n false duty s) rfl ?_, fun hpers hbst =>
    after_of_done (u := doPeriodStart n true duty s) rfl ?_⟩, fun e hf hlim => ?_, fun hf hlim hfilt hnow => ?_, fun e hf => ?_⟩
  · have hc := closed_spec s n
    rw [doPeriodStart_eq hl hp hn he hb hs]
    have hbeg := runPeriod_good (s := s.closed n) ((hc.pulsing n).trans hp) duty
    generalize runPeriod (s.closed n) n false duty = t at hbeg
    generalize s.closed n = u at hc hbeg
    rw [settle_tripFlags, settle_ports]
    refine ⟨?_, hbeg.fired, ?_, (hc.toStands.trans hbeg.toStands).states n, ?_, fun hd => ?_, hbeg.words_of_closed hc, fun hby => ?_⟩
    · rw [hbeg.count, hc.wrapped, hc.count]
    · rw [hbeg.timing, hc.timingNow]
    · rw [← hc.portPer]
      exact hbeg.due
    · have hcmd := hbeg.command_of_closed hc hd
      split at hcmd
      · next h => rw [if_pos h]; exact hcmd
      · next h =>
        rw [if_neg h]
        exact ⟨hcmd.newCmd, hcmd.cmd, hcmd.lim, hcmd.dac⟩
    · rw [hbeg.flags]
      exact hc.clears hby
  · have hc := closed_spec s n
    rw [doPeriodStart_eq hl hp hn he hb hs]
    obtain ⟨hgh, hnow, hflag, hrun⟩ := runPeriod_low ((hc.pulsing n).trans hp) (by rw [hc.pers]; exact hpers) (by rw [hc.bstRun]; exact hbst) duty
    rw [settle_tripFlags, settle_ports]
    exact ⟨hgh, hnow, hflag, by rw [hrun, hc.bstRun]⟩
  · have k := fire_edged hl hp hn hf hlim
    have honly := (firing_only s n e).trans k.only
    refine after_of_done (u := doPulseCompareFire n e s) rfl ?_
    rw [settle_ports]
    refine ⟨(k.ports n).fired.trans (firing_fired s n e), ?_, fun m hm hmm => ?_, fun hd hw hat => ?_, ?_, ?_, ?_⟩
    · rw [← honly.frame]
      exact settle_delivers s _
    · exact (k.others m hm (by rw [(firing_only s n e).mate]; exact hmm)).trans (firing_others s n e hm hmm)
    · obtain ⟨h1, h2, h3, h4, h5⟩ := (k.ports n).takes (firing_takes e hd hw hat)
      exact ⟨h5, h1, h2, h3, h4⟩
    · rintro rfl
      exact fire_blanked hl hp hn hf hlim
    · rintro rfl h1
      exact fire_maxOn hl hp hn hf h1
    · rintro rfl h6 h100
      exact fire_fanDuty hl hp hn hf h6 h100
  · refine after_of_done (u := doPulseCompareFire n .blank s) rfl ?_
    rw [settle_tripFlags]
    exact fire_limit hl hp hn hf hlim hfilt hnow
  · have h : doPulseCompareFire n e s = s := if_neg fun h => by rw [hf] at h; exact nomatch h.2.2.2
    exact ignores_of_done (congrArg (done s) h)

end Sys2Proof.Machine
end

section
namespace Sys2Proof.Machine
open Sys2Proof

/-! ## The power-on order -/

/-- Settles O8: before step 8 nothing is delivered, so each step's own change is the next state. -/
theorem powerUpStepsInOrder : Obligations.PowerUpStepsInOrder := by
  intro s
  refine ⟨fun h hw hr hv => ?_, fun h => ?_, fun h => ?_, fun h => ?_, fun h => ?_⟩
  · show done s (doCoreEnable s) = _
    rw [doCoreEnable, if_pos ⟨h, hw, hr, hv⟩, done, settle_of_not_ready s rfl]
  · show done s (doCorePowerGood s) = _
    rw [doCorePowerGood, if_pos h, done, settle_of_not_ready s rfl]
  · show done s (doCrystalValid s) = _
    rw [doCrystalValid, if_pos h, done, settle_of_not_ready s rfl]
  · show done s (doCrystalStartFallback s) = _
    rw [doCrystalStartFallback, if_pos h, done, settle_of_not_ready s rfl]
    rfl
  · show done s (doPllLock s) = _
    rw [doPllLock, if_pos h, done, settle_of_not_ready s rfl]

/-! ## Full resets -/

/-- A full reset with neither ESTOP nor the DS3 comparator asserted trips nothing. -/
theorem standingTrips_of_ds3_quiet {s : State} (he : s.latch.estop = false) (hd : s.latch.die.getLsbD 3 = false) :
    standingTrips s = s := by
  simp only [standingTrips, he, hd, Bool.false_eq_true, if_false]

theorem cutStore_pwr (s : State) : (cutStore s).pwr = s.pwr := by unfold cutStore; split <;> rfl

theorem cutStore_sent (s : State) : (cutStore s).sent = s.sent := by unfold cutStore; split <;> rfl

/-- With no store running none is cut short. -/
theorem cutStore_of_idle {s : State} (h : s.ks.running = none) : cutStore s = s := by rw [cutStore, h]

/-- What a full reset for cause `c` leaves of the state before it (R58). -/
structure Fresh (c : Byte) (s t : State) : Prop where
  step : t.pwr.step = .aonUp
  cause : t.pwr.resetCause = c
  tb : t.tb = .reset
  latch : t.latch.set = false ∧ t.latch.hard = false
  mode : t.md.mode = .standby
  copies : t.regs = [] ∧ t.shadow = [] ∧ t.active = []
  ports : t.ports = Vector.replicate 32 .reset
  queues : t.pending = s.pending ∧ t.sent = s.sent
  store : s.ks.running = none → t.ks.shadow = s.ks.shadow ∧ t.ks.sram = s.ks.sram
  vsys : t.pwr.vsys = if (cutStore s).pwr.vsys = .brownOut then .below else (cutStore s).pwr.vsys

/-- A full reset with no trip source of the AON island asserted. -/
theorem fullReset_fresh {s : State} (he : s.latch.estop = false) (hd : s.latch.die.getLsbD 3 = false) (c : Byte) :
    Fresh c s (fullReset s c) := by
  have hl := cutStore_latch s
  unfold fullReset
  extract_lets s0
  rw [standingTrips_of_ds3_quiet (by show s0.latch.estop = _; rw [hl, he]) (by show s0.latch.die.getLsbD 3 = _; rw [hl, hd])]
  refine ⟨rfl, rfl, rfl, ⟨rfl, rfl⟩, rfl, ⟨rfl, rfl, rfl⟩, rfl, ⟨cutStore_pending s, cutStore_sent s⟩, fun h => ?_, rfl⟩
  have h0 : s0 = s := cutStore_of_idle h
  exact ⟨by rw [← h0], by rw [← h0]⟩

/-- Settles O10: each of the four is a full reset, with no trip source asserted, and at step 2 nothing is delivered. -/
theorem fullResetsStartAgain : Obligations.FullResetsStartAgain := by
  intro s he hd fresh
  have freshOf : ∀ {s0 : State} {c : Byte}, s0.latch = s.latch → s0.pending = s.pending → s0.sent = s.sent → s0.ks = s.ks →
      fresh c (settle s (fullReset s0 c)) := by
    intro s0 c hl hp hs hk
    have hf := fullReset_fresh (s := s0) (by rw [hl, he]) (by rw [hl, hd]) c
    rw [settle_of_not_ready s (by simp [State.ready, State.isOpen, hf.step])]
    exact ⟨hf.step, hf.cause, congrArg Timebase.count hf.tb, congrArg Timebase.wraps hf.tb, hf.latch.1, hf.latch.2, hf.mode,
      hf.copies.1, hf.copies.2.1, hf.copies.2.2, gatesLow_of_reset hf.ports, hf.queues.1.trans hp, hf.queues.2.trans hs,
      fun h => by rw [← hk]; exact hf.store (by rw [hk, h])⟩
  refine ⟨fun h => ?_, fun h => ?_, fun ha hv => ?_, fun byVin hm hw => ?_⟩
  · refine after_of_done (u := doVsysPowerOnReset s) rfl ?_
    rw [doVsysPowerOnReset, if_pos h]
    exact freshOf rfl rfl rfl rfl
  · refine after_of_done (u := doNrstRelease s) rfl ?_
    rw [doNrstRelease, if_pos h]
    exact freshOf rfl rfl rfl rfl
  · refine after_of_done (u := doBrownOutRecovery s) rfl ?_
    rw [doBrownOutRecovery, if_pos ⟨ha, hv⟩]
    refine ⟨freshOf rfl rfl rfl rfl, ?_⟩
    rw [settle_pwr, (fullReset_fresh (s := { s with pwr := { s.pwr with vsys := .ok } }) he hd 8).vsys, cutStore_pwr]
    rfl
  · refine after_of_done (u := doShipExit byVin s) rfl ?_
    rw [doShipExit, if_pos ⟨hm, hw⟩]
    exact freshOf rfl rfl rfl rfl

/-! ## The core domain off -/

/-- What is left of the core domain when it is switched off: nothing is wanted, every copy, port, rail and engine is reset and an
enabled link works at the low rate (Table 2-6). -/
structure CoreIsOff (t : State) : Prop where
  step : t.pwr.step = .aonUp ∧ t.pwr.coreWanted = false
  copies : t.active = [] ∧ t.shadow = []
  ports : t.ports = Vector.replicate 32 .reset
  rails : t.rails = Vector.replicate 16 .reset
  engines : t.engines = Vector.replicate 9 .reset
  links : ∀ i : Fin 2, t.can.links[i].lowRate = t.can.links[i].enabled

theorem coreOff_isOff (s : State) : CoreIsOff (coreOff s false) where
  step := ⟨rfl, rfl⟩
  copies := ⟨rfl, rfl⟩
  ports := rfl
  rails := rfl
  engines := rfl
  links i := by
    show (Vector.ofFn fun i => s.can.links[i].sleep)[i].lowRate = (Vector.ofFn fun i => s.can.links[i].sleep)[i].enabled
    simp [LinkState.sleep]

theorem State.modLink_links_self (s : State) (i : Fin 2) (f : LinkState → LinkState) :
    (s.modLink i f).can.links[i] = f s.can.links[i] := by
  simp [State.modLink]

theorem State.modLink_links_ne (s : State) {i j : Fin 2} (f : LinkState → LinkState) (h : j ≠ i) :
    (s.modLink i f).can.links[j] = s.can.links[j] := by
  have : i.1 ≠ j.1 := fun e => h (Fin.ext e.symm)
  simp [State.modLink, this]

/-- A link's rate is no part of it. -/
theorem CoreIsOff.setRate {t : State} (h : CoreIsOff t) (i : Fin 2) (v : Nat) :
    CoreIsOff (t.modLink i fun l => { l with rate := v }) :=
  { h with
    links := fun j => by
      by_cases hj : j = i
      · subst hj; rw [State.modLink_links_self]; exact h.links j
      · rw [State.modLink_links_ne t _ hj]; exact h.links j }

/-- Settles O12: each of the four ends in `coreOff`, and with the core domain off nothing is delivered. -/
theorem coreDomainOff : Obligations.CoreDomainOff := by
  intro s off
  have offOf : ∀ {t : State}, CoreIsOff t → off (settle s t) := by
    intro t h
    rw [settle_of_not_ready s (by simp [State.ready, State.isOpen, h.step.1])]
    exact ⟨h.step.1, h.step.2, by simp [State.coreOn, h.step.1], h.copies.1, h.copies.2, gatesLow_of_reset h.ports, h.ports, h.rails,
      h.engines, h.links⟩
  refine ⟨fun ha hv hn => ?_, fun hm he hp => ?_, fun hm hc he hp => ?_, fun hm hs he hk => ?_, fun hm => ?_⟩
  · refine after_of_done (u := doBrownOut s) rfl ?_
    rw [doBrownOut, if_pos ⟨ha, hv, hn⟩]
    extract_lets s1 s2
    have hm : s1.md.mode = .safestop := by
      by_cases hm : s.md.mode = .safestop
      · simp only [s1, if_pos hm, hm]
      · simp only [s1, if_neg hm, enterMode_md]
    have h2 : CoreIsOff s2 := coreOff_isOff s1
    exact ⟨offOf ⟨h2.step, h2.copies, h2.ports, h2.rails, h2.engines, h2.links⟩, hm, rfl⟩
  · refine after_of_done (u := doShipCoreOff s) rfl ?_
    rw [doShipCoreOff, if_pos ⟨hm, he, hp⟩]
    exact ⟨offOf (coreOff_isOff s), hm⟩
  · refine after_of_done (u := doStandbyCoreOff s) rfl ?_
    rw [doStandbyCoreOff, if_pos ⟨hm, hc, he, hp⟩]
    exact ⟨offOf (((coreOff_isOff s).setRate 0 0).setRate 1 0), rfl⟩
  · refine after_of_done (u := doShipAonHold s) rfl ?_
    rw [doShipAonHold, if_pos ⟨hm, hs, he, hk⟩]
    exact ⟨rfl, rfl, rfl, rfl⟩
  · refine becomes_of_done (c := .shipPbWakeArm) ?_
    show done s (doShipPbWakeArm s) = _
    rw [doShipPbWakeArm, if_pos hm]

end Sys2Proof.Machine
end

section
namespace Sys2Proof.Machine
open Sys2Proof

/-! ## A number written to the device object -/

/-- The row of MODE. -/
def modeRow : Obj := ⟨0x01, 0x01, .num 1 false, .rw, 0, 0, 255, none⟩

/-- The row of CORE_RESET. -/
def coreResetRow : Obj := ⟨0x25, 0x25, .num 4 false, .wo, 0, 0, 4294967295, none⟩

theorem findObj_mode (v : Variant) : findObj v 0x2000 1 = some modeRow := by cases v <;> decide

theorem findObj_coreReset (v : Variant) : findObj v 0x2000 0x25 = some coreResetRow := by cases v <;> decide

/-- The value that a write of one number makes, with its row. -/
def devItem (sub n x : Nat) (o : Obj) : Item := { idx := 0x2000, sub := sub, obj := o, val := x, bytes := leBytes n x }

/-- The item that a write of one number to a writable row makes. -/
theorem itemsOf_dev {v : Variant} {sub n x : Nat} {o : Obj} (ho : findObj v 0x2000 sub = some o) (hw : o.writable = true)
    (hty : o.ty = .num n false) (hmask : o.mask = none) (hx : x < 256 ^ n) :
    itemsOf v [(0x2000, sub, leBytes n x)] = (0, [devItem sub n x o]) := by
  have hlen : lengthOk 0x2000 sub o (leBytes n x).length = true := by simp [lengthOk, hty, Ty.size, leBytes_length]
  have hval : o.keep (leVal (leBytes n x)) = x := by rw [Obj.keep, hmask, leVal_leBytes, Nat.mod_eq_of_lt hx]
  simp [itemsOf, itemOf, ho, hw, hlen, hval, devItem]

theorem foldl_code_zero {α : Type} (f : α → Nat) (l : List α) (h : ∀ a ∈ l, f a = 0) :
    l.foldl (fun c a => if c ≠ 0 then c else f a) 0 = 0 := by
  induction l with
  | nil => rfl
  | cons a t ih =>
    rw [List.foldl_cons, if_neg (by simp), h a (by simp)]
    exact ih fun b hb => h b (by simp [hb])

/-- Check 7 of a number of the device object: no other field is related to it. -/
theorem valuesCode_dev {s : State} {sub : Nat} {o : Obj} (ho : findObj s.variant 0x2000 sub = some o) (looks : List Look) (x : Nat) :
    valuesCode s looks [(0x2000, sub, x)] = if valueOk s.variant o 0x2000 sub x then 0 else badValue := by
  have hrel : looks.foldl (fun c l =>
      if c ≠ 0 then c else if relatedOk s l 0x2000 sub then mapCode s.variant l 0x2000 sub x else 0x06090030) 0 = 0 :=
    foldl_code_zero _ looks fun l _ => rfl
  simp only [valuesCode, List.foldl_cons, List.foldl_nil, ho, hrel]
  cases valueOk s.variant o 0x2000 sub x <;> simp [badValue]

/-- Whether the present mode allows a number of the device object (check 9). -/
def State.devOk (s : State) (sub x : Nat) : Bool := nowOk s s.reg 0x2000 sub x

/-- The code that checks 7 to 9 give a number of the device object. -/
def State.devCode (s : State) (o : Obj) (sub x : Nat) : Nat :=
  if valueOk s.variant o 0x2000 sub x then if s.devOk sub x then 0 else notNow else badValue

theorem lateCode_dev {s : State} {sub n : Nat} {o : Obj} (ho : findObj s.variant 0x2000 sub = some o) (hty : o.ty = .num n false)
    (p : HostPath) (x : Nat) : lateCode s p none [devItem sub n x o] = s.devCode o sub x := by
  have hnum : numsOf [devItem sub n x o] = [(0x2000, sub, x)] := by simp [numsOf, Item.isNum, devItem, hty]
  have hnow : nowOk s (s.lookWith [(0x2000, sub, x)]) 0x2000 sub x = s.devOk sub x := rfl
  simp only [lateCode, hnum, valuesCode_dev ho, nowCode, List.foldl_cons, List.foldl_nil, hnow, State.devCode]
  cases valueOk s.variant o 0x2000 sub x <;> cases s.devOk sub x <;>
    simp [firstCode, rangeCode, roomCode, tagCode, stateCode, devItem, notNow, badValue]

theorem sharing_nil : ∀ l : List Outstanding, sharing l [] = []
  | [] => rfl
  | o :: t => by
    have h : o.idxs.any (List.contains []) = false := by simp
    rw [sharing, h, if_neg Bool.false_ne_true, sharing_nil t]

/-- No write waits with a value of the device object (R321). -/
theorem transferOlder_dev (s : State) : transferOlder s [0x2000] = s := by
  have h : s.olderOf [0x2000] = [] := sharing_nil _
  simp [transferOlder, State.olderWait, h]

theorem acceptNow_dev (s : State) (p : HostPath) {sub n : Nat} {o : Obj} (hty : o.ty = .num n false) (x : Nat) :
    acceptNow s p [devItem sub n x o] = putDev s sub x := by
  have hlater : isLater (devItem sub n x o).idx (devItem sub n x o).sub (devItem sub n x o).obj = false := rfl
  have hacts : s.actsLater (devItem sub n x o) = false := rfl
  have hput : putItem p s (devItem sub n x o) = putDev s sub x := if_pos (by simp [Item.isNum, devItem, hty])
  have hidx : transferOlder s [(devItem sub n x o).idx] = s := transferOlder_dev s
  have hlv : laterVals s [devItem sub n x o] = [] := by simp [laterVals, hlater, expand]
  simp [acceptNow, hlv, hlater, actNow, hidx, acceptWrite, hacts, hput]

/-- A refused write of a number of the device object: its code answered, nothing else changed (R318). -/
theorem hostPut_dev_refused {s : State} {p : HostPath} (h : s.hears p) {sub n x : Nat} {o : Obj}
    (ho : findObj s.variant 0x2000 sub = some o) (hw : o.writable = true) (hty : o.ty = .num n false) (hmask : o.mask = none)
    (hx : x < 256 ^ n) (hc : (granted s p).devCode o sub x ≠ 0) :
    Replied (granted s p) (hostPut s p 0x2000 sub n x) ∧ (hostPut s p 0x2000 sub n x).turnedAway p ((granted s p).devCode o sub x) := by
  have hregs := granted_regs s p
  have hv : (granted s p).variant = s.variant := by rw [hregs]
  have hon : (granted s p).coreOn = true := by rw [hregs]; exact ready_coreOn h.1
  rw [hostPut, hostWrite_hears h]
  generalize granted s p = g at *
  rw [← hv] at ho
  have hitems := itemsOf_dev ho hw hty hmask hx
  have hlate := lateCode_dev ho hty p x
  have hnote : noteRefusal g [devItem sub n x o] = g := by simp [noteRefusal, devItem]
  rw [writeCore_refuses hon (by rw [hitems]) (by rw [hitems, hlate]; exact hc), hitems, hlate, hnote, answerWrite_refused hc]
  exact ⟨(answer_replied g p _ []).trans (noteTw_replied _ p _), by rw [State.turnedAway, noteTw_paths]; exact (answer_abort g p _ []).1⟩

/-- An accepted write of a number of the device object acts, and is answered with 0. -/
theorem hostPut_dev {s : State} {p : HostPath} (h : s.hears p) {sub n x : Nat} {o : Obj}
    (ho : findObj s.variant 0x2000 sub = some o) (hw : o.writable = true) (hty : o.ty = .num n false) (hmask : o.mask = none)
    (hx : x < 256 ^ n) (hc : (granted s p).devCode o sub x = 0)
    (hf : (putDev (granted s p) sub x).cmt.fences.length ≤ s.cmt.fences.length) :
    Replied (putDev (granted s p) sub x) (hostPut s p 0x2000 sub n x) ∧ (hostPut s p 0x2000 sub n x).took p := by
  have hregs := granted_regs s p
  have hv : (granted s p).variant = s.variant := by rw [hregs]
  have hcmt : (granted s p).cmt = s.cmt := by rw [hregs]
  have hon : (granted s p).coreOn = true := by rw [hregs]; exact ready_coreOn h.1
  rw [hostPut, hostWrite_hears h]
  generalize granted s p = g at *
  rw [← hv] at ho
  have hitems := itemsOf_dev ho hw hty hmask hx
  have hlate := lateCode_dev ho hty p x
  rw [writeCore_accepts hon (by rw [hitems]) (by rw [hitems, hlate]; exact hc), hitems, acceptNow_dev g p hty x]
  exact answerWrite_took (by simp [waitsOn, hcmt, hf])

/-! ## MODE and CORE_RESET -/

/-- A value of MODE is checked against its encoding, then against the present mode (R62, R71). -/
theorem devCode_mode (s : State) {x : Nat} (hx : x < 256) :
    s.devCode modeRow 1 x = if [0, 1, 3, 6, 7].contains x then if s.modeWriteOk x then 0 else notNow else badValue := by
  have hval : valueOk s.variant modeRow 0x2000 1 x = [0, 1, 3, 6, 7].contains x := by
    simp [valueOk, modeRow, Obj.value, Obj.keep, encodingOk]
    omega
  rw [State.devCode, hval]
  rfl

/-- A value of CORE_RESET is checked against its key, then against the mode (R60). -/
theorem devCode_coreReset (s : State) (v : U32) :
    s.devCode coreResetRow 0x25 v.toNat =
      if v = 0x43525354 then if s.md.mode = .safestop then 0 else notNow else badValue := by
  have hlt := v.isLt
  have hval : valueOk s.variant coreResetRow 0x2000 0x25 v.toNat = decide (v = 0x43525354) := by
    have hkey : (v.toNat == 0x43525354) = decide (v = 0x43525354) := by
      simp [← BitVec.toNat_inj, Bool.beq_eq_decide_eq]
    have hmax : (v.toNat : Int) ≤ 4294967295 := by omega
    simp [valueOk, coreResetRow, Obj.value, Obj.keep, encodingOk, hkey, hmax]
  have hnow : s.devOk 0x25 v.toNat = decide (s.md.mode = .safestop) := rfl
  rw [State.devCode, hval, hnow]
  simp only [decide_eq_true_eq]

/-- A MODE write that its checks refuse. -/
theorem mode_refused {s : State} {p : HostPath} (h : s.hears p) {x : Nat} (hx : x ∈ [0, 1, 3, 6, 7]) (hno : s.modeWriteOk x = false) :
    Replied (granted s p) (hostPut s p 0x2000 1 1 x) ∧ (hostPut s p 0x2000 1 1 x).turnedAway p notNow := by
  have hlt : x < 256 := by simp at hx; omega
  have hcode : (granted s p).devCode modeRow 1 x = notNow := by
    have hok : (granted s p).modeWriteOk x = false := by rw [granted_regs]; exact hno
    rw [devCode_mode _ hlt, if_pos (by simpa using hx), hok]
    rfl
  have hr := hostPut_dev_refused h (findObj_mode _) rfl rfl rfl (x := x) (by simpa using hlt) (by rw [hcode]; decide)
  rwa [hcode] at hr

/-- A MODE write that its checks let pass acts, and is answered as accepted. -/
theorem mode_accepted {s : State} {p : HostPath} (h : s.hears p) {x : Nat} (hx : x ∈ [0, 1, 3, 6, 7]) (hok : s.modeWriteOk x = true)
    (hf : (writeMode (granted s p) x).cmt.fences = (granted s p).cmt.fences) :
    Replied (writeMode (granted s p) x) (hostPut s p 0x2000 1 1 x) ∧ (hostPut s p 0x2000 1 1 x).took p := by
  have hlt : x < 256 := by simp at hx; omega
  have hcode : (granted s p).devCode modeRow 1 x = 0 := by
    have hok' : (granted s p).modeWriteOk x = true := by rw [granted_regs]; exact hok
    rw [devCode_mode _ hlt, if_pos (by simpa using hx), hok']
    rfl
  have hfe : (granted s p).cmt = s.cmt := by rw [granted_regs]
  exact hostPut_dev h (findObj_mode _) rfl rfl rfl (by simpa using hlt) hcode (by
    show (writeMode _ x).cmt.fences.length ≤ _
    rw [hf, hfe])

/-- Settles O7: MODE 0 is allowed only while VIN is absent. -/
theorem shipRefusedWhileVinPresent : Obligations.ShipRefusedWhileVinPresent := by
  intro s p h hv
  refine after_of_done (u := hostPut s p 0x2000 1 1 0) rfl ?_
  obtain ⟨hr, ht⟩ := mode_refused h (x := 0) (by simp) (by simp [State.modeWriteOk, hv])
  refine ⟨ht, ?_⟩
  rw [settle_md, hr.same State.md fun _ _ _ _ => rfl, granted_regs]

/-- Settles O17: the key and the mode are check 7 and check 9 of CORE_RESET; NMT reset-node asks for the same mode. -/
theorem coreResetOnlyInSafestop : Obligations.CoreResetOnlyInSafestop := by
  intro s p h
  have hmd : (granted s p).md = s.md := by rw [granted_regs]
  have hpwr : (granted s p).pwr = s.pwr := by rw [granted_regs]
  have hlt : ∀ v : U32, v.toNat < 256 ^ 4 := fun v => v.isLt
  have hstep : s.pwr.step ≠ .aonUp := by
    have hr := h.1
    simp only [State.ready, State.isOpen, Bool.and_eq_true, beq_iff_eq] at hr
    simp [hr.1]
  have refused : ∀ v : U32, ∀ c, c ≠ 0 → (granted s p).devCode coreResetRow 0x25 v.toNat = c →
      s.after (.coreReset p v) fun t => t.turnedAway p c ∧ t.pwr = s.pwr ∧ t.md = s.md := by
    intro v c hc hcode
    obtain ⟨hr, ht⟩ := hostPut_dev_refused h (findObj_coreReset _) rfl rfl rfl (hlt v) (by rwa [hcode])
    rw [hcode] at ht
    refine after_of_done (u := hostPut s p 0x2000 0x25 4 v.toNat) rfl ⟨ht, ?_, ?_⟩
    · rw [settle_pwr, hr.same State.pwr fun _ _ _ _ => rfl, hpwr]
    · rw [settle_md, hr.same State.md fun _ _ _ _ => rfl, hmd]
  refine ⟨fun hm => ?_, fun hm => ?_, fun v hv => ?_, fun hreg l node hnode hup => ⟨fun hm => ?_, fun hm => ?_⟩⟩
  · obtain ⟨hr, -⟩ := hostPut_dev h (findObj_coreReset _) rfl rfl rfl (hlt 0x43525354)
      (by rw [devCode_coreReset, if_pos rfl, hmd, if_pos hm]) (by show List.length [] ≤ _; simp)
    refine after_of_done (u := hostPut s p 0x2000 0x25 4 (0x43525354 : U32).toNat) rfl ?_
    have hs : (granted s p).pwr.step ≠ .aonUp := by rw [hpwr]; exact hstep
    have hlatch : (granted s p).latch = s.latch := by rw [granted_regs]
    have hcore : (hostPut s p 0x2000 0x25 4 (0x43525354 : U32).toNat).pwr.step = .enabled :=
      (hr.same (·.pwr.step) fun _ _ _ _ => rfl).trans (if_neg hs)
    exact ⟨hcore, hr.same (·.pwr.resetCause) fun _ _ _ _ => rfl, hr.same State.active fun _ _ _ _ => rfl,
      by unfold State.coreOn; rw [settle_pwr, hcore], (hr.same State.latch fun _ _ _ _ => rfl).trans hlatch,
      (hr.same (·.md.mode) fun _ _ _ _ => rfl).trans ((congrArg Modes.mode hmd).trans hm)⟩
  · exact refused 0x43525354 notNow (by decide) (by rw [devCode_coreReset, if_pos rfl, hmd, if_neg hm])
  · exact refused v badValue (by decide) (by rw [devCode_coreReset, if_neg hv])
  · refine after_of_done (u := doNmtResetNode l node s) rfl ?_
    have hwork : s.linksWork = true := by simp [State.linksWork, h.1, hm]
    have hreach : s.nmtReaches l node = true := by
      rcases hnode with hz | hn
      · simp [State.nmtReaches, hup, hwork, hz]
      · simp [State.nmtReaches, hup, hwork, hn]
    rw [doNmtResetNode, if_pos (by simp [hreach, hreg, hm])]
    exact ⟨if_neg hstep, rfl⟩
  · refine ignores_of_done ?_
    show done s (doNmtResetNode l node s) = _
    rw [doNmtResetNode, if_neg (by simp [hm])]

end Sys2Proof.Machine
end

section
/-! SUPPORT. What the units' own work can change, said once for each operation: the fields that it may touch, the settings that it
leaves, and that with the collector's clock nothing is left owed. -/

namespace Sys2Proof.Machine
open Sys2Proof

/-! ## The frame of the units' work -/

/-- A register that the units' own work leaves: the device object, the sequencer, the herd, a sensor's LIMIT_ACT. -/
def steady (idx sub : Nat) : Prop :=
  sub < 256 ∧ (idx = 0x2000 ∨ idx = 0x2300 ∨ idx = 0x2D00 ∨ 0x2400 ≤ idx ∧ idx < 0x2410 ∧ sub = 0x12)

/-- `t` is `s` but for what reports, holds, stores, fences and the charger change of the units. While the collector's clock runs nothing
is put off: neither a report owed nor one that waits in the AON record. -/
structure UnitWork (s t : State) : Prop where
  frame : t = { s with
    regs := t.regs, shadow := t.shadow, active := t.active, ports := t.ports, rails := t.rails, engines := t.engines, sc := t.sc
    milk := t.milk, chg := t.chg, thm := t.thm, flt := t.flt, aon := t.aon, seq := t.seq, paths := t.paths, tw := t.tw, irq := t.irq
    ks := t.ks, sent := t.sent, freeCtr := t.freeCtr
    cmt := { s.cmt with out := t.cmt.out, groups := t.cmt.groups }
    can := { s.can with links := t.can.links }
    herd := { s.herd with sent := t.herd.sent }
    pwr := { s.pwr with owed := t.pwr.owed, vstoreChg := t.pwr.vstoreChg } }
  reg : ∀ {idx sub}, steady idx sub → t.reg idx sub = s.reg idx sub
  reached : t.thm.die140 = s.thm.die140 ∧ ∀ i : Fin 16, t.thm.ts[i].reached = s.thm.ts[i].reached
  prompt : s.live = true → t.pwr.owed = s.pwr.owed ∧ t.aon.waiting = s.aon.waiting

theorem UnitWork.refl (s : State) : UnitWork s s := ⟨rfl, fun _ => rfl, ⟨rfl, fun _ => rfl⟩, fun _ => ⟨rfl, rfl⟩⟩

theorem UnitWork.live {s t : State} (h : UnitWork s t) : t.live = s.live := by
  rw [h.frame]; rfl

theorem UnitWork.trans {s t u : State} (h : UnitWork s t) (k : UnitWork t u) : UnitWork s u where
  frame := k.frame.trans (congrArg (fun x : State => { x with
    regs := u.regs, shadow := u.shadow, active := u.active, ports := u.ports, rails := u.rails, engines := u.engines, sc := u.sc
    milk := u.milk, chg := u.chg, thm := u.thm, flt := u.flt, aon := u.aon, seq := u.seq, paths := u.paths, tw := u.tw, irq := u.irq
    ks := u.ks, sent := u.sent, freeCtr := u.freeCtr
    cmt := { x.cmt with out := u.cmt.out, groups := u.cmt.groups }
    can := { x.can with links := u.can.links }
    herd := { x.herd with sent := u.herd.sent }
    pwr := { x.pwr with owed := u.pwr.owed, vstoreChg := u.pwr.vstoreChg } }) h.frame)
  reg hk := (k.reg hk).trans (h.reg hk)
  reached := ⟨k.reached.1.trans h.reached.1, fun i => (k.reached.2 i).trans (h.reached.2 i)⟩
  prompt hl :=
    have ⟨ho, hw⟩ := h.prompt hl
    have ⟨ko, kw⟩ := k.prompt (h.live.trans hl)
    ⟨ko.trans ho, kw.trans hw⟩

theorem UnitWork.ite {s t u : State} {c : Prop} [Decidable c] (h : c → UnitWork s t) (k : ¬c → UnitWork s u) :
    UnitWork s (if c then t else u) := by
  split
  · exact h ‹_›
  · exact k ‹_›

theorem UnitWork.foldl {α : Type} {f : State → α → State} (h : ∀ s a, UnitWork s (f s a)) (l : List α) :
    ∀ s, UnitWork s (l.foldl f s) := by
  induction l with
  | nil => exact UnitWork.refl
  | cons a t ih => exact fun s => (h s a).trans (ih _)

/-- A change of what the units' work may touch, the registers, the sensors and what is put off apart. -/
theorem UnitWork.of_frame {s t : State} (h : t = { s with
    regs := t.regs, shadow := t.shadow, active := t.active, ports := t.ports, rails := t.rails, engines := t.engines, sc := t.sc
    milk := t.milk, chg := t.chg, thm := t.thm, flt := t.flt, aon := t.aon, seq := t.seq, paths := t.paths, tw := t.tw, irq := t.irq
    ks := t.ks, sent := t.sent, freeCtr := t.freeCtr
    cmt := { s.cmt with out := t.cmt.out, groups := t.cmt.groups }
    can := { s.can with links := t.can.links }
    herd := { s.herd with sent := t.herd.sent }
    pwr := { s.pwr with owed := t.pwr.owed, vstoreChg := t.pwr.vstoreChg } })
    (k : (t.regs, t.thm, t.pwr.owed, t.aon.waiting) = (s.regs, s.thm, s.pwr.owed, s.aon.waiting)) : UnitWork s t := by
  simp only [Prod.mk.injEq] at k
  obtain ⟨hr, ht, ho, hw⟩ := k
  have hv : t.variant = s.variant := by rw [h]
  exact ⟨h, fun _ => by rw [State.reg, State.reg, hr, hv], ⟨by rw [ht], fun i => by rw [ht]⟩, fun _ => ⟨ho, hw⟩⟩

/-- A register that is not steady written. -/
theorem UnitWork.setReg (s : State) {idx sub : Nat} (v : Nat) (h : sub < 256 ∧ ¬steady idx sub) : UnitWork s (s.setReg idx sub v) := by
  refine ⟨rfl, fun {i j} hk => State.reg_setReg_ne s v ?_, ⟨rfl, fun _ => rfl⟩, fun _ => ⟨rfl, rfl⟩⟩
  intro e
  have e' : i * 256 + j = idx * 256 + sub := e
  obtain ⟨hs, hn⟩ := h
  have hj := hk.1
  obtain ⟨rfl, rfl⟩ : i = idx ∧ j = sub := by omega
  exact hn hk

/-- No register of a port, a rail, an engine, the keep store or the fault log is steady. -/
theorem not_steady {idx sub : Nat} (hs : sub < 256) (h : 0x2100 ≤ idx ∧ idx < 0x2300 ∨ 0x2400 ≤ idx ∧ idx < 0x2410 ∧ sub ≠ 0x12 ∨
    0x2410 ≤ idx ∧ idx < 0x2D00 ∨ 0x2D00 < idx) : sub < 256 ∧ ¬steady idx sub := by
  unfold steady
  omega

theorem UnitWork.railReg (s : State) (r : Fin 16) (sub v : Nat) (h : sub < 256) : UnitWork s (s.setReg (railIdx r.1) sub v) :=
  .setReg s v (not_steady h (by unfold railIdx; omega))

theorem UnitWork.modPort (s : State) (n : Fin 32) (f : Port → Port) : UnitWork s (s.modPort n f) := .of_frame rfl rfl

theorem UnitWork.modRail (s : State) (r : Fin 16) (f : Rail → Rail) : UnitWork s (s.modRail r f) := .of_frame rfl rfl

/-- What waits for the collector's clock is put off without it alone. -/
theorem UnitWork.owe (s : State) (code unit : U16) (h : s.live = false) : UnitWork s (s.owe code unit) :=
  ⟨rfl, fun _ => rfl, ⟨rfl, fun _ => rfl⟩, fun hl => absurd hl (by simp [h])⟩

theorem OnlyChg.unitWork {s t : State} (h : OnlyChg s t) : UnitWork s t := by
  rw [h.frame]
  exact .of_frame rfl rfl

/-! ## Records -/

theorem tally_unitWork (s : State) (code : Nat) : UnitWork s (tally s code) :=
  .foldl (fun t i => by unfold tally1; exact .ite (fun _ => .of_frame rfl rfl) (fun _ => .refl t)) _ s

theorem pendSrc_unitWork (s : State) (n : Nat) : UnitWork s (pendSrc s n) := by
  refine .ite (fun _ => UnitWork.trans ?_ (tally_unitWork _ n)) (fun _ => .refl s)
  exact .of_frame rfl rfl

theorem queueEmcy1_unitWork (s : State) (l : Link) (msg : List Byte) : UnitWork s (queueEmcy1 s l msg) :=
  .ite (fun _ => .ite (fun _ => .of_frame rfl rfl) (fun _ => .setReg s _ (not_steady (by decide) (by decide)))) (fun _ => .refl s)

theorem addEntry_unitWork (s : State) (e : LogEntry) : UnitWork s (addEntry s e) := by
  have h1 : ∀ e1 : LogEntry, UnitWork s (if placeLoses s.log e1 then s.inc 0x2700 0x0F else s) :=
    fun _ => .ite (fun _ => .setReg s _ (not_steady (by decide) (by decide))) (fun _ => .refl s)
  unfold addEntry
  dsimp only
  split
  · exact .ite (fun _ => (h1 _).trans (.of_frame rfl rfl)) (fun _ => h1 _)
  · refine (UnitWork.trans ?_ ((queueEmcy1_unitWork _ .a _).trans (queueEmcy1_unitWork _ .b _))).trans
      (.ite (fun _ => pendSrc_unitWork _ 25) (fun _ => .refl _))
    exact .ite (fun _ => (h1 _).trans (.of_frame rfl rfl)) (fun _ => h1 _)

theorem logOnly_unitWork (s : State) (code unit detail : U16) : UnitWork s (logOnly s code unit detail) := by
  unfold logOnly
  split
  · exact .refl s
  · exact .ite (fun _ => addEntry_unitWork s _) (fun _ => .refl s)

theorem logConsequent_unitWork (s : State) (code unit : U16) (cause : U32) : UnitWork s (logConsequent s code unit cause) := by
  unfold logConsequent
  split
  · exact .refl s
  · exact .ite (fun _ => addEntry_unitWork s _) (fun _ => .refl s)

theorem aonNote_unitWork (s : State) (code unit : U16) (stamp : U32) : UnitWork s (aonNote s code unit stamp) := by
  have hw : (aonNote s code unit stamp).aon.waiting = s.aon.waiting := by
    simp only [aonNote]
    split <;> rfl
  exact .of_frame rfl (by rw [hw]; rfl)

/-- The AON island's own report waits only while the collector has no clock. -/
theorem aonReport_unitWork (s : State) (code unit : U16) (h : s.live = false) : UnitWork s (aonReport s code unit) :=
  ⟨rfl, fun _ => rfl, ⟨rfl, fun _ => rfl⟩, fun hl => absurd hl (by simp [h])⟩

/-! ## Rails and ports -/

theorem withdrawPg_unitWork (s : State) (r : Fin 16) (loss : Bool) : UnitWork s (withdrawPg s r loss) := by
  unfold withdrawPg
  refine (UnitWork.modRail s r _).trans (.ite (fun _ => ?_) (fun _ => .refl _))
  refine ((UnitWork.railReg _ r 0x56 _ (by decide)).trans (.railReg _ r 0x4C _ (by decide))).trans
    (.ite (fun _ => logOnly_unitWork _ _ _ _) (fun h => .owe _ _ _ ?_))
  simp only [Bool.or_eq_true, not_or, Bool.not_eq_true] at h
  exact h.1

theorem railChanged_unitWork (s : State) (r : Fin 16) (old : RailState) (off : Bool) : UnitWork s (railChanged s r old off) :=
  .ite (fun _ => .refl s) (fun _ => UnitWork.trans (.ite (fun _ => withdrawPg_unitWork s r _) (fun _ => .refl s)) (.modRail _ r _))

theorem toRail_unitWork (s : State) (r : Fin 16) (st : RailState) (off : Bool) : UnitWork s (toRail s r st off) :=
  (UnitWork.modRail s r _).trans (railChanged_unitWork _ r _ off)

theorem startPort_unitWork (s : State) (r : Fin 16) (n : Fin 32) : UnitWork s (startPort s r n) :=
  .ite (fun _ => .refl s) (fun _ => .modPort s n _)

theorem startRail_unitWork (s : State) (r : Fin 16) : UnitWork s (startRail s r) :=
  ((UnitWork.modRail s r _).trans (.foldl (fun t n => startPort_unitWork t r n) _ _)).trans (railChanged_unitWork _ r _ false)

theorem readyPort_unitWork (s : State) (n : Fin 32) : UnitWork s (readyPort s n) := by
  unfold readyPort
  split
  iterate 3 exact .refl s
  · exact .modPort s n _

theorem endPort_unitWork (st : PortState) (s : State) (n : Fin 32) : UnitWork s (endPort st s n) := by
  unfold endPort
  split
  iterate 3 exact .refl s
  · exact .modPort s n _

theorem railOff_unitWork (s : State) (r : Fin 16) : UnitWork s (railOff s r) :=
  have h := ((UnitWork.foldl (endPort_unitWork .ready) (s.members r) s).trans (.modRail _ r fun x =>
    { x with state := .off, shed := 0, trunc := false })).trans (railChanged_unitWork _ r (s.railState r) true)
  h.trans (.ite (fun _ => startRail_unitWork _ r) (fun _ => .refl _))

theorem releasePort_unitWork (s : State) (n : Fin 32) (forced : Bool) : UnitWork s (releasePort s n forced) := by
  unfold releasePort
  split
  iterate 3 exact .refl s
  iterate 2 exact .ite (fun _ => .modPort s n _) (fun _ => .modPort s n _)
  iterate 2 exact .modPort s n _
  iterate 2 exact .ite (fun _ => .modPort s n _) (fun _ => .refl s)
  · exact .modPort s n _

theorem stopRail_unitWork (s : State) (r : Fin 16) (forced : Bool) : UnitWork s (stopRail s r forced) := by
  unfold stopRail
  extract_lets old s1
  refine (UnitWork.modRail s r _ : UnitWork s s1).trans (.ite (fun _ => ?_) (fun _ => ?_))
  · exact ((UnitWork.modRail _ r _).trans (.foldl (fun t n => releasePort_unitWork t n forced) _ _)).trans
      (railChanged_unitWork _ r _ true)
  · split
    iterate 3 exact .refl _
    iterate 2 exact railOff_unitWork _ r
    · exact .ite (fun _ => railOff_unitWork _ r) (fun _ => .refl _)
    · exact .ite (fun _ => railOff_unitWork _ r) (fun _ => toRail_unitWork _ r _ true)
    iterate 2 exact .ite (fun _ => toRail_unitWork _ r _ true) (fun _ => railOff_unitWork _ r)

theorem writeEnable_unitWork (s : State) (r : Fin 16) (v : Nat) : UnitWork s (writeEnable s r v) :=
  have h1 : UnitWork s (supersede s (railIdx r.1) 3) := .of_frame rfl rfl
  (h1.trans (.railReg _ r 3 v (by decide))).trans (.of_frame rfl rfl)

theorem devDisable_unitWork (s : State) (r : Fin 16) (forced : Bool) : UnitWork s (devDisable s r forced) :=
  (writeEnable_unitWork s r 0).trans (stopRail_unitWork _ r forced)

theorem clearEnables_unitWork (s : State) : UnitWork s (clearEnables s) :=
  .foldl (fun t r => ((writeEnable_unitWork t r 0).trans (withdrawPg_unitWork _ r false)).trans (.modRail _ r _)) _ s

theorem holdPort_unitWork (s : State) (n : Fin 32) : UnitWork s (holdPort s n) := by
  unfold holdPort
  split
  iterate 2 exact .refl s
  · refine .ite (fun _ => .refl s) (fun _ => ?_)
    split
    · exact .modPort s n _
    · exact .ite (fun _ => .modPort s n _) (fun _ => .modPort s n _)
  · exact .ite (fun _ => .modPort s n _) (fun _ => .refl s)

theorem holdRail_unitWork (s : State) (r : Fin 16) (old : RailState) : UnitWork s (holdRail s r old) :=
  have off : UnitWork s (s.modRail r fun x => { x with state := .off }) := .modRail s r _
  .ite (fun _ => .refl s) (fun _ => .ite (fun _ => (UnitWork.modRail s r _).trans (railChanged_unitWork _ r _ _))
    (fun _ => .ite (fun _ => .ite (fun _ => off.trans (startRail_unitWork _ r)) (fun _ => off.trans (railChanged_unitWork _ r _ _)))
      (fun _ => railChanged_unitWork s r _ _)))

theorem rephase_unitWork (s : State) (r : Fin 16) : UnitWork s (rephase s r) := by
  unfold rephase
  split
  · exact .refl s
  · exact .foldl (fun t n => .modPort t n _) _ s

theorem restartDwell_unitWork (s : State) (r : Fin 16) : UnitWork s (restartDwell s r) :=
  (UnitWork.modRail s r _).trans (rephase_unitWork _ r)

theorem applyHolds_unitWork (s : State) : UnitWork s (applyHolds s) :=
  (UnitWork.foldl holdPort_unitWork s.portList s).trans (UnitWork.foldl (fun t x => by
    show UnitWork t (if _ then _ else _)
    exact .ite (fun _ => (holdRail_unitWork t x.1 x.2).trans (restartDwell_unitWork _ x.1)) (fun _ => holdRail_unitWork t x.1 x.2)) _ _)

/-! ## Stores and the answers that wait for them -/

theorem sendReply_unitWork (s : State) (p : HostPath) (q : Option Asked) (code : Nat) (bs : List Byte) :
    UnitWork s (sendReply s p q code bs) := by
  rw [(sendReply_replied s p q code bs).frame]
  exact .of_frame rfl rfl

theorem showMailbox_unitWork (s : State) (c : Fin 8) (code : Nat) : UnitWork s (showMailbox s c code) := by
  refine UnitWork.trans ?_ (pendSrc_unitWork _ 38)
  exact .of_frame rfl rfl

theorem endOwed_unitWork (s : State) (p : HostPath) (fence : Bool) (code : Nat) : UnitWork s (endOwed s p fence code) := by
  have h : UnitWork s (answerOwed s p fence code) := by
    refine UnitWork.trans ?_ (sendReply_unitWork _ p _ code [])
    exact .of_frame rfl rfl
  have hw : ∀ (t : State) c, UnitWork t (endWaiting t c code) := fun t c =>
    .ite (fun _ => (showMailbox_unitWork t c code).trans (.of_frame rfl rfl)) (fun _ => showMailbox_unitWork t c code)
  unfold endOwed
  split
  · exact h.trans (hw _ _)
  · exact h

theorem answerKeys_unitWork (s : State) (ws : List KeyWait) (code : Nat) : UnitWork s (answerKeys s ws code) :=
  .foldl (fun t w => by
    show UnitWork t (match w.path with | none => t | some p => endOwed t p false code)
    split
    · exact .refl t
    · exact endOwed_unitWork t _ false code) ws s

theorem undoKey_unitWork (s : State) : UnitWork s (undoKey s) := by
  unfold undoKey
  split
  · exact .refl s
  · refine UnitWork.trans ?_ (answerKeys_unitWork _ _ _)
    exact .of_frame rfl rfl

theorem undoConfig_unitWork (s : State) : UnitWork s (undoConfig s) := by
  unfold undoConfig
  split
  · exact .refl s
  · refine UnitWork.trans ?_ (.setReg _ 0x08000020 (not_steady (by decide) (by decide)))
    exact .of_frame rfl rfl

theorem undoLost_unitWork (s : State) (cs : List StoreCause) : UnitWork s (undoLost s cs) :=
  have h : UnitWork s (if cs.contains .config then undoConfig s else s) := .ite (fun _ => undoConfig_unitWork s) (fun _ => .refl s)
  .ite (fun _ => h.trans (undoKey_unitWork _)) (fun _ => h)

theorem skipStore_unitWork (s : State) (cs : List StoreCause) : UnitWork s (skipStore s cs) := by
  unfold skipStore
  extract_lets _ _ s1 s2
  have h1 : UnitWork s s1 := by
    refine UnitWork.trans ?_ (undoLost_unitWork _ cs)
    exact .of_frame rfl rfl
  have h2 : UnitWork s s2 := h1.trans (.setReg s1 _ (not_steady (by decide) (by decide)))
  exact h2.trans (UnitWork.trans
    (.ite (fun _ => logOnly_unitWork _ _ _ _) (fun h => .owe _ _ _ (by simpa using h))) (pendSrc_unitWork _ 36))

theorem startStore_unitWork (s : State) (c : StoreCause) : UnitWork s (startStore s c) := by
  unfold startStore
  extract_lets c1 s1
  have h1 : UnitWork s s1 := .ite (fun _ => .of_frame rfl rfl) (fun _ => .ite (fun _ => .of_frame rfl rfl) (fun _ => .refl s))
  exact h1.trans (.of_frame rfl rfl)

theorem requestStore_unitWork (s : State) (c : StoreCause) : UnitWork s (requestStore s c) := by
  unfold requestStore
  split
  · refine .ite (fun _ => UnitWork.trans ?_ (undoLost_unitWork _ _)) (fun _ => .of_frame rfl rfl)
    exact .of_frame rfl rfl
  · exact .ite (fun _ => startStore_unitWork s c) (fun _ => .ite (fun _ => skipStore_unitWork s _)
      (fun _ => .ite (fun _ => .of_frame rfl rfl) (fun _ => .of_frame rfl rfl)))

/-! ## What a mode entry does beside the mode -/

theorem chgSettle_unitWork (s : State) : UnitWork s (chgSettle s) := (chgSettle_onlyChg s).unitWork

theorem rezone_unitWork (s : State) : UnitWork s (rezone s) := by
  unfold rezone judgeZone
  split
  all_goals
    refine UnitWork.trans ?_ (chgSettle_unitWork _)
    exact .of_frame rfl rfl

theorem stopRound_unitWork (s : State) : UnitWork s (stopRound s) := by
  have h : ∀ t (c : Fin 33), UnitWork t (if c.1 + 1 = s.milk.slot then t.modSc c fun x => { x with rejects := 0 } else t) :=
    fun t _ => .ite (fun _ => .of_frame rfl rfl) (fun _ => .refl t)
  have hb : UnitWork s (breakRun s) := .ite (fun _ => UnitWork.trans (.foldl h _ s) (.of_frame rfl rfl)) (fun _ => .refl s)
  exact hb.trans (.of_frame rfl rfl)

theorem startRound_unitWork (s : State) : UnitWork s (startRound s) := .ite (fun _ => .of_frame rfl rfl) (fun _ => .refl s)

theorem discardEnables_unitWork (s : State) : UnitWork s (discardEnables s) :=
  .foldl (f := fun t g => t.modGroup g _) (fun _ _ => .of_frame rfl rfl) _ s

theorem herdSend_unitWork (s : State) (frame : List Byte) : UnitWork s (herdSend s frame) :=
  .ite (fun _ => .of_frame rfl rfl) (fun _ => .refl s)

/-- A sensor changed whose reached thresholds stand. -/
theorem UnitWork.modTs (s : State) (i : Fin 16) (f : Sensor → Sensor) (h : ∀ x, (f x).reached = x.reached) :
    UnitWork s (s.modTs i f) := by
  refine ⟨rfl, fun _ => rfl, ⟨rfl, fun j => ?_⟩, fun _ => ⟨rfl, rfl⟩⟩
  by_cases hj : i.1 = j.1
  · simp [State.modTs, Fin.ext hj, h]
  · simp [State.modTs, hj]

theorem setEff_unitWork (s : State) (i : Fin 16) (eff : Option Int) (src : Nat) (suspect : Bool) :
    UnitWork s (setEff s i eff src suspect) := by
  have h1 : UnitWork s (s.modTs i fun x => { x with eff := eff, src := src, suspect := suspect }) := .modTs s i _ fun _ => rfl
  refine h1.trans ?_
  unfold setEff noteMax
  split
  · exact .refl _
  · refine .ite (fun _ => UnitWork.trans ?_ (.setReg _ _ (not_steady (by decide) (by omega)))) (fun _ => .refl _)
    exact ⟨rfl, fun _ => rfl, ⟨rfl, fun _ => rfl⟩, fun _ => ⟨rfl, rfl⟩⟩

theorem startReadings_unitWork (s : State) : UnitWork s (startReadings s) :=
  .foldl (fun t i => .ite (fun _ => setEff_unitWork t i _ _ _) (fun _ => .refl t)) _ s

/-- The units' work neither reads nor moves a pin. -/
theorem UnitWork.withPins {s t : State} (h : UnitWork s t) (p : Pins) : UnitWork { s with pins := p } { t with pins := p } :=
  ⟨congrArg (fun x : State => { x with pins := p }) h.frame, h.reg, h.reached, h.prompt⟩

/-- Beside the transition that it records, a mode entry is the units' work. -/
theorem enterMode_unitWork (s : State) (m : Mode) (cause : Nat) : UnitWork (s.entered m cause) (enterMode s m cause) := by
  unfold enterMode
  extract_lets was pol _ _ _ s1 s2 s3 s4 s5 s6 s7
  have h1 : UnitWork (s.entered m cause) { s1 with pins := (modeResets s m).pins } :=
    ⟨rfl, fun _ => rfl, ⟨rfl, fun _ => rfl⟩, fun _ => ⟨rfl, rfl⟩⟩
  have h3 : UnitWork s1 s3 := UnitWork.trans (t := s2) (.ite (fun _ => discardEnables_unitWork s1) (fun _ => .refl s1))
    (.ite (fun _ => clearEnables_unitWork s2) (fun _ => .refl s2))
  have h4 : UnitWork { s1 with pins := (modeResets s m).pins } s4 := by
    have e : s4 = { s3 with pins := (modeResets s m).pins } := by
      have hp : s3.pins = s.pins := by rw [h3.frame]
      show modeResets s3 m = _
      cases m <;> simp only [modeResets, hp]
      show s3 = { s3 with pins := s.pins }
      rw [← hp]
    rw [e]
    exact h3.withPins _
  have h5 : UnitWork s4 s5 := .ite (fun _ => (stopRound_unitWork s4).trans (startRound_unitWork _))
    (fun _ => .ite (fun _ => .refl s4) (fun _ => stopRound_unitWork s4))
  have h6 : UnitWork s5 s6 := .ite (fun _ => herdSend_unitWork s5 _) (fun _ => .refl s5)
  have h7 : UnitWork s6 s7 := .ite (fun _ => (startReadings_unitWork s6).trans (rezone_unitWork _)) (fun _ => .refl s6)
  exact ((((h1.trans h4).trans h5).trans h6).trans h7).trans
    (((applyHolds_unitWork s7).trans (chgSettle_unitWork _)).trans (pendSrc_unitWork _ 24))

/-! ## What the units' work leaves to be read -/

/-- Stop causes are sensors' reached thresholds and their LIMIT_ACT (R286). -/
theorem UnitWork.stopCause {s t : State} (h : UnitWork s t) : t.stopCause = s.stopCause := by
  have hr : ∀ i : Fin 16, t.reg (0x2400 + i.1) 0x12 = s.reg (0x2400 + i.1) 0x12 := fun i =>
    h.reg ⟨by decide, .inr (.inr (.inr ⟨by omega, by omega, rfl⟩))⟩
  simp only [State.stopCause, h.reached.1, h.reached.2, hr]

/-- Whom a node follows is told by its mode, its supplies and HERD_CTRL. -/
theorem UnitWork.herdFollows {s t : State} (h : UnitWork s t) : t.herdFollows = s.herdFollows := by
  have hr : t.reg 0x2D00 1 = s.reg 0x2D00 1 := h.reg ⟨by decide, .inr (.inr (.inl rfl))⟩
  simp only [State.herdFollows, State.herdRuns, State.herdRole, hr]
  rw [h.frame]
  rfl

end Sys2Proof.Machine
end

section
namespace Sys2Proof.Machine
open Sys2Proof

/-! ## Fences -/

theorem fenceRail_unitWork (s : State) (r : Fin 16) : UnitWork s (fenceRail s r) := by
  unfold fenceRail
  refine .ite (fun _ => .refl s) (fun _ => ?_)
  extract_lets old s1 s2 _ s3
  have h1 : UnitWork s s1 := .foldl readyPort_unitWork (s.members r) s
  have h2 : UnitWork s1 s2 := .modRail s1 r _
  have h3 : UnitWork s2 s3 := .of_frame rfl rfl
  exact ((h1.trans h2).trans h3).trans ((UnitWork.railReg s3 r 0x59 _ (by decide)).trans (railChanged_unitWork _ r _ false))

theorem fenceRailFor_unitWork (s : State) (r : Fin 16) (cause : U32) : UnitWork s (fenceRailFor s r cause) :=
  .ite (fun _ => .refl s) (fun _ => (fenceRail_unitWork s r).trans (logConsequent_unitWork _ _ _ cause))

theorem losePhase_unitWork (s : State) (r : Fin 16) (was : Bool) (cause : U32) : UnitWork s (losePhase s r was cause) := by
  have hc : UnitWork s (countRail s r 0x59) := .railReg s r 0x59 _ (by decide)
  unfold losePhase
  extract_lets s1
  have h1 : UnitWork s s1 := .ite (fun _ => hc.trans (.railReg _ r 0x19 _ (by decide))) (fun _ => hc)
  exact h1.trans (.ite (fun _ => fenceRailFor_unitWork s1 r cause)
    (fun _ => .ite (fun _ => (restartDwell_unitWork s1 r).trans (.modRail _ r _)) (fun _ => .refl s1)))

theorem fenceOne_unitWork (s : State) (n : Fin 32) : UnitWork s (fenceOne s n) :=
  (UnitWork.modPort s n Port.fence).trans (.of_frame rfl rfl)

theorem fencePort_unitWork (s : State) (n : Fin 32) (cause : U32) : UnitWork s (fencePort s n cause) := by
  have h : UnitWork s (s.portList.foldl (fun t m => if s.pairLead m.1 = s.pairLead n.1 then fenceOne t m else t) s) :=
    .foldl (fun t m => .ite (fun _ => fenceOne_unitWork t m) (fun _ => .refl t)) _ s
  unfold fencePort
  refine .ite (fun _ => .refl s) (fun _ => ?_)
  extract_lets lead was s1
  split
  · exact h
  · exact .ite (fun _ => h.trans (.railReg _ _ 0x59 _ (by decide)))
      (fun _ => h.trans ((losePhase_unitWork _ _ was cause).trans (railChanged_unitWork _ _ _ false)))

theorem fenceGroup_unitWork (s : State) (g : Fin 8) (cause : U32) : UnitWork s (fenceGroup s g cause) := by
  unfold fenceGroup
  extract_lets _ s1
  have h1 : UnitWork s s1 := .of_frame rfl rfl
  exact h1.trans (.foldl (fun t n => .ite (fun _ => fencePort_unitWork t n cause) (fun _ => .refl t)) _ s1)

theorem UnitWork.ofMilk (s : State) (m : Milk) : UnitWork s { s with milk := m } := .of_frame rfl rfl

theorem UnitWork.modSc (s : State) (n : Fin 33) (f : Conv → Conv) : UnitWork s (s.modSc n f) := .of_frame rfl rfl

theorem loseRover_unitWork (s : State) (cause : U32) : UnitWork s (loseRover s cause) := by
  unfold loseRover
  extract_lets _ s1
  have h1 : UnitWork s s1 := (UnitWork.ofMilk s _).trans (stopRound_unitWork _)
  split
  · exact h1
  · exact (h1.trans (.ofMilk s1 _)).trans (fencePort_unitWork _ _ cause)

theorem failSense_unitWork (s : State) (n : Fin 32) (cause : U32) : UnitWork s (failSense s n cause) := by
  unfold failSense
  refine .ite (fun _ => .refl s) (fun _ => ?_)
  extract_lets _ s1 rover s2
  have h1 : UnitWork s s1 := .of_frame rfl rfl
  have h2 : UnitWork s1 s2 :=
    (stopRound_unitWork s1).trans (.foldl (fun t c => .modSc t c _) _ _)
  exact h1.trans (.ite (fun _ => fencePort_unitWork s1 n cause) (fun _ => h2.trans (.ofMilk s2 _)))

theorem failVolt_unitWork (s : State) (k : Fin 16) (cause : U32) : UnitWork s (failVolt s k cause) := by
  have h : UnitWork s { s with flt := { s.flt with vc := setBit s.flt.vc k.1 } } := .of_frame rfl rfl
  exact .ite (fun _ => .refl s) (fun _ => h.trans (fenceRailFor_unitWork _ k cause))

theorem UnitWork.engReg (s : State) (e sub v : Nat) (h : sub < 256) : UnitWork s (s.setReg (engIdx e) sub v) :=
  .setReg s v (not_steady h (by unfold engIdx; omega))

theorem countMoved_unitWork (s : State) (r : Fin 16) (k : Nat) : UnitWork s (countMoved s r k) := by
  unfold countMoved
  split
  · exact .refl s
  · exact .engReg s _ 0x11 _ (by decide)

theorem moveMaster_unitWork (s : State) (r : Fin 16) (hit : Bool) (cause : U32) : UnitWork s (moveMaster s r hit cause) := by
  unfold moveMaster
  refine .ite (fun _ => .refl s) (fun _ => ?_)
  split
  · exact fenceRailFor_unitWork s r cause
  · refine .ite (fun _ => ?_) (fun _ => fenceRailFor_unitWork s r cause)
    extract_lets e was _ _ s1
    have h1 : UnitWork s s1 := (UnitWork.engReg s e 0x11 was (by decide)).trans (.of_frame rfl rfl)
    exact h1.trans ((UnitWork.modRail s1 r _).trans (countMoved_unitWork _ r _))

theorem loseGroup_unitWork (s : State) (g : Fin 8) (run : Option FrameRun) (cause : U32) : UnitWork s (loseGroup s g run cause) := by
  unfold loseGroup
  extract_lets mastered _ s1 s2
  have h1 : UnitWork s s1 := .of_frame rfl rfl
  exact ((h1.trans (logConsequent_unitWork s1 _ _ cause)).trans (fenceGroup_unitWork _ g cause)).trans
    (.foldl (fun t r => moveMaster_unitWork t r _ cause) _ s2)

theorem fenceEngine_unitWork (s : State) (e : Fin 9) (cause : U32) : UnitWork s (fenceEngine s e cause) := by
  unfold fenceEngine
  refine .ite (fun _ => .refl s) (fun _ => ?_)
  extract_lets was s1 _ s2
  have h2 : UnitWork s s2 := .of_frame rfl rfl
  split
  · exact .ite (fun _ => h2.trans (.of_frame rfl rfl)) (fun _ => h2.trans (loseGroup_unitWork s2 _ _ cause))
  · exact .ite (fun _ => h2.trans (loseGroup_unitWork s2 _ _ cause)) (fun _ => h2)

theorem noteEngine_unitWork (s : State) (unit detail : U16) (stamp : U32) : UnitWork s (noteEngine s unit detail stamp) :=
  .ite (fun _ => (UnitWork.engReg s _ 0x0E _ (by decide)).trans (.engReg _ _ 0x0F _ (by decide))) (fun _ => .refl s)

theorem fenceUnit_unitWork (s : State) (unit : U16) (cause : U32) : UnitWork s (fenceUnit s unit cause) := by
  unfold fenceUnit
  extract_lets k i
  refine .ite (fun _ => ?port) (fun _ => .ite (fun _ => ?group) (fun _ => .ite (fun _ => ?rail) (fun _ => .ite (fun _ => ?sensor)
    (fun _ => .ite (fun _ => ?sense) (fun _ => .ite (fun _ => ?volt) (fun _ => .ite (fun _ => ?engine) (fun _ => .ite (fun _ => ?charger)
    (fun _ => .refl s))))))))
  case port =>
    split
    · exact fencePort_unitWork s _ cause
    · exact .refl s
  case group =>
    split
    · exact fenceGroup_unitWork s _ cause
    · exact .refl s
  case rail =>
    split
    · exact fenceRail_unitWork s _
    · exact .refl s
  case sensor => exact .ite (fun _ => .of_frame rfl rfl) (fun _ => .refl s)
  case sense =>
    split
    · exact failSense_unitWork s _ cause
    · exact .ite (fun _ => loseRover_unitWork s cause) (fun _ => .refl s)
  case volt =>
    split
    · exact failVolt_unitWork s _ cause
    · exact .refl s
  case engine =>
    split
    · exact fenceEngine_unitWork s _ cause
    · exact .refl s
  case charger =>
    have h : UnitWork s { s with flt := { s.flt with charger := true } } := .of_frame rfl rfl
    exact h.trans (toChg_onlyChg _ .fault).unitWork

/-- What a report has fenced when it comes to the trip is the units' work. -/
theorem fencedFor_unitWork (s : State) (row : FaultRow) (cls : FClass) (unit : U16) : UnitWork s (fencedFor s row cls unit) := by
  have hf : UnitWork s (fenceFor s unit) := by
    unfold fenceFor
    split
    · exact fenceRailFor_unitWork s _ _
    · exact .refl s
  exact UnitWork.trans (.ite (fun _ => hf) (fun _ => .refl s)) (.ite (fun _ => fenceUnit_unitWork _ unit _) (fun _ => .refl _))

theorem recorded_unitWork (s : State) (row : FaultRow) (code unit detail : U16) (stamp : U32) :
    UnitWork s (s.recorded row code unit detail stamp) := by
  unfold State.recorded
  extract_lets cls n _ s1 s2
  have h1 : UnitWork s s1 := UnitWork.trans
    (.ite (fun _ => .refl s) (fun _ => .setReg s _ (not_steady (by decide) (by decide)))) (addEntry_unitWork _ _)
  have h2 : UnitWork s1 s2 := .ite (fun _ => noteEngine_unitWork s1 unit detail stamp) (fun _ => .refl s1)
  exact (h1.trans h2).trans (.ite (fun _ => aonNote_unitWork s2 code unit stamp) (fun _ => .refl s2))

/-! ## The frame of the modes' work -/

/-- `t` is `s` but for what the modes, scripts and trips change beside the units' work: the mode and the sequencer, the trip in the
latch, the reset outputs, the course of a STANDBY entry, the NMT state. Nothing is put off while the collector's clock runs. -/
structure ModeWork (s t : State) : Prop where
  frame : t = { s with
    md := t.md, sqe := t.sqe
    regs := t.regs, shadow := t.shadow, active := t.active, ports := t.ports, rails := t.rails, engines := t.engines, sc := t.sc
    milk := t.milk, chg := t.chg, thm := t.thm, flt := t.flt, aon := t.aon, seq := t.seq, paths := t.paths, tw := t.tw, irq := t.irq
    ks := t.ks, herd := t.herd, sent := t.sent, freeCtr := t.freeCtr
    latch := { s.latch with set := t.latch.set, hard := t.latch.hard }
    pins := { s.pins with rstA := t.pins.rstA, rstB := t.pins.rstB }
    cmt := { s.cmt with out := t.cmt.out, groups := t.cmt.groups }
    can := { s.can with links := t.can.links, nmt := t.can.nmt }
    pwr := { s.pwr with owed := t.pwr.owed, vstoreChg := t.pwr.vstoreChg, entering := t.pwr.entering } }
  prompt : s.live = true → t.pwr.owed = s.pwr.owed ∧ t.aon.waiting = s.aon.waiting

theorem ModeWork.refl (s : State) : ModeWork s s := ⟨rfl, fun _ => ⟨rfl, rfl⟩⟩

theorem ModeWork.live {s t : State} (h : ModeWork s t) : t.live = s.live := by
  rw [h.frame]; rfl

theorem ModeWork.trans {s t u : State} (h : ModeWork s t) (k : ModeWork t u) : ModeWork s u where
  frame := k.frame.trans (congrArg (fun x : State => { x with
    md := u.md, sqe := u.sqe
    regs := u.regs, shadow := u.shadow, active := u.active, ports := u.ports, rails := u.rails, engines := u.engines, sc := u.sc
    milk := u.milk, chg := u.chg, thm := u.thm, flt := u.flt, aon := u.aon, seq := u.seq, paths := u.paths, tw := u.tw, irq := u.irq
    ks := u.ks, herd := u.herd, sent := u.sent, freeCtr := u.freeCtr
    latch := { x.latch with set := u.latch.set, hard := u.latch.hard }
    pins := { x.pins with rstA := u.pins.rstA, rstB := u.pins.rstB }
    cmt := { x.cmt with out := u.cmt.out, groups := u.cmt.groups }
    can := { x.can with links := u.can.links, nmt := u.can.nmt }
    pwr := { x.pwr with owed := u.pwr.owed, vstoreChg := u.pwr.vstoreChg, entering := u.pwr.entering } }) h.frame)
  prompt hl :=
    have ⟨ho, hw⟩ := h.prompt hl
    have ⟨ko, kw⟩ := k.prompt (h.live.trans hl)
    ⟨ko.trans ho, kw.trans hw⟩

theorem ModeWork.ite {s t u : State} {c : Prop} [Decidable c] (h : c → ModeWork s t) (k : ¬c → ModeWork s u) :
    ModeWork s (if c then t else u) := by
  split
  · exact h ‹_›
  · exact k ‹_›

theorem ModeWork.foldl {α : Type} {f : State → α → State} (h : ∀ s a, ModeWork s (f s a)) (l : List α) :
    ∀ s, ModeWork s (l.foldl f s) := by
  induction l with
  | nil => exact ModeWork.refl
  | cons a t ih => exact fun s => (h s a).trans (ih _)

theorem UnitWork.modes {s t : State} (h : UnitWork s t) : ModeWork s t :=
  ⟨h.frame.trans (by rw [h.frame]), h.prompt⟩

end Sys2Proof.Machine
end

section
namespace Sys2Proof.Machine
open Sys2Proof

/-! ## Modes, scripts and trips -/

/-- Changes of the mode, the sequencer, the sensors and the herd. -/
theorem ModeWork.update (s : State) (md : Modes) (sqe : Sqe) (thm : Thermal) (herd : Herd) :
    ModeWork s { s with md := md, sqe := sqe, thm := thm, herd := herd } := ⟨rfl, fun _ => ⟨rfl, rfl⟩⟩

/-- Changes of the reset outputs and of the course of a STANDBY entry with its NMT state. -/
theorem ModeWork.outputs (s : State) (a b e : Bool) (n : Nmt) (md : Modes) (sqe : Sqe) :
    ModeWork s { s with pins := { s.pins with rstA := a, rstB := b }, pwr := { s.pwr with entering := e },
                        can := { s.can with nmt := n }, md := md, sqe := sqe } := ⟨rfl, fun _ => ⟨rfl, rfl⟩⟩

/-- Any register written. -/
theorem ModeWork.setReg (s : State) (idx sub v : Nat) : ModeWork s (s.setReg idx sub v) := ⟨rfl, fun _ => ⟨rfl, rfl⟩⟩

theorem clrReq_modeWork (s : State) (m : Nat) : ModeWork s (s.clrReg 0x2000 8 m) := .setReg s _ _ _

theorem stopSqe_modeWork (s : State) : ModeWork s (stopSqe s) := ⟨rfl, fun _ => ⟨rfl, rfl⟩⟩

theorem enterMode_modeWork (s : State) (m : Mode) (cause : Nat) : ModeWork s (enterMode s m cause) := by
  have hp : (modeResets s m).pins = { s.pins with rstA := (modeResets s m).pins.rstA, rstB := (modeResets s m).pins.rstB } := by
    cases m <;> rfl
  have h : ModeWork s (s.entered m cause) := by
    unfold State.entered
    rw [hp]
    exact ⟨rfl, fun _ => ⟨rfl, rfl⟩⟩
  exact h.trans (enterMode_unitWork s m cause).modes

/-- A script stopped and a mode entered. -/
theorem stopped_modeWork (s : State) (m : Mode) (cause : Nat) : ModeWork s (enterMode (stopSqe s) m cause) :=
  (stopSqe_modeWork s).trans (enterMode_modeWork _ m cause)

theorem beginPowerDown_modeWork (s : State) (cause : Nat) : ModeWork s (beginPowerDown s cause) :=
  (stopped_modeWork s .shutdown cause).trans (.update _ _ _ _ _)

theorem beginReversal_modeWork (s : State) (cause : Nat) : ModeWork s (beginReversal s cause) :=
  ((stopped_modeWork s .shutdown cause).trans (.update _ _ _ _ _)).trans (.setReg _ _ _ _)

theorem beginStartup_modeWork (s : State) (cause : Nat) : ModeWork s (beginStartup s cause) := by
  unfold beginStartup
  extract_lets s1 _ _ _ _ s2
  have h1 : ModeWork s s1 := (clrReq_modeWork s 1).trans (stopped_modeWork (s.clrReg 0x2000 8 1) .startup cause)
  clear_value s1
  have h2 : ModeWork s s2 := h1.trans ⟨rfl, fun _ => ⟨rfl, rfl⟩⟩
  exact .ite (fun _ => h2.trans (.update s2 _ _ _ _))
    (fun _ => .ite (fun _ => (h2.trans (beginReversal_modeWork s2 11)).trans (.update _ _ _ _ _)) (fun _ => h2))

theorem forceTiming_modeWork (s : State) : ModeWork s (forceTiming s) := by
  unfold forceTiming
  extract_lets _ s0 s1
  have h0 : ModeWork s s0 := ((ModeWork.update s s.md _ s.thm s.herd).trans (.setReg _ _ _ _)).trans (.setReg _ _ _ _)
  have h1 : UnitWork s0 s1 := .ite (fun _ => .foldl (fun t r => .ite (fun _ => stopRail_unitWork t r true) (fun _ => .refl t)) _ s0)
    (fun _ => .refl s0)
  exact h0.trans (h1.trans (herdSend_unitWork s1 _)).modes

theorem enterStandby_modeWork (s : State) (cause : Nat) : ModeWork s (enterStandby s cause) :=
  ((stopped_modeWork s .standby cause).trans (.outputs _ _ _ true .preop _ _)).trans (requestStore_unitWork _ .standby).modes

theorem enterService_modeWork (s : State) (cause : Nat) : ModeWork s (enterService s cause) :=
  (stopped_modeWork s .service cause).trans (.update _ _ _ _ _)

theorem offNow_modeWork (s : State) (cause : Nat) : ModeWork s (offNow s cause) := by
  have h1 := clrReq_modeWork s 1
  unfold offNow
  split
  · exact h1.trans (beginReversal_modeWork _ cause)
  iterate 2 exact h1.trans (beginPowerDown_modeWork _ cause)
  · exact .ite (fun _ => (h1.trans (clrReq_modeWork _ 4)).trans (enterStandby_modeWork _ cause)) (fun _ => h1)
  · exact .refl s

theorem onNow_modeWork (s : State) (cause : Nat) : ModeWork s (onNow s cause) := by
  unfold onNow
  split
  · exact .setReg s _ _ _
  · exact .ite (fun _ => .setReg s _ _ _) (fun _ => beginStartup_modeWork s cause)
  · exact (UnitWork.foldl (fun t r => devDisable_unitWork t r true) s.railList s).modes.trans (beginStartup_modeWork _ cause)
  · exact .refl s

theorem forcedOff_modeWork (s : State) (cause : Nat) : ModeWork s (forcedOff s cause) :=
  have h := offNow_modeWork s cause
  .ite (fun _ => .update s s.md s.sqe s.thm _) (fun _ => .ite (fun _ => h.trans (forceTiming_modeWork _)) (fun _ => h))

theorem onRequest_modeWork (s : State) (cause : Nat) : ModeWork s (onRequest s cause) :=
  .ite (fun _ => .update s s.md s.sqe s.thm _) (fun _ => onNow_modeWork s cause)

theorem offRequest_modeWork (s : State) (cause : Nat) : ModeWork s (offRequest s cause) :=
  .ite (fun _ => .update s s.md s.sqe s.thm _) (fun _ => offNow_modeWork s cause)

theorem stopNow_modeWork (s : State) : ModeWork s (stopNow s) := by
  unfold stopNow
  split
  · exact (beginReversal_modeWork s 11).trans (.update _ _ _ _ _)
  iterate 2 exact (beginPowerDown_modeWork s 11).trans (.update _ _ _ _ _)
  · have h1 := clrReq_modeWork s 5
    exact .ite (fun _ => (h1.trans (.update _ _ _ _ _)).trans (stopped_modeWork _ .safestop 11))
      (fun _ => h1.trans (.update _ _ _ _ _))
  · exact ((ModeWork.setReg s 0x2000 0x0D 0xFF).trans (.update _ _ _ _ _)).trans (applyHolds_unitWork _).modes
  · exact .refl s

theorem orderlyStop_modeWork (s : State) : ModeWork s (orderlyStop s) :=
  .ite (fun _ => .update s s.md s.sqe _ _) (fun _ => stopNow_modeWork s)

theorem trip_modeWork (s : State) (hard : Bool) : ModeWork s (trip s hard) := by
  unfold trip
  extract_lets _ s1 _ m s2
  have h1 : ModeWork s s1 := ⟨rfl, fun _ => ⟨rfl, rfl⟩⟩
  have h2 : ModeWork s1 s2 := (ModeWork.update s1 m s1.sqe s1.thm s1.herd).trans (stopped_modeWork _ .safestop 10)
  exact .ite (fun _ => h1) (fun _ => .ite (fun _ => h1.trans (stopSqe_modeWork s1)) (fun _ => .ite
    (fun _ => (h1.trans (stopSqe_modeWork s1)).trans ((applyHolds_unitWork _).trans (chgSettle_unitWork _)).modes)
    (fun _ => (h1.trans h2).trans (clrReq_modeWork s2 4))))

/-- A report is recorded, fences and trips; without the collector's clock it is noted and trips. -/
theorem collectAt_modeWork (s : State) (code unit detail : U16) (stamp : U32) : ModeWork s (collectAt s code unit detail stamp) := by
  cases hl : s.live with
  | true =>
    cases hr : s.rowFor code unit with
    | none => simpa only [collectAt, hl, hr, if_true] using .refl s
    | some row =>
      have h := (recorded_unitWork s row code unit detail stamp).trans (fencedFor_unitWork _ row (s.classOf row unit) unit)
      rw [collectAt_live hl hr, pay_eq]
      exact h.modes.trans (.ite (fun _ => trip_modeWork _ _) (fun _ => .refl _))
  | false =>
    rw [collectAt, hl, if_neg Bool.false_ne_true]
    exact .ite (fun _ => (aonReport_unitWork s code unit hl).modes.trans (trip_modeWork _ false)) (fun _ => .refl s)

/-! ## The ends of scripts -/

theorem setPos_modeWork (s : State) (p : StepPos) : ModeWork s (s.setPos p) := by
  unfold State.setPos
  split <;> exact .update s s.md _ s.thm s.herd

theorem idleSqe_modeWork (s : State) : ModeWork s (idleSqe s) := .update s s.md _ s.thm s.herd

theorem afterDown_modeWork (s : State) : ModeWork s (afterDown s) := by
  have h0 : ModeWork s (endDown s) := by
    unfold endDown
    extract_lets left s1
    have h1 : ModeWork s s1 := (ModeWork.outputs s true true _ _ _ _).trans
      (UnitWork.foldl (fun t r => devDisable_unitWork t r true) left _).modes
    exact .ite (fun _ => h1) (fun _ => h1.trans (.setReg _ _ _ _))
  unfold afterDown
  extract_lets s1 _
  have h1 : ModeWork s s1 := h0.trans (idleSqe_modeWork _)
  refine .ite (fun _ => h1.trans (enterMode_modeWork s1 .safestop 9)) (fun _ => .ite (fun _ => ?_)
    (fun _ => .ite (fun _ => h1.trans (beginStartup_modeWork s1 9))
      (fun _ => .ite (fun _ => h1.trans (enterService_modeWork s1 9)) (fun _ => h1.trans (enterStandby_modeWork s1 9)))))
  exact (h1.trans (.setReg s1 _ _ _)).trans (.update _ _ _ _ _)

theorem callPartial_modeWork (s : State) (p : PartialRun) : ModeWork s (callPartial s p) := by
  unfold callPartial
  split
  · exact .ite (fun _ => .update s s.md _ s.thm s.herd) (fun _ => .update s s.md _ s.thm s.herd)
  · exact .update s s.md _ s.thm s.herd
  · exact .refl s

theorem tagRail_modeWork (s : State) (r : Fin 16) : ModeWork s (tagRail s r) := by
  unfold tagRail
  extract_lets s1
  have h1 : ModeWork s s1 := (UnitWork.modRail s r _).modes
  refine .ite (fun _ => ?_) (fun _ => h1)
  split
  · exact (h1.trans (UnitWork.modRail s1 r _).modes).trans (callPartial_modeWork _ _)
  · exact h1.trans (UnitWork.modRail s1 r _).modes
  · exact h1

theorem dropRestarts_modeWork (s : State) : ModeWork s (dropRestarts s) := by
  unfold dropRestarts
  extract_lets _ s1
  have h1 : ModeWork s s1 := .update s s.md _ s.thm s.herd
  exact .ite (fun _ => h1.trans (idleSqe_modeWork s1)) (fun _ => h1)

theorem enterHoldup_modeWork (s : State) (cause : Nat) : ModeWork s (enterHoldup s cause) := by
  unfold enterHoldup
  extract_lets s1 _ s2 s3
  have h2 : ModeWork s s2 := (enterMode_modeWork s .holdup cause).trans ⟨rfl, fun _ => ⟨rfl, rfl⟩⟩
  refine .ite (fun _ => .ite (fun _ => h2.trans (forcedOff_modeWork s2 8)) (fun _ => ?_))
    (fun _ => (h2.trans (dropRestarts_modeWork s2)).trans (.foldl tagRail_modeWork _ _))
  exact ((h2.trans (beginPowerDown_modeWork s2 8)).trans (forceTiming_modeWork _)).trans (.update _ _ _ _ _)

theorem afterUp_modeWork (s : State) : ModeWork s (afterUp s) :=
  .ite (fun _ => (idleSqe_modeWork s).trans (enterMode_modeWork _ .run 9)) (fun _ => (idleSqe_modeWork s).trans (enterHoldup_modeWork _ 9))

theorem nextStep_modeWork (s : State) : ModeWork s (nextStep s) := by
  have told : ∀ (p : StepPos) h, ModeWork s { s.setPos p with herd := h } := fun p h =>
    (setPos_modeWork s p).trans (.update _ (s.setPos p).md (s.setPos p).sqe (s.setPos p).thm h)
  unfold nextStep
  extract_lets p
  split
  · exact .ite (fun _ => told _ _) (fun _ => .ite (fun _ => setPos_modeWork s _) (fun _ => afterUp_modeWork s))
  iterate 2
    · exact .ite (fun _ => told _ _) (fun _ => .ite (fun _ => setPos_modeWork s _) (fun _ => afterDown_modeWork s))
  · split
    · exact setPos_modeWork s _
    · exact idleSqe_modeWork s
  · exact .refl s
  · split
    · exact .refl s
    · exact .ite (fun _ => .update s s.md _ s.thm s.herd) (fun _ => .update s s.md _ s.thm s.herd)

theorem abortUp_modeWork (s : State) : ModeWork s (abortUp s) :=
  have h := (ModeWork.setReg s 0x2300 8 _).trans
    (collectAt_modeWork (s.orReg 0x2300 8 0x10) 0x0602 (unitCode 9 0) (BitVec.ofNat 16 s.pos.step) (s.orReg 0x2300 8 0x10).now)
  .ite (fun _ => h) (fun _ => h.trans (orderlyStop_modeWork _))

theorem abortRestart_modeWork (s : State) : ModeWork s (abortRestart s) :=
  .ite (fun _ => (abortUp_modeWork s).trans (idleSqe_modeWork _)) (fun _ => abortUp_modeWork s)

theorem abortHandler_modeWork (s : State) : ModeWork s (abortHandler s) :=
  .ite (fun _ => (abortUp_modeWork s).trans (.update _ _ _ _ _)) (fun _ => abortUp_modeWork s)

theorem applyPolicy_modeWork (s : State) (policy : Nat) : ModeWork s (applyPolicy s policy) := by
  have forced : ModeWork s (nextStep (forceTiming (s.orReg 0x2300 8 0x10))) :=
    ((ModeWork.setReg s 0x2300 8 _).trans (forceTiming_modeWork _)).trans (nextStep_modeWork _)
  unfold applyPolicy
  refine .ite (fun _ => (setPos_modeWork s _).trans (.update _ _ _ _ _)) (fun _ => ?_)
  split
  · exact .ite (fun _ => .update s s.md _ s.thm s.herd) (fun _ => .ite (fun _ => nextStep_modeWork s) (fun _ => abortUp_modeWork s))
  · exact .ite (fun _ => forced) (fun _ => nextStep_modeWork s)
  · split
    · exact .ite (fun _ => abortRestart_modeWork s) (fun _ => nextStep_modeWork s)
    · exact .ite (fun _ => forced) (fun _ => nextStep_modeWork s)
  · exact .ite (fun _ => abortHandler_modeWork s) (fun _ => nextStep_modeWork s)
  iterate 2 exact .refl s

theorem failStep_modeWork (s : State) (cause : Nat) : ModeWork s (failStep s cause) := by
  unfold failStep
  extract_lets step s1
  have h1 : ModeWork s s1 := (((ModeWork.setReg s 0x2300 8 _).trans (.setReg _ 0x2300 9 step)).trans
    (.setReg _ 0x2300 0x0A s.now.toNat)).trans (.setReg _ 0x2300 0x0B cause)
  exact (h1.trans (logOnly_unitWork s1 _ _ _).modes).trans (applyPolicy_modeWork _ _)

theorem judgeWaits_modeWork (s : State) : ModeWork s (judgeWaits s) :=
  .ite (fun _ => .refl s) (fun _ => failStep_modeWork s _)

/-- A report of any moment, with what it makes of its unit, the modes and a wait in progress. -/
theorem reportAt_modeWork (s : State) (code unit detail : U16) (stamp : U32) : ModeWork s (reportAt s code unit detail stamp) :=
  (collectAt_modeWork s code unit detail stamp).trans (judgeWaits_modeWork _)

end Sys2Proof.Machine
end

section
namespace Sys2Proof.Machine
open Sys2Proof

/-! ## What a mode's entry leaves -/

/-- A slot granted writes the record of the fewest free slots alone. -/
theorem granted_unitWork (s : State) (p : HostPath) : UnitWork s (granted s p) := by
  unfold granted
  refine .ite (fun _ => .refl s) (fun _ => ?_)
  rw [takeSlot_eq]
  exact .ite (fun _ => .setReg s _ (not_steady (by decide) (by decide))) (fun _ => .refl s)

/-- A mode in which a node takes part in its herd (Table 3-4). -/
def Mode.inHerd : Mode → Bool
  | .ship | .standby | .service => false
  | _ => true

/-- A passage between two modes of the herd leaves whom the node follows. -/
theorem enterMode_herdFollows {s : State} {m : Mode} (hs : s.md.mode.inHerd = true) (hm : m.inHerd = true) (cause : Nat) :
    (enterMode s m cause).herdFollows = s.herdFollows := by
  have runs : ∀ t : State, t.md.mode.inHerd = true → t.herdRuns = (t.ready && (t.reg 0x2D00 1).testBit 0) := by
    intro t ht
    unfold State.herdRuns
    cases hmode : t.md.mode <;> simp_all [Mode.inHerd]
  rw [(enterMode_unitWork s m cause).herdFollows, State.herdFollows, State.herdFollows, runs _ hm, runs _ hs]
  rfl

theorem enterMode_reg {idx sub : Nat} (h : steady idx sub) (s : State) (m : Mode) (cause : Nat) :
    (enterMode s m cause).reg idx sub = s.reg idx sub := (enterMode_unitWork s m cause).reg h

theorem enterMode_stopCause (s : State) (m : Mode) (cause : Nat) : (enterMode s m cause).stopCause = s.stopCause :=
  (enterMode_unitWork s m cause).stopCause

theorem ModeWork.fences {s t : State} (h : ModeWork s t) : t.cmt.fences = s.cmt.fences := by rw [h.frame]

/-- The power-down script stands before its first step, which starts at once on a node that follows no master (R211). -/
theorem beginPowerDown_sqe {s : State} (hm : s.md.mode.inHerd = true) (hf : s.herdFollows = false) (cause : Nat) :
    (beginPowerDown s cause).sqe.stat = .powerDown ∧ (beginPowerDown s cause).sqe.phase = .start ∧
      (beginPowerDown s cause).sqe.step = s.reg 0x2300 3 := by
  have hfollow := enterMode_herdFollows (s := stopSqe s) (m := .shutdown) hm rfl cause
  have hstep : (enterMode (stopSqe s) .shutdown cause).reg 0x2300 3 = s.reg 0x2300 3 := enterMode_reg ⟨by decide, .inr (.inl rfl)⟩ _ _ _
  unfold beginPowerDown
  generalize enterMode (stopSqe s) .shutdown cause = s1 at *
  have hf1 : s1.herdFollows = false := hfollow.trans hf
  have hphase : s1.firstPhase = .start := by rw [State.firstPhase, hf1, if_neg Bool.false_ne_true]
  exact ⟨rfl, hphase, hstep⟩

/-- The reversal begins at the step in progress once that has started (R219). -/
theorem beginReversal_spec (s : State) (cause : Nat) :
    (beginReversal s cause).md.mode = .shutdown ∧ (beginReversal s cause).md.prev = s.md.mode ∧ (beginReversal s cause).md.cause = cause ∧
      (beginReversal s cause).sqe.stat = .reversal ∧ ((beginReversal s cause).reg 0x2300 8).testBit 5 = true ∧
        (s.sqe.phase ≠ .start → (beginReversal s cause).sqe.step = s.sqe.step) := by
  have hmd := enterMode_md (stopSqe s) .shutdown cause
  unfold beginReversal
  generalize enterMode (stopSqe s) .shutdown cause = s1 at *
  refine ⟨congrArg Modes.mode hmd, congrArg Modes.prev hmd, congrArg Modes.cause hmd, rfl, ?_, fun h => if_neg h⟩
  rw [State.reg_orReg, Nat.testBit_or]
  exact Bool.or_eq_true_iff.mpr (.inr rfl)

/-- With no stop cause reached STARTUP stands, its script running and both resets asserted (R211, R287). -/
theorem beginStartup_spec {s : State} (hc : s.stopCause = false) (cause : Nat) :
    (beginStartup s cause).md.mode = .startup ∧ (beginStartup s cause).md.prev = s.md.mode ∧ (beginStartup s cause).sqe.stat = .powerUp ∧
      (beginStartup s cause).pins.rstA = true ∧ (beginStartup s cause).pins.rstB = true := by
  have hk : (s.clrReg 0x2000 8 1).stopCause = s.stopCause := by
    have hr : ∀ i : Fin 16, (s.clrReg 0x2000 8 1).reg (0x2400 + i.1) 0x12 = s.reg (0x2400 + i.1) 0x12 := fun i =>
      State.reg_setReg_ne s _ (by show ((0x2400 + i.1) * 256 + 0x12 : Nat) ≠ 0x2000 * 256 + 8; omega)
    simp only [State.stopCause, hr]
    rfl
  have hmd := enterMode_md (stopSqe (s.clrReg 0x2000 8 1)) .startup cause
  have hstop := (enterMode_stopCause (stopSqe (s.clrReg 0x2000 8 1)) .startup cause).trans (hk.trans hc)
  unfold beginStartup
  generalize enterMode (stopSqe (s.clrReg 0x2000 8 1)) .startup cause = s1 at *
  extract_lets _ _ _ _ _ s2
  have h2 : s2.stopCause = false := hstop
  simp only [h2, Bool.false_and, Bool.false_eq_true, if_false]
  exact ⟨congrArg Modes.mode hmd, congrArg Modes.prev hmd, rfl, rfl, rfl⟩

/-- STANDBY entered, its core domain to go off (R74, R335). -/
theorem enterStandby_spec (s : State) (cause : Nat) :
    (enterStandby s cause).md.mode = .standby ∧ (enterStandby s cause).md.prev = s.md.mode ∧ (enterStandby s cause).can.nmt = .preop ∧
      (enterStandby s cause).pwr.entering = true := by
  have hmd := enterMode_md (stopSqe s) .standby cause
  unfold enterStandby
  generalize enterMode (stopSqe s) .standby cause = s1 at *
  rw [(requestStore_unitWork _ .standby).frame]
  exact ⟨congrArg Modes.mode hmd, congrArg Modes.prev hmd, rfl, rfl⟩

/-- SHIP entered, the core domain no longer wanted (R63). -/
theorem enterShip_spec (s : State) :
    (enterShip s).md.mode = .ship ∧ (enterShip s).md.prev = s.md.mode ∧ (enterShip s).pwr.entering = true ∧
      (enterShip s).pwr.coreWanted = false ∧ (enterShip s).cmt.fences = s.cmt.fences := by
  have hmd := enterMode_md (stopSqe s) .ship 1
  have hc := (stopped_modeWork s .ship 1).fences
  unfold enterShip
  generalize enterMode (stopSqe s) .ship 1 = s1 at *
  rw [(requestStore_unitWork _ .ship).frame]
  exact ⟨congrArg Modes.mode hmd, congrArg Modes.prev hmd, rfl, rfl, hc⟩

/-- SERVICE entered. -/
theorem enterService_md (s : State) (cause : Nat) : (enterService s cause).md =
    { s.md with mode := .service, prev := s.md.mode, stamp := s.now, cause := cause, svcAsked := false } := by
  have hmd := enterMode_md (stopSqe s) .service cause
  unfold enterService
  generalize enterMode (stopSqe s) .service cause = s1 at *
  show { s1.md with svcAsked := false } = _
  rw [hmd]
  rfl

/-! ## MODE writes -/

theorem modeStandby_fences (s : State) : (modeStandby s).cmt.fences = s.cmt.fences := by
  have h1 := clrReq_modeWork s 1
  unfold modeStandby
  split
  · exact (ModeWork.ite (fun _ => .setReg s _ _ _)
      (fun _ => .ite (fun _ => offRequest_modeWork s 1) (fun _ => h1.trans (enterStandby_modeWork _ 1)))).fences
  · exact (h1.trans (enterStandby_modeWork _ 1)).fences
  · exact (offRequest_modeWork s 1).fences

theorem wakeBy_fences (s : State) (w : Wake) : (wakeBy s w).cmt.fences = s.cmt.fences := by
  unfold wakeBy
  split
  · dsimp only
    split <;> rfl
  · rfl

theorem modeRun_fences (s : State) : (modeRun s).cmt.fences = s.cmt.fences := by
  unfold modeRun
  split
  · exact wakeBy_fences s _
  · exact (ModeWork.ite (fun _ => .setReg s _ _ _) (fun _ => onRequest_modeWork s 1)).fences
  · exact (onRequest_modeWork s 1).fences

theorem modeService_modeWork (s : State) : ModeWork s (modeService s) := by
  have hm : ∀ (t : State) (m : Modes), ModeWork t { t with md := m } := fun t m => .update t m t.sqe t.thm t.herd
  unfold modeService
  refine .ite (fun _ => ?_) (fun _ => .ite (fun _ => ?_) (fun _ => (hm s _).trans (enterService_modeWork _ 1)))
  · exact ((hm s _).trans (hm _ _)).trans (offRequest_modeWork _ 1)
  · exact ((hm s _).trans (beginPowerDown_modeWork _ 1)).trans (hm _ _)

theorem modeSafestop_modeWork (s : State) : ModeWork s (modeSafestop s) :=
  .ite (fun _ => reportAt_modeWork s 0x010B (devUnit 7) 0 s.now)
    (fun h => (aonReport_unitWork s _ _ (by simpa using h)).modes.trans (trip_modeWork _ false))

/-- No MODE write begins a fence, so its answer waits for nothing. -/
theorem writeMode_fences (s : State) (x : Nat) : (writeMode s x).cmt.fences = s.cmt.fences := by
  unfold writeMode
  split
  · exact (enterShip_spec s).2.2.2.2
  · exact modeStandby_fences s
  · exact modeRun_fences s
  · exact (modeSafestop_modeWork s).fences
  · exact (modeService_modeWork s).fences
  · rfl

end Sys2Proof.Machine
end

section
namespace Sys2Proof.Machine
open Sys2Proof

/-! ## A MODE write and its answer -/

section
variable {u t : State} (h : Replied u t) (old : State)
include h

theorem Replied.settle_md : (settle old t).md = u.md := h.same State.md fun _ _ _ _ => rfl
theorem Replied.settle_pwr : (settle old t).pwr = u.pwr := h.same State.pwr fun _ _ _ _ => rfl
theorem Replied.settle_sqe : (settle old t).sqe = u.sqe := h.same State.sqe fun _ _ _ _ => rfl
theorem Replied.settle_pins : (settle old t).pins = u.pins := h.same State.pins fun _ _ _ _ => rfl
theorem Replied.settle_latch : (settle old t).latch = u.latch := h.same State.latch fun _ _ _ _ => rfl
theorem Replied.settle_herd : (settle old t).herd = u.herd := h.same State.herd fun _ _ _ _ => rfl
theorem Replied.settle_nmt : (settle old t).can.nmt = u.can.nmt := h.same (·.can.nmt) fun _ _ _ _ => rfl

theorem Replied.settle_reg {idx sub : Nat} (hk : countsKey (key idx sub) = false) : (settle old t).reg idx sub = u.reg idx sub :=
  (Sys2Proof.Machine.settle_reg old t hk).trans (h.same (·.reg idx sub) fun _ _ _ _ => rfl)

end

/-- A MODE write that its checks let pass: its effect, with the answer that it was accepted. -/
theorem mode_after {s : State} {p : HostPath} (h : s.hears p) {c : Instr} {x : Nat} (he : exec c s = done s (hostPut s p 0x2000 1 1 x))
    (hx : x ∈ [0, 1, 3, 6, 7]) (hok : s.modeWriteOk x = true) {P : State → Prop}
    (hP : ∀ t, Replied (writeMode (granted s p) x) t → P (settle s t)) : s.after c fun t => t.took p ∧ P t := by
  obtain ⟨hr, ht⟩ := mode_accepted h hx hok (writeMode_fences _ x)
  exact after_of_done he ⟨ht, hP _ hr⟩

/-- What a MODE write finds of the modes once its slot is granted. -/
theorem granted_modes (s : State) (p : HostPath) :
    (granted s p).md = s.md ∧ (granted s p).latch = s.latch ∧ (granted s p).sqe = s.sqe ∧ (granted s p).herdFollows = s.herdFollows ∧
      (granted s p).stopCause = s.stopCause ∧ (granted s p).reg 0x2300 3 = s.reg 0x2300 3 := by
  have h := granted_unitWork s p
  have hr := granted_regs s p
  exact ⟨by rw [hr], by rw [hr], by rw [hr], h.herdFollows, h.stopCause, h.reg ⟨by decide, .inr (.inl rfl)⟩⟩

/-- A held request cleared leaves whom the node follows. -/
theorem clrReq_herdFollows (s : State) (m : Nat) : (s.clrReg 0x2000 8 m).herdFollows = s.herdFollows := by
  have h : (s.clrReg 0x2000 8 m).reg 0x2D00 1 = s.reg 0x2D00 1 := State.reg_setReg_ne s _ (by decide)
  simp only [State.herdFollows, State.herdRuns, State.herdRole, h]
  rfl

/-- An off request in RUN or HOLDUP on a node that follows no master begins the power-down (R71). -/
theorem offRequest_of_run {s : State} (hm : s.md.mode = .run ∨ s.md.mode = .holdup) (hf : s.herdFollows = false) (cause : Nat) :
    offRequest s cause = beginPowerDown (s.clrReg 0x2000 8 1) cause := by
  rw [offRequest, hf, if_neg Bool.false_ne_true]
  rcases hm with hm | hm <;> simp [offNow, hm]

theorem offRequest_of_startup {s : State} (hm : s.md.mode = .startup) (hf : s.herdFollows = false) (cause : Nat) :
    offRequest s cause = beginReversal (s.clrReg 0x2000 8 1) cause := by
  rw [offRequest, hf, if_neg Bool.false_ne_true]
  simp [offNow, hm]

/-- A MODE write of 1 outside SAFESTOP and SERVICE is an off request (R71). -/
theorem modeStandby_of_other {s : State} (h : s.md.mode ≠ .safestop) (k : s.md.mode ≠ .service) : modeStandby s = offRequest s 1 := by
  unfold modeStandby
  split
  · exact absurd ‹_› h
  · exact absurd ‹_› k
  · rfl

theorem modeStandby_enters {s : State}
    (h : s.md.mode = .service ∨ s.md.mode = .safestop ∧ s.latch.set = false ∧ s.herdFollows = false) :
    modeStandby s = enterStandby (s.clrReg 0x2000 8 1) 1 := by
  rcases h with hm | ⟨hm, hl, hf⟩
  · simp [modeStandby, hm]
  · simp [modeStandby, hm, hl, hf]

/-- The rails of SERVICE turned off before STARTUP are the units' work. -/
theorem modeRun_enters {s : State} (h : s.md.mode = .service ∨ s.md.mode = .safestop ∧ s.latch.set = false) (hf : s.herdFollows = false) :
    ∃ u, UnitWork s u ∧ modeRun s = beginStartup u 1 := by
  rcases h with hm | ⟨hm, hl⟩
  · exact ⟨_, .foldl (fun t r => devDisable_unitWork t r true) s.railList s, by simp [modeRun, hm, onRequest, hf, onNow]⟩
  · exact ⟨s, .refl s, by simp [modeRun, hm, hl, onRequest, hf, onNow]⟩

/-- With the dictionary open a MODE write of 6 is a report of class F, which trips (R71, R296). -/
theorem modeSafestop_trips {s : State} (h : s.ready = true) : Trips s (modeSafestop s) := by
  have hl := ready_live h
  rw [modeSafestop, if_pos hl]
  exact report_trips hl (rowFor_of_ne (code := 0x010B) _ (by decide) (devUnit 7)) rfl 0

theorem ready_not_booting {s : State} (h : s.ready = true) : s.booting = false := by
  simp only [State.ready, State.isOpen, Bool.and_eq_true, beq_iff_eq] at h
  simp [State.booting, h.1]

/-- R82 allows a MODE write of 7 in RUN and SAFESTOP alone, so a node in RUN that follows no master begins the power-down. -/
theorem modeService_of_run {s : State} (hm : s.md.mode = .run) (hf : s.herdFollows = false) :
    modeService s = { beginPowerDown { s with md := { s.md with svcStat := 0 } } 1 with
      md := { (beginPowerDown { s with md := { s.md with svcStat := 0 } } 1).md with svcAsked := true } } := by
  have hf' : ({ s with md := { s.md with svcStat := 0 } } : State).herdFollows = false := hf
  unfold modeService
  rw [if_neg (by rw [hf']; simp), if_pos hm]

theorem modeService_of_safestop {s : State} (hm : s.md.mode = .safestop) :
    modeService s = enterService { s with md := { s.md with svcStat := 0 } } 1 := by
  unfold modeService
  rw [if_neg (by simp [hm]), if_neg (by simp [hm])]

/-- Settles O18: the write is accepted whatever it does, since no MODE write begins a fence; each mode entry records its transition. -/
theorem modeWritesEnterModes : Obligations.ModeWritesEnterModes := by
  intro s p h
  obtain ⟨gmd, glatch, gsqe, gfollow, gstop, gstep⟩ := granted_modes s p
  have gready : (granted s p).ready = true := by rw [granted_regs]; exact h.1
  refine ⟨fun hm hv => ?ship, fun hm => ?standby, fun hf => ⟨fun hm => ?down, fun hm => ?reversal, fun hs hm => ?svcRun⟩,
    fun hf hm => ?follower, fun hm hf hc => ?run, fun hm => ?trip, fun hs hm => ?svc⟩
  case ship =>
    refine mode_after h (x := 0) rfl (by simp) (by simp [State.modeWriteOk, hm, hv]) fun t hr => ?_
    obtain ⟨hmode, hprev, hent, hwant, -⟩ := enterShip_spec (granted s p)
    rw [hr.settle_md, hr.settle_pwr]
    exact ⟨hmode, hprev.trans (by rw [gmd, hm]), hent, hwant⟩
  case standby =>
    refine mode_after h (x := 1) rfl (by simp) (by rcases hm with hm | ⟨hm, -⟩ <;> simp [State.modeWriteOk, hm]) fun t hr => ?_
    obtain ⟨hmode, hprev, hnmt, hent⟩ := enterStandby_spec ((granted s p).clrReg 0x2000 8 1) 1
    rw [writeMode, modeStandby_enters (by rw [gmd, glatch, gfollow]; exact hm)] at hr
    rw [hr.settle_md, hr.settle_nmt, hr.settle_pwr]
    exact ⟨hmode, hprev.trans (congrArg Modes.mode gmd), hnmt, hent⟩
  case down =>
    refine mode_after h (x := 1) rfl (by simp) (by rcases hm with hm | hm <;> simp [State.modeWriteOk, hm]) fun t hr => ?_
    have hherd : ((granted s p).clrReg 0x2000 8 1).md.mode.inHerd = true := by
      show (granted s p).md.mode.inHerd = true
      rcases hm with hm | hm <;> simp [gmd, hm, Mode.inHerd]
    obtain ⟨hstat, hphase, hstep⟩ := beginPowerDown_sqe hherd (by rw [clrReq_herdFollows, gfollow, hf]) 1
    have hstep' : ((granted s p).clrReg 0x2000 8 1).reg 0x2300 3 = s.reg 0x2300 3 := (State.reg_setReg_ne _ _ (by decide)).trans gstep
    rw [writeMode, modeStandby_of_other (by rcases hm with hm | hm <;> simp [gmd, hm]) (by rcases hm with hm | hm <;> simp [gmd, hm]),
      offRequest_of_run (by rw [gmd]; exact hm) (gfollow.trans hf)] at hr
    rw [hr.settle_md, hr.settle_sqe, beginPowerDown_md]
    exact ⟨rfl, congrArg Modes.mode gmd, rfl, hstat, hphase, hstep.trans hstep'⟩
  case reversal =>
    refine mode_after h (x := 1) rfl (by simp) (by simp [State.modeWriteOk, hm]) fun t hr => ?_
    obtain ⟨hmode, hprev, hcause, hstat, hflag, hstep⟩ := beginReversal_spec ((granted s p).clrReg 0x2000 8 1) 1
    rw [writeMode, modeStandby_of_other (by simp [gmd, hm]) (by simp [gmd, hm]),
      offRequest_of_startup (by rw [gmd, hm]) (gfollow.trans hf)] at hr
    rw [hr.settle_md, hr.settle_sqe, hr.settle_reg s (by decide)]
    have gs : ((granted s p).clrReg 0x2000 8 1).sqe = s.sqe := gsqe
    exact ⟨hmode, hprev.trans (show (granted s p).md.mode = _ by rw [gmd, hm]), hcause, hstat, hflag,
      fun hp => by rw [gs] at hstep; exact hstep hp⟩
  case svcRun =>
    refine mode_after h (x := 7) rfl (by simp) (by simpa [State.modeWriteOk] using hs) fun t hr => ?_
    rw [writeMode, modeService_of_run (by rw [gmd, hm]) (gfollow.trans hf)] at hr
    rw [hr.settle_md, hr.settle_sqe, beginPowerDown_md]
    exact ⟨rfl, by rw [gmd, hm], rfl, rfl, rfl⟩
  case follower =>
    refine mode_after h (x := 1) rfl (by simp) (by rcases hm with hm | hm | hm <;> simp [State.modeWriteOk, hm]) fun t hr => ?_
    rw [writeMode, modeStandby_of_other (by rcases hm with hm | hm | hm <;> simp [gmd, hm])
      (by rcases hm with hm | hm | hm <;> simp [gmd, hm]), offRequest, if_pos (gfollow.trans hf)] at hr
    rw [hr.settle_md, hr.settle_herd]
    exact ⟨gmd, rfl⟩
  case run =>
    refine mode_after h (x := 3) rfl (by simp) (by rcases hm with hm | ⟨hm, -⟩ <;> simp [State.modeWriteOk, hm]) fun t hr => ?_
    obtain ⟨u, hu, e⟩ := modeRun_enters (s := granted s p) (by rw [gmd, glatch]; exact hm) (gfollow.trans hf)
    have umd : u.md = s.md := by rw [hu.frame]; exact gmd
    obtain ⟨hmode, hprev, hstat, ha, hb⟩ := beginStartup_spec (hu.stopCause.trans (gstop.trans hc)) 1
    rw [writeMode, e] at hr
    rw [hr.settle_md, hr.settle_sqe, hr.settle_pins]
    exact ⟨hmode, hprev.trans (by rw [umd]), hstat, ha, hb⟩
  case trip =>
    refine mode_after h (x := 6) rfl (by simp) (by simpa [State.modeWriteOk] using hm) fun t hr => ?_
    have ht := modeSafestop_trips gready
    have hset : (settle s t).latch.set = true := by rw [hr.settle_latch]; exact ht.latched
    exact ⟨hset, by rw [hr.settle_md]; exact ht.safestop (ready_not_booting gready) (by rw [gmd]; exact hm), (safe_of_latched hset).1⟩
  case svc =>
    refine mode_after h (x := 7) rfl (by simp) (by simpa [State.modeWriteOk] using hs) fun t hr => ?_
    rw [writeMode, modeService_of_safestop (by rw [gmd, hm])] at hr
    rw [hr.settle_md, enterService_md]
    exact ⟨rfl, by rw [gmd, hm], rfl⟩

end Sys2Proof.Machine
end

section
namespace Sys2Proof.Machine
open Sys2Proof

/-! ## The core clock restarts -/

/-- The core clock runs and the collector has caught up with what was put off. -/
structure CaughtUp (t : State) : Prop where
  live : t.live = true
  ungated : t.pwr.gated = false
  locks : t.pwr.pllLock = true ∧ t.pwr.dllLock = true
  clock : t.latch.clock = false
  noted : t.aon.waiting = []
  paid : t.pwr.owed = []

theorem ModeWork.caughtUp {s t : State} (h : ModeWork s t) (k : CaughtUp s) : CaughtUp t where
  live := h.live.trans k.live
  ungated := by rw [h.frame]; exact k.ungated
  locks := by rw [h.frame]; exact k.locks
  clock := by rw [h.frame]; exact k.clock
  noted := (h.prompt k.live).2.trans k.noted
  paid := (h.prompt k.live).1.trans k.paid

theorem UnitWork.caughtUp {s t : State} (h : UnitWork s t) (k : CaughtUp s) : CaughtUp t := h.modes.caughtUp k

/-- What the collector is owed is reported, and while its clock runs nothing new is owed. -/
theorem reportOwed_modeWork (s : State) : ModeWork { s with pwr := { s.pwr with owed := [] } } (reportOwed s) :=
  .foldl (fun t _ => reportAt_modeWork t _ _ 0 _) _ _

/-- The AON record's reports are entered in the log, and none waits any more. -/
theorem enterAon_unitWork (s : State) : ∃ u, UnitWork s u ∧ enterAon s = { u with aon := { u.aon with waiting := [] } } := by
  refine ⟨_, .foldl (fun t w => ?_) _ s, rfl⟩
  show UnitWork t (match faultRow w.code with | none => t | some row => addEntry t _)
  split
  · exact .refl t
  · exact addEntry_unitWork t _

/-- The pin events latched are entered, and none stays latched. -/
theorem enterPins_modeWork (s : State) (aon : Bool) :
    ∃ u, ModeWork s u ∧ enterPins s aon = { u with pins := { u.pins with latched := [] } } := by
  refine ⟨_, .foldl (fun t p => ?_) _ s, rfl⟩
  have h1 : ModeWork t (t.orReg 0x2300 0x0F (2 ^ p.1)) := .setReg t _ _ _
  exact .ite (fun _ => h1) (fun _ => h1.trans (addEntry_unitWork _ _).modes)

theorem vinGone_modeWork (s : State) : ModeWork s (vinGone s) :=
  .ite (fun _ => enterHoldup_modeWork s 7) (fun _ => .ite
    (fun _ => (clrReq_modeWork s 4).trans (enterStandby_modeWork _ 7)) (fun _ => (chgSettle_unitWork s).modes))

theorem askSearch_unitWork (s : State) : UnitWork s (askSearch s) := (askSearch_onlyChg s).unitWork

theorem backToRun_modeWork (s : State) : ModeWork s (backToRun s) := by
  unfold backToRun
  extract_lets m s1 s2
  have h1 : ModeWork s s1 := (askSearch_unitWork s).modes.trans (enterMode_modeWork _ .run 6)
  have h2 : ModeWork s1 s2 := (UnitWork.foldl (fun t r => .modRail t r _) _ s1).modes
  exact (h1.trans h2).trans (.ite (fun _ => .refl s2) (fun _ => callPartial_modeWork s2 _))

theorem vinQualified_modeWork (s : State) : ModeWork s (vinQualified s) :=
  .ite (fun _ => backToRun_modeWork s) (fun _ => .ite
    (fun _ => (clrReq_modeWork s 4).trans (beginStartup_modeWork _ 6)) (fun _ => .refl s))

theorem pinAct_modeWork (s : State) (b : Nat) : ModeWork s (pinAct s b) := by
  unfold pinAct
  split
  · exact .ite (fun _ => onRequest_modeWork s 2) (fun _ => .refl s)
  · exact .ite (fun _ => forcedOff_modeWork s 3) (fun _ => .refl s)
  · exact .ite (fun _ => enterStandby_modeWork s 12) (fun _ => .refl s)
  · refine .ite (fun _ => ?_) (fun _ => .refl s)
    split
    · exact offRequest_modeWork s 14
    · exact forcedOff_modeWork s 14
    · exact .refl s
  · exact .refl s

/-- What the AON island saw in the gap acts through the modes alone. -/
theorem afterGap_caughtUp {s : State} (h : CaughtUp s) : CaughtUp (afterGap s) := by
  unfold afterGap
  split
  · extract_lets _ s0 s1 s2 pins
    have h0 : CaughtUp s0 := ⟨h.live, h.ungated, h.locks, h.clock, h.noted, h.paid⟩
    have h1 : CaughtUp s1 := (ModeWork.ite (fun _ => vinGone_modeWork s0)
      (fun _ => .ite (fun _ => vinQualified_modeWork s0) (fun _ => .refl s0))).caughtUp h0
    have h2 : CaughtUp s2 := (UnitWork.ite (fun _ => (askSearch_unitWork s1).trans (chgSettle_unitWork _))
      (fun _ => .refl s1)).caughtUp h1
    obtain ⟨u, hu, e⟩ := enterPins_modeWork s2 false
    have hk := hu.caughtUp h2
    have h3 : CaughtUp (enterPins s2 false) := by
      rw [e]
      exact ⟨hk.live, hk.ungated, hk.locks, hk.clock, hk.noted, hk.paid⟩
    exact (ModeWork.foldl pinAct_modeWork _ _).caughtUp h3
  · exact h

/-- After the gap nothing is put off (R54). -/
theorem coreClockRestart_caughtUp {s : State} (hg : s.pwr.gated = true) (hc : s.coreOn = true) : CaughtUp (doCoreClockRestart s) := by
  rw [doCoreClockRestart, if_pos hg]
  extract_lets _ _ s1
  rw [if_pos (show s1.coreOn = true from hc)]
  have hlive : s1.live = true := by
    show (s.coreOn && !false) = true
    rw [hc]
    rfl
  have h := reportOwed_modeWork s1
  obtain ⟨u, hu, e⟩ := enterAon_unitWork (reportOwed s1)
  have hall := h.trans hu.modes
  have ha : CaughtUp (enterAon (reportOwed s1)) := by
    rw [e]
    exact ⟨hall.live.trans hlive, by rw [hall.frame], by rw [hall.frame]; exact ⟨rfl, rfl⟩, by rw [hall.frame], rfl,
      (hall.prompt hlive).1⟩
  have hsearch : ∀ t, UnitWork t (searchOwed t) := fun t => .ite (fun _ => askSearch_unitWork t) (fun _ => .refl t)
  exact afterGap_caughtUp ((((applyHolds_unitWork _).trans (chgSettle_unitWork _)).trans (hsearch _)).caughtUp ha)

end Sys2Proof.Machine
end

section
namespace Sys2Proof.Machine
open Sys2Proof

/-! ## A crystal-loss gap -/

/-- The core domain is on and its clock is gated. -/
def State.inGap (s : State) : Prop := s.coreOn = true ∧ s.pwr.gated = true

/-- `q` is in the state of `p`, with its gates. -/
def Port.Alike (p q : Port) : Prop := q.state = p.state ∧ q.gh = p.gh ∧ q.gl = p.gl

/-- What the rails' side of a hold does in a gap: no port moves, and only losses of power-good are put off. -/
structure GapWork (s t : State) : Prop where
  inGap : t.inGap
  owed : ∃ l, t.pwr.owed = s.pwr.owed ++ l ∧ ∀ o ∈ l, o.1 = 0x0406
  ports : ∀ n : Fin 32, s.ports[n].Alike t.ports[n]

/-- Operations whose work in a gap is of that kind. -/
def InGap (f : State → State) : Prop := ∀ s, s.inGap → GapWork s (f s)

theorem GapWork.refl {s : State} (h : s.inGap) : GapWork s s := ⟨h, ⟨[], by simp, by simp⟩, fun _ => ⟨rfl, rfl, rfl⟩⟩

theorem GapWork.trans {s t u : State} (h : GapWork s t) (k : GapWork t u) : GapWork s u := by
  obtain ⟨l, hl, hc⟩ := h.owed
  obtain ⟨m, hm, hd⟩ := k.owed
  refine ⟨k.inGap, ⟨l ++ m, by rw [hm, hl, List.append_assoc], fun o ho => (List.mem_append.mp ho).elim (hc o) (hd o)⟩, fun n => ?_⟩
  have ⟨a, b, c⟩ := h.ports n
  have ⟨a', b', c'⟩ := k.ports n
  exact ⟨a'.trans a, b'.trans b, c'.trans c⟩

theorem InGap.id : InGap fun s => s := fun _ => .refl

theorem GapWork.foldl {α : Type} {f : State → α → State} (h : ∀ a, InGap fun s => f s a) (l : List α) : InGap fun s => l.foldl f s := by
  induction l with
  | nil => exact .id
  | cons a t ih => exact fun s hs => (h a s hs).trans (ih _ (h a s hs).inGap)

theorem GapWork.modRail {s : State} (h : s.inGap) (r : Fin 16) (f : Rail → Rail) : GapWork s (s.modRail r f) :=
  ⟨h, ⟨[], by simp, by simp⟩, fun _ => ⟨rfl, rfl, rfl⟩⟩

theorem inGap_not_live {s : State} (h : s.inGap) : s.live = false := by simp [State.live, h.2]

/-- In a gap a loss of power-good is owed to the collector (R54). -/
theorem withdrawPg_gap {s : State} (h : s.inGap) (r : Fin 16) (loss : Bool) : GapWork s (withdrawPg s r loss) := by
  unfold withdrawPg
  extract_lets s1 s2
  have h1 : GapWork s s1 := .modRail h r _
  split
  · have hl : (s2.live || !s2.coreOn) = false := by
      rw [show s2.live = false from inGap_not_live h1.inGap, show s2.coreOn = true from h1.inGap.1]
      rfl
    rw [hl, if_neg Bool.false_ne_true]
    exact ⟨h, ⟨[_], rfl, fun o ho => by rw [List.mem_singleton.mp ho]⟩, fun _ => ⟨rfl, rfl, rfl⟩⟩
  · exact h1

theorem railChanged_gap {s : State} (h : s.inGap) (r : Fin 16) (old : RailState) (off : Bool) : GapWork s (railChanged s r old off) := by
  unfold railChanged
  extract_lets new s1
  split
  · exact .refl h
  · have h1 : GapWork s s1 := by
      unfold s1
      split
      · exact withdrawPg_gap h r _
      · exact .refl h
    exact h1.trans (.modRail h1.inGap r _)

/-- Every port is held in a gap (R111). -/
theorem holds_of_gap {s : State} (h : s.inGap) (n : Fin 32) : s.holds n = true := by simp [State.holds, h.2]

theorem startRail_gap {s : State} (h : s.inGap) (r : Fin 16) : GapWork s (startRail s r) := by
  unfold startRail
  extract_lets old s1
  have h1 : GapWork s s1 := .modRail h r _
  have hp : InGap fun t => (s1.members r).foldl (fun s n => startPort s r n) t := .foldl (fun n t ht => by
    show GapWork t (startPort t r n)
    rw [startPort, if_pos (.inr (.inl (holds_of_gap ht n)))]
    exact .refl ht) _
  have h2 := h1.trans (hp s1 h1.inGap)
  exact h2.trans (railChanged_gap h2.inGap r old false)

theorem holdRail_gap {s : State} (h : s.inGap) (r : Fin 16) (old : RailState) : GapWork s (holdRail s r old) := by
  have step : ∀ f : Rail → Rail, GapWork s (s.modRail r f) := .modRail h r
  unfold holdRail
  split
  · exact .refl h
  split
  · exact (step _).trans (railChanged_gap (step _).inGap r _ _)
  split
  · split
    · exact (step _).trans (startRail_gap (step _).inGap r)
    · exact (step _).trans (railChanged_gap (step _).inGap r _ _)
  · exact railChanged_gap h r _ _

theorem GapWork.modPort {s : State} (h : s.inGap) (n : Fin 32) (f : Port → Port) (hf : s.ports[n].Alike (f s.ports[n])) :
    GapWork s (s.modPort n f) := by
  refine ⟨h, ⟨[], by simp, by simp⟩, fun m => ?_⟩
  by_cases hm : m = n
  · subst hm
    rw [State.modPort_ports_self]
    exact hf
  · rw [State.modPort_ports_ne s f hm]
    exact ⟨rfl, rfl, rfl⟩

theorem rephase_gap {s : State} (h : s.inGap) (r : Fin 16) : GapWork s (rephase s r) := by
  unfold rephase
  split
  · exact .refl h
  · exact GapWork.foldl (f := fun t n => t.modPort n _) (fun n t ht => .modPort ht n _ ⟨rfl, rfl, rfl⟩) _ s h

theorem restartDwell_gap {s : State} (h : s.inGap) (r : Fin 16) : GapWork s (restartDwell s r) :=
  have h1 : GapWork s (s.modRail r fun x => { x with dwell := 0, spacing := 0 }) := .modRail h r _
  h1.trans (rephase_gap h1.inGap r)

/-- A port as its hold leaves it. -/
def Port.heldDown (p : Port) : Port := if p.state = .off ∨ p.state = .fenced ∨ p.state = .held then p else p.still .held

theorem Port.heldDown_heldDown (p : Port) : p.heldDown.heldDown = p.heldDown := by
  by_cases h : p.state = .off ∨ p.state = .fenced ∨ p.state = .held
  · rw [Port.heldDown.eq_def p, if_pos h, Port.heldDown, if_pos h]
  · rw [Port.heldDown.eq_def p, if_neg h, Port.heldDown, if_pos (.inr (.inr rfl))]

/-- A held port that is neither OFF nor FENCED is HELD, its gates low unless it was held before. -/
theorem Port.heldDown_spec {p : Port} (ho : p.state ≠ .off) (hf : p.state ≠ .fenced) :
    p.heldDown.state = .held ∧ (p.state ≠ .held → p.heldDown.gh = false ∧ p.heldDown.gl = false) := by
  by_cases hh : p.state = .held
  · rw [Port.heldDown, if_pos (.inr (.inr hh))]
    exact ⟨hh, fun h => absurd hh h⟩
  · rw [Port.heldDown, if_neg (by simp [ho, hf, hh])]
    exact ⟨rfl, fun _ => ⟨rfl, rfl⟩⟩

theorem holdPort_onlyPorts (s : State) (n : Fin 32) : OnlyPorts s (holdPort s n) := by
  unfold holdPort
  split
  iterate 2 exact .refl s
  · refine .ite (fun _ => .refl s) (fun _ => ?_)
    split
    · exact modPort_onlyPorts s n _
    · exact .ite (fun _ => modPort_onlyPorts s n _) (fun _ => modPort_onlyPorts s n _)
  · exact .ite (fun _ => modPort_onlyPorts s n _) (fun _ => .refl s)

theorem holdPort_ports_self {s : State} {n : Fin 32} (h : s.holds n = true) : (holdPort s n).ports[n] = s.ports[n].heldDown := by
  unfold holdPort
  split
  · next hs => rw [Port.heldDown, if_pos (.inl hs)]
  · next hs => rw [Port.heldDown, if_pos (.inr (.inl hs))]
  · next hs => rw [if_pos h, Port.heldDown, if_pos (.inr (.inr hs))]
  · next h1 h2 h3 =>
    rw [if_pos h, State.modPort_ports_self, Port.heldDown, if_neg]
    rintro (e | e | e)
    exacts [h1 e, h2 e, h3 e]

theorem holdPort_ports_ne (s : State) {n m : Fin 32} (h : m ≠ n) : (holdPort s n).ports[m] = s.ports[m] := by
  have keep : ∀ f : Port → Port, (s.modPort n f).ports[m] = s.ports[m] := fun f => State.modPort_ports_ne s f h
  unfold holdPort
  split
  iterate 2 rfl
  · split
    · rfl
    split
    · exact keep _
    · split
      · exact keep _
      · exact keep _
  · split
    · exact keep _
    · rfl

/-- Ports held one by one, while everything holds them. -/
theorem foldl_holdPort_ports (l : List (Fin 32)) {s : State} (h : s.inGap) (n : Fin 32) :
    (l.foldl holdPort s).ports[n] = if n ∈ l then s.ports[n].heldDown else s.ports[n] := by
  induction l generalizing s with
  | nil => simp
  | cons a t ih =>
    have hk : (holdPort s a).inGap := by rw [(holdPort_onlyPorts s a).frame]; exact h
    rw [List.foldl_cons, ih hk]
    by_cases ha : n = a
    · subst ha
      rw [holdPort_ports_self (holds_of_gap h n)]
      simp [Port.heldDown_heldDown]
    · rw [holdPort_ports_ne s ha]
      simp [ha]

/-- Holds applied in a gap: every port of the variant is held, and only losses of power-good are put off. -/
theorem applyHolds_gap {s : State} (h : s.inGap) :
    GapWork (s.portList.foldl holdPort s) (applyHolds s) ∧ OnlyPorts s (s.portList.foldl holdPort s) := by
  have ho : OnlyPorts s (s.portList.foldl holdPort s) := .foldl holdPort_onlyPorts _ s
  refine ⟨GapWork.foldl (fun x t ht => ?_) _ _ (by rw [ho.frame]; exact h), ho⟩
  have hr := holdRail_gap ht x.1 x.2
  show GapWork t (if _ then _ else _)
  split
  · exact hr.trans (restartDwell_gap hr.inGap x.1)
  · exact hr

/-- The state at step 2 of Table 2-3, before the ports are held: the core clock gated, the loss counted and owed. -/
def gapBegun (s : State) : State :=
  let s1 := s.bump 0x2000 0x23 0xFFFF 1
  { s1 with pwr := { s1.pwr with xtalOk := false, gated := true, refAon := true, pllLock := false, dllLock := false,
                                 owed := s1.pwr.owed ++ [(0x0107, unitCode 0 5, s.now)] } }

/-- Settles O15: in a gap the holds reach every port, and what they put off comes after the loss itself; when the clock runs again
nothing is put off any more. -/
theorem coreClockLossAndReturn : Obligations.CoreClockLossAndReturn := by
  intro s
  refine ⟨fun hc hg hx hr => ?_, fun hg hc => ?_, fun hl hd => ?_, fun hl hp => ?_⟩
  · refine after_of_done (u := doCrystalLoss s) rfl ?_
    have e : doCrystalLoss s = applyHolds (gapBegun s) := by
      rw [doCrystalLoss, if_pos ⟨hc, hg, hx, hr⟩]
      rfl
    have hgap : (gapBegun s).inGap := ⟨hc, rfl⟩
    obtain ⟨hwork, hports⟩ := applyHolds_gap hgap
    have hunit := applyHolds_unitWork (gapBegun s)
    rw [e]
    generalize applyHolds (gapBegun s) = t at *
    have hpwr : t.pwr = { (gapBegun s).pwr with owed := t.pwr.owed, vstoreChg := t.pwr.vstoreChg } := by rw [hunit.frame]
    obtain ⟨l, hl, hpg⟩ := hwork.owed
    rw [hports.frame] at hl
    have hlen : s.pwr.owed.length + 1 = (s.pwr.owed ++ [((0x0107 : U16), unitCode 0 5, s.now)]).length := by simp
    have howed : (settle s t).pwr.owed = (s.pwr.owed ++ [(0x0107, unitCode 0 5, s.now)]) ++ l := hl
    refine ⟨congrArg Power.gated hpwr, congrArg Power.refAon hpwr, congrArg Power.xtalOk hpwr, ?_, ?_, ?_, fun n hn hoff hfen => ?_⟩
    · rw [howed, hlen, List.take_left]
      rfl
    · rw [howed, hlen, List.drop_left]
      simpa using hpg
    · rw [settle_reg s t (by decide), hunit.reg ⟨by decide, .inl rfl⟩]
      exact State.reg_bump s 0x2000 0x23 0xFFFF 1
    · have hmem : n ∈ (gapBegun s).portList := by
        simp only [State.portList, List.mem_filter, List.mem_finRange, true_and, decide_eq_true_eq]
        exact hn
      have hp := foldl_holdPort_ports (gapBegun s).portList hgap n
      rw [if_pos hmem] at hp
      obtain ⟨hstate, hgates⟩ := Port.heldDown_spec (p := s.ports[n]) hoff hfen
      obtain ⟨ha, hb, hc⟩ := hwork.ports n
      rw [hp] at ha hb hc
      exact ⟨ha.trans hstate, fun hh => ⟨hb.trans (hgates hh).1, hc.trans (hgates hh).2⟩⟩
  · refine after_of_done (u := doCoreClockRestart s) rfl ?_
    have h := coreClockRestart_caughtUp hg hc
    exact ⟨h.ungated, h.locks.1, h.locks.2, h.clock, h.noted, h.paid⟩
  · refine after_of_done (u := doDllUnlock s) rfl ?_
    rw [doDllUnlock, if_pos ⟨hl, hd⟩]
    exact congrArg Power.dllLock (report_later { s with pwr := { s.pwr with dllLock := false } } 0x0108 (devUnit 5) 0).pwr
  · refine becomes_of_done ?_
    show done s (doDllRelock s) = _
    rw [doDllRelock, if_pos ⟨hl, hp⟩]

end Sys2Proof.Machine
end

section
namespace Sys2Proof.Machine
open Sys2Proof

/-! ## Step 7 of the power-on order -/

/-- What step 7 has set stands: the supplies and straps, the engines, the trims of the converters. -/
structure CoreStands (s t : State) : Prop where
  variant : t.variant = s.variant
  pwr : t.pwr = s.pwr
  engines : t.engines = s.engines
  vc : t.vc = s.vc
  trims : ∀ n : Fin 33, t.sc[n].gain = s.sc[n].gain ∧ t.sc[n].offset = s.sc[n].offset

theorem CoreStands.refl (s : State) : CoreStands s s := ⟨rfl, rfl, rfl, rfl, fun _ => ⟨rfl, rfl⟩⟩

theorem CoreStands.trans {s t u : State} (h : CoreStands s t) (k : CoreStands t u) : CoreStands s u :=
  ⟨k.variant.trans h.variant, k.pwr.trans h.pwr, k.engines.trans h.engines, k.vc.trans h.vc,
    fun n => ⟨(k.trims n).1.trans (h.trims n).1, (k.trims n).2.trans (h.trims n).2⟩⟩

theorem CoreStands.foldl {α : Type} {f : State → α → State} (h : ∀ s a, CoreStands s (f s a)) (l : List α) :
    ∀ s, CoreStands s (l.foldl f s) := by
  induction l with
  | nil => exact CoreStands.refl
  | cons a t ih => exact fun s => (h s a).trans (ih _)

/-- A change of anything else. -/
theorem CoreStands.of_same {s t : State} (h : (t.variant, t.pwr, t.engines, t.vc, t.sc) = (s.variant, s.pwr, s.engines, s.vc, s.sc)) :
    CoreStands s t := by
  simp only [Prod.mk.injEq] at h
  obtain ⟨hv, hp, he, hc, hs⟩ := h
  exact ⟨hv, hp, he, hc, fun n => by rw [hs]; exact ⟨rfl, rfl⟩⟩

theorem Noted.coreStands {s t : State} (h : Noted s t) : CoreStands s t := .of_same (by rw [h.frame])

theorem recoverPairs_coreStands (s : State) : CoreStands s (recoverPairs s) := by
  unfold recoverPairs
  refine .foldl (fun _ _ => ?_) _ s
  exact .of_same rfl

theorem recoverLog_coreStands (s : State) : CoreStands s (recoverLog s) := by
  unfold recoverLog
  split <;> exact .of_same rfl

theorem recoverLedger_coreStands (s : State) : CoreStands s (recoverLedger s) := by
  unfold recoverLedger
  split <;> exact .of_same rfl

theorem recoverCounters_coreStands (s : State) : CoreStands s (recoverCounters s) := by
  unfold recoverCounters
  split
  · exact .refl s
  · refine .foldl (fun t _ => .foldl (fun _ _ => ?_) _ t) _ s
    exact .of_same rfl

theorem recoverAon_coreStands (s : State) : CoreStands s (recoverAon s) := by
  unfold recoverAon
  split
  · exact .refl s
  · split <;> exact .of_same rfl

/-- The recall of the records touches none of it (R406). -/
theorem recoverRecords_coreStands (s : State) : CoreStands s (recoverRecords s) := by
  have hshadow : CoreStands s (if s.pwr.afterFull then
      { s with ks := { s.ks with sram := { s.ks.shadow with log := s.ks.shadow.log.map fun e => { e with held := false } } } }
    else s) := by
    split <;> exact .of_same rfl
  have haon : ∀ t, CoreStands t (if t.pwr.afterFull then recoverAon t else t) := fun t => by
    split
    · exact recoverAon_coreStands t
    · exact .refl t
  unfold recoverRecords
  exact (((((hshadow.trans (recoverPairs_coreStands _)).trans (recoverLog_coreStands _)).trans (recoverLedger_coreStands _)).trans
    (recoverCounters_coreStands _)).trans (haon _)).trans (.foldl (fun t f => (logOnly_noted t _ _ _).coreStands) _ _)

/-- A port fenced stops its correction ramp, and its converter keeps its trims. -/
theorem fenceOne_coreStands (s : State) (n : Fin 32) : CoreStands s (fenceOne s n) := by
  refine ⟨rfl, rfl, rfl, rfl, fun m => ?_⟩
  have hsc : (fenceOne s n).sc = (s.modSc n.castSucc fun c => { c with ramp := none }).sc := rfl
  rw [hsc]
  by_cases hm : m = n.castSucc
  · subst hm; rw [State.modSc_sc_self]; exact ⟨rfl, rfl⟩
  · rw [State.modSc_sc_ne s _ hm]; exact ⟨rfl, rfl⟩

theorem fenceFailed_coreStands (s : State) : CoreStands s (fenceFailed s) := by
  unfold fenceFailed
  refine .foldl (fun t n => ?_) _ s
  split
  · exact fenceOne_coreStands t n
  · exact .refl t

/-- What the step loads into the converters before any stand-in: their factory trims. -/
def factoryTrims (s : State) : State :=
  { s with
    sc := Vector.ofFn fun n : Fin 33 => { Conv.reset with gain := (Config.scGain n.1).toInt, offset := (Config.scOffset n.1).toInt }
    vc := Vector.ofFn fun k : Fin 16 => { Conv.reset with gain := (Config.vcGain k.1).toInt, offset := (Config.vcOffset k.1).toInt } }

theorem factoryTrims_sc (s : State) (n : Fin 33) :
    (factoryTrims s).sc[n].gain = (Config.scGain n.1).toInt ∧ (factoryTrims s).sc[n].offset = (Config.scOffset n.1).toInt := by
  have h : (factoryTrims s).sc[n] = { Conv.reset with gain := (Config.scGain n.1).toInt, offset := (Config.scOffset n.1).toInt } :=
    Vector.getElem_ofFn n.2
  rw [h]
  exact ⟨rfl, rfl⟩

theorem factoryTrims_vc (s : State) (k : Fin 16) :
    (factoryTrims s).vc[k].gain = (Config.vcGain k.1).toInt ∧ (factoryTrims s).vc[k].offset = (Config.vcOffset k.1).toInt := by
  have h : (factoryTrims s).vc[k] = { Conv.reset with gain := (Config.vcGain k.1).toInt, offset := (Config.vcOffset k.1).toInt } :=
    Vector.getElem_ofFn k.2
  rw [h]
  exact ⟨rfl, rfl⟩

/-- The trims loaded are the factory's, but for the rover's under a stand-in (R204). -/
theorem loadTrims_eq (s : State) : ∃ f, loadTrims s = factoryTrims s ∨ loadTrims s = (factoryTrims s).modSc 32 f := by
  refine ⟨fun c => { c with gain := s.milk.standGain, offset := s.milk.standOffset }, ?_⟩
  by_cases h : s.milk.standin.isSome = true
  · exact .inr (if_pos h)
  · exact .inl (if_neg h)

/-- The sense converters of the ports and the voltage converters hold their factory trims (R189). -/
theorem loadTrims_trims (s : State) :
    (∀ n : Fin 32, (loadTrims s).sc[n.castSucc].gain = (Config.scGain n.1).toInt
      ∧ (loadTrims s).sc[n.castSucc].offset = (Config.scOffset n.1).toInt) ∧
    (∀ k : Fin 16, (loadTrims s).vc[k].gain = (Config.vcGain k.1).toInt ∧ (loadTrims s).vc[k].offset = (Config.vcOffset k.1).toInt) := by
  obtain ⟨f, h | h⟩ := loadTrims_eq s <;> rw [h]
  · exact ⟨fun n => factoryTrims_sc s n.castSucc, factoryTrims_vc s⟩
  · refine ⟨fun n => ?_, factoryTrims_vc s⟩
    have hn : n.castSucc ≠ (32 : Fin 33) := fun e => absurd (congrArg Fin.val e) (Nat.ne_of_lt n.2)
    rw [State.modSc_sc_ne _ f hn]
    exact factoryTrims_sc s n.castSucc

theorem loadTrims_variant_pwr (s : State) : (loadTrims s).variant = s.variant ∧ (loadTrims s).pwr = s.pwr := by
  obtain ⟨f, h | h⟩ := loadTrims_eq s <;> rw [h] <;> exact ⟨rfl, rfl⟩

/-- Every engine of a list taken to the state that `g` gives it. -/
theorem foldl_modEng_state (f : Fin 9 → Engine → Engine) (g : Fin 9 → EngineState) (hf : ∀ e x, (f e x).state = g e) {l : List (Fin 9)}
    {e : Fin 9} (s : State) (h : e ∈ l ∨ s.engines[e].state = g e) :
    (l.foldl (fun t e => t.modEng e (f e)) s).engines[e].state = g e := by
  induction l generalizing s with
  | nil => exact h.resolve_left List.not_mem_nil
  | cons a t ih =>
    rw [List.foldl_cons]
    by_cases ha : e = a
    · refine ih _ (.inr ?_)
      rw [ha, State.modEng_engines_self, hf]
    · refine ih _ (h.imp (fun hm => (List.mem_cons.mp hm).resolve_left ha) fun hs => ?_)
      rw [State.modEng_engines_ne s _ ha, hs]

/-- A present engine after a self-test passed. -/
def Engine.passed (e : Fin 9) (x : Engine) : Engine := { x with state := if e = 8 then .standby else .idle, covers := 0xFF }

theorem foldl_passed_frame (l : List (Fin 9)) (s : State) :
    ∃ E, l.foldl (fun t e => t.modEng e (Engine.passed e)) s = { s with engines := E } := by
  induction l generalizing s with
  | nil => exact ⟨s.engines, rfl⟩
  | cons a l ih => exact ih (s.modEng a (Engine.passed a))

/-- A self-test that every engine passes leaves each present engine IDLE, LE8 STANDBY. -/
theorem selfTest_passed (s : State) :
    ∃ E, selfTest s 0 = { s with engines := E } ∧
      ∀ e : Fin 9, s.variant.hasEngine e.1 = true → E[e].state = if e = 8 then .standby else .idle := by
  have hpass : selfTest s 0 = s.engList.foldl (fun t e => t.modEng e (Engine.passed e)) s := by
    simp [selfTest]
    rfl
  obtain ⟨E, hE⟩ := foldl_passed_frame s.engList s
  refine ⟨E, hpass.trans hE, fun e he => ?_⟩
  have hmem : e ∈ s.engList := List.mem_filter.mpr ⟨List.mem_finRange e, he⟩
  have := foldl_modEng_state Engine.passed (fun e => if e = 8 then .standby else .idle) (fun _ _ => rfl) s (.inl hmem)
  rwa [hE] at this

/-- The core domain of step 7 before its trims: registers kept over the reset, links anew, the straps read (Table 2-5). -/
def coreReleased (s : State) (strap : BitVec 4) : State :=
  let s1 := keepRegs s lastingKey
  { s1 with
    paths := Vector.replicate 10 .reset
    ks := { s1.ks with cfgWork := [], cfgBuilt := false, cfgSig := [], cfgHash := [], cfgStat := 0, cfgInstall := false,
                        cfgInUse := [] }
    pwr := { s1.pwr with step := .released, strap := if s1.pwr.vio then strap else 0 } }

theorem releaseCore_eq (s : State) (strap : BitVec 4) (failed : BitVec 9) :
    releaseCore s strap failed = fenceFailed (selfTest (recoverRecords (loadTrims (coreReleased s strap))) failed) := rfl

/-- What step 7 leaves when every self-test passes. -/
theorem releaseCore_passed (s : State) (strap : BitVec 4) : ∃ t E,
    CoreStands (loadTrims (coreReleased s strap)) t ∧ CoreStands { t with engines := E } (releaseCore s strap 0) ∧
      ∀ e : Fin 9, s.variant.hasEngine e.1 = true → E[e].state = if e = 8 then .standby else .idle := by
  have hrec := recoverRecords_coreStands (loadTrims (coreReleased s strap))
  rw [releaseCore_eq]
  generalize recoverRecords (loadTrims (coreReleased s strap)) = t at *
  obtain ⟨E, hE, hpass⟩ := selfTest_passed t
  have hvar : t.variant = s.variant := hrec.variant.trans (loadTrims_variant_pwr _).1
  rw [hE]
  exact ⟨t, E, hrec, fenceFailed_coreStands _, fun e he => hpass e (hvar ▸ he)⟩

theorem coreResetRelease_after (s : State) (strap : BitVec 4) (hstep : s.pwr.step = .locked) (hclock : s.pwr.gated = false) :
    s.after (.coreResetRelease strap 0) fun t =>
      t.pwr.step = .released ∧ t.pwr.strap = (if s.pwr.vio then strap else 0)
        ∧ (∀ n : Fin 32, t.sc[n.castSucc].gain = (Config.scGain n.1).toInt ∧ t.sc[n.castSucc].offset = (Config.scOffset n.1).toInt)
        ∧ (∀ k : Fin 16, t.vc[k].gain = (Config.vcGain k.1).toInt ∧ t.vc[k].offset = (Config.vcOffset k.1).toInt)
        ∧ ∀ e : Fin 9, s.variant.hasEngine e.1 = true → t.engines[e].state = (if e = 8 then .standby else .idle) := by
  refine after_of_done (u := doCoreResetRelease strap 0 s) rfl ?_
  obtain ⟨t, E, hrec, hend, hpass⟩ := releaseCore_passed s strap
  obtain ⟨hsc, hvc⟩ := loadTrims_trims (coreReleased s strap)
  have hpwr : (releaseCore s strap 0).pwr = (coreReleased s strap).pwr :=
    hend.pwr.trans (hrec.pwr.trans (loadTrims_variant_pwr _).2)
  rw [doCoreResetRelease, if_pos ⟨hstep, hclock⟩, settle_pwr, settle_sc, settle_vc, settle_engines, hpwr, hend.vc, hend.engines]
  refine ⟨rfl, rfl, fun n => ?_, fun k => ?_, hpass⟩
  · rw [(hend.trims _).1, (hend.trims _).2]
    show t.sc[n.castSucc].gain = _ ∧ t.sc[n.castSucc].offset = _
    rw [(hrec.trims _).1, (hrec.trims _).2]
    exact hsc n
  · show t.vc[k].gain = _ ∧ t.vc[k].offset = _
    rw [hrec.vc]
    exact hvc k

end Sys2Proof.Machine
end

section
namespace Sys2Proof.Machine
open Sys2Proof

/-! ## Step 8 of the power-on order -/

/-- The step of the power-on order and the latched pin events stay as they are. -/
structure StepStands (s t : State) : Prop where
  step : t.pwr.step = s.pwr.step
  latched : t.pins.latched = s.pins.latched

theorem StepStands.refl (s : State) : StepStands s s := ⟨rfl, rfl⟩

theorem StepStands.trans {s t u : State} (h : StepStands s t) (k : StepStands t u) : StepStands s u :=
  ⟨k.step.trans h.step, k.latched.trans h.latched⟩

theorem StepStands.ite {s t u : State} {c : Prop} [Decidable c] (h : c → StepStands s t) (k : ¬c → StepStands s u) :
    StepStands s (if c then t else u) := by
  split
  · exact h ‹_›
  · exact k ‹_›

theorem StepStands.foldl {α : Type} {f : State → α → State} (h : ∀ s a, StepStands s (f s a)) (l : List α) :
    ∀ s, StepStands s (l.foldl f s) := by
  induction l with
  | nil => exact StepStands.refl
  | cons a t ih => exact fun s => (h s a).trans (ih _)

theorem ModeWork.stepStands {s t : State} (h : ModeWork s t) : StepStands s t := by
  rw [h.frame]; exact ⟨rfl, rfl⟩

theorem UnitWork.stepStands {s t : State} (h : UnitWork s t) : StepStands s t := h.modes.stepStands

theorem Copies.stepStands {I : Nat → Prop} {s t : State} (h : Copies I s t) : StepStands s t := by
  rw [h.frame]; exact ⟨rfl, rfl⟩

theorem lostDrivers_stepStands (s : State) : StepStands s (lostDrivers s) := by
  unfold lostDrivers
  refine .foldl (fun t _ => ?_) _ s
  exact .ite (fun _ => ⟨rfl, rfl⟩) (fun _ => .refl t)

theorem reportOwed_stepStands (s : State) : StepStands s (reportOwed s) :=
  have h := (reportOwed_modeWork s).stepStands
  ⟨h.step, h.latched⟩

theorem tallies_stepStands (s : State) : StepStands s (tally (if s.pwr.afterFull then tally s 0xFD else s) 0xFE) :=
  (StepStands.ite (fun _ => (tally_unitWork s 0xFD).stepStands) (fun _ => .refl s)).trans (tally_unitWork _ 0xFE).stepStands

theorem emit_stepStands (s : State) (l : Link) (id : Nat) (fd : Bool) (d : List Byte) : StepStands s (s.emit l id fd d) := by
  unfold State.emit
  split <;> exact ⟨rfl, rfl⟩

theorem bootUp_stepStands (s : State) : StepStands s (bootUp s) :=
  (emit_stepStands s .a _ false [0]).trans (emit_stepStands _ .b _ false [0])

theorem bootNmt_stepStands (s : State) : StepStands s (bootNmt s) := ⟨rfl, rfl⟩

theorem recause_stepStands (s : State) : StepStands s (recause s) := ⟨rfl, rfl⟩

theorem quietIrq_stepStands (s : State) : StepStands s (quietIrq s) := ⟨rfl, rfl⟩

theorem modeResets_stepStands (s : State) (m : Mode) : StepStands s (modeResets s m) := by
  cases m <;> exact ⟨rfl, rfl⟩

/-- The mode that step 8 enters. -/
theorem endOfReset_stepStands (s : State) : StepStands s (endOfReset s) := by
  unfold endOfReset
  split
  next w _ =>
    have hwake : StepStands s { s with pwr := { s.pwr with wake := none } } := ⟨rfl, rfl⟩
    exact hwake.trans (.ite (fun _ => (beginStartup_modeWork _ _).stepStands) (fun _ =>
      ((modeResets_stepStands _ .safestop).trans (applyHolds_unitWork _).stepStands).trans (chgSettle_unitWork _).stepStands))
  · exact .ite (fun _ => (enterMode_modeWork s _ _).stepStands) (fun _ =>
      .ite (fun _ => (beginStartup_modeWork s _).stepStands) (fun _ => (enterStandby_modeWork s _).stepStands))

/-- The mirrors of the rest of the state, taken when the dictionary opens (R111). -/
theorem mirrors_stepStands (s : State) :
    StepStands s (mirrorSlow (s.railList.foldl mirrorRail (mirrorEngines (s.portList.foldl mirrorPort s)))) := by
  have hports := StepStands.foldl (fun t n => (mirrorPort_copies t n).stepStands) s.portList s
  have hengines : ∀ t, StepStands t (mirrorEngines t) := fun t =>
    .foldl (fun u e => (mirrorEngine_copies u e).stepStands) t.engList t
  have hrails := StepStands.foldl (fun t r => (mirrorRail_copies t r).stepStands) s.railList
    (mirrorEngines (s.portList.foldl mirrorPort s))
  exact (((hports.trans (hengines _)).trans hrails).trans (measureChg_onlyChg _).unitWork.stepStands).trans
    (mirrorSlow_copies _).stepStands

theorem resumeTwoWire_stepStands (s : State) : StepStands s (resumeTwoWire s) := by
  unfold resumeTwoWire
  split <;> exact ⟨rfl, rfl⟩

/-- The pin events latched are entered before the dictionary opens. -/
theorem showDieHard_enterPins_latched (s : State) (aon : Bool) : (showDieHard (enterPins s aon)).pins.latched = [] := by
  have hpins : (enterPins s aon).pins.latched = [] := rfl
  generalize enterPins s aon = t at *
  unfold showDieHard
  split <;> exact hpins

/-- Everything that follows step 8's own write leaves the step and the latched pin events as they are. -/
theorem openDevice_opens (s : State) : (openDevice s).pwr.step = .running ∧ (openDevice s).pins.latched = [] := by
  unfold openDevice
  extract_lets s1 s2 s3 s4 _ s5 s6
  have h2 : s2.pins.latched = [] := by simp only [s2, showDieHard_enterPins_latched]
  have h3 : StepStands s2 s3 := (lostDrivers_stepStands s2).trans (reportOwed_stepStands _)
  have h4 : StepStands s3 s4 := tallies_stepStands s3
  have h5 : StepStands { s4 with pwr := { s4.pwr with step := .running } } s5 :=
    (((bootUp_stepStands _).trans (bootNmt_stepStands _)).trans (recause_stepStands _)).trans (quietIrq_stepStands _)
  have h6 : StepStands s5 s6 := endOfReset_stepStands s5
  clear_value s6 s5 s4 s3 s2
  have hend := (mirrors_stepStands s6).trans (resumeTwoWire_stepStands _)
  have hrun : s5.pwr.step = .running := h5.step
  exact ⟨hend.step.trans (h6.step.trans hrun),
    hend.latched.trans (h6.latched.trans (h5.latched.trans ((h3.trans h4).latched.trans h2)))⟩

theorem exec_configApply_of_released {s : State} (h : s.pwr.step = .released) :
    exec .configApply s = done (openDevice s) (openDevice s) := by
  have hexec : exec .configApply s = done (doConfigApply s) (doConfigApply s) := rfl
  rw [hexec, doConfigApply, if_pos h]

/-- Settles O9: the step's own writes stand at its end, for what follows them leaves the trims, the straps, the engines, the step and
the latched pin events alone. -/
theorem powerUpStepsSevenAndEight : Obligations.PowerUpStepsSevenAndEight := by
  intro s strap
  refine ⟨coreResetRelease_after s strap, fun hstep => ?_⟩
  refine ⟨settle (openDevice s) (openDevice s), exec_configApply_of_released hstep, ?_⟩
  show (settle _ _).pwr.step = .running ∧ (settle _ _).pins.latched = []
  rw [settle_pwr, settle_pins]
  exact openDevice_opens s

end Sys2Proof.Machine
end

section
namespace Sys2Proof.Machine
open Sys2Proof

/-! ## A write that a path has served -/

/-- An untagged write of a path that is served, past every check: it is accepted, acts, and is answered as taken. -/
theorem hostWrite_served {s : State} {p : HostPath} (hp : s.pathServes p = true) (hf : s.slotFree = true) (ht : s.paths[pathIx p].tag = 0)
    {ws : List (Nat × Nat × List Byte)} {is : List Item} (hg : ∀ w ∈ ws, s.aonCode true false w.1 w.2.1 = 0) (hid : ∀ w ∈ ws, w.1 ≠ 0x2C00)
    (hi : itemsOf s.variant ws = (0, is)) (hl : lateCode (granted s p) p none is = 0)
    (hw : (acceptNow (granted s p) p is).cmt.fences = (granted s p).cmt.fences) :
    Replied (acceptNow (granted s p) p is) (hostWrite s p ws) ∧ (hostWrite s p ws).took p := by
  have hregs := granted_regs s p
  have hgate : firstCode (ws.map fun w => (granted s p).aonCode true false w.1 w.2.1) = 0 := by
    rw [hregs]
    exact firstCode_zeros _ (List.forall_mem_map.mpr hg)
  have hslot : hostWrite s p ws =
      answerWrite (granted s p) (writeCore (granted s p) p (groupFor (granted s p) p ws) ws) p ws := by
    simp [hostWrite, withSlot, withSlotFor, hp, hf, granted]
  have hgroup : groupFor (granted s p) p ws = none := groupFor_untagged (by rw [hregs]; exact ht) ws
  have hcore : writeCore (granted s p) p none ws = (0, acceptNow (granted s p) p is) := by
    have hi' : itemsOf (granted s p).variant ws = (0, is) := by rw [hregs]; exact hi
    simp [writeCore, hgate, hi', hl]
  have hwait : waitsOn (granted s p) (acceptNow (granted s p) p is) ws = false := by
    have hany : (ws.any fun w => w.1 == 0x2C00 && (w.2.1 == 0x0C || w.2.1 == 0x0E)) = false :=
      List.any_eq_false.mpr fun w h => by simp [hid w h]
    simp [waitsOn, hw, hany]
  rw [hslot, hgroup, hcore]
  exact answerWrite_took hwait

/-! ## Wakes -/

theorem asleep_step {s : State} (h : s.asleep = true) : s.pwr.step = .aonUp := by
  simp only [State.asleep, Bool.and_eq_true, beq_iff_eq] at h
  exact h.1

theorem asleep_coreOff {s : State} (h : s.asleep = true) : s.coreOn = false := by simp [State.coreOn, asleep_step h]

/-- With the core domain off a wake that may act wants it on, and shows in WAKE_CAUSE (R75, R78). -/
theorem wakeBy_of_asleep {s : State} (ha : s.asleep = true) (hr : s.pwr.regFailed = false) (hm : s.md.mode = .standby) (w : Wake) :
    wakeBy s w = { s.orReg 0x2000 5 w.bits with pwr := { s.pwr with coreWanted := true, wake := s.pwr.wake.or (some w) } } := by
  have hcan : s.canWake = true := by simp [State.canWake, ha, hr, hm]
  have hoff : (s.orReg 0x2000 5 w.bits).coreOn = false := asleep_coreOff ha
  unfold wakeBy
  rw [if_pos hcan]
  exact if_neg (by simp [hoff])

/-- Asleep in STANDBY with the regulator sound, the AON island lets a write of MODE pass (R76, R469). -/
theorem aonCode_mode_of_standby {s : State} (hr : s.pwr.regFailed = false) (hm : s.md.mode = .standby) :
    s.aonCode true false 0x2000 1 = 0 := by
  have hdiag : s.diagOnly = false := by simp [State.diagOnly, hr, hm]
  have hwrites : s.aonWrites 0x2000 1 = true := by simp [State.aonWrites, hdiag]
  simp [State.aonCode, hwrites]

/-- A MODE write of 3 that the AON island takes is a wake (R75, R76). -/
theorem modeReqRun_of_asleep {s : State} {p : HostPath} (ha : s.asleep = true) (hr : s.pwr.regFailed = false) (hm : s.md.mode = .standby)
    (hp : s.pathServes p = true) (hf : s.slotFree = true) (ht : s.paths[pathIx p].tag = 0) :
    Replied (wakeBy s .modeWrite) (hostPut s p 0x2000 1 1 3) ∧ (hostPut s p 0x2000 1 1 3).took p := by
  have hgrant : granted s p = s := by
    unfold granted
    split
    · rfl
    · rw [takeSlot_eq, if_neg (by simp [asleep_coreOff ha])]
  have hitems := itemsOf_dev (findObj_mode s.variant) (n := 1) (x := 3) rfl rfl rfl (by decide)
  have hcode : s.devCode modeRow 1 3 = 0 := by
    rw [devCode_mode s (by decide)]
    simp [State.modeWriteOk, hm]
  have hacts : acceptNow s p [devItem 1 1 3 modeRow] = wakeBy s .modeWrite := by
    rw [acceptNow_dev s p rfl 3]
    show modeRun s = _
    simp only [modeRun, hm]
  have h := hostWrite_served hp hf ht (is := [devItem 1 1 3 modeRow])
    (by simpa using aonCode_mode_of_standby hr hm) (by simp) hitems
    (by rw [hgrant, lateCode_dev (findObj_mode _) rfl, hcode])
    (by rw [hgrant, hacts, wakeBy_fences])
  rwa [hgrant, hacts] at h

/-- The wake that counts, latched during the entry, acts once the core domain is off. -/
theorem latchedWake_becomes {s : State} (hoff : s.coreOn = false) {w : Wake} (hw : s.latchedWake = some w) :
    s.becomes .latchedWake { s with pwr := { s.pwr with lateWake := none, lateOther := none, coreWanted := true, wake := some w } } := by
  refine becomes_of_done ?_
  show done s (doLatchedWake s) = _
  rw [doLatchedWake, hoff, hw]
  rfl

/-- Settles O20: the wake that counts is the first latched, in SAFESTOP the first that is no MODE write; with the core domain off VIN and
MODE 3 are wakes. -/
theorem wakesReachTheCoreDomain : Obligations.WakesReachTheCoreDomain := by
  intro s
  refine ⟨fun hoff => ⟨fun w hw hc => latchedWake_becomes hoff ?_, fun hw hm => ⟨fun w ho => latchedWake_becomes hoff ?_, fun ho => ?_⟩⟩,
    fun ha hr hm => ⟨fun hv hcfg => ?_, fun p hp hf ht => ?_⟩⟩
  · have hno : ¬(s.pwr.lateWake = some .modeWrite ∧ s.md.mode = .safestop) := by
      rintro ⟨e, hs⟩
      rw [hw, Option.some_inj] at e
      exact hc.elim (· e) (· hs)
    rw [State.latchedWake, if_neg hno, hw]
  · rw [State.latchedWake, if_pos ⟨hw, hm⟩, ho]
  · have hnone : s.latchedWake = none := by rw [State.latchedWake, if_pos ⟨hw, hm⟩, ho]
    refine becomes_of_done ?_
    show done s (doLatchedWake s) = _
    rw [doLatchedWake, hoff, hnone]
    rfl
  · have hopen : s.isOpen = false := by simp [State.isOpen, asleep_step ha]
    refine after_of_done (u := doVinQualified s) rfl ?_
    have hwake : doVinQualified s = wakeBy s .vin := by simp [doVinQualified, hv, hopen, hcfg]
    rw [hwake, wakeBy_of_asleep ha hr hm, settle_pwr, settle_reg s _ (by decide)]
    refine ⟨rfl, ?_, rfl⟩
    show ((s.orReg 0x2000 5 32).reg 0x2000 5).testBit 5 = true
    rw [State.reg_orReg, Nat.testBit_or, show Nat.testBit 32 5 = true by decide, Bool.or_true]
  · obtain ⟨hreply, htook⟩ := modeReqRun_of_asleep ha hr hm hp hf ht
    refine after_of_done (u := hostPut s p 0x2000 1 1 3) rfl ⟨htook, ?_⟩
    rw [hreply.settle_pwr, hreply.settle_reg s (by decide), wakeBy_of_asleep ha hr hm]
    refine ⟨rfl, ?_⟩
    show ((s.orReg 0x2000 5 4).reg 0x2000 5).testBit 2 = true
    rw [State.reg_orReg, Nat.testBit_or, show Nat.testBit 4 2 = true by decide, Bool.or_true]

end Sys2Proof.Machine
end

section
namespace Sys2Proof.Machine
open Sys2Proof

/-! ## Accesses of a path that is heard -/

/-- A heard write past checks 3 to 9 is accepted, acts, and is answered as taken. -/
theorem hostWrite_accepted {s : State} {p : HostPath} (h : s.hears p) {ws : List (Nat × Nat × List Byte)} {is : List Item}
    (hid : ∀ w ∈ ws, w.1 ≠ 0x2C00) (hi : itemsOf s.variant ws = (0, is)) (hl : lateCode (granted s p) p none is = 0)
    (hw : (acceptNow (granted s p) p is).cmt.fences = (granted s p).cmt.fences) :
    Replied (acceptNow (granted s p) p is) (hostWrite s p ws) ∧ (hostWrite s p ws).took p :=
  have ⟨hr, hp, hf, ht⟩ := h
  hostWrite_served hp hf ht (fun _ _ => aonCode_on (ready_coreOn hr) ..) hid hi hl hw

/-- With nothing accepted before for its object, a value that no transfer carries acts at once (R321). -/
theorem acceptNow_one {s : State} {i : Item} (hlater : isLater i.idx i.sub i.obj = false) (hold : s.olderOf [i.idx] = []) (p : HostPath) :
    acceptNow s p [i] = putItem p s i := by
  have hvals : laterVals s [i] = [] := by simp [laterVals, hlater, expand]
  have hwait : s.olderWait [i.idx] = false := by simp [State.olderWait, hold]
  have hidx : transferOlder s [i.idx] = s := by simp [transferOlder, hwait, hold]
  have hacts : s.actsLater i = false := by simp [State.actsLater, hwait]
  simp [acceptNow, hvals, hlater, actNow, hidx, acceptWrite, hacts]

/-- No write waits with a value of the device object. -/
theorem olderOf_dev (s : State) : s.olderOf [0x2000] = [] := sharing_nil _

/-- A heard read that checks 3 to 5 let pass, and that ends in its bytes. -/
theorem hostRead_answers {s t : State} {p : HostPath} (h : s.hears p) {idx sub : Nat} {o : Obj} {bs : List Byte}
    (hk : key idx sub ≠ key 0x2F00 0x0E) (ho : findObj s.variant idx sub = some o) (hacc : o.acc ≠ .wo)
    (hr : readObj (granted s p) (pathIx p) o idx sub = (0, bs, t)) :
    Replied t (hostRead s p idx sub) ∧ (hostRead s p idx sub).took p ∧ (hostRead s p idx sub).paths[pathIx p].answer = bs := by
  have hregs := granted_regs s p
  have hquiet : Service.seesMin .read (key idx sub) = false := by simp [Service.seesMin, hk]
  have hgate : (granted s p).aonCode false false idx sub = 0 := by
    rw [hregs]; exact aonCode_on (ready_coreOn h.1) ..
  have hcore : readCore (granted s p) p false idx sub = (0, bs, t) := by
    have ho' : findObj (granted s p).variant idx sub = some o := by rw [hregs]; exact ho
    simp [readCore, hgate, ho', hacc, hr]
  have hread : hostRead s p idx sub = noteTw (answer t p 0 bs) p 0 := by
    rw [hostRead, hquiet]
    refine (withSlot_hears h _).trans ?_
    simp [hcore]
  obtain ⟨habort, hanswer⟩ := answer_abort t p 0 bs
  rw [hread, State.took, noteTw_paths]
  exact ⟨(answer_replied t p 0 bs).trans (noteTw_replied _ p 0), habort, hanswer⟩

/-! ## The service challenge and its authorisation (R82, R417) -/

/-- The rows of SVC_CHALLENGE, SVC_AUTH and SVC_PORT (Table 3-5). -/
def challengeRow : Obj := ⟨0x09, 0x09, .oct 16, .ro, 0, 0, 0, none⟩
def authRow : Obj := ⟨0x0A, 0x0A, .oct 64, .wo, 0, 0, 0, none⟩
def svcPortRow : Obj := ⟨0x0D, 0x0D, .num 1 false, .rw, 255, 0, 255, none⟩

theorem findObj_challenge (v : Variant) : findObj v 0x2000 9 = some challengeRow := by cases v <;> decide

theorem findObj_auth (v : Variant) : findObj v 0x2000 0x0A = some authRow := by cases v <;> decide

theorem findObj_svcPort (v : Variant) : findObj v 0x2000 0x0D = some svcPortRow := by cases v <;> decide

/-- The value that a write of SVC_AUTH makes. -/
def authItem (sig : List Byte) : Item := { idx := 0x2000, sub := 0x0A, obj := authRow, val := leVal sig, bytes := sig }

theorem itemsOf_auth (v : Variant) {sig : List Byte} (h : sig.length = 64) : itemsOf v [(0x2000, 0x0A, sig)] = (0, [authItem sig]) := by
  simp [itemsOf, itemOf, findObj_auth, authRow, Obj.writable, lengthOk, Ty.size, h, Obj.keep, authItem]

/-- No check of values, room or state concerns a signature. -/
theorem lateCode_auth (s : State) (p : HostPath) (sig : List Byte) : lateCode s p none [authItem sig] = 0 := by
  simp [lateCode, numsOf, authItem, authRow, Item.isNum, valuesCode, nowCode, rangeCode, roomCode, tagCode, stateCode, firstCode]

theorem acceptNow_auth (s : State) (p : HostPath) (sig : List Byte) : acceptNow s p [authItem sig] = writeSvcAuth s sig :=
  acceptNow_one rfl (olderOf_dev s) p

theorem writeSvcAuth_cmt (s : State) (sig : List Byte) : (writeSvcAuth s sig).cmt = s.cmt := by
  unfold writeSvcAuth
  split
  · rfl
  · split <;> rfl

/-- A signature of 64 bytes is always accepted; what it does is up to SVC_STAT and the challenge. -/
theorem svcAuthWrite_after {s : State} {p : HostPath} (h : s.hears p) {sig : List Byte} (hlen : sig.length = 64) :
    s.after (.svcAuthWrite p sig) fun t => t.took p ∧ t.md = (writeSvcAuth (granted s p) sig).md := by
  obtain ⟨hreply, htook⟩ := hostWrite_accepted h (by simp) (itemsOf_auth s.variant hlen) (lateCode_auth _ p sig)
    (by rw [acceptNow_auth, writeSvcAuth_cmt])
  rw [acceptNow_auth] at hreply
  exact after_of_done (u := hostWrite s p [(0x2000, 0x0A, sig)]) rfl ⟨htook, hreply.settle_md s⟩

/-- A read of the challenge draws a fresh one and cancels what stood. -/
theorem readObj_challenge (s : State) (p : Fin 10) : readObj s p challengeRow 0x2000 9 =
    (0, leBytes 16 (Config.freeValue s.freeCtr).toNat, { s with
      freeCtr := s.freeCtr + 1
      md := { s.md with challenge := leBytes 16 (Config.freeValue s.freeCtr).toNat, authSig := [], svcStat := 0 } }) := rfl

/-! ## SVC_PORT (R83) -/

/-- In SERVICE, without a stop cause and with no port named, any port of the variant may be named. -/
theorem devCode_svcPort {s : State} {v : Byte} (hm : s.md.mode = .service) (hc : s.stopCause = false)
    (hv : v = 0xFF ∨ v.toNat < s.variant.ports) (hcur : s.reg 0x2000 0x0D = 0xFF) : s.devCode svcPortRow 0x0D v.toNat = 0 := by
  have hlt := v.isLt
  have hval : valueOk s.variant svcPortRow 0x2000 0x0D v.toNat = true := by
    have henc : v.toNat < s.variant.ports ∨ v.toNat = 255 := hv.elim (fun e => .inr (by rw [e]; rfl)) .inl
    have hmax : (v.toNat : Int) ≤ 255 := by omega
    simp [valueOk, svcPortRow, Obj.value, Obj.keep, encodingOk, hmax]
    exact henc.imp_left decide_eq_true
  have hnow : s.devOk 0x0D v.toNat = true := by
    have hnone : (List.finRange 32).any (fun n => n.1 == 0xFF && s.isSwitching n) = false :=
      List.any_eq_false.mpr fun n _ => by simp; omega
    show s.svcPortOk v.toNat = true
    simp only [State.svcPortOk, hcur, hnone]
    simp [hm, hc]
  rw [State.devCode, if_pos hval, if_pos hnow]

/-! ## SVCKEY and the ends of SERVICE (R83, R236) -/

/-- Of the pins a pin event changes the events kept for later alone. -/
theorem pinEvent_pins (s : State) (b : Nat) : (pinEvent s b).pins = { s.pins with latched := (pinEvent s b).pins.latched } := by
  unfold pinEvent
  split
  · rfl
  · split
    · dsimp only
      split
      · rfl
      · rw [(logOnly_unitWork _ _ _ _).frame]; rfl
    · split <;> rfl

/-- STANDBY entered: the transition recorded, nothing asked for. -/
theorem enterStandby_md (s : State) (cause : Nat) : (enterStandby s cause).md =
    { s.md with mode := .standby, prev := s.md.mode, stamp := s.now, cause := cause, requal := false, svcAsked := false } := by
  have hmd := enterMode_md (stopSqe s) .standby cause
  unfold enterStandby
  generalize enterMode (stopSqe s) .standby cause = s1 at *
  rw [(requestStore_unitWork _ .standby).frame]
  show { s1.md with requal := false, svcAsked := false } = _
  rw [hmd]
  rfl

/-- The end of a verification sets SVC_STAT by the ECDSA check, and notes when. -/
theorem doSvcVerifyDone_md {s : State} (hr : s.ready = true) (hs : s.md.svcStat = 1) : (doSvcVerifyDone s).md =
    { s.md with
      svcStat := if s.keyGen != 0 && ecdsaVerify s.cfgKey (sha256 (s.md.challenge ++ Config.uid.toList)) s.md.authSig then 2 else 3
      authAt := s.coreNow } := by
  rw [doSvcVerifyDone, if_pos ⟨hr, hs⟩]

theorem pinAct_svckey (s : State) :
    pinAct s 5 = if s.ready = true ∧ s.md.mode = .service then enterStandby s 12 else s := rfl

/-- SVCKEY released is recorded, and ends SERVICE. -/
theorem doSvckeyRelease_spec {s : State} (hk : s.pins.svckey = true) : (doSvckeyRelease s).pins.svckey = false ∧
    (s.ready = true → s.md.mode = .service → (doSvckeyRelease s).md.mode = .standby ∧ (doSvckeyRelease s).md.cause = 12) := by
  have hkeeps := pinEvent_keeps { s with pins := { s.pins with svckey := false } } 5
  have hpins := pinEvent_pins { s with pins := { s.pins with svckey := false } } 5
  rw [doSvckeyRelease, if_pos hk, pinAct_svckey]
  generalize pinEvent { s with pins := { s.pins with svckey := false } } 5 = u at *
  refine ⟨?_, fun hr hm => ?_⟩
  · have hu : u.pins.svckey = false := by rw [hpins]
    split
    · rw [(enterStandby_modeWork u 12).frame]; exact hu
    · exact hu
  · rw [if_pos ⟨hkeeps.ready.trans hr, (congrArg Modes.mode hkeeps.md).trans hm⟩, enterStandby_md]
    exact ⟨rfl, rfl⟩

/-- SVCKEY asserted is recorded with its time. -/
theorem doSvckeyAssert_spec {s : State} (hk : s.pins.svckey = false) : (doSvckeyAssert s).pins.svckey = true ∧
    (doSvckeyAssert s).md = { s.md with keySince := s.now64 } := by
  have hassert : doSvckeyAssert s =
      pinEvent { s with pins := { s.pins with svckey := true }, md := { s.md with keySince := s.now64 } } 4 := by
    simp [doSvckeyAssert, hk]
  rw [hassert]
  exact ⟨by rw [pinEvent_pins], (pinEvent_keeps _ 4).md⟩

/-- Settles O21: SVC_CHALLENGE is a read with an effect, SVC_AUTH a string and SVC_PORT a number of the device object; the other events
act on the mode's record alone. -/
theorem serviceChallengeAndKey : Obligations.ServiceChallengeAndKey := by
  intro s
  refine ⟨fun p h => ?challenge, fun p sig h hlen hs hc => ?auth, fun p sig h hlen hkey hs hc => ?noKey, fun hr hs => ?verified,
    fun hs hdue => ?expires, fun p v h hm hc hv hcur => ?port, fun hr hm => ?idle, fun hk => ?assert, fun hk => ?release⟩
  case challenge =>
    obtain ⟨hreply, htook, hanswer⟩ := hostRead_answers h (by decide) (findObj_challenge _) (by decide)
      (readObj_challenge (granted s p) (pathIx p))
    have hmd := hreply.settle_md s
    have hfree : (settle s (hostRead s p 0x2000 9)).freeCtr = (granted s p).freeCtr + 1 := hreply.same State.freeCtr fun _ _ _ _ => rfl
    have gfree : (granted s p).freeCtr = s.freeCtr := by rw [granted_regs]
    have gmd := (granted_modes s p).1
    refine after_of_done (u := hostRead s p 0x2000 9) rfl ⟨htook, ?_⟩
    rw [hmd, hfree, settle_paths, hanswer, gfree, gmd]
    exact ⟨rfl, rfl, rfl, rfl, rfl, rfl⟩
  case auth =>
    obtain ⟨t, ht, htook, hmd⟩ := svcAuthWrite_after h hlen
    refine ⟨t, ht, htook, ?_⟩
    have gmd := (granted_modes s p).1
    rw [hmd, writeSvcAuth, if_pos (by rw [gmd]; exact ⟨hs, hc⟩), gmd]
  case noKey =>
    obtain ⟨t, ht, htook, hmd⟩ := svcAuthWrite_after h hlen
    refine ⟨t, ht, htook, ?_⟩
    have gmd := (granted_modes s p).1
    have gkey : (granted s p).keyGen = 0 := by rw [granted_regs]; exact hkey
    rw [hmd, writeSvcAuth, if_neg (by rw [gmd]; exact fun e => e.2 (hc e.1)), if_pos (by rw [gmd]; exact ⟨gkey, hs⟩), gmd]
  case verified =>
    refine after_of_done (u := doSvcVerifyDone s) rfl ?_
    rw [settle_md, doSvcVerifyDone_md hr hs]
    exact ⟨rfl, rfl⟩
  case expires =>
    refine becomes_of_done ?_
    show done s (doSvcAuthExpire s) = _
    rw [doSvcAuthExpire, if_pos ⟨hs, hdue⟩]
  case port =>
    have gport : (granted s p).reg 0x2000 0x0D = 0xFF := (granted_reg s p (by decide)).trans hcur
    obtain ⟨gmd, -, -, -, gstop, -⟩ := granted_modes s p
    have gvar : (granted s p).variant = s.variant := by rw [granted_regs]
    have hwork := applyHolds_unitWork ((granted s p).setReg 0x2000 0x0D v.toNat)
    have hfences : (putDev (granted s p) 0x0D v.toNat).cmt.fences = s.cmt.fences :=
      hwork.modes.fences.trans (by rw [granted_regs]; rfl)
    obtain ⟨hreply, htook⟩ := hostPut_dev h (findObj_svcPort _) rfl rfl rfl v.isLt
      (devCode_svcPort (by rw [gmd, hm]) (gstop.trans hc) (by rw [gvar]; exact hv) gport) (by rw [hfences])
    refine after_of_done (u := hostPut s p 0x2000 0x0D 1 v.toNat) rfl ⟨htook, ?_, ?_⟩
    · rw [hreply.settle_reg s (by decide)]
      exact (hwork.reg ⟨by decide, .inl rfl⟩).trans (State.reg_setReg ..)
    · rw [hreply.settle_md]
      exact (congrArg State.md hwork.frame).trans gmd
  case idle =>
    refine after_of_done (u := doSvcIdleTimeout s) rfl ?_
    rw [settle_md, doSvcIdleTimeout, if_pos ⟨hr, hm⟩, enterStandby_md]
    exact ⟨rfl, rfl⟩
  case assert =>
    obtain ⟨hpins, hmd⟩ := doSvckeyAssert_spec hk
    refine after_of_done (u := doSvckeyAssert s) rfl ?_
    rw [settle_pins, settle_md, hmd]
    exact ⟨hpins, rfl, rfl⟩
  case release =>
    obtain ⟨hpins, hends⟩ := doSvckeyRelease_spec hk
    refine after_of_done (u := doSvckeyRelease s) rfl ?_
    rw [settle_pins, settle_md]
    exact ⟨hpins, hends⟩

end Sys2Proof.Machine
end

section
namespace Sys2Proof.Machine
open Sys2Proof

/-! ## The charger's settings through a mode entry -/

/-- The charger's object reads as before, in all three copies. -/
structure SettingsStand (s t : State) : Prop where
  reg : ∀ {sub}, sub < 256 → t.reg 0x2500 sub = s.reg 0x2500 sub
  shad : ∀ {sub}, sub < 256 → t.shad 0x2500 sub = s.shad 0x2500 sub
  act : ∀ {sub}, sub < 256 → t.act 0x2500 sub = s.act 0x2500 sub

theorem SettingsStand.refl (s : State) : SettingsStand s s := ⟨fun _ => rfl, fun _ => rfl, fun _ => rfl⟩

theorem SettingsStand.trans {s t u : State} (h : SettingsStand s t) (k : SettingsStand t u) : SettingsStand s u :=
  ⟨fun hs => (k.reg hs).trans (h.reg hs), fun hs => (k.shad hs).trans (h.shad hs), fun hs => (k.act hs).trans (h.act hs)⟩

theorem SettingsStand.ite {s t u : State} {c : Prop} [Decidable c] (h : c → SettingsStand s t) (k : ¬c → SettingsStand s u) :
    SettingsStand s (if c then t else u) := by
  split
  · exact h ‹_›
  · exact k ‹_›

theorem SettingsStand.foldl {α : Type} {f : State → α → State} (h : ∀ s a, SettingsStand s (f s a)) (l : List α) :
    ∀ s, SettingsStand s (l.foldl f s) := by
  induction l with
  | nil => exact SettingsStand.refl
  | cons a t ih => exact fun s => (h s a).trans (ih _)

/-- A change of no register. -/
theorem SettingsStand.of_same {s t : State}
    (h : (t.variant, t.regs, t.shadow, t.active) = (s.variant, s.regs, s.shadow, s.active)) : SettingsStand s t := by
  simp only [Prod.mk.injEq] at h
  obtain ⟨hv, hr, hs, ha⟩ := h
  exact ⟨fun _ => by rw [State.reg, State.reg, hv, hr], fun _ => by rw [State.shad, State.shad, hv, hs],
    fun _ => by rw [State.act, State.act, hv, ha]⟩

theorem key_charger_ne {idx sub i : Nat} (h : idx ≠ 0x2500 ∧ sub < 256) (hi : i < 256) : key 0x2500 i ≠ key idx sub := by
  show (0x2500 * 256 + i : Nat) ≠ idx * 256 + sub
  omega

/-- A register of another object written. -/
theorem SettingsStand.setReg (s : State) {idx sub : Nat} (v : Nat) (h : idx ≠ 0x2500 ∧ sub < 256) : SettingsStand s (s.setReg idx sub v) :=
  ⟨fun hi => State.reg_setReg_ne s v (key_charger_ne h hi), fun _ => rfl, fun _ => rfl⟩

theorem SettingsStand.railReg (s : State) (r : Fin 16) {sub : Nat} (v : Nat) (h : sub < 256) :
    SettingsStand s (s.setReg (railIdx r.1) sub v) := .setReg s v ⟨by unfold railIdx; omega, h⟩

theorem SettingsStand.modRail (s : State) (r : Fin 16) (f : Rail → Rail) : SettingsStand s (s.modRail r f) := .of_same rfl

theorem OnlyChg.settingsStand {s t : State} (h : OnlyChg s t) : SettingsStand s t := by
  rw [h.frame]; exact .of_same rfl

theorem OnlyPorts.settingsStand {s t : State} (h : OnlyPorts s t) : SettingsStand s t := by
  rw [h.frame]; exact .of_same rfl

theorem tally_settingsStand (s : State) (code : Nat) : SettingsStand s (tally s code) :=
  .foldl (fun t i => by unfold tally1; exact .ite (fun _ => .of_same rfl) (fun _ => .refl t)) _ s

theorem pendSrc_settingsStand (s : State) (n : Nat) : SettingsStand s (pendSrc s n) := by
  refine .ite (fun _ => SettingsStand.trans ?_ (tally_settingsStand _ n)) (fun _ => .refl s)
  exact .of_same rfl

theorem queueEmcy1_settingsStand (s : State) (l : Link) (msg : List Byte) : SettingsStand s (queueEmcy1 s l msg) :=
  .ite (fun _ => .ite (fun _ => .of_same rfl) (fun _ => .setReg s _ (by decide))) (fun _ => .refl s)

theorem addEntry_settingsStand (s : State) (e : LogEntry) : SettingsStand s (addEntry s e) := by
  have hlost : ∀ e1 : LogEntry, SettingsStand s (if placeLoses s.log e1 then s.inc 0x2700 0x0F else s) :=
    fun _ => .ite (fun _ => .setReg s _ (by decide)) (fun _ => .refl s)
  unfold addEntry
  dsimp only
  split
  · exact .ite (fun _ => (hlost _).trans (.of_same rfl)) (fun _ => hlost _)
  · refine (SettingsStand.trans ?_ ((queueEmcy1_settingsStand _ .a _).trans (queueEmcy1_settingsStand _ .b _))).trans
      (.ite (fun _ => pendSrc_settingsStand _ 25) (fun _ => .refl _))
    exact .ite (fun _ => (hlost _).trans (.of_same rfl)) (fun _ => hlost _)

theorem logOnly_settingsStand (s : State) (code unit detail : U16) : SettingsStand s (logOnly s code unit detail) := by
  unfold logOnly
  split
  · exact .refl s
  · exact .ite (fun _ => addEntry_settingsStand s _) (fun _ => .refl s)

/-! ### Rails and ports -/

theorem withdrawPg_settingsStand (s : State) (r : Fin 16) (loss : Bool) : SettingsStand s (withdrawPg s r loss) := by
  unfold withdrawPg
  refine (SettingsStand.modRail s r _).trans (.ite (fun _ => ?_) (fun _ => .refl _))
  exact ((SettingsStand.railReg _ r _ (by decide)).trans (.railReg _ r _ (by decide))).trans
    (.ite (fun _ => logOnly_settingsStand _ _ _ _) (fun _ => .of_same rfl))

theorem railChanged_settingsStand (s : State) (r : Fin 16) (old : RailState) (off : Bool) : SettingsStand s (railChanged s r old off) :=
  .ite (fun _ => .refl s)
    (fun _ => SettingsStand.trans (.ite (fun _ => withdrawPg_settingsStand s r _) (fun _ => .refl s)) (.modRail _ r _))

theorem startPort_settingsStand (s : State) (r : Fin 16) (n : Fin 32) : SettingsStand s (startPort s r n) :=
  .ite (fun _ => .refl s) (fun _ => (modPort_onlyPorts s n _).settingsStand)

theorem startRail_settingsStand (s : State) (r : Fin 16) : SettingsStand s (startRail s r) :=
  ((SettingsStand.modRail s r _).trans (.foldl (fun t n => startPort_settingsStand t r n) _ _)).trans (railChanged_settingsStand _ r _ false)

theorem holdRail_settingsStand (s : State) (r : Fin 16) (old : RailState) : SettingsStand s (holdRail s r old) :=
  have off : SettingsStand s (s.modRail r fun x => { x with state := .off }) := .modRail s r _
  .ite (fun _ => .refl s) (fun _ => .ite (fun _ => (SettingsStand.modRail s r _).trans (railChanged_settingsStand _ r _ _))
    (fun _ => .ite
      (fun _ => .ite (fun _ => off.trans (startRail_settingsStand _ r)) (fun _ => off.trans (railChanged_settingsStand _ r _ _)))
      (fun _ => railChanged_settingsStand s r _ _)))

theorem restartDwell_settingsStand (s : State) (r : Fin 16) : SettingsStand s (restartDwell s r) := by
  refine (SettingsStand.modRail s r fun x => { x with dwell := 0, spacing := 0 }).trans ?_
  unfold restartDwell rephase
  split
  · exact .refl _
  · exact .foldl (fun t n => (modPort_onlyPorts t n _).settingsStand) _ _

theorem applyHolds_settingsStand (s : State) : SettingsStand s (applyHolds s) :=
  (OnlyPorts.foldl holdPort_onlyPorts s.portList s).settingsStand.trans (SettingsStand.foldl (fun t x => by
    have hold := holdRail_settingsStand t x.1 x.2
    show SettingsStand t (if _ then _ else _)
    exact .ite (fun _ => hold.trans (restartDwell_settingsStand _ x.1)) (fun _ => hold)) _ _)

/-- ENABLE is written in a rail's object. -/
theorem writeEnable_settingsStand (s : State) (r : Fin 16) (v : Nat) : SettingsStand s (writeEnable s r v) := by
  have hk : ∀ {i}, i < 256 → key 0x2500 i ≠ key (railIdx r.1) 3 := key_charger_ne ⟨by unfold railIdx; omega, by decide⟩
  have hs : SettingsStand s ((supersede s (railIdx r.1) 3).setReg (railIdx r.1) 3 v) :=
    SettingsStand.trans (t := supersede s (railIdx r.1) 3) (.of_same rfl) (.railReg _ r v (by decide))
  exact hs.trans ⟨fun _ => rfl, fun hi => State.shad_transfer_ne _ v (hk hi), fun hi => State.act_transfer_ne _ v (hk hi)⟩

theorem clearEnables_settingsStand (s : State) : SettingsStand s (clearEnables s) :=
  .foldl (fun t r => ((writeEnable_settingsStand t r 0).trans (withdrawPg_settingsStand _ r false)).trans (.modRail _ r _)) _ s

/-! ### What a mode entry does beside the mode -/

theorem rezone_settingsStand (s : State) : SettingsStand s (rezone s) := by
  unfold rezone judgeZone
  split
  all_goals
    refine SettingsStand.trans ?_ (chgSettle_onlyChg _).settingsStand
    exact .of_same rfl

theorem setEff_settingsStand (s : State) (i : Fin 16) (eff : Option Int) (src : Nat) (suspect : Bool) :
    SettingsStand s (setEff s i eff src suspect) := by
  have h : SettingsStand s (s.modTs i fun x => { x with eff := eff, src := src, suspect := suspect }) := .of_same rfl
  refine h.trans ?_
  unfold setEff noteMax
  split
  · exact .refl _
  · refine .ite (fun _ => SettingsStand.trans ?_ (.setReg _ _ ⟨by omega, by decide⟩)) (fun _ => .refl _)
    exact .of_same rfl

theorem startReadings_settingsStand (s : State) : SettingsStand s (startReadings s) :=
  .foldl (fun t i => .ite (fun _ => setEff_settingsStand t i _ _ _) (fun _ => .refl t)) _ s

theorem stopRound_settingsStand (s : State) : SettingsStand s (stopRound s) := by
  have hrow : ∀ t (c : Fin 33), SettingsStand t (if c.1 + 1 = s.milk.slot then t.modSc c fun x => { x with rejects := 0 } else t) :=
    fun t _ => .ite (fun _ => .of_same rfl) (fun _ => .refl t)
  have hbreak : SettingsStand s (breakRun s) := .ite (fun _ => SettingsStand.trans (.foldl hrow _ s) (.of_same rfl)) (fun _ => .refl s)
  exact hbreak.trans (.of_same rfl)

theorem startRound_settingsStand (s : State) : SettingsStand s (startRound s) := .ite (fun _ => .of_same rfl) (fun _ => .refl s)

theorem discardEnables_settingsStand (s : State) : SettingsStand s (discardEnables s) := by
  refine SettingsStand.foldl (fun _ _ => ?_) _ s
  exact .of_same rfl

theorem herdSend_settingsStand (s : State) (frame : List Byte) : SettingsStand s (herdSend s frame) :=
  .ite (fun _ => .of_same rfl) (fun _ => .refl s)

/-- No mode entry touches the charger's settings. -/
theorem enterMode_settingsStand (s : State) (m : Mode) (cause : Nat) : SettingsStand s (enterMode s m cause) := by
  unfold enterMode
  extract_lets was pol _ _ _ s1 s2 s3 s4 s5 s6 s7
  have h1 : SettingsStand s s1 := .of_same rfl
  have h2 : SettingsStand s1 s2 := .ite (fun _ => discardEnables_settingsStand s1) (fun _ => .refl s1)
  have h3 : SettingsStand s2 s3 := .ite (fun _ => clearEnables_settingsStand s2) (fun _ => .refl s2)
  have h4 : SettingsStand s3 s4 := by
    show SettingsStand s3 (modeResets s3 m)
    rw [modeResets_watched]
    exact .of_same rfl
  have h5 : SettingsStand s4 s5 := .ite (fun _ => (stopRound_settingsStand s4).trans (startRound_settingsStand _))
    (fun _ => .ite (fun _ => .refl s4) (fun _ => stopRound_settingsStand s4))
  have h6 : SettingsStand s5 s6 := .ite (fun _ => herdSend_settingsStand s5 _) (fun _ => .refl s5)
  have h7 : SettingsStand s6 s7 := .ite (fun _ => (startReadings_settingsStand s6).trans (rezone_settingsStand _)) (fun _ => .refl s6)
  exact ((((((h1.trans h2).trans h3).trans h4).trans h5).trans h6).trans h7).trans
    (((applyHolds_settingsStand s7).trans (chgSettle_onlyChg _).settingsStand).trans (pendSrc_settingsStand _ 24))

theorem beginPowerDown_settingsStand (s : State) (cause : Nat) : SettingsStand s (beginPowerDown s cause) := by
  have hstop : SettingsStand s (stopSqe s) := .of_same rfl
  have hentry := hstop.trans (enterMode_settingsStand (stopSqe s) .shutdown cause)
  unfold beginPowerDown
  generalize enterMode (stopSqe s) .shutdown cause = s1 at *
  exact hentry.trans (.of_same rfl)

end Sys2Proof.Machine
end

section
namespace Sys2Proof.Machine
open Sys2Proof

/-! ## A number written -/

/-- Checks 7 to 9 of one number, outside the keep store and the identity objects, are those of its value and of the present mode. -/
theorem lateCode_number {s : State} {i : Item} (hnum : i.isNum = true) (hidx : i.idx ≠ 0x2B00 ∧ i.idx ≠ 0x2C00)
    (hvals : valuesCode s (looksOf s none (expand s [(i.idx, i.sub, i.val)])) [(i.idx, i.sub, i.val)] = 0)
    (hnow : nowOk s (s.lookWith [(i.idx, i.sub, i.val)]) i.idx i.sub i.val = true) (p : HostPath) : lateCode s p none [i] = 0 := by
  have hnums : numsOf [i] = [(i.idx, i.sub, i.val)] := by simp [numsOf, hnum]
  simp only [lateCode, hnums, hvals]
  simp [firstCode, rangeCode, roomCode, tagCode, stateCode, nowCode, hnow, hidx.1, hidx.2]

/-! ## REQ_STAT (R71, R81) -/

/-- The row of REQ_STAT, of whose bits four are not reserved (Table 3-5). -/
def reqStatRow : Obj := ⟨0x08, 0x08, .num 1 false, .w1c, 0, 0, 255, some 0x0F⟩

theorem findObj_reqStat (v : Variant) : findObj v 0x2000 8 = some reqStatRow := by cases v <;> decide

/-- The value that a write of REQ_STAT makes, its reserved bits dropped (R12). -/
def reqStatItem (mask : Byte) : Item :=
  { idx := 0x2000, sub := 8, obj := reqStatRow, val := mask.toNat &&& 0x0F, bytes := leBytes 1 mask.toNat }

theorem itemsOf_reqStat (v : Variant) (mask : Byte) : itemsOf v [(0x2000, 8, leBytes 1 mask.toNat)] = (0, [reqStatItem mask]) := by
  have hval : reqStatRow.keep (leVal (leBytes 1 mask.toNat)) = mask.toNat &&& 0x0F := by
    have hlt : mask.toNat < 256 ^ 1 := mask.isLt
    rw [leVal_leBytes, Nat.mod_eq_of_lt hlt]; rfl
  have hlen : lengthOk 0x2000 8 reqStatRow (leBytes 1 mask.toNat).length = true := by rw [leBytes_length]; rfl
  have hw : reqStatRow.writable = true := rfl
  simp [itemsOf, itemOf, findObj_reqStat, hw, hlen, hval, reqStatItem]

theorem lateCode_reqStat (s : State) (p : HostPath) (mask : Byte) : lateCode s p none [reqStatItem mask] = 0 := by
  have hval : valueOk s.variant reqStatRow 0x2000 8 (mask.toNat &&& 0x0F) = true := by
    have hmax : (mask.toNat &&& 0x0F) ≤ 15 := Nat.and_le_right
    simp [valueOk, reqStatRow, Obj.value, Obj.keep, encodingOk]
    omega
  exact lateCode_number rfl (by simp [reqStatItem]) ((valuesCode_dev (findObj_reqStat _) _ _).trans (if_pos hval)) rfl p

theorem acceptNow_reqStat {s : State} (h : s.md.requal = false) (p : HostPath) (mask : Byte) :
    acceptNow s p [reqStatItem mask] = s.clrReg 0x2000 8 (mask.toNat &&& 0x0F) := by
  rw [acceptNow_one rfl (olderOf_dev s) p]
  show clearReqStat s (mask.toNat &&& 0x0F) = _
  simp [clearReqStat, h]

/-- Outside a re-qualification a write of REQ_STAT clears bits and does no more. -/
theorem reqStatClear_replied {s : State} {p : HostPath} (h : s.hears p) (hq : s.md.requal = false) (mask : Byte) :
    Replied ((granted s p).clrReg 0x2000 8 (mask.toNat &&& 0x0F)) (hostPut s p 0x2000 8 1 mask.toNat) ∧
      (hostPut s p 0x2000 8 1 mask.toNat).took p := by
  have hacts := acceptNow_reqStat (s := granted s p) (by rw [granted_regs]; exact hq) p mask
  rw [← hacts]
  exact hostWrite_accepted h (by simp) (itemsOf_reqStat _ mask) (lateCode_reqStat _ p mask) (by rw [hacts]; rfl)

/-! ## HU_TIME (R268) -/

/-- The row of HU_TIME (Table 9-11). -/
def huTimeRow : Obj := ⟨0x24, 0x24, .num 4 false, .rw, 300, 0, 86400, none⟩

theorem findObj_huTime (v : Variant) : findObj v 0x2500 0x24 = some huTimeRow := by cases v <;> decide

/-- The value that a write of HU_TIME makes. -/
def huTimeItem (v : U32) : Item := { idx := 0x2500, sub := 0x24, obj := huTimeRow, val := v.toNat, bytes := leBytes 4 v.toNat }

/-- What `chargerOk` reads. -/
theorem chargerOk_congr {look look' : Look}
    (h : ∀ sub ∈ [2, 3, 4, 5, 6, 7, 8, 9, 0x0F, 0x10, 0x11, 0x12, 0x15, 0x25], look 0x2500 sub = look' 0x2500 sub) :
    chargerOk look = chargerOk look' := by
  simp only [chargerOk, List.all_cons, List.all_nil, h 2 (by decide), h 3 (by decide), h 4 (by decide), h 5 (by decide), h 6 (by decide),
    h 7 (by decide), h 8 (by decide), h 9 (by decide), h 0x0F (by decide), h 0x10 (by decide), h 0x11 (by decide), h 0x12 (by decide),
    h 0x15 (by decide), h 0x25 (by decide)]

/-- With the charger's other settings in order and no fallback in force, a HU_TIME within its range passes. -/
theorem lateCode_huTime {s : State} {v : U32} (hv : v.toNat ≤ 86400) (hwd : s.chg.wdStopped = false)
    (hok : chargerOk (s.lookWith [(0x2500, 0x24, v.toNat)]) = true) (p : HostPath) : lateCode s p none [huTimeItem v] = 0 := by
  have hval : valueOk s.variant huTimeRow 0x2500 0x24 v.toNat = true := by
    have hmax : (v.toNat : Int) ≤ 86400 := by omega
    simp [valueOk, huTimeRow, Obj.value, Obj.keep, encodingOk, hmax]
  have hlooks : looksOf s none (expand s [(0x2500, 0x24, v.toNat)]) = [s.lookWith [(0x2500, 0x24, v.toNat)]] := rfl
  have hrel : relatedOk s (s.lookWith [(0x2500, 0x24, v.toNat)]) 0x2500 0x24 = true := hok
  have hmap : mapCode s.variant (s.lookWith [(0x2500, 0x24, v.toNat)]) 0x2500 0x24 v.toNat = 0 := rfl
  have hacc : huTimeRow.acc = .rw := rfl
  refine lateCode_number rfl (by simp [huTimeItem]) ?_ ?_ p
  · show valuesCode s (looksOf s none (expand s [(0x2500, 0x24, v.toNat)])) [(0x2500, 0x24, v.toNat)] = 0
    rw [hlooks]
    simp [valuesCode, findObj_huTime, hval, hacc, hrel, hmap]
  · show chargerNow s 0x24 v.toNat = true
    simp [chargerNow, hwd]

/-- Outstanding writes none of which names an object share nothing with a write of it. -/
theorem sharing_of_none {i : Nat} : ∀ l : List Outstanding, (∀ o ∈ l, o.idxs.contains i = false) → sharing l [i] = []
  | [], _ => rfl
  | o :: t, h => by
    have ho : o.idxs.any (List.contains [i]) = false := by
      have hi := h o (List.mem_cons_self ..)
      rw [List.any_eq_false]
      intro x hx
      simp only [List.contains_eq_mem, decide_eq_false_iff_not] at hi
      simp only [List.contains_eq_mem, List.mem_singleton, decide_eq_true_eq]
      exact fun e => hi (e ▸ hx)
    rw [sharing, ho, if_neg Bool.false_ne_true]
    exact sharing_of_none t fun q hq => h q (List.mem_cons_of_mem _ hq)

theorem olderOf_settled {s : State} (h : s.settled 0x2500) : s.olderOf [0x2500] = [] :=
  sharing_of_none _ fun o ho => Bool.eq_false_iff.mpr (List.any_eq_false.mp h o (List.mem_reverse.mp ho))

/-- HU_TIME as it stands once written: 0 never elapses. -/
theorem huElapsed_setAll (s : State) (v : Nat) : (s.setAll 0x2500 0x24 v).huElapsed =
    (v != 0 && decide (s.chg.holdAt + v * 1000 * ticksPerMs ≤ s.coreNow)) := by
  have hact : (s.setAll 0x2500 0x24 v).chgSet 0x24 = v := (s.setAll_holds 0x2500 0x24 v).2.2
  rw [State.huElapsed, hact]
  rfl

theorem holdupExpired_settingsStand (s : State) : SettingsStand s (holdupExpired s) := by
  have hdown := beginPowerDown_settingsStand s 8
  unfold holdupExpired
  split
  · rw [offRequest, if_pos ‹_›]; exact .of_same rfl
  · generalize beginPowerDown s 8 = u at *
    exact hdown.trans (.of_same rfl)

theorem holdupExpired_fences (s : State) : (holdupExpired s).cmt.fences = s.cmt.fences := by
  unfold holdupExpired
  split
  · exact (offRequest_modeWork s 8).fences
  · exact (beginPowerDown_modeWork s 8).fences

/-- A HU_TIME write stands in every copy. -/
theorem writeHuTime_holds (s : State) (v : Nat) : (writeHuTime s v).reg 0x2500 0x24 = v ∧ (writeHuTime s v).shad 0x2500 0x24 = v ∧
    (writeHuTime s v).act 0x2500 0x24 = v := by
  obtain ⟨hreg, hshad, hact⟩ := s.setAll_holds 0x2500 0x24 v
  have hstand : SettingsStand (s.setAll 0x2500 0x24 v) (writeHuTime s v) := .ite (fun _ => holdupExpired_settingsStand _) (fun _ => .refl _)
  exact ⟨(hstand.reg (by decide)).trans hreg, (hstand.shad (by decide)).trans hshad, (hstand.act (by decide)).trans hact⟩

theorem writeHuTime_fences (s : State) (v : Nat) : (writeHuTime s v).cmt.fences = s.cmt.fences := by
  unfold writeHuTime
  dsimp only
  split
  · exact holdupExpired_fences _
  · rfl

/-- An accepted write of HU_TIME acts at once. -/
theorem huTimeWrite_replied {s : State} {p : HostPath} (h : s.hears p) {v : U32} (hv : v.toNat ≤ 86400) (hwd : s.chg.wdStopped = false)
    (hok : chargerOk s.reg = true) (hset : s.settled 0x2500) :
    Replied (writeHuTime (granted s p) v.toNat) (hostPut s p 0x2500 0x24 4 v.toNat) ∧ (hostPut s p 0x2500 0x24 4 v.toNat).took p := by
  have hregs := granted_regs s p
  have hlook : chargerOk ((granted s p).lookWith [(0x2500, 0x24, v.toNat)]) = true := by
    rw [← hok]
    refine chargerOk_congr fun sub hsub => ?_
    have hs : sub ≠ 0x24 ∧ sub ≠ 0x0E ∧ sub < 256 := by simp at hsub; omega
    exact granted_lookWith_ne s p (.inr (Ne.symm hs.1)) hs.2.1 hs.2.2
  have hold : (granted s p).olderOf [0x2500] = [] := by rw [hregs]; exact olderOf_settled hset
  have hacts : acceptNow (granted s p) p [huTimeItem v] = writeHuTime (granted s p) v.toNat := acceptNow_one rfl hold p
  rw [← hacts]
  exact hostWrite_accepted h (by simp) (itemsOf_num (findObj_huTime _) rfl rfl rfl v.isLt)
    (lateCode_huTime hv (by rw [hregs]; exact hwd) hlook p) (by rw [hacts, writeHuTime_fences])

/-- Settles O22: both are numbers that no transfer carries; a hold-up that a new HU_TIME ends leaves the setting in every copy. -/
theorem requestFlagsAndHoldTime : Obligations.RequestFlagsAndHoldTime := by
  intro s p h
  obtain ⟨gmd, -, -, gfollow, -, -⟩ := granted_modes s p
  refine ⟨fun mask hq => ?_, fun v hv hwd hok hset => ?_⟩
  · obtain ⟨hreply, htook⟩ := reqStatClear_replied h hq mask
    refine after_of_done (u := hostPut s p 0x2000 8 1 mask.toNat) rfl ⟨htook, ?_, ?_⟩
    · rw [hreply.settle_md]
      exact gmd
    · rw [hreply.settle_reg s (by decide), State.reg_clrReg, granted_reg s p (by decide)]
  · obtain ⟨hreply, htook⟩ := huTimeWrite_replied h hv hwd hok hset
    obtain ⟨hreg, hshad, hact⟩ := writeHuTime_holds (granted s p) v.toNat
    have gnow : (granted s p).coreNow = s.coreNow ∧ (granted s p).chg = s.chg := by
      rw [granted_regs]; exact ⟨rfl, rfl⟩
    have hzero : v.toNat ≠ 0 ↔ v ≠ 0 := by simp [← BitVec.toNat_inj]
    have hends : ((granted s p).setAll 0x2500 0x24 v.toNat).md.mode = .holdup ∧
        ((granted s p).setAll 0x2500 0x24 v.toNat).huElapsed = true ↔
        s.md.mode = .holdup ∧ v ≠ 0 ∧ s.chg.holdAt + v.toNat * 1000 * ticksPerMs ≤ s.coreNow := by
      rw [huElapsed_setAll, State.setAll_md, gmd, gnow.1, gnow.2, ← hzero]
      simp
    refine after_of_done (u := hostPut s p 0x2500 0x24 4 v.toNat) rfl ⟨htook, ?_, ?_, ?_, fun hno => ?_, fun hend hfree => ?_⟩
    · rw [hreply.settle_reg s (by decide), hreg]
    · exact (hreply.same (·.shad 0x2500 0x24) fun _ _ _ _ => rfl).trans hshad
    · exact (hreply.same (·.act 0x2500 0x24) fun _ _ _ _ => rfl).trans hact
    · rw [hreply.settle_md, writeHuTime, if_neg (hends.not.mpr hno)]
      exact gmd
    · have hfollow : ((granted s p).setAll 0x2500 0x24 v.toNat).herdFollows = false := by
        have hherd : ((granted s p).setAll 0x2500 0x24 v.toNat).reg 0x2D00 1 = (granted s p).reg 0x2D00 1 :=
          State.reg_setReg_ne _ _ (by decide)
        rw [← hfree, ← gfollow]
        simp only [State.herdFollows, State.herdRuns, State.herdRole, hherd]
        rfl
      rw [hreply.settle_md, hreply.settle_sqe, writeHuTime, if_pos (hends.mpr hend), holdupExpired_md hfollow]
      exact ⟨rfl, rfl, holdupExpired_stat hfollow⟩

end Sys2Proof.Machine
end

section
/-! SUPPORT. What the units' and the modes' business can do to one port and its rail: a port at rest stays at rest, and a rail is fenced
or held with the port's gates low. Said once for each operation and composed by transitivity. -/

namespace Sys2Proof.Machine
open Sys2Proof

/-! ## What leaves every port and rail -/

/-- The ports, the rails and the settings in force. -/
def State.units (s : State) := (s.variant, s.active, s.ports, s.rails)

theorem Noted.units {s t : State} (h : Noted s t) : t.units = s.units := h.same State.units fun _ _ _ _ _ _ _ => rfl

theorem OnlyChg.units {s t : State} (h : OnlyChg s t) : t.units = s.units := h.same State.units fun _ _ _ => rfl

theorem Replied.units {s t : State} (h : Replied s t) : t.units = s.units := h.same State.units fun _ _ _ _ => rfl

theorem units_foldl {α : Type} {f : State → α → State} (h : ∀ s a, (f s a).units = s.units) (l : List α) :
    ∀ s, (l.foldl f s).units = s.units := by
  induction l with
  | nil => exact fun _ => rfl
  | cons a l ih => exact fun s => (ih _).trans (h s a)

theorem units_ite {s t u : State} {c : Prop} [Decidable c] (h : t.units = s.units) (k : u.units = s.units) :
    (if c then t else u).units = s.units := by
  split
  · exact h
  · exact k

theorem logConsequent_units (s : State) (code unit : U16) (cause : U32) : (logConsequent s code unit cause).units = s.units := by
  unfold logConsequent
  split
  · rfl
  · exact units_ite (addEntry_noted s _).units rfl

theorem showMailbox_units (s : State) (c : Fin 8) (code : Nat) : (showMailbox s c code).units = s.units := (pendSrc_noted _ 38).units

theorem endOwed_units (s : State) (p : HostPath) (fence : Bool) (code : Nat) : (endOwed s p fence code).units = s.units := by
  have hanswer : (answerOwed s p fence code).units = s.units := (sendReply_replied _ p _ code []).units
  have hwait : ∀ c, (endWaiting (answerOwed s p fence code) c code).units = s.units := fun c =>
    units_ite ((showMailbox_units _ c code).trans hanswer) ((showMailbox_units _ c code).trans hanswer)
  unfold endOwed
  split
  · exact hwait _
  · exact hanswer

theorem answerKeys_units (s : State) (ws : List KeyWait) (code : Nat) : (answerKeys s ws code).units = s.units :=
  units_foldl (fun t w => by
    show (match w.path with | none => t | some p => endOwed t p false code).units = t.units
    split
    · rfl
    · exact endOwed_units t _ false code) ws s

theorem undoLost_units (s : State) (cs : List StoreCause) : (undoLost s cs).units = s.units := by
  have hconfig : (undoConfig s).units = s.units := by
    unfold undoConfig
    split <;> rfl
  have hkey : ∀ t, (undoKey t).units = t.units := fun t => by
    unfold undoKey
    split
    · rfl
    · exact answerKeys_units _ _ _
  have h1 : (if cs.contains .config then undoConfig s else s).units = s.units := units_ite hconfig rfl
  exact units_ite ((hkey _).trans h1) h1

theorem skipStore_units (s : State) (cs : List StoreCause) : (skipStore s cs).units = s.units := by
  unfold skipStore
  extract_lets _ _ s1 s2
  have h2 : s2.units = s.units := undoLost_units _ cs
  exact (pendSrc_noted _ 36).units.trans (units_ite ((logOnly_noted s2 _ _ _).units.trans h2) h2)

theorem startStore_units (s : State) (c : StoreCause) : (startStore s c).units = s.units :=
  show (storePhase1 s _).units = s.units from units_ite rfl (units_ite rfl rfl)

theorem requestStore_units (s : State) (c : StoreCause) : (requestStore s c).units = s.units := by
  unfold requestStore
  split
  · exact units_ite (undoLost_units _ _) rfl
  · exact units_ite (startStore_units s c) (units_ite (skipStore_units s _) (units_ite rfl rfl))

theorem stopRound_units (s : State) : (stopRound s).units = s.units := by
  have hrow : ∀ (t : State) (c : Fin 33), (if c.1 + 1 = s.milk.slot then t.modSc c fun x => { x with rejects := 0 } else t).units = t.units :=
    fun _ _ => units_ite rfl rfl
  have hbreak : (breakRun s).units = s.units := units_ite (units_foldl hrow _ s) rfl
  exact hbreak

theorem startRound_units (s : State) : (startRound s).units = s.units := units_ite rfl rfl

theorem discardEnables_units (s : State) : (discardEnables s).units = s.units := by
  refine units_foldl (fun _ _ => ?_) _ s
  rfl

theorem herdSend_units (s : State) (frame : List Byte) : (herdSend s frame).units = s.units := units_ite rfl rfl

theorem setEff_units (s : State) (i : Fin 16) (eff : Option Int) (src : Nat) (suspect : Bool) : (setEff s i eff src suspect).units = s.units := by
  unfold setEff noteMax
  split
  · rfl
  · exact units_ite rfl rfl

theorem startReadings_units (s : State) : (startReadings s).units = s.units :=
  units_foldl (fun t i => units_ite (setEff_units t i _ _ _) rfl) _ s

theorem rezone_units (s : State) : (rezone s).units = s.units := by
  unfold rezone judgeZone
  split <;> exact (chgSettle_onlyChg _).units

theorem modeResets_units (s : State) (m : Mode) : (modeResets s m).units = s.units := by cases m <;> rfl

theorem setPos_units (s : State) (p : StepPos) : (s.setPos p).units = s.units := by
  unfold State.setPos
  split <;> rfl

theorem callPartial_units (s : State) (p : PartialRun) : (callPartial s p).units = s.units := by
  unfold callPartial
  split
  · exact units_ite rfl rfl
  · rfl
  · rfl

theorem dropRestarts_units (s : State) : (dropRestarts s).units = s.units := units_ite rfl rfl

end Sys2Proof.Machine
end

section
namespace Sys2Proof.Machine
open Sys2Proof

/-! ## A port and its rail shut down together -/

/-- Both gates low, in a state from which the units' business raises neither. -/
def Port.AtRest (p : Port) : Prop :=
  p.gh = false ∧ p.gl = false ∧ p.state ∈ [PortState.off, .ready, .precharge, .switching, .tripped, .held, .fenced]

/-- OFF, FENCED or HELD: what a stop or a trip of the rail leaves as it is. -/
def Port.Parked (p : Port) : Prop := p.state = .off ∨ p.state = .fenced ∨ p.state = .held

/-- FENCED or HELD: what a trip leaves as it is. -/
def RailState.Shut (x : RailState) : Prop := x = .fenced ∨ x = .held

theorem off_unshut : ¬RailState.off.Shut := by rintro (e | e) <;> exact nomatch e

theorem prebias_unshut : ¬RailState.prebias.Shut := by rintro (e | e) <;> exact nomatch e

/-- No half of a BB4 pair, at rest when it is parked and when its rail is fenced or held. -/
structure State.ShutsWith (s : State) (n : Fin 32) : Prop where
  alone : s.pers n.1 ≠ 3
  parked : s.ports[n].Parked → s.ports[n].AtRest
  rail : ∀ r, s.railOf n = some r → s.rails[r].state.Shut → s.ports[n].AtRest

/-- `t` follows `s` with the membership in force; port `n` stays at rest if it is, and goes on shutting down with its rail. -/
structure Rests (n : Fin 32) (s t : State) : Prop where
  variant : t.variant = s.variant
  members : ∀ idx, t.act idx 1 = s.act idx 1
  rest : s.ports[n].AtRest → t.ports[n].AtRest
  shuts : s.ShutsWith n → t.ShutsWith n

theorem railOf_congr {s t : State} (hv : t.variant = s.variant) (hm : ∀ idx, t.act idx 1 = s.act idx 1) (n : Fin 32) : t.railOf n = s.railOf n := by
  have hpers : t.pers = s.pers := funext fun _ => hm _
  have hmask : t.mask = s.mask := funext fun _ => hm _
  have hlist : t.railList = s.railList := by rw [State.railList, State.railList, hv]
  simp only [State.railOf, State.pairLead, hpers, hmask, hlist]

section
variable {n : Fin 32}

theorem Rests.railOf {s t : State} (h : Rests n s t) : t.railOf n = s.railOf n := railOf_congr h.variant h.members n

theorem Rests.refl (s : State) : Rests n s s := ⟨rfl, fun _ => rfl, id, id⟩

theorem Rests.trans {s t u : State} (h : Rests n s t) (k : Rests n t u) : Rests n s u :=
  ⟨k.variant.trans h.variant, fun idx => (k.members idx).trans (h.members idx), k.rest ∘ h.rest, k.shuts ∘ h.shuts⟩

theorem Rests.ite {s t u : State} {c : Prop} [Decidable c] (h : c → Rests n s t) (k : ¬c → Rests n s u) : Rests n s (if c then t else u) := by
  split
  · exact h ‹_›
  · exact k ‹_›

theorem Rests.foldl {α : Type} {f : State → α → State} (h : ∀ s a, Rests n s (f s a)) (l : List α) : ∀ s, Rests n s (l.foldl f s) := by
  induction l with
  | nil => exact .refl
  | cons a l ih => exact fun s => (h s a).trans (ih _)

/-- Settings changed that no membership hangs on. -/
theorem Rests.of_act {s t : State} (hv : t.variant = s.variant) (hm : ∀ idx, t.act idx 1 = s.act idx 1) (hp : t.ports = s.ports)
    (hr : t.rails = s.rails) : Rests n s t := by
  refine ⟨hv, hm, by rw [hp]; exact id, fun h => ⟨?_, by rw [hp]; exact h.parked, fun r => ?_⟩⟩
  · rw [State.pers, hm]; exact h.alone
  · rw [railOf_congr hv hm, hr, hp]; exact h.rail r

/-- A change of neither ports, nor rails, nor settings in force. -/
theorem Rests.same {s t : State} (h : (t.variant, t.active, t.ports, t.rails) = (s.variant, s.active, s.ports, s.rails)) : Rests n s t := by
  simp only [Prod.mk.injEq] at h
  obtain ⟨hv, ha, hp, hr⟩ := h
  exact .of_act hv (fun idx => by rw [State.act, State.act, ha, hv]) hp hr

theorem Rests.of_units {s t : State} (h : t.units = s.units) : Rests n s t := .same h

/-- `q` is a course of `p` that keeps a port at rest, and parks it at rest. -/
structure Port.Lowers (p q : Port) : Prop where
  rest : p.AtRest → q.AtRest
  parked : (p.Parked → p.AtRest) → q.Parked → q.AtRest

theorem Port.AtRest.lowers {q : Port} (h : q.AtRest) (p : Port) : p.Lowers q := ⟨fun _ => h, fun _ _ => h⟩

theorem Port.Lowers.of_same {p q : Port} (hs : q.state = p.state) (hh : q.gh = p.gh) (hl : q.gl = p.gl) : p.Lowers q := by
  have e : q.AtRest ↔ p.AtRest := by rw [Port.AtRest, Port.AtRest, hs, hh, hl]
  have f : q.Parked ↔ p.Parked := by rw [Port.Parked, Port.Parked, hs]
  exact ⟨e.mpr, fun h hq => e.mpr (h (f.mp hq))⟩

theorem Rests.modPort {s : State} {m : Fin 32} {f : Port → Port} (h : s.ports[m].Lowers (f s.ports[m])) : Rests n s (s.modPort m f) := by
  by_cases hm : n = m
  · subst hm
    refine ⟨rfl, fun _ => rfl, ?_, fun k => ⟨k.alone, ?_, fun r hr hs => ?_⟩⟩ <;> rw [State.modPort_ports_self]
    · exact h.rest
    · exact h.parked k.parked
    · exact h.rest (k.rail r hr hs)
  · refine ⟨rfl, fun _ => rfl, ?_, fun k => ⟨k.alone, ?_, fun r hr hs => ?_⟩⟩ <;> rw [State.modPort_ports_ne s f hm]
    · exact id
    · exact k.parked
    · exact k.rail r hr hs

/-- A rail's record changed: where that fences or holds the rail of `n`, the port is at rest. -/
theorem Rests.modRail {s : State} {r : Fin 16} {f : Rail → Rail}
    (h : s.ShutsWith n → s.railOf n = some r → (f s.rails[r]).state.Shut → s.ports[n].AtRest) : Rests n s (s.modRail r f) := by
  refine ⟨rfl, fun _ => rfl, id, fun k => ⟨k.alone, k.parked, fun q hq hs => ?_⟩⟩
  by_cases hqr : q = r
  · subst hqr
    rw [State.modRail_rails_self] at hs
    exact h k hq hs
  · rw [State.modRail_rails_ne s f hqr] at hs
    exact k.rail q hq hs

/-- The rail's state stands, or becomes another than FENCED and HELD. -/
theorem Rests.modRail_of_state {s : State} {r : Fin 16} {f : Rail → Rail}
    (h : (f s.rails[r]).state = s.rails[r].state ∨ ¬(f s.rails[r]).state.Shut) :
    Rests n s (s.modRail r f) :=
  .modRail fun k hr hs => k.rail r hr (h.elim (fun e => e ▸ hs) (absurd hs))

/-- Where the members of a list are put to rest one by one, so is `n`. -/
theorem foldl_atRest {f : State → Fin 32 → State} (hf : ∀ s m, Rests n s (f s m)) (hn : ∀ s, s.ShutsWith n → (f s n).ports[n].AtRest)
    (l : List (Fin 32)) : n ∈ l → ∀ s : State, s.ShutsWith n → (l.foldl f s).ports[n].AtRest := by
  induction l with
  | nil => exact fun h => absurd h List.not_mem_nil
  | cons a l ih =>
    intro h s k
    rcases List.mem_cons.mp h with rfl | h
    · exact (Rests.foldl hf l _).rest (hn s k)
    · exact ih h _ ((hf s a).shuts k)

/-! ### Ports -/

theorem atRest_still (p : Port) {st : PortState} (h : st ∈ [PortState.off, .ready, .precharge, .switching, .tripped, .held, .fenced]) :
    (p.still st).AtRest := ⟨rfl, rfl, h⟩

theorem atRest_begin (p : Port) (pers : Nat) : (p.begin pers).AtRest := by
  refine ⟨rfl, rfl, ?_⟩
  show (if pers = 6 then PortState.switching else .precharge) ∈ _
  split <;> decide

theorem startPort_rests (s : State) (r : Fin 16) (m : Fin 32) : Rests n s (startPort s r m) := by
  refine .ite (fun _ => .refl s) fun _ => .modPort ?_
  split
  · exact .of_same rfl rfl rfl
  · exact (atRest_begin _ _).lowers _

theorem readyPort_rests (s : State) (m : Fin 32) : Rests n s (readyPort s m) := by
  unfold readyPort
  split
  iterate 3 exact .refl s
  · exact .modPort ((atRest_still _ (by decide)).lowers _)

theorem tripPort_rests (s : State) (m : Fin 32) : Rests n s (tripPort s m) := by
  unfold tripPort
  split
  iterate 3 exact .refl s
  · exact .modPort ((atRest_still _ (by decide)).lowers _)

theorem endPort_rests (s : State) (m : Fin 32) : Rests n s (endPort .ready s m) := by
  unfold endPort
  split
  iterate 3 exact .refl s
  · refine .modPort ?_
    unfold Port.stopTo
    split
    · exact .of_same rfl rfl rfl
    · exact (atRest_still _ (by decide)).lowers _

/-- A forced turn-off discharges nothing: what is not parked goes to READY, or a coil to RELEASE. -/
theorem releasePort_rests (s : State) (m : Fin 32) : Rests n s (releasePort s m true) := by
  have ready : Rests n s (s.modPort m fun p => p.still .ready) := .modPort ((atRest_still _ (by decide)).lowers _)
  have release : s.ports[m].state = .pullIn ∨ s.ports[m].state = .hold → Rests n s (s.modPort m fun p => p.still .release) := fun h =>
    .modPort ⟨fun k => by rcases h with h | h <;> exact absurd (h ▸ k.2.2) (by decide),
      fun _ k => by rcases k with k | k | k <;> exact nomatch k⟩
  unfold releasePort
  split
  iterate 3 exact .refl s
  iterate 2 exact .ite (fun h => absurd h.2 (by decide)) fun _ => ready
  · next h => exact release (.inl h)
  · next h => exact release (.inr h)
  iterate 2 exact ready
  · exact ready

theorem holdPort_rests (s : State) (m : Fin 32) : Rests n s (holdPort s m) := by
  have still : ∀ {st : PortState}, st ∈ [PortState.ready, .held] → Rests n s (s.modPort m fun p => p.still st) := fun {st} h =>
    .modPort ((atRest_still _ (by revert st; decide)).lowers _)
  unfold holdPort
  split
  iterate 2 exact .refl s
  · refine .ite (fun _ => .refl s) fun _ => ?_
    split
    · exact still (by decide)
    · exact .ite (fun _ => .modPort ((atRest_begin _ _).lowers _)) fun _ => still (by decide)
  · exact .ite (fun _ => still (by decide)) fun _ => .refl s

/-- A port of the rail put to READY or TRIPPED with it is at rest: it was parked, and so at rest, or is stilled. -/
theorem readyPort_atRest {s : State} (h : s.ShutsWith n) : (readyPort s n).ports[n].AtRest := by
  unfold readyPort
  split
  · next e => exact h.parked (.inl e)
  · next e => exact h.parked (.inr (.inl e))
  · next e => exact h.parked (.inr (.inr e))
  · rw [State.modPort_ports_self]; exact atRest_still _ (by decide)

theorem tripPort_atRest {s : State} (h : s.ShutsWith n) : (tripPort s n).ports[n].AtRest := by
  unfold tripPort
  split
  · next e => exact h.parked (.inl e)
  · next e => exact h.parked (.inr (.inl e))
  · next e => exact h.parked (.inr (.inr e))
  · rw [State.modPort_ports_self]; exact atRest_still _ (by decide)

/-! ### Rails -/

theorem withdrawPg_rests (s : State) (r : Fin 16) (loss : Bool) : Rests n s (withdrawPg s r loss) := by
  have h1 : Rests n s (s.modRail r fun x => { x with pg := false, pgRun := 0, pgOff := 0 }) := .modRail_of_state (.inl rfl)
  exact h1.trans (.ite (fun _ => .of_units (units_ite (logOnly_noted _ _ _ _).units rfl)) fun _ => .refl _)

theorem railChanged_rests (s : State) (r : Fin 16) (old : RailState) (off : Bool) : Rests n s (railChanged s r old off) :=
  .ite (fun _ => .refl s) fun _ =>
    Rests.trans (.ite (fun _ => withdrawPg_rests s r _) fun _ => .refl s) (.modRail_of_state (.inl rfl))

theorem startRail_rests (s : State) (r : Fin 16) : Rests n s (startRail s r) := by
  unfold startRail
  extract_lets old s1
  have h1 : Rests n s s1 := .modRail_of_state (.inr prebias_unshut)
  exact (h1.trans (.foldl (fun t m => startPort_rests t r m) _ s1)).trans (railChanged_rests _ r old false)

theorem railOff_rests (s : State) (r : Fin 16) : Rests n s (railOff s r) := by
  unfold railOff
  extract_lets old s1 s2
  have h1 : Rests n s s1 := .foldl endPort_rests _ s
  have hoff : Rests n s1 (s1.modRail r fun x => { x with state := .off, shed := 0, trunc := false }) :=
    .modRail_of_state (.inr off_unshut)
  have h2 : Rests n s s2 := (h1.trans hoff).trans (railChanged_rests _ r old true)
  exact .ite (fun _ => h2.trans (startRail_rests s2 r)) fun _ => h2

theorem stopRail_rests (s : State) (r : Fin 16) : Rests n s (stopRail s r true) := by
  unfold stopRail
  extract_lets old s1
  have h1 : Rests n s s1 := .modRail_of_state (.inl rfl)
  have off := h1.trans (railOff_rests s1 r)
  refine .ite (fun _ => ?_) fun _ => ?_
  · have hstop : Rests n s1 (s1.modRail r fun x => { x with state := if x.state = .fenced then .fenced else .off }) := .modRail_of_state (by
      by_cases e : s1.rails[r].state = .fenced
      · exact .inl ((if_pos e).trans e.symm)
      · exact .inr (by show ¬RailState.Shut (if _ then _ else _); rw [if_neg e]; exact off_unshut))
    exact ((h1.trans hstop).trans (.foldl releasePort_rests _ _)).trans (railChanged_rests _ r old true)
  · split
    iterate 3 exact h1
    iterate 2 exact off
    iterate 2 exact .ite (fun _ => off) fun h => absurd rfl h
    iterate 2 exact off

/-- No write of ENABLE moves a membership. -/
theorem writeEnable_rests (s : State) (r : Fin 16) (v : Nat) : Rests n s (writeEnable s r v) :=
  .of_act rfl (fun idx => State.act_transfer_ne ((supersede s (railIdx r.1) 3).setReg (railIdx r.1) 3 v) v (by
    show (idx * 256 + 1 : Nat) ≠ railIdx r.1 * 256 + 3
    omega)) rfl rfl

theorem devDisable_rests (s : State) (r : Fin 16) : Rests n s (devDisable s r true) := (writeEnable_rests s r 0).trans (stopRail_rests _ r)

theorem clearEnables_rests (s : State) : Rests n s (clearEnables s) := by
  refine Rests.foldl (fun t r => ?_) _ s
  exact ((writeEnable_rests t r 0).trans (withdrawPg_rests _ r false)).trans (.modRail_of_state (.inl rfl))

theorem rephase_rests (s : State) (r : Fin 16) : Rests n s (rephase s r) := by
  unfold rephase
  split
  · exact .refl s
  · exact Rests.foldl (f := fun t m => t.modPort m _) (fun t m => .modPort (.of_same rfl rfl rfl)) _ s

theorem restartDwell_rests (s : State) (r : Fin 16) : Rests n s (restartDwell s r) := by
  have h1 : Rests n s (s.modRail r fun x => { x with dwell := 0, spacing := 0 }) := .modRail_of_state (.inl rfl)
  exact h1.trans (rephase_rests _ r)

/-- A port that is no half of a pair is a phase of its rail. -/
theorem mem_phases_of_railOf {s : State} {r : Fin 16} (ha : s.pers n.1 ≠ 3) (hr : s.railOf n = some r) : n ∈ s.phases r := by
  have hlead : s.pairLead n.1 = n.1 := if_neg fun e => ha e.1
  have hm := (List.mem_filter.mp (mem_members_of_railOf hr)).2
  rw [hlead] at hm
  exact List.mem_filter.mpr ⟨List.mem_finRange n, hm⟩

/-- A rail goes to HELD with every phase that is not fenced. -/
theorem holdRail_rests (s : State) (r : Fin 16) (old : RailState) : Rests n s (holdRail s r old) := by
  have off : Rests n s (s.modRail r fun x => { x with state := .off }) := .modRail_of_state (.inr off_unshut)
  refine .ite (fun _ => .refl s) fun _ => .ite (fun hall => Rests.trans (.modRail fun k hr _ => k.parked ?_) (railChanged_rests _ r old false))
    fun _ => .ite (fun _ => .ite (fun _ => off.trans (startRail_rests _ r)) fun _ => off.trans (railChanged_rests _ r old false))
      fun _ => railChanged_rests s r old false
  by_cases hf : s.ports[n].state = .fenced
  · exact .inr (.inl hf)
  · have hlive : n ∈ s.livePhases r := List.mem_filter.mpr ⟨mem_phases_of_railOf k.alone hr, decide_eq_true hf⟩
    exact .inr (.inr (by simpa using List.all_eq_true.mp hall n hlive))

theorem applyHolds_rests (s : State) : Rests n s (applyHolds s) := by
  refine (Rests.foldl holdPort_rests s.portList s).trans (Rests.foldl (fun t x => ?_) _ _)
  exact .ite (fun _ => (holdRail_rests t x.1 x.2).trans (restartDwell_rests _ x.1)) fun _ => holdRail_rests t x.1 x.2

end

end Sys2Proof.Machine
end

section
namespace Sys2Proof.Machine
open Sys2Proof

/-! ## Mode entries, scripts and trips leave a port at rest -/

section
variable {n : Fin 32}

theorem enterMode_rests (s : State) (m : Mode) (cause : Nat) : Rests n s (enterMode s m cause) := by
  unfold enterMode
  extract_lets was pol _ _ _ s1 s2 s3 s4 s5 s6 s7
  have h2 : Rests n s s2 := .of_units (units_ite (discardEnables_units s1) rfl)
  have h3 : Rests n s2 s3 := .ite (fun _ => clearEnables_rests s2) fun _ => .refl s2
  have h5 : s5.units = s4.units := units_ite ((startRound_units _).trans (stopRound_units s4)) (units_ite rfl (stopRound_units s4))
  have h6 : s6.units = s5.units := units_ite (herdSend_units s5 _) rfl
  have h7 : s7.units = s6.units := units_ite ((rezone_units _).trans (startReadings_units s6)) rfl
  have h : Rests n s3 s7 := .of_units (h7.trans (h6.trans (h5.trans (modeResets_units s3 m))))
  exact (((h2.trans h3).trans h).trans (applyHolds_rests s7)).trans
    (.of_units ((pendSrc_noted _ 24).units.trans (chgSettle_onlyChg _).units))

/-- A mode entered with the scripts stopped. -/
theorem enterStopped_rests (s : State) (m : Mode) (cause : Nat) : Rests n s (enterMode (stopSqe s) m cause) :=
  have h : Rests n s (stopSqe s) := .same rfl
  h.trans (enterMode_rests _ m cause)

/-- Changes of the mode, the sequencer and the sensors. -/
theorem Rests.update (s : State) (md : Modes) (sqe : Sqe) (thm : Thermal) : Rests n s { s with md := md, sqe := sqe, thm := thm } := .same rfl

theorem orReg_rests (s : State) (idx sub m : Nat) : Rests n s (s.orReg idx sub m) := .same rfl

theorem beginPowerDown_rests (s : State) (cause : Nat) : Rests n s (beginPowerDown s cause) :=
  (enterStopped_rests s .shutdown cause).trans (.update _ _ _ _)

theorem beginReversal_rests (s : State) (cause : Nat) : Rests n s (beginReversal s cause) :=
  ((enterStopped_rests s .shutdown cause).trans (.update _ _ _ _)).trans (orReg_rests _ _ _ _)

theorem Rests.updateHerd (s : State) (herd : Herd) (thm : Thermal) : Rests n s { s with herd := herd, thm := thm } := .same rfl

theorem Rests.updatePower (s : State) (md : Modes) (sqe : Sqe) (pwr : Power) (pins : Pins) :
    Rests n s { s with md := md, sqe := sqe, pwr := pwr, pins := pins } := .same rfl

theorem beginStartup_rests (s : State) (cause : Nat) : Rests n s (beginStartup s cause) := by
  have h0 : Rests n s (s.clrReg 0x2000 8 1) := .same rfl
  have h1 := h0.trans (enterStopped_rests _ .startup cause)
  unfold beginStartup
  generalize enterMode (stopSqe (s.clrReg 0x2000 8 1)) .startup cause = s1 at *
  extract_lets _ _ _ _ _ s2
  have h2 : Rests n s s2 := h1.trans (.updatePower _ _ _ _ _)
  clear_value s2
  exact .ite (fun _ => h2.trans (.updateHerd _ _ _)) fun _ =>
    .ite (fun _ => (h2.trans (beginReversal_rests s2 11)).trans (.update _ _ _ _)) fun _ => h2

theorem forceTiming_rests (s : State) : Rests n s (forceTiming s) := by
  unfold forceTiming
  extract_lets _ s0 s1
  have h0 : Rests n s s0 := .same rfl
  have h1 : Rests n s0 s1 := .ite (fun _ => Rests.foldl (fun t r => .ite (fun _ => stopRail_rests t r) fun _ => .refl t) _ s0) fun _ => .refl s0
  exact (h0.trans h1).trans (.of_units (herdSend_units s1 _))

theorem enterStandby_rests (s : State) (cause : Nat) : Rests n s (enterStandby s cause) := by
  unfold enterStandby
  extract_lets s1 _ _ _ s2
  have h2 : Rests n s1 s2 := .same rfl
  exact ((enterStopped_rests s .standby cause).trans h2).trans (.of_units (requestStore_units s2 .standby))

theorem enterService_rests (s : State) (cause : Nat) : Rests n s (enterService s cause) :=
  (enterStopped_rests s .service cause).trans (.update _ _ _ _)

theorem clrReq_rests (s : State) (m : Nat) : Rests n s (s.clrReg 0x2000 8 m) := .same rfl

theorem offNow_rests (s : State) (cause : Nat) : Rests n s (offNow s cause) := by
  have h1 := clrReq_rests (n := n) s 1
  unfold offNow
  split
  · exact h1.trans (beginReversal_rests _ cause)
  iterate 2 exact h1.trans (beginPowerDown_rests _ cause)
  · exact .ite (fun _ => (h1.trans (clrReq_rests _ 4)).trans (enterStandby_rests _ cause)) fun _ => h1
  · exact .refl s

theorem forcedOff_rests (s : State) (cause : Nat) : Rests n s (forcedOff s cause) := by
  have h := offNow_rests (n := n) s cause
  refine .ite (fun _ => ?_) fun _ => .ite (fun _ => h.trans (forceTiming_rests _)) fun _ => h
  exact .same rfl

theorem stopNow_rests (s : State) : Rests n s (stopNow s) := by
  unfold stopNow
  split
  · exact (beginReversal_rests s 11).trans (.update _ _ _ _)
  iterate 2 exact (beginPowerDown_rests s 11).trans (.update _ _ _ _)
  · have h1 := clrReq_rests (n := n) s 5
    exact .ite (fun _ => (h1.trans (.update _ _ _ _)).trans (enterStopped_rests _ .safestop 11)) fun _ => h1.trans (.update _ _ _ _)
  · have h1 : Rests n s (s.setReg 0x2000 0x0D 0xFF) := .same rfl
    exact (h1.trans (.update _ _ _ _)).trans (applyHolds_rests _)
  · exact .refl s

theorem orderlyStop_rests (s : State) : Rests n s (orderlyStop s) := by
  refine .ite (fun _ => ?_) fun _ => stopNow_rests s
  exact .same rfl

theorem trip_rests (s : State) (hard : Bool) : Rests n s (trip s hard) := by
  unfold trip
  extract_lets _ s1 _ m s2
  have h1 : Rests n s s1 := .same rfl
  have hstop : Rests n s1 (stopSqe s1) := .same rfl
  have hmode : Rests n s1 s2 := (Rests.update s1 m _ _).trans (enterStopped_rests _ .safestop 10)
  exact .ite (fun _ => h1) fun _ => .ite (fun _ => h1.trans hstop) fun _ => .ite
    (fun _ => ((h1.trans hstop).trans (applyHolds_rests _)).trans (.of_units (chgSettle_onlyChg _).units))
    fun _ => (h1.trans hmode).trans (clrReq_rests s2 4)

/-! ### The ends of scripts -/

theorem idleSqe_rests (s : State) : Rests n s (idleSqe s) := .same rfl

theorem endDown_rests (s : State) : Rests n s (endDown s) := by
  unfold endDown
  extract_lets left s1
  have h0 : Rests n s (setResets s 3 true) := .same rfl
  have h1 : Rests n s s1 := h0.trans (.foldl devDisable_rests left _)
  exact .ite (fun _ => h1) fun _ => h1.trans (.same rfl)

theorem afterDown_rests (s : State) : Rests n s (afterDown s) := by
  unfold afterDown
  extract_lets s1 _
  have h1 : Rests n s s1 := (endDown_rests s).trans (idleSqe_rests _)
  have hflag : Rests n s1 (s1.orReg 0x2000 8 4) := .same rfl
  exact .ite (fun _ => h1.trans (enterMode_rests s1 .safestop 9)) fun _ => .ite (fun _ => (h1.trans hflag).trans (.update _ _ _ _)) fun _ =>
    .ite (fun _ => h1.trans (beginStartup_rests s1 9)) fun _ => .ite (fun _ => h1.trans (enterService_rests s1 9)) fun _ =>
      h1.trans (enterStandby_rests s1 9)

theorem tagRail_rests (s : State) (r : Fin 16) : Rests n s (tagRail s r) := by
  unfold tagRail
  extract_lets s1
  have h1 : Rests n s s1 := .modRail_of_state (.inl rfl)
  refine .ite (fun _ => ?_) fun _ => h1
  split
  · exact (h1.trans (.modRail_of_state (.inl rfl))).trans (.of_units (callPartial_units _ _))
  · exact h1.trans (.modRail_of_state (.inl rfl))
  · exact h1

theorem enterHoldup_rests (s : State) (cause : Nat) : Rests n s (enterHoldup s cause) := by
  unfold enterHoldup
  extract_lets s1 _ s2 s3
  have hstart : Rests n s1 s2 := .same rfl
  have h2 : Rests n s s2 := (enterMode_rests s .holdup cause).trans hstart
  have h3 : Rests n s s3 := (h2.trans (beginPowerDown_rests s2 8)).trans (forceTiming_rests _)
  exact .ite (fun _ => .ite (fun _ => h2.trans (forcedOff_rests s2 8)) fun _ => h3.trans (.update s3 _ _ _)) fun _ =>
    (h2.trans (.of_units (dropRestarts_units s2))).trans (.foldl tagRail_rests _ _)

theorem afterUp_rests (s : State) : Rests n s (afterUp s) :=
  .ite (fun _ => (idleSqe_rests s).trans (enterMode_rests _ .run 9)) fun _ => (idleSqe_rests s).trans (enterHoldup_rests _ 9)

theorem nextStep_rests (s : State) : Rests n s (nextStep s) := by
  have pos : ∀ p, Rests n s (s.setPos p) := fun p => .of_units (setPos_units s p)
  have herd : ∀ (t : State) h, Rests n s t → Rests n s { t with herd := h } := fun t h k => k.trans (.same rfl)
  unfold nextStep
  extract_lets p
  split
  · exact .ite (fun _ => herd _ _ (pos _)) fun _ => .ite (fun _ => pos _) fun _ => afterUp_rests s
  iterate 2 exact .ite (fun _ => herd _ _ (pos _)) fun _ => .ite (fun _ => pos _) fun _ => afterDown_rests s
  · split
    · exact pos _
    · exact idleSqe_rests s
  · exact .refl s
  · split
    · exact .refl s
    · exact .ite (fun _ => .same rfl) fun _ => .same rfl

/-! ### Reports -/

/-- A report's record leaves the units; what its fences leave at rest, its trip does. -/
theorem collect_rests {s : State} {code unit : U16} (hc : code ≠ 0x0309)
    (hf : ∀ row, s.rowFor code unit = some row → ∀ t, Rests n t (fencedFor t row (s.classOf row unit) unit)) (detail : U16) :
    Rests n s (collect s code unit detail) := by
  by_cases hl : s.live = true
  · cases hr : s.rowFor code unit with
    | none => rw [collect, collectAt, if_pos hl, hr]; exact .refl s
    | some row =>
      have hrec : Rests n s (s.recorded row code unit detail s.now) := .of_units (recorded_noted s row hc unit detail s.now).units
      have hfence := hrec.trans (hf row hr _)
      rw [collect, collectAt_live hl hr, pay_eq]
      exact .ite (fun _ => hfence.trans (trip_rests _ _)) fun _ => hfence
  · rw [collect, collectAt, if_neg hl]
    have h : Rests n s (aonReport s code unit) := .same rfl
    exact .ite (fun _ => h.trans (trip_rests _ false)) fun _ => .refl s

/-- A report of a row that fences nothing and is not raised to. -/
theorem fencedFor_of_plain {row : FaultRow} (hf : fencesItself row = false) (h308 : row.code ≠ 0x0308) {cls : FClass}
    (hc : row.cls ≠ .c ∨ cls = .c) (s : State) (unit : U16) : fencedFor s row cls unit = s := by
  have h : (cls == .u && row.cls == .c) = false := by rcases hc with h | h <;> simp [h]
  rw [fencedFor, if_neg h308, hf, h]
  rfl

/-- Class U rows of the ports', rails' and scripts' own faults, with their class C rows that are never raised: they fence nothing. -/
theorem plainReport_rests {s : State} {code : U16} {row : FaultRow} (hr : faultRow code = some row) (h405 : code ≠ 0x0405 ∧ code ≠ 0x0309)
    (hf : fencesItself row = false ∧ row.code ≠ 0x0308) (hc : row.cls ≠ .c ∨ row.cls = .c ∧ row.ack ≠ .h) (unit detail : U16) :
    Rests n s (collect s code unit detail) := by
  refine collect_rests h405.2 (fun row' hr' t => ?_) detail
  have e : row' = row := Option.some.inj (hr'.symm.trans ((rowFor_of_ne s h405.1 unit).trans hr))
  have hplain : row.cls ≠ .c ∨ s.classOf row unit = .c := hc.imp_right fun h => by rw [State.classOf, if_pos (.inl h.2), h.1]
  rw [e, fencedFor_of_plain hf.1 hf.2 hplain]
  exact .refl t

theorem abortUp_rests (s : State) : Rests n s (abortUp s) := by
  have h1 : Rests n s (s.orReg 0x2300 8 0x10) := .same rfl
  have h2 : Rests n s _ := h1.trans (plainReport_rests (code := 0x0602) (row := ⟨0x0602, .u, .h, 0xFF50⟩) (by decide) (by decide) (by decide)
    (.inl (by decide)) (unitCode 9 0) (BitVec.ofNat 16 s.pos.step))
  exact .ite (fun _ => h2) fun _ => h2.trans (orderlyStop_rests _)

theorem abortRestart_rests (s : State) : Rests n s (abortRestart s) :=
  .ite (fun _ => (abortUp_rests s).trans (idleSqe_rests _)) fun _ => abortUp_rests s

theorem abortHandler_rests (s : State) : Rests n s (abortHandler s) :=
  .ite (fun _ => (abortUp_rests s).trans (.same rfl)) fun _ => abortUp_rests s

theorem applyPolicy_rests (s : State) (policy : Nat) : Rests n s (applyPolicy s policy) := by
  have hflag : Rests n s (s.orReg 0x2300 8 0x10) := .same rfl
  have forced : Rests n s (nextStep (forceTiming (s.orReg 0x2300 8 0x10))) := (hflag.trans (forceTiming_rests _)).trans (nextStep_rests _)
  have failed : ∀ p h, Rests n s { s.setPos p with herd := h } := fun p _ =>
    have hpos : Rests n s (s.setPos p) := .of_units (setPos_units s p)
    hpos.trans (.same rfl)
  unfold applyPolicy
  refine .ite (fun _ => failed _ _) fun _ => ?_
  split
  · refine .ite (fun _ => ?_) fun _ => .ite (fun _ => nextStep_rests s) fun _ => abortUp_rests s
    exact .same rfl
  · exact .ite (fun _ => forced) fun _ => nextStep_rests s
  · split
    · exact .ite (fun _ => abortRestart_rests s) fun _ => nextStep_rests s
    · exact .ite (fun _ => forced) fun _ => nextStep_rests s
  · exact .ite (fun _ => abortHandler_rests s) fun _ => nextStep_rests s
  iterate 2 exact .refl s

theorem failStep_rests (s : State) (cause : Nat) : Rests n s (failStep s cause) := by
  unfold failStep
  extract_lets step s1
  have h1 : Rests n s s1 := .same rfl
  exact (h1.trans (.of_units (logOnly_noted s1 _ _ _).units)).trans (applyPolicy_rests _ _)

theorem judgeWaits_rests (s : State) : Rests n s (judgeWaits s) := .ite (fun _ => .refl s) fun _ => failStep_rests s _

/-! ## A port's trip (R102, R116–R119) -/

/-- A rail tripped leaves a port that shuts down with it at rest. -/
theorem tripRail_atRest {s : State} {r : Fin 16} (h : s.ShutsWith n) (hr : s.railOf n = some r) : (tripRail s r).ports[n].AtRest := by
  unfold tripRail tripRailBy
  split
  · next hs => exact h.rail r hr hs
  extract_lets old s1 s2 top
  have h1 : s1.ports[n].AtRest := foldl_atRest tripPort_rests (fun _ => tripPort_atRest) _ (mem_members_of_railOf hr) s h
  have hoff : ∀ t : State, Rests n t (t.modRail r fun x => { x with state := .tripped, trunc := false, heldOn := false }) := fun t =>
    .modRail_of_state (.inr (by rintro (e | e) <;> exact nomatch e))
  have h2 : s2.ports[n].AtRest := ((hoff s1).trans (railChanged_rests _ r old false)).rest h1
  have hsaid : Rests n s2 (report (setSupFlag s2 r 0x20) 0x0408 (unitCode 3 r.1) 0) := by
    have hflag : Rests n s2 (setSupFlag s2 r 0x20) := .same rfl
    exact (hflag.trans (plainReport_rests (code := 0x0408) (row := ⟨0x0408, .u, .h, 0x2300⟩) (by decide) (by decide) (by decide)
      (.inl (by decide)) _ 0)).trans (judgeWaits_rests _)
  have hend : ∀ t : State, Rests n s2 t → t.ports[n].AtRest := fun t k => k.rest h2
  split
  · split
    · exact hend _ (.modRail_of_state (.inl rfl))
    · exact hend _ (hsaid.trans (judgeWaits_rests _))
  · exact hend _ (judgeWaits_rests s2)

/-- A trip leaves a port that shuts down with its rail at rest, where the trip's own report fences nothing. -/
theorem tripBy_atRest {s : State} {code : U16} {row : FaultRow} (h : s.ShutsWith n) (hr : faultRow code = some row)
    (h405 : code ≠ 0x0405 ∧ code ≠ 0x0309) (hf : fencesItself row = false ∧ row.code ≠ 0x0308)
    (hc : row.cls ≠ .c ∨ row.cls = .c ∧ row.ack ≠ .h) (flag : Nat) (oc : Bool) : (tripBy s n flag code oc).ports[n].AtRest := by
  unfold tripBy
  extract_lets s1
  have hflag : Rests n s (setTrip s n flag) := .same rfl
  have h1 : s1.ShutsWith n := ((hflag.trans (plainReport_rests hr h405 hf hc _ 0)).trans (judgeWaits_rests _)).shuts h
  split
  · rw [State.modPort_ports_self]; exact atRest_still _ (by decide)
  · next r e =>
    split
    · have hcount : Rests n s1 (countRail s1 r 0x54) := .same rfl
      exact tripRail_atRest (hcount.shuts h1) (hcount.railOf.trans e)
    · exact tripRail_atRest h1 e

end

end Sys2Proof.Machine
end

section
namespace Sys2Proof.Machine
open Sys2Proof

/-! ## A comparator crossing of a BUCK port (R99–R102) -/

/-- `p` with the turn-on of `q` and its crossing. -/
def Port.withCrossing (p q : Port) : Port := { p.withTurn q with crossed := q.crossed, shortNow := q.shortNow }

/-- `q` is `p` but for a turn-on, a crossing recorded and its gates. -/
structure CrossedBy (p q : Port) : Prop where
  frame : q = p.withCrossing q

theorem CrossedBy.refl (p : Port) : CrossedBy p p := ⟨rfl⟩

theorem CrossedBy.trans {p q r : Port} (h : CrossedBy p q) (k : CrossedBy q r) : CrossedBy p r := by
  refine ⟨k.frame.trans ?_⟩
  rw [h.frame]
  rfl

theorem TurnedOn.crossedBy {p q : Port} (h : TurnedOn p q) : CrossedBy p q := ⟨h.frame.trans (by rw [h.frame]; rfl)⟩

/-- What a crossing leaves of a port. -/
theorem CrossedBy.same {p q : Port} (h : CrossedBy p q) {α : Type} (f : Port → α)
    (hf : ∀ p q : Port, f (p.withCrossing q) = f p) : f q = f p := by
  rw [h.frame, hf]

/-- The crossing recorded, the period's turn-on made where its clock has come. -/
def State.crossing (s : State) (n : Fin 32) (clocks : Nat) : State :=
  (turnOnBy s n true).modPort n fun p =>
    { p with crossed := true, shortNow := p.shortNow || (s.pers n.1 == 5 && clocks ≤ 80), ramp := rampTo p.dac (s.timing n).slope clocks }

/-- The pulse ended at the crossing. -/
def State.cutShort (s : State) (n : Fin 32) (clocks : Nat) : State :=
  endMain (s.crossing n clocks) n ((s.crossing n clocks).ports[n].onAt + clocks)

section
variable {s : State} {n : Fin 32}

theorem crossing_within (s : State) (n : Fin 32) (clocks : Nat) : Within CrossedBy n s (s.crossing n clocks) :=
  Within.trans (fun _ _ _ => .trans) ((turnOnBy_turned s n true).mono fun _ _ => TurnedOn.crossedBy)
    (Within.modPort .refl _ (.inl rfl) fun _ => ⟨rfl⟩)

theorem cutShort_within (s : State) (n : Fin 32) (clocks : Nat) : Within CrossedBy n s (s.cutShort n clocks) :=
  Within.trans (fun _ _ _ => .trans) (crossing_within s n clocks) ((endMain_gated _ n _).mono fun _ _ h => h.turnedOn.crossedBy)

theorem crossing_port (s : State) (n : Fin 32) (clocks : Nat) : (s.crossing n clocks).ports[n].crossed = true
    ∧ (s.crossing n clocks).ports[n].gh = (turnOnBy s n true).ports[n].gh := by
  rw [State.crossing, State.modPort_ports_self]
  exact ⟨rfl, rfl⟩

/-- A BUCK port is no pair. -/
theorem buck_mate (h : s.pers n.1 = 1) : s.mate n = n := if_neg fun e => by rw [h] at e; exact nomatch e

theorem buck_leads (h : s.pers n.1 = 1) : s.leads n = true := by
  have e : s.pairLead n.1 = n.1 := if_neg fun e => by rw [h] at e; exact nomatch e.1
  rw [State.leads, e, beq_self_eq_true]

/-- The end of a BUCK port's pulse is GHn low. -/
theorem endMain_gh (h : s.pers n.1 = 1) (clock : Nat) : (endMain s n clock).ports[n].gh = false := by
  have e : endMain s n clock = s.modPort n fun q => q.gates false (!q.rectOff) (clock + deadClocks (s.timing n).dtHL) := by
    unfold endMain
    rw [h]
    rfl
  rw [e, State.modPort_ports_self]
  rfl

theorem cutShort_gh (h : s.pers n.1 = 1) (clocks : Nat) : (s.cutShort n clocks).ports[n].gh = false :=
  endMain_gh (((crossing_within s n clocks).only.same (fun t => t.pers n.1) fun _ _ => rfl).trans h) _

theorem cutShort_crossed (s : State) (n : Fin 32) (clocks : Nat) : (s.cutShort n clocks).ports[n].crossed = true :=
  ((endMain_gated (s.crossing n clocks) n _).ports n |>.same Port.crossed fun _ _ _ _ _ => rfl).trans (crossing_port s n clocks).1

/-- A crossing with the main gate on: within blanking it waits, after it the pulse ends, with a limit trip where the DAC holds the
limit code. -/
theorem doComparatorTrip_eq (hl : s.live = true) (hp : s.pulsing n = true) (h1 : s.pers n.1 = 1) (hon : (turnOnBy s n true).mainOn n = true)
    (clocks : Nat) (filtered : Bool) :
    let atLimit := (turnOnBy s n true).ports[n].dac == ((turnOnBy s n true).limitOf n : Int)
    doComparatorTrip n clocks filtered s =
      if clocks < s.act (portIdx n.1) 8 then
        (s.crossing n clocks).modPort n fun p => { p with limPend := p.limPend || atLimit, filt := p.filt || (atLimit && filtered) }
      else if atLimit then limitTrip (s.cutShort n clocks) n filtered else s.cutShort n clocks := by
  intro atLimit
  have hat : ((s.crossing n clocks).ports[n].dac == ((s.crossing n clocks).limitOf n : Int)) = atLimit := by
    have hdac : (s.crossing n clocks).ports[n].dac = (turnOnBy s n true).ports[n].dac := by rw [State.crossing, State.modPort_ports_self]
    have hlim : (s.crossing n clocks).limitOf n = (turnOnBy s n true).limitOf n := by
      rw [State.limitOf, State.crossing, State.modPort_ports_self]
      rfl
    rw [hdac, hlim]
  have hpers : (s.pers n.1 == 4 || s.pers n.1 == 6) = false := by rw [h1]; rfl
  have hs0 : (if s.live = true ∧ s.pulsing n = true ∧ s.leads n = true then turnOnBy s n true else s) = turnOnBy s n true :=
    if_pos ⟨hl, hp, buck_leads h1⟩
  unfold doComparatorTrip
  rw [hs0]
  dsimp only
  rw [if_pos ⟨hl, hp, buck_leads h1, hon⟩, hpers, Bool.false_or]
  change (if _ then (s.crossing n clocks).modPort n _ else _) = _
  rw [← hat]
  rfl

theorem byCycle_same {t : State} (h : Within CrossedBy n s t) : t.byCycle n = s.byCycle n := by
  have ht : t.timing n = s.timing n := by
    rw [State.timing, State.timing, (h.ports n).same Port.timing fun _ _ => rfl]
    exact congrArg _ (h.only.same (fun t => t.timingNow n) fun _ _ => rfl)
  have hr : t.railOf n = s.railOf n := h.only.same (fun t => t.railOf n) fun _ _ => rfl
  have hrails : t.rails = s.rails := h.only.same State.rails fun _ _ => rfl
  have hpers : t.pers n.1 = s.pers n.1 := h.only.same (fun t => t.pers n.1) fun _ _ => rfl
  simp only [State.byCycle, ht, hr, hrails, hpers]

/-- The first limit trip of a period that the filter accepts, counted and flagged. -/
def State.limited (s : State) (n : Fin 32) : State := ((setTrip s n 1).inc (portIdx n.1) 0x13).modPort n fun p => { p with limitNow := true }

theorem limitTrip_eq (h : s.ports[n].limitNow = false) :
    limitTrip s n true = if s.byCycle n then s.limited n else tripBy (s.limited n) n 1 0x0207 true := by
  have e : (if (true && !s.ports[n].limitNow) = true then s.limited n else s) = s.limited n := if_pos (by rw [h]; rfl)
  have hby : (s.limited n).byCycle n = s.byCycle n := by
    have ht : (s.limited n).timing n = s.timing n := by
      rw [State.timing, State.limited, State.modPort_ports_self]
      rfl
    rw [State.byCycle, State.byCycle, ht]
    rfl
  unfold limitTrip
  extract_lets s1
  have h1 : s1 = s.limited n := e
  rw [h1, hby]
  rfl

/-- A port that runs, on a rail neither FENCED nor HELD, shuts down with it. -/
theorem shutsWith_of_running (h3 : s.pers n.1 ≠ 3) (hp : ¬s.ports[n].Parked)
    (hfree : ∀ r, s.railOf n = some r → s.rails[r].state ≠ .fenced ∧ s.rails[r].state ≠ .held) : s.ShutsWith n :=
  ⟨h3, fun h => absurd h hp, fun r hr h => absurd h (by rintro (e | e); exact (hfree r hr).1 e; exact (hfree r hr).2 e)⟩

/-- What a limit trip counted and flagged leaves. -/
theorem limited_port (s : State) (n : Fin 32) : (s.limited n).ports[n] = { s.ports[n] with limitNow := true } := by
  rw [State.limited, State.modPort_ports_self]
  rfl

theorem limited_count (s : State) (n : Fin 32) :
    (s.limited n).reg (portIdx n.1) 0x13 = min 0xFFFFFFFF (s.reg (portIdx n.1) 0x13 + 1) := by
  have hne : key (portIdx n.1) 0x13 ≠ key (portIdx n.1) 0x12 := by
    show (portIdx n.1 * 256 + 0x13 : Nat) ≠ portIdx n.1 * 256 + 0x12
    omega
  have hflag : (setTrip s n 1).reg (portIdx n.1) 0x13 = s.reg (portIdx n.1) 0x13 := State.reg_setReg_ne _ _ hne
  exact (State.reg_setReg ..).trans (by rw [hflag]; rfl)

/-- A running port that shuts down with its rail ends a latched limit trip at rest. -/
theorem latched_atRest (h : s.ShutsWith n) : (tripBy (s.limited n) n 1 0x0207 true).ports[n].AtRest := by
  have hregs : Rests n s ((setTrip s n 1).inc (portIdx n.1) 0x13) := .same rfl
  have hlim : Rests n s (s.limited n) := hregs.trans (.modPort (.of_same rfl rfl rfl))
  exact tripBy_atRest (row := ⟨0x0207, .c, .a, 0⟩) (hlim.shuts h) (by decide) (by decide) (by decide) (.inr (by decide)) 1 true

theorem not_parked_of_pulsing (h : s.pulsing n = true) : ¬s.ports[n].Parked := by
  rintro (e | e | e) <;> rw [State.pulsing, e] at h <;> exact nomatch h

end

/-- Settles O27: the crossing ends the pulse after blanking and waits before; at the limit code it sets LIMIT and, latched, puts the port
to rest with its rail. -/
theorem comparatorTripsEndPulses : Obligations.ComparatorTripsEndPulses := by
  intro s n clocks hl hp h1 u hon
  have hmate : s.mate n = n := buck_mate h1
  have heq := doComparatorTrip_eq hl hp h1 hon clocks
  have hcross := crossing_within s n clocks
  have hcut := cutShort_within s n clocks
  obtain ⟨hx, hg⟩ := crossing_port s n clocks
  have waits : ∀ f : Port → Port, OnlyPorts s ((s.crossing n clocks).modPort n f)
      ∧ ∀ m, m ≠ n → ((s.crossing n clocks).modPort n f).ports[m] = s.ports[m] := fun f =>
    ⟨hcross.only.trans (modPort_onlyPorts _ n f), fun m hm =>
      (State.modPort_ports_ne _ f hm).trans (hcross.others m hm (by rw [hmate]; exact hm))⟩
  refine ⟨fun hdac filtered => ?_, fun hdac hb hnow hfree => ?_, fun hdac hb filtered => ?_⟩
  · have hno : (u.ports[n].dac == (u.limitOf n : Int)) = false := beq_eq_false_iff_ne.mpr hdac
    refine after_of_done (u := doComparatorTrip n clocks filtered s) rfl ?_
    rw [settle_ports, heq, hno]
    split
    · next h =>
      obtain ⟨honly, hothers⟩ := waits fun p => { p with limPend := p.limPend || false, filt := p.filt || (false && filtered) }
      refine ⟨?_, fun hge => absurd h (Nat.not_lt.mpr hge), fun _ => ?_, hothers, ?_⟩
      · rw [State.modPort_ports_self]; exact hx
      · rw [State.modPort_ports_self]; exact hg
      · rw [← honly.frame]; exact settle_delivers s _
    · next h =>
      rw [if_neg (by decide)]
      refine ⟨cutShort_crossed s n clocks, fun _ => cutShort_gh h1 clocks, fun hlt => absurd hlt h, fun m hm => ?_, ?_⟩
      · exact hcut.others m hm (by rw [hmate]; exact hm)
      · rw [← hcut.only.frame]; exact settle_delivers s _
  · have hyes : (u.ports[n].dac == (u.limitOf n : Int)) = true := beq_iff_eq.mpr hdac
    have hlim : (s.cutShort n clocks).ports[n].limitNow = false := ((hcut.ports n).same Port.limitNow fun _ _ => rfl).trans hnow
    refine after_of_done (u := doComparatorTrip n clocks true s) rfl ?_
    rw [settle_tripFlags, settle_ports, settle_reg _ _ (countsKey_unit (unitIdx_port n) (by decide)), heq, hyes,
      if_neg (Nat.not_lt.mpr hb), if_pos rfl]
    refine ⟨limitTrip_limit hlim, fun hby => ?_, fun hby => ?_⟩
    · rw [limitTrip_eq hlim, byCycle_same hcut, if_pos hby, limited_port, limited_count,
        hcut.only.same (fun t => t.reg (portIdx n.1) 0x13) fun _ _ => rfl]
      exact ⟨rfl, rfl, cutShort_gh h1 clocks⟩
    · rw [limitTrip_eq hlim, byCycle_same hcut, hby, if_neg (by decide)]
      have hstate : (s.cutShort n clocks).ports[n].state = s.ports[n].state := (hcut.ports n).same Port.state fun _ _ => rfl
      have hpers : (s.cutShort n clocks).pers n.1 = 1 := (hcut.only.same (fun t => t.pers n.1) fun _ _ => rfl).trans h1
      have hrail : (s.cutShort n clocks).railOf n = s.railOf n := hcut.only.same (fun t => t.railOf n) fun _ _ => rfl
      have hrails : (s.cutShort n clocks).rails = s.rails := hcut.only.same State.rails fun _ _ => rfl
      have hrest := latched_atRest (s := s.cutShort n clocks) (n := n) (shutsWith_of_running (by rw [hpers]; decide)
        (by rw [Port.Parked, hstate]; exact not_parked_of_pulsing hp) (by rw [hrail, hrails]; exact hfree))
      exact ⟨hrest.1, hrest.2.1⟩
  · have hyes : (u.ports[n].dac == (u.limitOf n : Int)) = true := beq_iff_eq.mpr hdac
    refine after_of_done (u := doComparatorTrip n clocks filtered s) rfl ?_
    rw [settle_tripFlags, settle_ports, heq, hyes, if_pos hb]
    obtain ⟨honly, hothers⟩ := waits fun p => { p with limPend := p.limPend || true, filt := p.filt || (true && filtered) }
    refine ⟨?_, ?_, ?_, ?_, honly.same (fun t => t.tripFlags n) fun _ _ => rfl, hothers, ?_⟩
    · rw [State.modPort_ports_self]; exact hx
    · rw [State.modPort_ports_self]; exact Bool.or_true _
    · rw [State.modPort_ports_self, Bool.true_and]
      exact congrArg (· || filtered) ((hcross.ports n).same Port.filt fun _ _ => rfl)
    · rw [State.modPort_ports_self]; exact hg
    · rw [← honly.frame]; exact settle_delivers s _

end Sys2Proof.Machine
end

section
namespace Sys2Proof.Machine
open Sys2Proof

/-! ## A ramp time-out that leaves a gate on -/

/-- Ports 0 and 1 are a BB4 pair on rail 0, port 0 FENCED and port 1 in RAMP with its gate on. A power-up whose last step waits for rail
1, which is fenced, under the policy that goes on. -/
def strandedRamp : State :=
  { State.reset with
    pwr := { Power.reset with step := .running, vin := true, vdrv := 0xFF }
    md := { Modes.reset with mode := .startup }
    sqe := { Sqe.reset with stat := .powerUp, step := 0, phase := .wait }
    regs := [(key 0x2340 3, 1), (key 0x2340 4, 2), (key 0x2340 6, 1)]
    active := [(key 0x2101 1, 3), (key 0x2200 1, 1)]
    ports := (State.reset.ports.set 0 { Port.reset with state := .fenced }).set 1 { Port.reset with state := .ramp, gh := true }
    rails := (State.reset.rails.set 0 { Rail.reset with state := .regulating }).set 1 { Rail.reset with state := .fenced } }

theorem strandedRamp_free : ∀ r, strandedRamp.railOf 1 = some r →
    strandedRamp.rails[r].state ≠ .fenced ∧ strandedRamp.rails[r].state ≠ .held := by
  have h : strandedRamp.railOf 1 = some 0 := by decide +kernel
  rintro r hr
  obtain rfl : (0 : Fin 16) = r := Option.some.inj (h.symm.trans hr)
  exact ⟨by decide +kernel, by decide +kernel⟩

/-- The report of the time-out ends the step's wait, and the power-up with it: RUN applies the holds, rail 0 has no live phase and
becomes HELD, and the trip that follows leaves a HELD rail's ports alone. On a port that is no half of a pair the gates do go low:
`tripBy_atRest`. -/
theorem strandedRamp_gate : (doLswRampTimeout 1 strandedRamp).ports[(1 : Fin 32)].gh = true := by decide +kernel

/-- What holds after a ramp time-out holds of its effect settled. -/
theorem of_after_lswRampTimeout {s : State} {n : Fin 32} {P : State → Prop} (h : s.after (.lswRampTimeout n) P) :
    P (settle s (doLswRampTimeout n s)) := by
  obtain ⟨t, ht, hp⟩ := h
  injection ht with e
  exact e ▸ hp

/-- Refutes O29: the ramp time-out of a port of a BB4 pair whose rail its own report puts to HELD leaves the gate on. -/
theorem not_portFaultsShutGates : ¬Obligations.PortFaultsShutGates := by
  intro h
  obtain ⟨-, -, hramp, -⟩ := h strandedRamp 1 (by decide +kernel) (by decide +kernel)
  obtain ⟨-, hgh, -⟩ := of_after_lswRampTimeout (hramp (by decide +kernel) strandedRamp_free)
  rw [settle_ports, strandedRamp_gate] at hgh
  exact nomatch hgh

end Sys2Proof.Machine
end

section
namespace Sys2Proof.Machine
open Sys2Proof

/-! ## A rail's state follows its port (R160) -/

/-- `t` is `s` but for the record of rail `r`. -/
structure OnlyRail (r : Fin 16) (s t : State) : Prop where
  frame : t = { s with rails := t.rails }
  others : ∀ q, q ≠ r → t.rails[q] = s.rails[q]

theorem OnlyRail.refl (r : Fin 16) (s : State) : OnlyRail r s s := ⟨rfl, fun _ _ => rfl⟩

theorem OnlyRail.trans {r : Fin 16} {s t u : State} (h : OnlyRail r s t) (k : OnlyRail r t u) : OnlyRail r s u :=
  ⟨k.frame.trans (congrArg (fun x : State => { x with rails := u.rails }) h.frame), fun q hq => (k.others q hq).trans (h.others q hq)⟩

theorem OnlyRail.modRail (s : State) (r : Fin 16) (f : Rail → Rail) : OnlyRail r s (s.modRail r f) :=
  ⟨rfl, fun _ hq => State.modRail_rails_ne s f hq⟩

/-- A change of state that loses no power-good changes the rail's record alone. -/
theorem railChanged_onlyRail {s : State} {r : Fin 16} {old : RailState} (h : old.lossState = false ∨ (s.railState r).pgState = true) (off : Bool) :
    OnlyRail r s (railChanged s r old off) := by
  unfold railChanged
  extract_lets new s1
  have h1 : OnlyRail r s s1 := by
    show OnlyRail r s (if (s.rails[r].pg && !new.pgState) = true then withdrawPg s r (old.lossState && !off) else s)
    split
    · next hpg =>
      have hloss : (old.lossState && !off) = false := by
        rcases h with h | h
        · rw [h]; rfl
        · rw [show new.pgState = true from h] at hpg
          simp at hpg
      rw [withdrawPg, hloss, if_neg (by decide)]
      exact .modRail s r _
    · exact .refl r s
  split
  · exact .refl r s
  · exact h1.trans (.modRail s1 r _)

theorem railChanged_same {s : State} {r : Fin 16} {old : RailState} (h : s.railState r = old) (off : Bool) : railChanged s r old off = s := if_pos h

/-- A COIL or FAN rail that starts to regulate is power-good (R228). -/
theorem railChanged_pg {s : State} {r : Fin 16} {old : RailState} (hnew : s.railState r = .regulating) (hold : old ≠ .regulating)
    (hpers : s.railPers r = 5 ∨ s.railPers r = 6) (off : Bool) : (railChanged s r old off).rails[r].pg = true := by
  unfold railChanged
  extract_lets new s1
  rw [if_neg (by show ¬s.railState r = old; rw [hnew]; exact hold.symm), State.modRail_rails_self]
  have h56 : (s.railPers r == 5 || s.railPers r == 6) = true := by rcases hpers with h | h <;> rw [h] <;> rfl
  show (s1.rails[r].pg || (s.railState r == .regulating && (s.railPers r == 5 || s.railPers r == 6))) = true
  rw [hnew, h56]
  exact Bool.or_true _

section
variable {s : State} {n : Fin 32} {f : Port → Port}

/-- A port changed: the state its rail reads stands, or is its port's before and after. -/
theorem railState_modPort (s : State) (n : Fin 32) (f : Port → Port) (r : Fin 16) :
    (s.modPort n f).railState r = s.railState r ∨ isConverter (s.pers n.1) = false ∧ s.railState r = railOfPortState s.ports[n].state
      ∧ (s.modPort n f).railState r = railOfPortState (f s.ports[n]).state := by
  by_cases hf : s.rails[r].state = .fenced
  · exact .inl ((if_pos hf).trans (if_pos hf).symm)
  by_cases hc : isConverter (s.railPers r) = true
  · exact .inl (((if_neg hf).trans (if_pos hc)).trans ((if_neg hf).trans (if_pos hc)).symm)
  have hstate : ∀ t : State, t.rails = s.rails → t.railPers r = s.railPers r → t.phases r = s.phases r →
      (s.phases r = [] → t.railState r = s.rails[r].state) ∧
        ∀ m l, s.phases r = m :: l → t.railState r = railOfPortState t.ports[m].state := fun t hr hp hm => by
    rw [State.railState, hr, hp, hm, if_neg hf, if_neg hc]
    exact ⟨fun e => by rw [e], fun m l e => by rw [e]⟩
  have hs := hstate s rfl rfl rfl
  have ht := hstate (s.modPort n f) rfl rfl rfl
  cases hm : s.phases r with
  | nil => exact .inl ((ht.1 hm).trans (hs.1 hm).symm)
  | cons m l =>
    rw [ht.2 m l hm, hs.2 m l hm]
    by_cases hmn : m = n
    · subst hmn
      have hpers : s.railPers r = s.pers m.1 := by rw [State.railPers, hm]
      refine .inr ⟨Bool.eq_false_iff.mpr (hpers ▸ hc), rfl, ?_⟩
      rw [State.modPort_ports_self]
    · refine .inl ?_
      rw [State.modPort_ports_ne s f hmn]

/-- A port that moves to a state in which its rail reads as before moves alone. -/
theorem movePort_alone (h : isConverter (s.pers n.1) = false → railOfPortState (f s.ports[n]).state = railOfPortState s.ports[n].state) :
    movePort s n f = s.modPort n f := by
  unfold movePort
  split
  · rfl
  · next r _ =>
    refine railChanged_same ?_ false
    rcases railState_modPort s n f r with e | ⟨hc, hold, hnew⟩
    · exact e
    · rw [hnew, hold, h hc]

/-- `t` is `s` with port `n` made `p`, and but for the record of its rail. -/
structure PortMoved (n : Fin 32) (s : State) (p : Port) (t : State) : Prop where
  frame : t = { s with ports := t.ports, rails := t.rails }
  port : t.ports[n] = p
  ports : ∀ m, m ≠ n → t.ports[m] = s.ports[m]
  rails : ∀ r, s.railOf n ≠ some r → t.rails[r] = s.rails[r]

theorem modPort_moved (s : State) (n : Fin 32) (f : Port → Port) : PortMoved n s (f s.ports[n]) (s.modPort n f) :=
  ⟨rfl, State.modPort_ports_self s n f, fun _ hm => State.modPort_ports_ne s f hm, fun _ _ => rfl⟩

/-- A port's move that takes its rail up moves the port and its rail alone. -/
theorem movePort_moved (h : (railOfPortState (f s.ports[n]).state).pgState = true) : PortMoved n s (f s.ports[n]) (movePort s n f) := by
  have hmod := modPort_moved s n f
  unfold movePort
  split
  · exact hmod
  · next r hr =>
    rcases railState_modPort s n f r with e | ⟨-, -, hnew⟩
    · rw [railChanged_same e]; exact hmod
    · have k := railChanged_onlyRail (s := s.modPort n f) (r := r) (old := s.railState r) (.inr (by rw [hnew]; exact h)) false
      have hports : (railChanged (s.modPort n f) r (s.railState r) false).ports = (s.modPort n f).ports := by rw [k.frame]
      refine ⟨?_, ?_, fun m hm => ?_, fun q hq => ?_⟩
      · rw [hports]; exact k.frame
      · rw [hports]; exact hmod.port
      · rw [hports]; exact hmod.ports m hm
      · exact k.others q fun e => hq (e ▸ hr)

theorem PortMoved.delivers {p : Port} {u : State} (h : PortMoved n s p u) :
    ({ s with ports := (settle s u).ports, rails := (settle s u).rails }).delivers (settle s u) := by
  rw [settle_ports, settle_rails, ← h.frame]
  exact settle_delivers s u

/-- The COIL rail of one port, not fenced, reads its port's state. -/
theorem railState_single {r : Fin 16} (hph : s.phases r = [n]) (hp : s.pers n.1 = 5) (hf : s.rails[r].state ≠ .fenced) :
    s.railState r = railOfPortState s.ports[n].state := by
  have hc : ¬isConverter (s.railPers r) = true := by rw [State.railPers, hph]; show ¬isConverter (s.pers n.1) = true; rw [hp]; decide
  rw [State.railState, if_neg hf, if_neg hc, hph]

end

/-! ## A fence leaves a port at rest -/

section
variable {n : Fin 32}

theorem fenceOne_rests (s : State) (m : Fin 32) : Rests n s (fenceOne s m) := by
  unfold fenceOne
  extract_lets s1 s2
  have hfence : s.ports[m].fence.AtRest := ⟨rfl, rfl, by show PortState.fenced ∈ _; decide⟩
  have h1 : Rests n s s1 := .modPort (hfence.lowers _)
  exact h1.trans (.same rfl)

theorem countRail_rests (s : State) (r : Fin 16) (sub : Nat) : Rests n s (countRail s r sub) := .same rfl

/-- A rail is fenced with every member that is not parked put to READY. -/
theorem fenceRail_rests (s : State) (r : Fin 16) : Rests n s (fenceRail s r) := by
  refine .ite (fun _ => .refl s) fun _ => ?_
  extract_lets old s1 s2 _ s3
  have h1 : Rests n s s1 := .foldl readyPort_rests _ s
  have h2 : Rests n s s2 := by
    by_cases k : s.ShutsWith n
    · have hrest : s.railOf n = some r → s1.ports[n].AtRest := fun hr =>
        foldl_atRest readyPort_rests (fun _ => readyPort_atRest) _ (mem_members_of_railOf hr) s k
      exact h1.trans (.modRail fun _ hr _ => hrest (h1.railOf ▸ hr))
    · exact ⟨h1.variant, h1.members, h1.rest, fun e => absurd e k⟩
  have h3 : Rests n s2 s3 := .same rfl
  exact ((h2.trans h3).trans (countRail_rests s3 r 0x59)).trans (railChanged_rests _ r old false)

theorem fenceRailFor_rests (s : State) (r : Fin 16) (cause : U32) : Rests n s (fenceRailFor s r cause) :=
  .ite (fun _ => .refl s) fun _ => (fenceRail_rests s r).trans (.of_units (logConsequent_units _ _ _ _))

theorem losePhase_rests (s : State) (r : Fin 16) (was : Bool) (cause : U32) : Rests n s (losePhase s r was cause) := by
  unfold losePhase
  extract_lets s1 s2
  have hflag : Rests n s (setRailFlag (countRail s r 0x59) r 4) := .same rfl
  have h1 : Rests n s s1 := .ite (fun _ => hflag) fun _ => countRail_rests s r 0x59
  have h2 : Rests n s s2 := h1.trans (restartDwell_rests s1 r)
  exact .ite (fun _ => h1.trans (fenceRailFor_rests s1 r cause)) fun _ => .ite (fun _ => h2.trans (.modRail_of_state (.inl rfl))) fun _ => h1

theorem fencePort_rests (s : State) (m : Fin 32) (cause : U32) : Rests n s (fencePort s m cause) := by
  refine .ite (fun _ => .refl s) fun _ => ?_
  extract_lets lead was s1
  have h1 : Rests n s s1 := .foldl (fun t q => .ite (fun _ => fenceOne_rests t q) fun _ => .refl t) _ s
  split
  · exact h1
  · next r _ =>
    exact .ite (fun _ => h1.trans (countRail_rests s1 r 0x59)) fun _ =>
      (h1.trans (losePhase_rests s1 r was cause)).trans (railChanged_rests _ r _ false)

/-! ## The end of RELEASE (Table 4-9) -/

/-- A port at the end of DISCHARGE or RELEASE is at rest, or on its way up again. -/
theorem releaseEnd_atRest (s : State) (n : Fin 32) : (releaseEnd s n).ports[n].AtRest := by
  unfold releaseEnd
  extract_lets s1
  have h1 : s1.ports[n].AtRest := by
    have hmod : (s.modPort n fun p => p.still .ready).ports[n].AtRest := by
      rw [State.modPort_ports_self]; exact atRest_still _ (by decide)
    show (movePort s n fun p => p.still .ready).ports[n].AtRest
    unfold movePort
    split
    · exact hmod
    · exact (railChanged_rests _ _ _ false).rest hmod
  split
  · exact h1
  · split
    · exact (startRail_rests s1 _).rest h1
    · exact h1

theorem movePort_keeps {s : State} {n : Fin 32} (h : s.ports[n].state ≠ .fenced) (f : Port → Port) : Keeps s (movePort s n f) := by
  have hmod : Keeps s (s.modPort n f) := .modPort s n f (.of_ne h _)
  unfold movePort
  split
  · exact hmod
  · exact hmod.trans (railChanged_keeps _ _ _ false)

theorem releaseEnd_keeps {s : State} {n : Fin 32} (h : s.ports[n].state ≠ .fenced) : Keeps s (releaseEnd s n) := by
  unfold releaseEnd
  extract_lets s1
  have h1 : Keeps s s1 := movePort_keeps h _
  split
  · exact h1
  · exact .ite (fun _ => h1.trans (startRail_keeps s1 _)) fun _ => h1

/-- The report of a slow release leaves a port at rest: it can only fence it. -/
theorem slowRelease_rests (s : State) (m : Fin 32) : Rests n s (report s 0x020B (unitCode 1 m.1) 0) := by
  refine (collect_rests (by decide) (fun row hr t => ?_) 0).trans (judgeWaits_rests _)
  have e : row = ⟨0x020B, .c, .h, 0xFF21⟩ := Option.some.inj (hr.symm.trans (rowFor_of_ne s (by decide) _))
  have hcode : row.code ≠ 0x0308 := by rw [e]; decide
  rw [fencedFor, if_neg hcode, fenceUnit_port]
  exact .ite (fun _ => fencePort_rests t m _) fun _ => .refl t

end

/-! ## The end of PRECHARGE (R93) -/

/-- What a port leaves PRECHARGE as, by its personality. -/
def State.charged (s : State) (n : Fin 32) (p : Port) : Port :=
  if s.pers n.1 = 4 then { p with state := .ramp, gh := true, blanked := false, rampRef := s.vLast n }
  else if s.pers n.1 = 5 then { p with state := .pullIn, gh := true } else { p with state := .switching, count := s.startCount n }

/-- In the state a port leaves PRECHARGE to, a rail that is no converter's starts as before; a converter rail has a state of its own. -/
theorem charged_railState {s : State} {n : Fin 32} (h : s.pers n.1 = 4 ∨ s.pers n.1 = 5) (p : Port) :
    railOfPortState (s.charged n p).state = .softStart := by
  rcases h with e | e <;> rw [State.charged, e] <;> rfl

theorem doPrechargeDone_eq {s : State} {n : Fin 32} (hl : s.live = true) (hst : s.ports[n].state = .precharge)
    (hp : 1 ≤ s.pers n.1 ∧ s.pers n.1 ≤ 5) : doPrechargeDone n s = s.modPort n (s.charged n) := by
  have hmove : doPrechargeDone n s = movePort s n (s.charged n) := by
    rw [doPrechargeDone, if_pos ⟨hl, hst⟩]
    congr 1
    funext p
    rw [State.charged]
    split
    · next e => rw [if_pos e]
    · next e => rw [if_neg (by rw [e]; decide), if_pos e]
    · next e4 e5 => rw [if_neg e4, if_neg e5]
  rw [hmove]
  refine movePort_alone fun hc => ?_
  have h45 : s.pers n.1 = 4 ∨ s.pers n.1 = 5 := by
    simp only [isConverter, Bool.or_eq_false_iff, beq_eq_false_iff_ne] at hc
    omega
  rw [charged_railState h45, hst]
  rfl

/-! ## The obligation -/

/-- Settles O28: each move changes its port, and its rail where that follows it upwards; RELEASE ends with the port at rest. -/
theorem portStatesMove : Obligations.PortStatesMove := by
  intro s n hl
  refine ⟨fun hst h1 h5 => ?_, fun hst => ?_, fun hst => ?_, fun hst => ?_, fun h6 => ?_⟩
  · exact becomes_of_done (congrArg (done s) (doPrechargeDone_eq hl hst ⟨h1, h5⟩) : done s (doPrechargeDone n s) = _)
  · have h := movePort_moved (s := s) (n := n) (f := fun p => { p with state := .on, gh := true }) rfl
    have e : doLswFullyEnhanced n s = movePort s n fun p => { p with state := .on, gh := true } := if_pos ⟨hl, hst⟩
    refine after_of_done (u := doLswFullyEnhanced n s) rfl ?_
    rw [e]
    exact ⟨h.port, h.ports, h.rails, h.delivers⟩
  · have h := movePort_moved (s := s) (n := n) (f := fun p => { p with state := .hold, pulled := true }) rfl
    have e : doCoilPullDone n s = movePort s n fun p => { p with state := .hold, pulled := true } := if_pos ⟨hl, hst⟩
    refine after_of_done (u := doCoilPullDone n s) rfl ?_
    rw [e]
    refine ⟨h.port, h.ports, h.rails, fun r hr hph hp hf => ?_, h.delivers⟩
    rw [settle_rails, movePort, hr]
    refine railChanged_pg ?_ ?_ (.inl ?_) false
    · rw [railState_single (s := s.modPort n _) hph hp hf, State.modPort_ports_self]; rfl
    · rw [railState_single hph hp hf, hst]; decide
    · rw [State.railPers, show (s.modPort n _).phases r = [n] from hph]; exact hp
  · have e : doCoilReleaseTimeout n s = report (releaseEnd (setTrip s n 0x400) n) 0x020B (unitCode 1 n.1) 0 := if_pos ⟨hl, hst⟩
    refine after_of_done (u := doCoilReleaseTimeout n s) rfl ?_
    rw [e, settle_tripFlags, settle_ports]
    have hrest := (slowRelease_rests (releaseEnd (setTrip s n 0x400) n) n).rest (releaseEnd_atRest (setTrip s n 0x400) n)
    obtain ⟨hgh, hgl, hstate⟩ := hrest
    refine ⟨?_, hgh, hgl, fun h => by rw [h] at hstate; exact absurd hstate (by decide)⟩
    have hkeep := (releaseEnd_keeps (s := setTrip s n 0x400) (n := n) (by show s.ports[n].state ≠ .fenced; rw [hst]; decide)).toLater
    have hflag : (setTrip s n 0x400).tripFlags n = s.tripFlags n ||| 0x400 := State.reg_setReg ..
    rw [(hkeep.trans (report_later _ _ _ _)).tripFlags n, hflag, Nat.testBit_or]
    exact Bool.or_true _
  · exact becomes_of_done (congrArg (done s) (if_pos ⟨hl, h6⟩) : done s (doFanRpmTimeout n s) = _)

end Sys2Proof.Machine
end

section
namespace Sys2Proof.Machine
open Sys2Proof

/-! ## A number that acts as it is written: flags cleared, keys -/

/-- The row of a number, of an object outside the keep store and the identity, that is no setting and that check 9 lets pass at any time. -/
structure DirectRow (v : Variant) (idx sub n : Nat) (o : Obj) : Prop where
  found : findObj v idx sub = some o
  writable : o.writable = true
  direct : o.acc ≠ .rw
  ty : o.ty = .num n false
  outside : idx ≠ 0x2B00 ∧ idx ≠ 0x2C00
  anytime : ∀ s look x, nowOk s look idx sub x = true

/-- The value that a write of a number makes, its reserved bits dropped (R12). -/
def keptItem (idx sub n x : Nat) (o : Obj) : Item := { idx := idx, sub := sub, obj := o, val := o.keep x, bytes := leBytes n x }

section
variable {v : Variant} {idx sub n x : Nat} {o : Obj}

theorem DirectRow.items (h : DirectRow v idx sub n o) (hx : x < 256 ^ n) : itemsOf v [(idx, sub, leBytes n x)] = (0, [keptItem idx sub n x o]) := by
  have hlen : lengthOk idx sub o (leBytes n x).length = true := by simp [lengthOk, h.ty, Ty.size, leBytes_length]
  have hval : o.keep (leVal (leBytes n x)) = o.keep x := by rw [leVal_leBytes, Nat.mod_eq_of_lt hx]
  simp [itemsOf, itemOf, h.found, h.writable, hlen, hval, keptItem]

/-- No field is related to a number that is no setting. -/
theorem DirectRow.valuesCode {s : State} (h : DirectRow s.variant idx sub n o) (looks : List Look) (x : Nat) :
    valuesCode s looks [(idx, sub, x)] = if valueOk s.variant o idx sub x then 0 else badValue := by
  simp only [Sys2Proof.Machine.valuesCode, List.foldl_cons, List.foldl_nil, h.found]
  cases valueOk s.variant o idx sub x <;> simp [h.direct, badValue]

theorem DirectRow.isNum (h : DirectRow v idx sub n o) (x : Nat) : (keptItem idx sub n x o).isNum = true := by
  simp [Item.isNum, keptItem, h.ty]

theorem DirectRow.not_later (h : DirectRow v idx sub n o) : isLater idx sub o = false := by
  simp [isLater, h.direct]

/-- A value that its row takes acts, and is answered as taken. -/
theorem DirectRow.accepted {s : State} {p : HostPath} (h : DirectRow s.variant idx sub n o) (hears : s.hears p) (hx : x < 256 ^ n)
    (hok : valueOk s.variant o idx sub (o.keep x) = true) (hold : s.olderOf [idx] = [])
    (hf : (putNum (granted s p) p idx sub (o.keep x)).cmt.fences = (granted s p).cmt.fences) :
    Replied (putNum (granted s p) p idx sub (o.keep x)) (hostPut s p idx sub n x) ∧ (hostPut s p idx sub n x).took p := by
  have hregs := granted_regs s p
  have hv : (granted s p).variant = s.variant := by rw [hregs]
  have hold' : (granted s p).olderOf [idx] = [] := by rw [hregs]; exact hold
  have hacts : acceptNow (granted s p) p [keptItem idx sub n x o] = putNum (granted s p) p idx sub (o.keep x) :=
    (acceptNow_one h.not_later hold' p).trans (if_pos (h.isNum x))
  have hvals := (hv.symm ▸ h : DirectRow (granted s p).variant idx sub n o).valuesCode (looksOf (granted s p) none
    (expand (granted s p) [(idx, sub, o.keep x)])) (o.keep x)
  rw [hv, if_pos hok] at hvals
  rw [← hacts] at hf ⊢
  exact hostWrite_accepted hears (by simpa using h.outside.2) (h.items hx) (lateCode_number (h.isNum x) h.outside hvals (h.anytime _ _ _) p) hf

/-- A value that its row does not take is refused: its code answered, nothing else changed (R318). -/
theorem DirectRow.refused {s : State} {p : HostPath} (h : DirectRow s.variant idx sub n o) (hears : s.hears p) (hx : x < 256 ^ n)
    (hbad : valueOk s.variant o idx sub (o.keep x) = false) :
    Replied (granted s p) (hostPut s p idx sub n x) ∧ (hostPut s p idx sub n x).turnedAway p badValue := by
  have hregs := granted_regs s p
  have hv : (granted s p).variant = s.variant := by rw [hregs]
  have hon : (granted s p).coreOn = true := by rw [hregs]; exact ready_coreOn hears.1
  rw [hostPut, hostWrite_hears hears]
  generalize granted s p = g at *
  rw [← hv] at h hbad
  have hitems := h.items hx
  have hlate : lateCode g p none [keptItem idx sub n x o] = badValue := by
    have hnums : numsOf [keptItem idx sub n x o] = [(idx, sub, o.keep x)] := by
      simp only [numsOf, List.filter_cons, h.isNum]
      rfl
    simp only [lateCode, hnums, h.valuesCode, hbad]
    rfl
  have hnote : noteRefusal g [keptItem idx sub n x o] = g := by simp [noteRefusal, keptItem, h.outside.2]
  rw [writeCore_refuses hon (by rw [hitems]) (by rw [hitems, hlate]; decide), hitems, hlate, hnote, answerWrite_refused (by decide)]
  exact ⟨(answer_replied g p _ []).trans (noteTw_replied _ p _), by rw [State.turnedAway, noteTw_paths]; exact (answer_abort g p _ []).1⟩

end

theorem olderOf_of_settled {s : State} {idx : Nat} (h : s.settled idx) : s.olderOf [idx] = [] := by
  rw [State.olderOf, List.filter_cons, List.filter_nil]
  split
  · exact sharing_of_none _ fun o ho => Bool.eq_false_iff.mpr (List.any_eq_false.mp h o (List.mem_reverse.mp ho))
  · exact sharing_nil _

/-! ### The rows -/

/-- TRIP_FLAGS, RAIL_FLAGS, SUP_FLAGS, CNT_CLEAR, and a ledger's SNAP and CLEAR (Tables 4-11, 6-8, 6-10 and 8-6). -/
def tripFlagsRow : Obj := ⟨0x12, 0x12, .num 2 false, .w1c, 0, 0, 65535, some 0x1FFF⟩
def railFlagsRow : Obj := ⟨0x19, 0x19, .num 1 false, .w1c, 0, 0, 255, some 0x3F⟩
def supFlagsRow : Obj := ⟨0x4C, 0x4C, .num 1 false, .w1c, 0, 0, 255, some 0x7F⟩
def cntClearRow : Obj := ⟨0x5A, 0x5A, .num 4 false, .wo, 0, 0, 4294967295, none⟩
def snapRow : Obj := ⟨0x03, 0x03, .num 1 false, .wo, 0, 1, 1, none⟩
def ledgerClearRow : Obj := ⟨0x07, 0x07, .num 4 false, .wo, 0, 0, 4294967295, none⟩

theorem portIdx_range (n : Fin 32) : 0x2100 ≤ portIdx n.1 ∧ portIdx n.1 < 0x2120 := by unfold portIdx; omega

theorem railIdx_range (r : Fin 16) : 0x2200 ≤ railIdx r.1 ∧ railIdx r.1 < 0x2210 := by unfold railIdx; omega

theorem findObj_tripFlags (v : Variant) (n : Fin 32) (h : n.1 < v.ports) : findObj v (portIdx n.1) 0x12 = some tripFlagsRow := by
  cases v <;> revert n <;> decide

theorem findObj_railClears (v : Variant) (r : Fin 16) (h : r.1 < v.rails) : findObj v (railIdx r.1) 0x19 = some railFlagsRow ∧
    findObj v (railIdx r.1) 0x4C = some supFlagsRow ∧ findObj v (railIdx r.1) 0x5A = some cntClearRow := by
  cases v <;> revert r <;> decide

theorem findObj_ledger (v : Variant) (n : Fin 32) (h : n.1 < v.ports) :
    findObj v (0x3200 + n.1) 3 = some snapRow ∧ findObj v (0x3200 + n.1) 7 = some ledgerClearRow := by
  cases v <;> revert n <;> decide

theorem tripFlags_direct {v : Variant} {n : Fin 32} (h : n.1 < v.ports) : DirectRow v (portIdx n.1) 0x12 2 tripFlagsRow :=
  have hr := portIdx_range n
  ⟨findObj_tripFlags v n h, rfl, by decide, rfl, by omega, fun s look x => (nowOk_port s look n 0x12 x).trans rfl⟩

/-- Check 9 says nothing of a rail's flags and of its counters' key. -/
theorem nowOk_railClears (s : State) (look : Look) (r : Fin 16) {sub : Nat} (h : sub = 0x19 ∨ sub = 0x4C ∨ sub = 0x5A) (x : Nat) :
    nowOk s look (railIdx r.1) sub x = true := by
  rw [nowOk_rail]
  rcases h with rfl | rfl | rfl <;> rfl

theorem railClear_direct {v : Variant} {r : Fin 16} {sub n : Nat} {o : Obj} (ho : findObj v (railIdx r.1) sub = some o)
    (hs : sub = 0x19 ∨ sub = 0x4C ∨ sub = 0x5A) (hw : o.writable = true) (hacc : o.acc ≠ .rw) (hty : o.ty = .num n false) :
    DirectRow v (railIdx r.1) sub n o :=
  have hr := railIdx_range r
  ⟨ho, hw, hacc, hty, by omega, fun s look x => nowOk_railClears s look r hs x⟩

theorem nowOk_ledger (s : State) (look : Look) (n : Fin 32) (sub x : Nat) : nowOk s look (0x3200 + n.1) sub x = true := by
  have hmap : mapLocked s (0x3200 + n.1) = false := by simp [mapLocked]; omega
  simp (disch := omega) only [nowOk, if_neg, dif_neg]
  rw [hmap]
  rfl

theorem ledger_direct {v : Variant} {q : Fin 32} {sub n : Nat} {o : Obj} (ho : findObj v (0x3200 + q.1) sub = some o) (hw : o.writable = true)
    (hacc : o.acc ≠ .rw) (hty : o.ty = .num n false) : DirectRow v (0x3200 + q.1) sub n o :=
  ⟨ho, hw, hacc, hty, by omega, fun s look x => nowOk_ledger s look q sub x⟩

/-! ### The values -/

theorem tripFlags_valueOk (v : Variant) (n : Fin 32) (m : U16) : valueOk v tripFlagsRow (portIdx n.1) 0x12 (tripFlagsRow.keep m.toNat) = true := by
  have hr := portIdx_range n
  have henc : ∀ x, encodingOk v (portIdx n.1) 0x12 x = true := fun x => by simp (disch := omega) only [encodingOk, if_neg]
  have hmax : m.toNat &&& 0x1FFF ≤ 0x1FFF := Nat.and_le_right
  simp [valueOk, henc, Obj.value, Obj.keep, tripFlagsRow]
  omega

theorem railFlags_encodingOk (v : Variant) (r : Fin 16) {sub : Nat} (hs : sub = 0x19 ∨ sub = 0x4C) (x : Nat) :
    encodingOk v (railIdx r.1) sub x = true := by
  have hr := railIdx_range r
  simp (disch := omega) only [encodingOk, if_neg]

theorem railFlags_valueOk (v : Variant) (r : Fin 16) (m : Byte) :
    valueOk v railFlagsRow (railIdx r.1) 0x19 (railFlagsRow.keep m.toNat) = true ∧
      valueOk v supFlagsRow (railIdx r.1) 0x4C (supFlagsRow.keep m.toNat) = true := by
  have hmax : m.toNat &&& 0x3F ≤ 0x3F ∧ m.toNat &&& 0x7F ≤ 0x7F := ⟨Nat.and_le_right, Nat.and_le_right⟩
  constructor <;> simp [valueOk, railFlags_encodingOk, Obj.value, Obj.keep, railFlagsRow, supFlagsRow] <;> omega

/-- The key at CNT_CLEAR. -/
theorem cntClear_valueOk (v : Variant) (r : Fin 16) (x : U32) :
    valueOk v cntClearRow (railIdx r.1) 0x5A (cntClearRow.keep x.toNat) = decide (x = 0x45564E54) := by
  have hr := railIdx_range r
  have henc : encodingOk v (railIdx r.1) 0x5A x.toNat = (x.toNat == 0x45564E54) := by
    simp (disch := omega) only [encodingOk, if_neg]
    exact if_pos ⟨hr.1, hr.2, trivial⟩
  have hkey : (x.toNat == 0x45564E54) = decide (x = 0x45564E54) := by simp [← BitVec.toNat_inj, Bool.beq_eq_decide_eq]
  have hmax : (x.toNat : Int) ≤ 4294967295 := by have := x.isLt; omega
  simp [valueOk, cntClearRow, Obj.value, Obj.keep, henc, hkey, hmax]

/-- The key at a ledger's CLEAR. -/
theorem ledgerClear_valueOk (v : Variant) (n : Fin 32) (x : U32) :
    valueOk v ledgerClearRow (0x3200 + n.1) 7 (ledgerClearRow.keep x.toNat) = decide (x = 0x4C454447) := by
  have henc : encodingOk v (0x3200 + n.1) 7 x.toNat = (x.toNat == 0x4C454447) := by
    simp (disch := omega) only [encodingOk, if_neg]
    exact if_pos ⟨by omega, trivial⟩
  have hkey : (x.toNat == 0x4C454447) = decide (x = 0x4C454447) := by simp [← BitVec.toNat_inj, Bool.beq_eq_decide_eq]
  have hmax : (x.toNat : Int) ≤ 4294967295 := by have := x.isLt; omega
  simp [valueOk, ledgerClearRow, Obj.value, Obj.keep, henc, hkey, hmax]

theorem snap_valueOk (v : Variant) (n : Fin 32) : valueOk v snapRow (0x3200 + n.1) 3 (snapRow.keep 1) = true := by
  have henc : encodingOk v (0x3200 + n.1) 3 1 = true := by
    simp (disch := omega) only [encodingOk, if_neg]
    exact if_pos ⟨by omega, trivial⟩
  simp [valueOk, snapRow, Obj.value, Obj.keep, henc]

/-! ### What they do -/

theorem putNum_port (s : State) (p : HostPath) (n : Fin 32) (sub v : Nat) : putNum s p (portIdx n.1) sub v = clearTripFlags s n v := by
  have h := portIdx_range n
  have hn : (⟨portIdx n.1 - 0x2100, by omega⟩ : Fin 32) = n := Fin.ext (by show portIdx n.1 - 0x2100 = n.1; unfold portIdx; omega)
  rw [putNum, if_neg (by omega), if_neg (by omega), dif_pos h, hn]

theorem putNum_rail (s : State) (p : HostPath) (r : Fin 16) (sub v : Nat) : putNum s p (railIdx r.1) sub v = putRail s r sub v := by
  have h := railIdx_range r
  have hr : (⟨railIdx r.1 - 0x2200, by omega⟩ : Fin 16) = r := Fin.ext (by show railIdx r.1 - 0x2200 = r.1; unfold railIdx; omega)
  rw [putNum, if_neg (by omega), if_neg (by omega), dif_neg (by omega), dif_pos h, hr]

theorem putNum_ledger (s : State) (p : HostPath) (n : Fin 32) (sub v : Nat) :
    putNum s p (0x3200 + n.1) sub v = if sub = 3 then writeSnap s else writeLedgerClear s n := by
  have hn : (⟨0x3200 + n.1 - 0x3200, by omega⟩ : Fin 32) = n := Fin.ext (by show 0x3200 + n.1 - 0x3200 = n.1; omega)
  simp (disch := omega) only [putNum, if_neg, dif_neg, dif_pos, hn]

/-- A rail that reads TRIPPED starts with ports and rails changed alone: it has no power-good to lose. -/
theorem tryRestart_frame (s : State) (r : Fin 16) : tryRestart s r = { s with ports := (tryRestart s r).ports, rails := (tryRestart s r).rails } := by
  unfold tryRestart
  split
  · next h =>
    unfold startRail
    extract_lets old s1
    have hports : OnlyPorts s1 ((s1.members r).foldl (fun t n => startPort t r n) s1) :=
      .foldl (fun t n => .ite (fun _ => .refl t) fun _ => modPort_onlyPorts t n _) _ s1
    generalize (s1.members r).foldl (fun t n => startPort t r n) s1 = s2 at *
    have hrail := railChanged_onlyRail (s := s2) (r := r) (old := old) (.inl (by show (s.railState r).lossState = false; rw [h.1]; rfl)) false
    rw [hrail.frame, hports.frame]
    rfl
  · rfl

/-- A port's flags cleared, whatever restarts then. -/
theorem clearTripFlags_frame (s : State) (n : Fin 32) (m : Nat) : ∃ ports rails,
    clearTripFlags s n m = { s.clrReg (portIdx n.1) 0x12 m with ports := ports, rails := rails } := by
  unfold clearTripFlags
  extract_lets s1
  split
  · exact ⟨_, _, rfl⟩
  · exact ⟨_, _, tryRestart_frame s1 _⟩

/-- A rail's flags cleared, whatever restarts then. -/
theorem clearRailFlags_frame (s : State) (r : Fin 16) (sub m : Nat) : ∃ ports rails,
    clearRailFlags s r sub m = { s.clrReg (railIdx r.1) sub m with ports := ports, rails := rails } := by
  unfold clearRailFlags
  extract_lets s1
  split
  · exact ⟨_, _, tryRestart_frame s1 r⟩
  · exact ⟨_, _, rfl⟩

/-- Registers `b` to `b + 7` of an object made 0. -/
theorem foldl_clear_reg (idx b : Nat) (l : List Nat) : ∀ s : State, ∀ j, j ∈ l ∨ s.reg idx (b + j) = 0 →
    (l.foldl (fun t i => t.setReg idx (b + i) 0) s).reg idx (b + j) = 0 := by
  induction l with
  | nil => exact fun s j h => h.resolve_left List.not_mem_nil
  | cons a l ih =>
    intro s j h
    refine ih _ j ?_
    by_cases e : j = a
    · exact .inr (e ▸ State.reg_setReg ..)
    · refine h.imp (fun hm => (List.mem_cons.mp hm).resolve_left e) fun h0 => ?_
      rw [State.reg_setReg_ne _ _ (by show (idx * 256 + (b + j) : Nat) ≠ idx * 256 + (b + a); omega)]
      exact h0

theorem writeCntClear_reg (s : State) (r : Fin 16) {j : Nat} (h : j < 8) : (writeCntClear s r).reg (railIdx r.1) (0x52 + j) = 0 :=
  foldl_clear_reg _ _ _ s j (.inl (List.mem_range.mpr h))

theorem modLedger_self (s : State) (n : Fin 32) (f : Ledger → Ledger) : (s.modLedger n f).ledger[n] = f s.ledger[n] := by
  simp [State.modLedger]

theorem modLedger_ne (s : State) {n q : Fin 32} (f : Ledger → Ledger) (h : q ≠ n) : (s.modLedger n f).ledger[q] = s.ledger[q] := by
  have hn : n.1 ≠ q.1 := fun e => h (Fin.ext e.symm)
  simp [State.modLedger, Vector.getElem_set_ne, hn]

/-- A change made once or more of every ledger of a list, where the second time changes nothing. -/
theorem foldl_modLedger {f : Ledger → Ledger} (hf : ∀ x, f (f x) = f x) (l : List (Fin 32)) : ∀ s : State,
    (l.foldl (fun t n => t.modLedger n f) s).cmt = s.cmt ∧
      ∀ q, q ∈ l ∨ s.ledger[q] = f s.ledger[q] → (l.foldl (fun t n => t.modLedger n f) s).ledger[q] = f s.ledger[q] := by
  induction l with
  | nil => exact fun s => ⟨rfl, fun q h => h.resolve_left List.not_mem_nil⟩
  | cons a l ih =>
    intro s
    obtain ⟨hcmt, hled⟩ := ih (s.modLedger a f)
    refine ⟨hcmt, fun q h => ?_⟩
    by_cases e : q = a
    · subst e
      rw [List.foldl_cons, hled q (.inr (by rw [modLedger_self, hf])), modLedger_self, hf]
    · have hq := modLedger_ne s f e
      rw [List.foldl_cons, hled q (h.imp (fun hm => (List.mem_cons.mp hm).resolve_left e) fun h0 => by rw [hq]; exact h0), hq]

/-- What SNAP makes of a ledger (R181). -/
def Ledger.snapped (x : Ledger) (stamp : U32) : Ledger := { x with snapCharge := whole x.charge, snapEnergy := whole x.energy, snapStamp := stamp }

theorem writeSnap_spec (s : State) : (writeSnap s).cmt = s.cmt ∧
    ∀ q : Fin 32, q.1 < s.variant.ports → (writeSnap s).ledger[q] = s.ledger[q].snapped s.now := by
  have h := foldl_modLedger (f := fun x => x.snapped s.now) (fun _ => rfl) s.portList s
  exact ⟨h.1, fun q hq => h.2 q (.inl (List.mem_filter.mpr ⟨List.mem_finRange q, decide_eq_true hq⟩))⟩

theorem writeLedgerClear_spec (s : State) (n : Fin 32) : (writeLedgerClear s n).ledger[n] = { s.ledger[n] with charge := 0, energy := 0 } ∧
    ∀ q, q ≠ n → (writeLedgerClear s n).ledger[q] = s.ledger[q] :=
  ⟨modLedger_self s n _, fun _ hq => modLedger_ne s _ hq⟩

/-! ## The obligation -/

theorem olderOf_ledger (s : State) (n : Fin 32) : s.olderOf [0x3200 + n.1] = [] := by
  have h : hasSettings (0x3200 + n.1) = false := by simp [hasSettings]; omega
  rw [State.olderOf, List.filter_cons, h]
  exact sharing_nil _

section
variable {s : State} {p : HostPath}

/-- The flags of a present port cleared by a write. -/
theorem tripFlagsClear_after (h : s.hears p) {n : Fin 32} (hn : n.1 < s.variant.ports) (hset : s.settled (portIdx n.1)) (m : U16) :
    s.after (.tripFlagsClear p n m) fun t => t.took p ∧ t.tripFlags n = s.tripFlags n - (s.tripFlags n &&& (m.toNat &&& 0x1FFF)) := by
  obtain ⟨ports, rails, hput⟩ := clearTripFlags_frame (granted s p) n (m.toNat &&& 0x1FFF)
  have hacts : putNum (granted s p) p (portIdx n.1) 0x12 (tripFlagsRow.keep m.toNat) = _ := (putNum_port ..).trans hput
  obtain ⟨hreply, htook⟩ := (tripFlags_direct hn).accepted h m.isLt (tripFlags_valueOk _ n m) (olderOf_of_settled hset) (by rw [hacts]; rfl)
  refine after_of_done (u := hostPut s p (portIdx n.1) 0x12 2 m.toNat) rfl ⟨htook, ?_⟩
  rw [settle_tripFlags, hreply.same (fun t => t.tripFlags n) fun _ _ _ _ => rfl, hacts]
  refine (State.reg_clrReg ..).trans ?_
  rw [granted_reg_sub s p (by decide) (by decide)]
  rfl

/-- Flags of a present rail cleared by a write. -/
theorem railClear_after {c : Instr} (h : s.hears p) {r : Fin 16} {sub k : Nat} {o : Obj} (hrow : DirectRow s.variant (railIdx r.1) sub 1 o)
    (hs : sub = 0x19 ∨ sub = 0x4C) (hset : s.settled (railIdx r.1)) {m : Byte} (hok : valueOk s.variant o (railIdx r.1) sub (o.keep m.toNat) = true)
    (hk : o.keep m.toNat = m.toNat &&& k) (hc : exec c s = done s (hostPut s p (railIdx r.1) sub 1 m.toNat)) :
    s.after c fun t => t.took p ∧ t.reg (railIdx r.1) sub = s.reg (railIdx r.1) sub - (s.reg (railIdx r.1) sub &&& (m.toNat &&& k)) := by
  obtain ⟨ports, rails, hput⟩ := clearRailFlags_frame (granted s p) r sub (o.keep m.toNat)
  have hrail : putRail (granted s p) r sub (o.keep m.toNat) = clearRailFlags (granted s p) r sub (o.keep m.toNat) := by
    rcases hs with rfl | rfl <;> rfl
  have hacts : putNum (granted s p) p (railIdx r.1) sub (o.keep m.toNat) = _ := (putNum_rail ..).trans (hrail.trans hput)
  obtain ⟨hreply, htook⟩ := hrow.accepted h m.isLt hok (olderOf_of_settled hset) (by rw [hacts]; rfl)
  refine after_of_done hc ⟨htook, ?_⟩
  rw [hreply.settle_reg s (countsKey_unit (unitIdx_rail r) (by omega)), hacts, hk]
  refine (State.reg_clrReg ..).trans ?_
  rw [granted_reg_sub s p (by omega) (by omega)]

/-- The key at CNT_CLEAR. -/
theorem cntClear_after (h : s.hears p) {r : Fin 16} (hrow : DirectRow s.variant (railIdx r.1) 0x5A 4 cntClearRow) (hset : s.settled (railIdx r.1)) :
    s.after (.cntClear p r 0x45564E54) fun t => t.took p ∧ ∀ j, j < 8 → t.reg (railIdx r.1) (0x52 + j) = 0 := by
  have hacts : putNum (granted s p) p (railIdx r.1) 0x5A (cntClearRow.keep (0x45564E54 : U32).toNat) = writeCntClear (granted s p) r := putNum_rail ..
  obtain ⟨hreply, htook⟩ := hrow.accepted h (0x45564E54 : U32).isLt (cntClear_valueOk _ r _) (olderOf_of_settled hset) (by rw [hacts]; rfl)
  refine after_of_done (u := hostPut s p (railIdx r.1) 0x5A 4 (0x45564E54 : U32).toNat) rfl ⟨htook, fun j hj => ?_⟩
  rw [hreply.settle_reg s (countsKey_unit (unitIdx_rail r) (by omega)), hacts]
  exact writeCntClear_reg _ r hj

theorem ledgerSnap_after (h : s.hears p) {n : Fin 32} (hn : n.1 < s.variant.ports) :
    s.after (.ledgerSnap p n) fun t => t.took p ∧ ∀ q : Fin 32, q.1 < s.variant.ports → t.ledger[q] = s.ledger[q].snapped s.now := by
  obtain ⟨hcmt, hsnap⟩ := writeSnap_spec (granted s p)
  have hacts : putNum (granted s p) p (0x3200 + n.1) 3 (snapRow.keep 1) = writeSnap (granted s p) := putNum_ledger ..
  obtain ⟨hreply, htook⟩ := (ledger_direct (findObj_ledger _ n hn).1 rfl (by decide) rfl).accepted h (by decide) (snap_valueOk _ n)
    (olderOf_ledger s n) (by rw [hacts, hcmt])
  refine after_of_done (u := hostPut s p (0x3200 + n.1) 3 1 1) rfl ⟨htook, fun q hq => ?_⟩
  have hregs := granted_regs s p
  have hled : (granted s p).ledger = s.ledger ∧ (granted s p).now = s.now ∧ (granted s p).variant = s.variant := by
    rw [hregs]
    exact ⟨rfl, rfl, rfl⟩
  rw [settle_ledger, hreply.same State.ledger fun _ _ _ _ => rfl, hacts, hsnap q (by rw [hled.2.2]; exact hq), hled.1, hled.2.1]

theorem ledgerClear_after (h : s.hears p) {n : Fin 32} (hn : n.1 < s.variant.ports) : s.after (.ledgerClear p n 0x4C454447) fun t =>
    t.took p ∧ t.ledger[n] = { s.ledger[n] with charge := 0, energy := 0 } ∧ ∀ q, q ≠ n → t.ledger[q] = s.ledger[q] := by
  obtain ⟨hself, hothers⟩ := writeLedgerClear_spec (granted s p) n
  have hacts : putNum (granted s p) p (0x3200 + n.1) 7 (ledgerClearRow.keep (0x4C454447 : U32).toNat) = writeLedgerClear (granted s p) n :=
    putNum_ledger ..
  obtain ⟨hreply, htook⟩ := (ledger_direct (findObj_ledger _ n hn).2 rfl (by decide) rfl).accepted h (0x4C454447 : U32).isLt
    (ledgerClear_valueOk _ n _) (olderOf_ledger s n) (by rw [hacts]; rfl)
  have hled : (granted s p).ledger = s.ledger := by rw [granted_regs]
  rw [hled] at hself
  refine after_of_done (u := hostPut s p (0x3200 + n.1) 7 4 (0x4C454447 : U32).toNat) rfl ⟨htook, ?_, fun q hq => ?_⟩
  · rw [settle_ledger, hreply.same State.ledger fun _ _ _ _ => rfl, hacts, hself]
  · rw [settle_ledger, hreply.same State.ledger fun _ _ _ _ => rfl, hacts, hothers q hq, hled]

end

/-- Settles O32: flags and keys are numbers that no transfer carries; a rail that a clear restarts was TRIPPED, so that its start changes
ports and rails alone. -/
theorem flagAndCounterClears : Obligations.FlagAndCounterClears := by
  intro s p h
  refine ⟨fun n hn => ⟨fun m hset => tripFlagsClear_after h hn hset m, ledgerSnap_after h hn, ledgerClear_after h hn, fun v hv => ?_⟩,
    fun r hr hset => ?_⟩
  · have hrow := ledger_direct (n := 4) (findObj_ledger _ n hn).2 rfl (by decide) rfl
    obtain ⟨hreply, haway⟩ := hrow.refused h v.isLt ((ledgerClear_valueOk _ n v).trans (decide_eq_false hv))
    refine after_of_done (u := hostPut s p (0x3200 + n.1) 7 4 v.toNat) rfl ⟨haway, ?_⟩
    rw [settle_ledger, hreply.same State.ledger fun _ _ _ _ => rfl, granted_regs]
  · obtain ⟨hflags, hsup, hkey⟩ := findObj_railClears _ r hr
    have hcnt := railClear_direct (n := 4) hkey (by decide) rfl (by decide) rfl
    refine ⟨fun m => ⟨?_, ?_⟩, cntClear_after h hcnt hset, fun v hv => ?_⟩
    · exact railClear_after h (railClear_direct hflags (by decide) rfl (by decide) rfl) (.inl rfl) hset (railFlags_valueOk _ r m).1 rfl rfl
    · exact railClear_after h (railClear_direct hsup (by decide) rfl (by decide) rfl) (.inr rfl) hset (railFlags_valueOk _ r m).2 rfl rfl
    · obtain ⟨-, haway⟩ := hcnt.refused h v.isLt ((cntClear_valueOk _ r v).trans (decide_eq_false hv))
      exact after_of_done (u := hostPut s p (railIdx r.1) 0x5A 4 v.toNat) rfl haway

end Sys2Proof.Machine
end

section
/-! SUPPORT. What the units' and the modes' business leaves of the sample fabric: the words a rail has received, the voltage converters,
and every converter that has failed. Said once for each operation and composed by transitivity. -/

namespace Sys2Proof.Machine
open Sys2Proof

/-! ## The frame of the fabric -/

/-- The rover is lost and no round runs that could use it (R205). -/
def Milk.RoverLost (m : Milk) : Prop := m.roverFailed = true ∧ m.noSpare = true ∧ m.running = false

/-- `t` follows `s` with the words of every rail and the voltage converters as they were, and with every failure of a converter standing. -/
structure Lasts (s t : State) : Prop where
  words : ∀ r : Fin 16, t.rails[r].words = s.rails[r].words
  vc : t.vc = s.vc
  senseFailed : ∀ i, s.flt.sc.getLsbD i = true → t.flt.sc.getLsbD i = true
  voltFailed : ∀ i, s.flt.vc.getLsbD i = true → t.flt.vc.getLsbD i = true
  rover : s.milk.RoverLost → t.milk.RoverLost

theorem Lasts.refl (s : State) : Lasts s s := ⟨fun _ => rfl, rfl, fun _ => id, fun _ => id, id⟩

theorem Lasts.trans {s t u : State} (h : Lasts s t) (k : Lasts t u) : Lasts s u :=
  ⟨fun r => (k.words r).trans (h.words r), k.vc.trans h.vc, fun i => k.senseFailed i ∘ h.senseFailed i,
    fun i => k.voltFailed i ∘ h.voltFailed i, k.rover ∘ h.rover⟩

theorem Lasts.ite {s t u : State} {c : Prop} [Decidable c] (h : c → Lasts s t) (k : ¬c → Lasts s u) : Lasts s (if c then t else u) := by
  split
  · exact h ‹_›
  · exact k ‹_›

theorem Lasts.foldl {α : Type} {f : State → α → State} (h : ∀ s a, Lasts s (f s a)) (l : List α) : ∀ s, Lasts s (l.foldl f s) := by
  induction l with
  | nil => exact .refl
  | cons a l ih => exact fun s => (h s a).trans (ih _)

/-- A change of the milk round that finds no lost rover again. -/
theorem Lasts.of_milk {s t : State} (h : (t.rails, t.vc, t.flt.sc, t.flt.vc) = (s.rails, s.vc, s.flt.sc, s.flt.vc))
    (hm : s.milk.RoverLost → t.milk.RoverLost) : Lasts s t := by
  simp only [Prod.mk.injEq] at h
  obtain ⟨hr, hv, hs, hk⟩ := h
  exact ⟨fun r => by rw [hr], hv, fun i => by rw [hs]; exact id, fun i => by rw [hk]; exact id, hm⟩

/-- A change of what the frame does not look at. -/
theorem Lasts.of_same {s t : State} (h : (t.rails, t.vc, t.flt.sc, t.flt.vc, t.milk) = (s.rails, s.vc, s.flt.sc, s.flt.vc, s.milk)) :
    Lasts s t := by
  simp only [Prod.mk.injEq] at h
  obtain ⟨hr, hv, hs, hk, hm⟩ := h
  exact .of_milk (by rw [hr, hv, hs, hk]) (by rw [hm]; exact id)

theorem Noted.lasts {s t : State} (h : Noted s t) : Lasts s t := .of_same (by rw [h.frame])

theorem OnlyChg.lasts {s t : State} (h : OnlyChg s t) : Lasts s t := .of_same (by rw [h.frame])

theorem Replied.lasts {s t : State} (h : Replied s t) : Lasts s t := .of_same (by rw [h.frame])

theorem Lasts.setReg (s : State) (idx sub v : Nat) : Lasts s (s.setReg idx sub v) := .of_same rfl

theorem Lasts.modPort (s : State) (n : Fin 32) (f : Port → Port) : Lasts s (s.modPort n f) := .of_same rfl

/-- A rail changed whose words stand. -/
theorem Lasts.modRail (s : State) (r : Fin 16) {f : Rail → Rail} (h : ∀ x, (f x).words = x.words) : Lasts s (s.modRail r f) := by
  refine ⟨fun q => ?_, rfl, fun _ => id, fun _ => id, id⟩
  by_cases hq : q = r
  · subst hq; rw [State.modRail_rails_self]; exact h _
  · rw [State.modRail_rails_ne s f hq]

theorem getLsbD_setBit_mono {w : Nat} (x : BitVec w) (j i : Nat) (h : x.getLsbD i = true) : (setBit x j).getLsbD i = true := by
  rw [setBit, BitVec.getLsbD_or, h, Bool.true_or]

/-! ## Rails and ports -/

theorem logConsequent_lasts (s : State) (code unit : U16) (cause : U32) : Lasts s (logConsequent s code unit cause) := by
  unfold logConsequent
  split
  · exact .refl s
  · exact .ite (fun _ => (addEntry_noted s _).lasts) fun _ => .refl s

theorem withdrawPg_lasts (s : State) (r : Fin 16) (loss : Bool) : Lasts s (withdrawPg s r loss) := by
  unfold withdrawPg
  extract_lets s1 s2
  have h1 : Lasts s s1 := .modRail s r fun _ => rfl
  have h2 : Lasts s1 s2 := .of_same rfl
  exact .ite (fun _ => (h1.trans h2).trans (.ite (fun _ => (logOnly_noted s2 _ _ _).lasts) fun _ => .of_same rfl)) fun _ => h1

theorem railChanged_lasts (s : State) (r : Fin 16) (old : RailState) (off : Bool) : Lasts s (railChanged s r old off) :=
  .ite (fun _ => .refl s) fun _ => Lasts.trans (.ite (fun _ => withdrawPg_lasts s r _) fun _ => .refl s) (.modRail _ r fun _ => rfl)

theorem toRail_lasts (s : State) (r : Fin 16) (st : RailState) (off : Bool) : Lasts s (toRail s r st off) :=
  have h1 : Lasts s (s.modRail r fun x => { x with state := st }) := .modRail s r fun _ => rfl
  h1.trans (railChanged_lasts _ r _ off)

theorem startPort_lasts (s : State) (r : Fin 16) (n : Fin 32) : Lasts s (startPort s r n) := .ite (fun _ => .refl s) fun _ => .modPort s n _

/-- A rail starts with the words it has received. -/
theorem startRail_lasts (s : State) (r : Fin 16) : Lasts s (startRail s r) := by
  unfold startRail
  extract_lets old s1
  have h1 : Lasts s s1 := .modRail s r fun _ => rfl
  exact (h1.trans (.foldl (fun t n => startPort_lasts t r n) _ s1)).trans (railChanged_lasts _ r old false)

theorem readyPort_lasts (s : State) (n : Fin 32) : Lasts s (readyPort s n) := by
  unfold readyPort
  split
  iterate 3 exact .refl s
  · exact .modPort s n _

theorem endPort_lasts (st : PortState) (s : State) (n : Fin 32) : Lasts s (endPort st s n) := by
  unfold endPort
  split
  iterate 3 exact .refl s
  · exact .modPort s n _

theorem railOff_lasts (s : State) (r : Fin 16) : Lasts s (railOff s r) := by
  unfold railOff
  extract_lets old s1 s2
  have hoff : Lasts s1 (s1.modRail r fun x => { x with state := .off, shed := 0, trunc := false }) := .modRail s1 r fun _ => rfl
  have h2 : Lasts s s2 := (Lasts.foldl (endPort_lasts .ready) _ s).trans (hoff.trans (railChanged_lasts _ r old true))
  exact .ite (fun _ => h2.trans (startRail_lasts s2 r)) fun _ => h2

theorem releasePort_lasts (s : State) (n : Fin 32) (forced : Bool) : Lasts s (releasePort s n forced) := by
  unfold releasePort
  split
  iterate 3 exact .refl s
  iterate 2 exact .ite (fun _ => .modPort s n _) fun _ => .modPort s n _
  iterate 2 exact .modPort s n _
  iterate 2 exact .ite (fun _ => .modPort s n _) fun _ => .refl s
  · exact .modPort s n _

theorem stopRail_lasts (s : State) (r : Fin 16) (forced : Bool) : Lasts s (stopRail s r forced) := by
  unfold stopRail
  extract_lets old s1
  have h1 : Lasts s s1 := .modRail s r fun _ => rfl
  have off := h1.trans (railOff_lasts s1 r)
  have down := h1.trans (toRail_lasts s1 r .rampDown true)
  refine .ite (fun _ => ?_) fun _ => ?_
  · have hstop : Lasts s1 (s1.modRail r fun x => { x with state := if x.state = .fenced then .fenced else .off }) := .modRail s1 r fun _ => rfl
    exact ((h1.trans hstop).trans (.foldl (fun t n => releasePort_lasts t n forced) _ _)).trans (railChanged_lasts _ r old true)
  · split
    iterate 3 exact h1
    iterate 2 exact off
    · exact .ite (fun _ => off) fun _ => h1
    · exact .ite (fun _ => off) fun _ => down
    iterate 2 exact .ite (fun _ => down) fun _ => off

theorem devDisable_lasts (s : State) (r : Fin 16) (forced : Bool) : Lasts s (devDisable s r forced) :=
  have h1 : Lasts s (writeEnable s r 0) := .of_same rfl
  h1.trans (stopRail_lasts _ r forced)

theorem clearEnables_lasts (s : State) : Lasts s (clearEnables s) := by
  refine .foldl (fun t r => ?_) _ s
  have h1 : Lasts t (writeEnable t r 0) := .of_same rfl
  exact (h1.trans (withdrawPg_lasts _ r false)).trans (.modRail _ r fun _ => rfl)

theorem holdPort_lasts (s : State) (n : Fin 32) : Lasts s (holdPort s n) := by
  unfold holdPort
  split
  iterate 2 exact .refl s
  · refine .ite (fun _ => .refl s) fun _ => ?_
    split
    · exact .modPort s n _
    · exact .ite (fun _ => .modPort s n _) fun _ => .modPort s n _
  · exact .ite (fun _ => .modPort s n _) fun _ => .refl s

theorem holdRail_lasts (s : State) (r : Fin 16) (old : RailState) : Lasts s (holdRail s r old) :=
  have goes : ∀ st : RailState, Lasts s (s.modRail r fun x => { x with state := st }) := fun _ => .modRail s r fun _ => rfl
  .ite (fun _ => .refl s) fun _ => .ite (fun _ => (goes .held).trans (railChanged_lasts _ r old false)) fun _ =>
    .ite (fun _ => .ite (fun _ => (goes .off).trans (startRail_lasts _ r)) fun _ => (goes .off).trans (railChanged_lasts _ r old false))
      fun _ => railChanged_lasts s r old false

theorem restartDwell_lasts (s : State) (r : Fin 16) : Lasts s (restartDwell s r) := by
  unfold restartDwell rephase
  have h1 : Lasts s (s.modRail r fun x => { x with dwell := 0, spacing := 0 }) := .modRail s r fun _ => rfl
  split
  · exact h1
  · exact h1.trans (.foldl (fun t n => .modPort t n _) _ _)

theorem applyHolds_lasts (s : State) : Lasts s (applyHolds s) := by
  refine (Lasts.foldl holdPort_lasts s.portList s).trans (.foldl (fun t x => ?_) _ _)
  exact .ite (fun _ => (holdRail_lasts t x.1 x.2).trans (restartDwell_lasts _ x.1)) fun _ => holdRail_lasts t x.1 x.2

end Sys2Proof.Machine
end

section
namespace Sys2Proof.Machine
open Sys2Proof

/-! ## Stores and the answers that wait for them -/

theorem showMailbox_lasts (s : State) (c : Fin 8) (code : Nat) : Lasts s (showMailbox s c code) := by
  refine Lasts.trans ?_ (pendSrc_noted _ 38).lasts
  exact .of_same rfl

theorem endOwed_lasts (s : State) (p : HostPath) (fence : Bool) (code : Nat) : Lasts s (endOwed s p fence code) := by
  have hanswer : Lasts s (answerOwed s p fence code) := by
    refine Lasts.trans ?_ (sendReply_replied _ p _ code []).lasts
    exact .of_same rfl
  have hwait : ∀ (t : State) c, Lasts t (endWaiting t c code) := fun t c =>
    .ite (fun _ => (showMailbox_lasts t c code).trans (.of_same rfl)) fun _ => showMailbox_lasts t c code
  unfold endOwed
  split
  · exact hanswer.trans (hwait _ _)
  · exact hanswer

theorem answerKeys_lasts (s : State) (ws : List KeyWait) (code : Nat) : Lasts s (answerKeys s ws code) :=
  .foldl (fun t w => by
    show Lasts t (match w.path with | none => t | some p => endOwed t p false code)
    split
    · exact .refl t
    · exact endOwed_lasts t _ false code) ws s

theorem undoLost_lasts (s : State) (cs : List StoreCause) : Lasts s (undoLost s cs) := by
  have hconfig : Lasts s (undoConfig s) := by
    unfold undoConfig
    split <;> exact .of_same rfl
  have hkey : ∀ t, Lasts t (undoKey t) := fun t => by
    unfold undoKey
    split
    · exact .refl t
    · refine Lasts.trans ?_ (answerKeys_lasts _ _ _)
      exact .of_same rfl
  have h1 : Lasts s (if cs.contains .config then undoConfig s else s) := .ite (fun _ => hconfig) fun _ => .refl s
  exact .ite (fun _ => h1.trans (hkey _)) fun _ => h1

theorem skipStore_lasts (s : State) (cs : List StoreCause) : Lasts s (skipStore s cs) := by
  unfold skipStore
  extract_lets _ _ s1 s2
  have h1 : Lasts s s1 := by
    refine Lasts.trans ?_ (undoLost_lasts _ cs)
    exact .of_same rfl
  have h2 : Lasts s s2 := h1.trans (.setReg s1 _ _ _)
  refine h2.trans (Lasts.trans ?_ (pendSrc_noted _ 36).lasts)
  exact .ite (fun _ => (logOnly_noted s2 _ _ _).lasts) fun _ => .of_same rfl

theorem startStore_lasts (s : State) (c : StoreCause) : Lasts s (startStore s c) := by
  unfold startStore
  extract_lets c1 s1
  have h1 : Lasts s s1 := .ite (fun _ => .of_same rfl) fun _ => .ite (fun _ => .of_same rfl) fun _ => .refl s
  exact h1.trans (.of_same rfl)

theorem requestStore_lasts (s : State) (c : StoreCause) : Lasts s (requestStore s c) := by
  unfold requestStore
  split
  · refine .ite (fun _ => Lasts.trans ?_ (undoLost_lasts _ _)) fun _ => .of_same rfl
    exact .of_same rfl
  · exact .ite (fun _ => startStore_lasts s c) fun _ => .ite (fun _ => skipStore_lasts s _) fun _ =>
      .ite (fun _ => .of_same rfl) fun _ => .of_same rfl

/-! ## Mode entries -/

theorem breakRun_lasts (s : State) : Lasts s (breakRun s) := by
  have hrow : ∀ (t : State) (c : Fin 33), Lasts t (if c.1 + 1 = s.milk.slot then t.modSc c fun x => { x with rejects := 0 } else t) :=
    fun t _ => .ite (fun _ => .of_same rfl) fun _ => .refl t
  exact .ite (fun _ => (Lasts.foldl hrow _ s).trans (.of_milk rfl id)) fun _ => .refl s

/-- A round stopped has no use for the rover. -/
theorem stopRound_lasts (s : State) : Lasts s (stopRound s) :=
  (breakRun_lasts s).trans (.of_milk rfl fun ⟨hf, hn, _⟩ => ⟨hf, hn, rfl⟩)

/-- No round starts without a free rover. -/
theorem startRound_lasts (s : State) : Lasts s (startRound s) := by
  refine .ite (fun h => .of_milk rfl fun ⟨_, hn, _⟩ => ?_) fun _ => .refl s
  simp [hn] at h

theorem discardEnables_lasts (s : State) : Lasts s (discardEnables s) := .foldl (f := fun t g => t.modGroup g _) (fun _ _ => .of_same rfl) _ s

theorem herdSend_lasts (s : State) (frame : List Byte) : Lasts s (herdSend s frame) := .ite (fun _ => .of_same rfl) fun _ => .refl s

theorem startReadings_lasts (s : State) : Lasts s (startReadings s) := by
  refine .foldl (fun t i => .ite (fun _ => ?_) fun _ => .refl t) _ s
  unfold setEff noteMax
  split
  · exact .of_same rfl
  · exact .ite (fun _ => .of_same rfl) fun _ => .of_same rfl

theorem rezone_lasts (s : State) : Lasts s (rezone s) := by
  unfold rezone judgeZone
  split
  all_goals
    refine Lasts.trans ?_ (chgSettle_onlyChg _).lasts
    exact .of_same rfl

theorem modeResets_lasts (s : State) (m : Mode) : Lasts s (modeResets s m) := by cases m <;> exact .of_same rfl

theorem enterMode_lasts (s : State) (m : Mode) (cause : Nat) : Lasts s (enterMode s m cause) := by
  unfold enterMode
  extract_lets was pol _ _ _ s1 s2 s3 s4 s5 s6 s7
  have h1 : Lasts s s1 := .of_same rfl
  have h2 : Lasts s1 s2 := .ite (fun _ => discardEnables_lasts s1) fun _ => .refl s1
  have h3 : Lasts s2 s3 := .ite (fun _ => clearEnables_lasts s2) fun _ => .refl s2
  have h4 : Lasts s3 s4 := modeResets_lasts s3 m
  have h5 : Lasts s4 s5 := .ite (fun _ => (stopRound_lasts s4).trans (startRound_lasts _)) fun _ =>
    .ite (fun _ => .refl s4) fun _ => stopRound_lasts s4
  have h6 : Lasts s5 s6 := .ite (fun _ => herdSend_lasts s5 _) fun _ => .refl s5
  have h7 : Lasts s6 s7 := .ite (fun _ => (startReadings_lasts s6).trans (rezone_lasts _)) fun _ => .refl s6
  have hs := (applyHolds_lasts s7).trans ((chgSettle_onlyChg _).lasts.trans (pendSrc_noted _ 24).lasts)
  exact (((((((h1.trans h2).trans h3).trans h4).trans h5).trans h6).trans h7)).trans hs

end Sys2Proof.Machine
end

section
namespace Sys2Proof.Machine
open Sys2Proof

/-! ## Modes, scripts and trips -/

/-- Changes of the mode, the sequencer, the sensors and the herd. -/
theorem Lasts.update (s : State) (md : Modes) (sqe : Sqe) (thm : Thermal) (herd : Herd) :
    Lasts s { s with md := md, sqe := sqe, thm := thm, herd := herd } := .of_same rfl

/-- A mode entered with the scripts stopped. -/
theorem enterStopped_lasts (s : State) (m : Mode) (cause : Nat) : Lasts s (enterMode (stopSqe s) m cause) :=
  have h : Lasts s (stopSqe s) := .of_same rfl
  h.trans (enterMode_lasts _ m cause)

theorem beginPowerDown_lasts (s : State) (cause : Nat) : Lasts s (beginPowerDown s cause) :=
  (enterStopped_lasts s .shutdown cause).trans (.update _ _ _ _ _)

theorem beginReversal_lasts (s : State) (cause : Nat) : Lasts s (beginReversal s cause) :=
  ((enterStopped_lasts s .shutdown cause).trans (.update _ _ _ _ _)).trans (.setReg _ _ _ _)

theorem beginStartup_lasts (s : State) (cause : Nat) : Lasts s (beginStartup s cause) := by
  unfold beginStartup
  extract_lets s1 _ _ _ _ s2
  have hreq : Lasts s (s.clrReg 0x2000 8 1) := .setReg s _ _ _
  have h1 : Lasts s s1 := hreq.trans (enterStopped_lasts _ .startup cause)
  clear_value s1
  have h2 : Lasts s s2 := h1.trans (.of_same rfl)
  exact .ite (fun _ => h2.trans (.update s2 _ _ _ _)) fun _ =>
    .ite (fun _ => (h2.trans (beginReversal_lasts s2 11)).trans (.update _ _ _ _ _)) fun _ => h2

theorem forceTiming_lasts (s : State) : Lasts s (forceTiming s) := by
  unfold forceTiming
  extract_lets _ s0 s1
  have h0 : Lasts s s0 := .of_same rfl
  have h1 : Lasts s0 s1 := .ite (fun _ => .foldl (fun t r => .ite (fun _ => stopRail_lasts t r true) fun _ => .refl t) _ s0) fun _ => .refl s0
  exact (h0.trans h1).trans (herdSend_lasts s1 _)

theorem enterStandby_lasts (s : State) (cause : Nat) : Lasts s (enterStandby s cause) := by
  unfold enterStandby
  extract_lets s1 _ _ _ s2
  have h2 : Lasts s1 s2 := .of_same rfl
  exact ((enterStopped_lasts s .standby cause).trans h2).trans (requestStore_lasts s2 .standby)

theorem enterService_lasts (s : State) (cause : Nat) : Lasts s (enterService s cause) :=
  (enterStopped_lasts s .service cause).trans (.update _ _ _ _ _)

theorem offNow_lasts (s : State) (cause : Nat) : Lasts s (offNow s cause) := by
  have h1 : Lasts s (s.clrReg 0x2000 8 1) := .setReg s _ _ _
  unfold offNow
  split
  · exact h1.trans (beginReversal_lasts _ cause)
  iterate 2 exact h1.trans (beginPowerDown_lasts _ cause)
  · exact .ite (fun _ => (h1.trans (.setReg _ _ _ _)).trans (enterStandby_lasts _ cause)) fun _ => h1
  · exact .refl s

theorem forcedOff_lasts (s : State) (cause : Nat) : Lasts s (forcedOff s cause) :=
  have h := offNow_lasts s cause
  .ite (fun _ => .update s s.md s.sqe s.thm _) fun _ => .ite (fun _ => h.trans (forceTiming_lasts _)) fun _ => h

theorem orderlyStop_lasts (s : State) : Lasts s (orderlyStop s) := by
  refine .ite (fun _ => .update s s.md s.sqe _ _) fun _ => ?_
  unfold stopNow
  split
  · exact (beginReversal_lasts s 11).trans (.update _ _ _ _ _)
  iterate 2 exact (beginPowerDown_lasts s 11).trans (.update _ _ _ _ _)
  · have h1 : Lasts s (s.clrReg 0x2000 8 5) := .setReg s _ _ _
    exact .ite (fun _ => (h1.trans (.update _ _ _ _ _)).trans (enterStopped_lasts _ .safestop 11)) fun _ => h1.trans (.update _ _ _ _ _)
  · exact ((Lasts.setReg s 0x2000 0x0D 0xFF).trans (.update _ _ _ _ _)).trans (applyHolds_lasts _)
  · exact .refl s

theorem trip_lasts (s : State) (hard : Bool) : Lasts s (trip s hard) := by
  unfold trip
  extract_lets _ s1 _ m s2
  have h1 : Lasts s s1 := .of_same rfl
  have hstop : Lasts s1 (stopSqe s1) := .of_same rfl
  have hmode : Lasts s1 s2 := (Lasts.update s1 m s1.sqe s1.thm s1.herd).trans (enterStopped_lasts _ .safestop 10)
  exact .ite (fun _ => h1) fun _ => .ite (fun _ => h1.trans hstop) fun _ => .ite
    (fun _ => ((h1.trans hstop).trans (applyHolds_lasts _)).trans (chgSettle_onlyChg _).lasts)
    fun _ => (h1.trans hmode).trans (.setReg s2 _ _ _)

/-! ### The ends of scripts -/

theorem setPos_lasts (s : State) (p : StepPos) : Lasts s (s.setPos p) := by
  unfold State.setPos
  split <;> exact .of_same rfl

theorem idleSqe_lasts (s : State) : Lasts s (idleSqe s) := .of_same rfl

theorem endDown_lasts (s : State) : Lasts s (endDown s) := by
  unfold endDown
  extract_lets left s1
  have h0 : Lasts s (setResets s 3 true) := .of_same rfl
  have h1 : Lasts s s1 := h0.trans (.foldl (fun t r => devDisable_lasts t r true) left _)
  exact .ite (fun _ => h1) fun _ => h1.trans (.setReg _ _ _ _)

theorem afterDown_lasts (s : State) : Lasts s (afterDown s) := by
  unfold afterDown
  extract_lets s1 _
  have h1 : Lasts s s1 := (endDown_lasts s).trans (idleSqe_lasts _)
  exact .ite (fun _ => h1.trans (enterMode_lasts s1 .safestop 9)) fun _ =>
    .ite (fun _ => (h1.trans (.setReg s1 _ _ _)).trans (.update _ _ _ _ _)) fun _ => .ite (fun _ => h1.trans (beginStartup_lasts s1 9)) fun _ =>
      .ite (fun _ => h1.trans (enterService_lasts s1 9)) fun _ => h1.trans (enterStandby_lasts s1 9)

theorem callPartial_lasts (s : State) (p : PartialRun) : Lasts s (callPartial s p) := by
  rw [callPartial_frame]
  exact .of_same rfl

theorem tagRail_lasts (s : State) (r : Fin 16) : Lasts s (tagRail s r) := by
  unfold tagRail
  extract_lets s1
  have h1 : Lasts s s1 := .modRail s r fun _ => rfl
  have hoff : Lasts s1 (s1.modRail r fun x => { x with huOff := true }) := .modRail s1 r fun _ => rfl
  refine .ite (fun _ => ?_) fun _ => h1
  split
  · exact (h1.trans hoff).trans (callPartial_lasts _ _)
  · exact h1.trans (.modRail s1 r fun _ => rfl)
  · exact h1

theorem enterHoldup_lasts (s : State) (cause : Nat) : Lasts s (enterHoldup s cause) := by
  unfold enterHoldup
  extract_lets s1 _ s2 s3
  have hat : Lasts s1 s2 := .of_same rfl
  have h2 : Lasts s s2 := (enterMode_lasts s .holdup cause).trans hat
  have h3 : Lasts s s3 := (h2.trans (beginPowerDown_lasts s2 8)).trans (forceTiming_lasts _)
  have hdrop : Lasts s2 (dropRestarts s2) := .ite (fun _ => .of_same rfl) fun _ => .of_same rfl
  exact .ite (fun _ => .ite (fun _ => h2.trans (forcedOff_lasts s2 8)) fun _ => h3.trans (.update s3 _ _ _ _)) fun _ =>
    (h2.trans hdrop).trans (.foldl tagRail_lasts _ _)

theorem afterUp_lasts (s : State) : Lasts s (afterUp s) :=
  .ite (fun _ => (idleSqe_lasts s).trans (enterMode_lasts _ .run 9)) fun _ => (idleSqe_lasts s).trans (enterHoldup_lasts _ 9)

theorem nextStep_lasts (s : State) : Lasts s (nextStep s) := by
  have told : ∀ (p : StepPos) h, Lasts s { s.setPos p with herd := h } := fun p h =>
    (setPos_lasts s p).trans (.update _ (s.setPos p).md (s.setPos p).sqe (s.setPos p).thm h)
  unfold nextStep
  extract_lets p
  split
  · exact .ite (fun _ => told _ _) fun _ => .ite (fun _ => setPos_lasts s _) fun _ => afterUp_lasts s
  iterate 2 exact .ite (fun _ => told _ _) fun _ => .ite (fun _ => setPos_lasts s _) fun _ => afterDown_lasts s
  · split
    · exact setPos_lasts s _
    · exact idleSqe_lasts s
  · exact .refl s
  · split
    · exact .refl s
    · exact .ite (fun _ => .of_same rfl) fun _ => .of_same rfl

end Sys2Proof.Machine
end

section
namespace Sys2Proof.Machine
open Sys2Proof

/-! ## Fences -/

theorem fenceRail_lasts (s : State) (r : Fin 16) : Lasts s (fenceRail s r) := by
  unfold fenceRail
  refine .ite (fun _ => .refl s) fun _ => ?_
  extract_lets old s1 s2 _ s3
  have h1 : Lasts s s1 := .foldl readyPort_lasts (s.members r) s
  have h2 : Lasts s1 s2 := .modRail s1 r fun _ => rfl
  have h3 : Lasts s2 (countRail s3 r 0x59) := .of_same rfl
  exact ((h1.trans h2).trans h3).trans (railChanged_lasts _ r old false)

theorem fenceRailFor_lasts (s : State) (r : Fin 16) (cause : U32) : Lasts s (fenceRailFor s r cause) :=
  .ite (fun _ => .refl s) fun _ => (fenceRail_lasts s r).trans (logConsequent_lasts _ _ _ cause)

theorem losePhase_lasts (s : State) (r : Fin 16) (was : Bool) (cause : U32) : Lasts s (losePhase s r was cause) := by
  unfold losePhase
  extract_lets s1
  have h1 : Lasts s s1 := .ite (fun _ => .of_same rfl) fun _ => .of_same rfl
  exact h1.trans (.ite (fun _ => fenceRailFor_lasts s1 r cause)
    fun _ => .ite (fun _ => (restartDwell_lasts s1 r).trans (.modRail _ r fun _ => rfl)) fun _ => .refl s1)

/-- The slot of a fenced port passes idle; the rover is not found again. -/
theorem fenceOne_lasts (s : State) (n : Fin 32) : Lasts s (fenceOne s n) := by
  refine .of_milk rfl fun h => ?_
  show (Milk.idleAt s.milk n).RoverLost
  unfold Milk.idleAt
  split <;> exact h

theorem fencePort_lasts (s : State) (n : Fin 32) (cause : U32) : Lasts s (fencePort s n cause) := by
  unfold fencePort
  refine .ite (fun _ => .refl s) fun _ => ?_
  extract_lets lead was s1
  have h1 : Lasts s s1 := .foldl (fun t m => .ite (fun _ => fenceOne_lasts t m) fun _ => .refl t) _ s
  split
  · exact h1
  · exact .ite (fun _ => h1.trans (.setReg s1 _ _ _))
      fun _ => h1.trans ((losePhase_lasts s1 _ was cause).trans (railChanged_lasts _ _ _ false))

theorem fenceGroup_lasts (s : State) (g : Fin 8) (cause : U32) : Lasts s (fenceGroup s g cause) := by
  unfold fenceGroup
  extract_lets _ s1
  have h1 : Lasts s s1 := .of_same rfl
  exact h1.trans (.foldl (fun t n => .ite (fun _ => fencePort_lasts t n cause) fun _ => .refl t) _ s1)

/-- An abandoned visit neither loses the rover nor finds it. -/
theorem breakRun_rover (s : State) :
    (breakRun s).milk.roverFailed = s.milk.roverFailed ∧ (breakRun s).milk.noSpare = s.milk.noSpare := by
  have hrow : ∀ (l : List (Fin 33)) (t : State), (l.foldl (fun (u : State) c =>
      if c.1 + 1 = s.milk.slot then u.modSc c fun x => { x with rejects := 0 } else u) t).milk = t.milk := by
    intro l
    induction l with
    | nil => exact fun _ => rfl
    | cons c l ih => exact fun t => (ih _).trans (by dsimp only; split <;> rfl)
  unfold breakRun
  split
  · have hmilk := hrow (List.finRange 33) s
    have hfailed := congrArg Milk.roverFailed hmilk
    have hspare := congrArg Milk.noSpare hmilk
    exact ⟨hfailed, hspare⟩
  · exact ⟨rfl, rfl⟩

/-- A rover lost stops the round, and what follows does not find it again (R205). -/
theorem loseRover_lost (s : State) (cause : U32) : Lasts s (loseRover s cause) ∧ (loseRover s cause).milk.RoverLost := by
  unfold loseRover
  extract_lets _ s1
  have hlose : Lasts s { s with milk := { s.milk with roverFailed := true, noSpare := true } } := .of_milk rfl fun ⟨_, _, hr⟩ => ⟨rfl, rfl, hr⟩
  have h1 : Lasts s s1 := hlose.trans (stopRound_lasts _)
  have hlost : s1.milk.RoverLost := ⟨(breakRun_rover _).1, (breakRun_rover _).2, rfl⟩
  split
  · exact ⟨h1, hlost⟩
  · have hend : Lasts s1 { s1 with milk := { s1.milk with standin := none } } := .of_milk rfl id
    have k := hend.trans (fencePort_lasts _ ‹_› cause)
    exact ⟨h1.trans k, k.rover hlost⟩

theorem failSense_lasts (s : State) (n : Fin 32) (cause : U32) : Lasts s (failSense s n cause) := by
  unfold failSense
  refine .ite (fun _ => .refl s) fun _ => ?_
  extract_lets _ s1 rover s2
  have h1 : Lasts s s1 := ⟨fun _ => rfl, rfl, fun i => getLsbD_setBit_mono _ _ i, fun _ => id, id⟩
  have h2 : Lasts s1 s2 := (stopRound_lasts s1).trans (.foldl (f := fun t c => t.modSc c _) (fun _ _ => .of_same rfl) _ _)
  clear_value s2
  refine h1.trans (.ite (fun _ => fencePort_lasts s1 n cause) fun h => ?_)
  have hfound : ¬s1.milk.RoverLost := fun ⟨_, hspare, _⟩ => h (by rw [hspare]; rfl)
  exact ⟨h2.words, h2.vc, h2.senseFailed, h2.voltFailed, fun k => absurd k hfound⟩

/-- A sense converter that fails stays failed (R144). -/
theorem failSense_fails (s : State) (n : Fin 32) (cause : U32) : (failSense s n cause).flt.sc.getLsbD n.1 = true := by
  unfold failSense
  split
  · assumption
  · extract_lets _ s1 rover s2
    have hset : s1.flt.sc.getLsbD n.1 = true := getLsbD_setBit_self _ n.2
    have h2 : Lasts s1 s2 := (stopRound_lasts s1).trans (.foldl (f := fun t c => t.modSc c _) (fun _ _ => .of_same rfl) _ _)
    split
    · exact (fencePort_lasts s1 n cause).senseFailed _ hset
    · exact h2.senseFailed _ hset

theorem failVolt_lasts (s : State) (k : Fin 16) (cause : U32) : Lasts s (failVolt s k cause) :=
  have h : Lasts s { s with flt := { s.flt with vc := setBit s.flt.vc k.1 } } :=
    ⟨fun _ => rfl, rfl, fun _ => id, fun i => getLsbD_setBit_mono _ _ i, id⟩
  .ite (fun _ => .refl s) fun _ => h.trans (fenceRailFor_lasts _ k cause)

/-- A voltage converter that fails stays failed (R144). -/
theorem failVolt_fails (s : State) (k : Fin 16) (cause : U32) : (failVolt s k cause).flt.vc.getLsbD k.1 = true := by
  unfold failVolt
  split
  · assumption
  · exact (fenceRailFor_lasts _ k cause).voltFailed _ (getLsbD_setBit_self _ k.2)

theorem moveMaster_lasts (s : State) (r : Fin 16) (hit : Bool) (cause : U32) : Lasts s (moveMaster s r hit cause) := by
  have hcount : ∀ (t : State) k, Lasts t (countMoved t r k) := fun t k => by
    unfold countMoved
    split
    · exact .refl t
    · exact .setReg t _ _ _
  unfold moveMaster
  refine .ite (fun _ => .refl s) fun _ => ?_
  split
  · exact fenceRailFor_lasts s r cause
  · refine .ite (fun _ => ?_) fun _ => fenceRailFor_lasts s r cause
    extract_lets e was _ _ s1
    have h1 : Lasts s s1 := .of_same rfl
    refine h1.trans (Lasts.trans ?_ (hcount _ _))
    exact .modRail s1 r fun _ => rfl

theorem fenceEngine_lasts (s : State) (e : Fin 9) (cause : U32) : Lasts s (fenceEngine s e cause) := by
  have hgroup : ∀ (t : State) g run, Lasts t (loseGroup t g run cause) := fun t g run => by
    unfold loseGroup
    extract_lets mastered _ t1 t2
    have h1 : Lasts t t1 := .of_same rfl
    exact ((h1.trans (logConsequent_lasts t1 _ _ cause)).trans (fenceGroup_lasts _ g cause)).trans
      (.foldl (fun u r => moveMaster_lasts u r _ cause) _ t2)
  unfold fenceEngine
  refine .ite (fun _ => .refl s) fun _ => ?_
  extract_lets was s1 _ s2
  have h2 : Lasts s s2 := .of_same rfl
  split
  · exact .ite (fun _ => h2.trans (.of_same rfl)) fun _ => h2.trans (hgroup s2 _ _)
  · exact .ite (fun _ => h2.trans (hgroup s2 _ _)) fun _ => h2

theorem fenceUnit_lasts (s : State) (unit : U16) (cause : U32) : Lasts s (fenceUnit s unit cause) := by
  unfold fenceUnit
  extract_lets k i
  refine .ite (fun _ => ?port) fun _ => .ite (fun _ => ?group) fun _ => .ite (fun _ => ?rail) fun _ => .ite (fun _ => ?sensor) fun _ =>
    .ite (fun _ => ?sense) fun _ => .ite (fun _ => ?volt) fun _ => .ite (fun _ => ?engine) fun _ => .ite (fun _ => ?charger) fun _ => .refl s
  case port =>
    split
    · exact fencePort_lasts s _ cause
    · exact .refl s
  case group =>
    split
    · exact fenceGroup_lasts s _ cause
    · exact .refl s
  case rail =>
    split
    · exact fenceRail_lasts s _
    · exact .refl s
  case sensor => exact .ite (fun _ => .of_same rfl) fun _ => .refl s
  case sense =>
    split
    · exact failSense_lasts s _ cause
    · exact .ite (fun _ => (loseRover_lost s cause).1) fun _ => .refl s
  case volt =>
    split
    · exact failVolt_lasts s _ cause
    · exact .refl s
  case engine =>
    split
    · exact fenceEngine_lasts s _ cause
    · exact .refl s
  case charger =>
    have h : Lasts s { s with flt := { s.flt with charger := true } } := .of_same rfl
    exact h.trans (toChg_onlyChg _ .fault).lasts

/-! ## Reports -/

theorem recorded_lasts (s : State) (row : FaultRow) (code unit detail : U16) (stamp : U32) :
    Lasts s (s.recorded row code unit detail stamp) := by
  unfold State.recorded
  extract_lets cls n _ s1 s2
  have h1 : Lasts s s1 := Lasts.trans (.ite (fun _ => .refl s) fun _ => .setReg s _ _ _) (addEntry_noted _ _).lasts
  have h2 : Lasts s1 s2 := .ite (fun _ => .ite (fun _ => .of_same rfl) fun _ => .refl s1) fun _ => .refl s1
  exact (h1.trans h2).trans (.ite (fun _ => .of_same rfl) fun _ => .refl s2)

theorem fencedFor_lasts (s : State) (row : FaultRow) (cls : FClass) (unit : U16) : Lasts s (fencedFor s row cls unit) := by
  have hf : Lasts s (fenceFor s unit) := by
    unfold fenceFor
    split
    · exact fenceRailFor_lasts s _ _
    · exact .refl s
  exact Lasts.trans (.ite (fun _ => hf) fun _ => .refl s) (.ite (fun _ => fenceUnit_lasts _ unit _) fun _ => .refl _)

theorem collect_lasts (s : State) (code unit detail : U16) : Lasts s (collect s code unit detail) := by
  by_cases hl : s.live = true
  · cases hr : s.rowFor code unit with
    | none => rw [collect, collectAt, if_pos hl, hr]; exact .refl s
    | some row =>
      have h := (recorded_lasts s row code unit detail s.now).trans (fencedFor_lasts _ row (s.classOf row unit) unit)
      rw [collect, collectAt_live hl hr, pay_eq]
      exact .ite (fun _ => h.trans (trip_lasts _ _)) fun _ => h
  · rw [collect, collectAt, if_neg hl]
    have h : Lasts s (aonReport s code unit) := .of_same rfl
    exact .ite (fun _ => h.trans (trip_lasts _ false)) fun _ => .refl s

theorem abortUp_lasts (s : State) : Lasts s (abortUp s) :=
  have h := (Lasts.setReg s 0x2300 8 _).trans (collect_lasts (s.orReg 0x2300 8 0x10) 0x0602 (unitCode 9 0) (BitVec.ofNat 16 s.pos.step))
  .ite (fun _ => h) fun _ => h.trans (orderlyStop_lasts _)

theorem applyPolicy_lasts (s : State) (policy : Nat) : Lasts s (applyPolicy s policy) := by
  have forced : Lasts s (nextStep (forceTiming (s.orReg 0x2300 8 0x10))) :=
    ((Lasts.setReg s 0x2300 8 _).trans (forceTiming_lasts _)).trans (nextStep_lasts _)
  have restart : Lasts s (abortRestart s) := .ite (fun _ => (abortUp_lasts s).trans (idleSqe_lasts _)) fun _ => abortUp_lasts s
  have handler : Lasts s (abortHandler s) := .ite (fun _ => (abortUp_lasts s).trans (.of_same rfl)) fun _ => abortUp_lasts s
  unfold applyPolicy
  refine .ite (fun _ => (setPos_lasts s _).trans (.update _ _ _ _ _)) fun _ => ?_
  split
  · exact .ite (fun _ => .update s s.md _ s.thm s.herd) fun _ => .ite (fun _ => nextStep_lasts s) fun _ => abortUp_lasts s
  · exact .ite (fun _ => forced) fun _ => nextStep_lasts s
  · split
    · exact .ite (fun _ => restart) fun _ => nextStep_lasts s
    · exact .ite (fun _ => forced) fun _ => nextStep_lasts s
  · exact .ite (fun _ => handler) fun _ => nextStep_lasts s
  iterate 2 exact .refl s

theorem judgeWaits_lasts (s : State) : Lasts s (judgeWaits s) := by
  refine .ite (fun _ => .refl s) fun _ => ?_
  unfold failStep
  extract_lets step s1
  have h1 : Lasts s s1 := .of_same rfl
  exact (h1.trans (logOnly_noted s1 _ _ _).lasts).trans (applyPolicy_lasts _ _)

theorem report_lasts (s : State) (code unit detail : U16) : Lasts s (report s code unit detail) :=
  (collect_lasts s code unit detail).trans (judgeWaits_lasts _)

/-- What a report of a row that fences its own unit has fenced lasts through its trip and the judging of the waits. -/
theorem report_fences {s : State} {code unit : U16} {row : FaultRow} (hl : s.live = true) (hr : s.rowFor code unit = some row)
    (hf : fencesItself row = true) (hc : row.code ≠ 0x0308) (detail : U16) :
    ∃ t cause, Lasts (fenceUnit t unit cause) (report s code unit detail) := by
  refine ⟨s.recorded row code unit detail s.now, (s.recorded row code unit detail s.now).seq, ?_⟩
  rw [report, collect, collectAt_live hl hr, pay_eq, fencedFor_of_fencesItself hf hc]
  exact .trans (.ite (fun _ => trip_lasts _ _) fun _ => .refl _) (judgeWaits_lasts _)

end Sys2Proof.Machine
end

section
namespace Sys2Proof.Machine
open Sys2Proof

/-! ## Converter words (R127, R188) -/

theorem ones_succ (n m : Nat) : ones (n + 1) m = ones n m + if m.testBit n then 1 else 0 := by
  unfold ones
  rw [List.range_succ, List.filter_append, List.length_append]
  by_cases h : m.testBit n = true <;> simp [h]

/-- The parity bit stands above the data. -/
theorem ones_add_parity (n d : Nat) (h : n ≤ 16) : ones n (d + 65536) = ones n d := by
  induction n with
  | zero => rfl
  | succ n ih =>
    have hbit : (d + 65536).testBit n = d.testBit n := by
      rw [Nat.add_comm]
      exact Nat.testBit_two_pow_add_gt (i := 16) (by omega) d
    rw [ones_succ, ones_succ, hbit, ih (by omega)]

theorem fabricWord_toNat (data : Nat) :
    (fabricWord data).toNat = if ones 16 (data % 65536) % 2 = 1 then data % 65536 else data % 65536 + 65536 := by
  unfold fabricWord
  dsimp only
  rw [BitVec.toNat_ofNat, Nat.mod_eq_of_lt]
  split <;> omega

/-- The parity bit completes the ones of the data to an odd number (R127). -/
theorem oddParity_fabricWord (data : Nat) : oddParity (fabricWord data) = true := by
  have hlt : (data % 65536).testBit 16 = false := Nat.testBit_lt_two_pow (by omega)
  have htop : (data % 65536 + 65536).testBit 16 = true := by
    rw [Nat.add_comm]
    exact (Nat.testBit_two_pow_add_eq (data % 65536) 16).trans (by rw [hlt]; rfl)
  unfold oddParity
  rw [fabricWord_toNat]
  split
  · rw [ones_succ, hlt]
    simpa
  · rw [ones_succ, htop, ones_add_parity 16 _ (by decide)]
    simp only [if_true, beq_iff_eq]
    omega

/-- A word that no bit error meets arrives at once. -/
theorem arrive_clean (data : Nat) : arrive (fabricWord data) 0 0 = .direct (fabricWord data) := by
  have h : fabricWord data ^^^ 0 = fabricWord data := BitVec.xor_zero
  unfold arrive
  rw [h, oddParity_fabricWord, if_pos rfl]

theorem fabricWord_data (data : Nat) : (fabricWord data).toNat % 65536 = data % 65536 := by
  rw [fabricWord_toNat]
  split <;> omega

/-- A corrected sense word lies in the converter's 16 bits (R188). -/
theorem correctSense_range (c : Conv) {raw : Int} (h : -32768 ≤ raw ∧ raw ≤ 32767) : -32768 ≤ correctSense c raw ∧ correctSense c raw ≤ 32767 := by
  unfold correctSense clampInt
  split <;> omega

/-- A corrected voltage word lies in the converter's 16 bits (R188). -/
theorem correctVolt_lt (c : Conv) {raw : Nat} (h : raw < 65536) : correctVolt c raw < 65536 := by
  unfold correctVolt clampInt
  split <;> omega

theorem signed_fabricWord {i : Int} (h : -32768 ≤ i ∧ i ≤ 32767) : signed 16 ((fabricWord (unsignedOf 16 i)).toNat % 65536) = i := by
  rw [fabricWord_data]
  unfold signed unsignedOf
  split <;> omega

/-! ## A sense word at its port -/

/-- `q` is `p` but for its gates and what the backstop, the rectifier and a coil read: the state and the words taken stand. -/
structure SameWords (p q : Port) : Prop where
  state : q.state = p.state
  sum : q.sum = p.sum
  num : q.num = p.num
  last : q.last = p.last

theorem SameWords.refl (p : Port) : SameWords p p := ⟨rfl, rfl, rfl, rfl⟩

theorem SameWords.trans {p q r : Port} (h : SameWords p q) (k : SameWords q r) : SameWords p r :=
  ⟨k.state.trans h.state, k.sum.trans h.sum, k.num.trans h.num, k.last.trans h.last⟩

/-- `t` is `s` but for port `n` and its pair's, whose words stand. -/
abbrev Heard (n : Fin 32) : State → State → Prop := Within SameWords n

theorem Heard.trans {n : Fin 32} {s t u : State} (h : Heard n s t) (k : Heard n t u) : Heard n s u := Within.trans (fun _ _ _ => .trans) h k

theorem Heard.modPort (s : State) {n k : Fin 32} (hk : k = n ∨ k = s.mate n) {f : Port → Port} (hf : ∀ p, SameWords p (f p)) :
    Heard n s (s.modPort k f) := Within.modPort .refl s hk hf

/-- The ledger takes a word alone (R180). -/
theorem addLedger_frame (s : State) (n : Fin 32) (w : Int) : addLedger s n w = { s with ledger := (addLedger s n w).ledger } := by
  unfold addLedger
  split
  · rfl
  · rfl
  · dsimp only
    split <;> rfl

/-- A sample below the backstop level disarms the backstop at most (R104). -/
theorem backstop_heard {s : State} {n : Fin 32} {w : Int}
    (h : w < backstopCode (s.act (portIdx n.1) 5) (s.act (portIdx n.1) 4) (s.timing n).backstop) : Heard n s (backstop s n w) := by
  unfold backstop
  split
  · rw [if_neg (by omega)]
    exact .modPort s (.inl rfl) fun _ => ⟨rfl, rfl, rfl, rfl⟩
  · exact Within.refl .refl n s

theorem rectStop_heard (s : State) (n : Fin 32) : Heard n s (rectStop s n) := by
  unfold rectStop
  extract_lets p s1 s2
  have h1 : Heard n s s1 := .modPort s (.inl rfl) fun _ => ⟨rfl, rfl, rfl, rfl⟩
  have h2 : Heard n s s2 := by
    show Heard n s (if _ then _ else _)
    split
    · exact h1
    · exact h1.trans (.modPort s1 (.inl rfl) fun _ => ⟨rfl, rfl, rfl, rfl⟩)
  have hmate : s.mate n = s2.mate n := (h2.only.mate n).symm
  split
  · split
    · exact h2
    · exact h2.trans (.modPort s2 (.inr hmate) fun _ => ⟨rfl, rfl, rfl, rfl⟩)
  · exact h1.trans (.modPort s1 (.inl rfl) fun _ => ⟨rfl, rfl, rfl, rfl⟩)

theorem lightMode_heard (s : State) (n : Fin 32) (w : Int) : Heard n s (lightMode s n w) := by
  unfold lightMode
  extract_lets soft
  split
  · exact rectStop_heard s n
  · exact Within.refl .refl n s

/-- Outside RELEASE a coil reads no more of a word than that it has pulled in (Table 4-9). -/
theorem coilWord_heard {s : State} {n : Fin 32} (h : s.ports[n].state ≠ .release) (w : Int) : Heard n s (coilWord s n w) := by
  unfold coilWord
  dsimp only
  split
  · split
    · exact .modPort s (.inl rfl) fun _ => ⟨rfl, rfl, rfl, rfl⟩
    · exact Within.refl .refl n s
  · exact absurd ‹_› h
  · exact Within.refl .refl n s

theorem take_fields (p : Port) (w : Int) : (p.take w).state = p.state ∧ (p.take w).timing = p.timing ∧ (p.take w).sum = p.sum + w ∧
    (p.take w).num = p.num + 1 ∧ (p.take w).last = some w := by
  unfold Port.take
  dsimp only
  split <;> exact ⟨rfl, rfl, rfl, rfl, rfl⟩

/-- A word below the backstop level is added to its port's period, and touches no port but this one and its pair's. -/
theorem portWord_takes {s : State} {n : Fin 32} {w : Int} (hr : s.ports[n].state ≠ .release)
    (hb : w < backstopCode (s.act (portIdx n.1) 5) (s.act (portIdx n.1) 4) (s.timing n).backstop) :
    let t := portWord s n w
    t.ports[n].sum = s.ports[n].sum + w ∧ t.ports[n].num = s.ports[n].num + 1 ∧ t.ports[n].last = some w ∧ t.sc = s.sc ∧
      ∀ m : Fin 32, m ≠ n → m ≠ s.mate n → t.ports[m] = s.ports[m] := by
  unfold portWord
  intro t
  extract_lets s1 at t
  obtain ⟨hstate, htiming, hsum, hnum, hlast⟩ := take_fields s.ports[n] w
  have hframe : s1 = { s.modPort n (fun p => p.take w) with ledger := s1.ledger } := addLedger_frame _ n w
  have hports : s1.ports = (s.modPort n fun p => p.take w).ports := by rw [hframe]
  have hport : s1.ports[n] = s.ports[n].take w := by rw [hports]; exact State.modPort_ports_self s n _
  have hmate : s1.mate n = s.mate n := by rw [hframe]; rfl
  have hlevel : w < backstopCode (s1.act (portIdx n.1) 5) (s1.act (portIdx n.1) 4) (s1.timing n).backstop := by
    have hact : s1.act = s.act := by rw [hframe]; rfl
    have hnow : s1.timingNow n = s.timingNow n := by rw [hframe]; rfl
    rw [State.timing, hport, htiming, hact, hnow]
    exact hb
  have h2 : Heard n s1 (lightMode (backstop s1 n w) n w) := (backstop_heard hlevel).trans (lightMode_heard _ n w)
  have hnot : (lightMode (backstop s1 n w) n w).ports[n].state ≠ .release := by
    rw [(h2.ports n).state, hport, hstate]
    exact hr
  have h : Heard n s1 t := h2.trans (coilWord_heard hnot w)
  obtain ⟨-, psum, pnum, plast⟩ := h.ports n
  rw [psum, pnum, plast, hport, hsum, hnum, hlast]
  refine ⟨rfl, rfl, rfl, ?_, fun m hn hm => (h.others m hn (by rw [hmate]; exact hm)).trans ?_⟩
  · rw [h.only.same State.sc fun _ _ => rfl, hframe]
    rfl
  · rw [hports]
    exact State.modPort_ports_ne s _ hn

/-- A sense word that meets no bit error is kept as corrected and goes to its port (R125–R129, R188). -/
theorem doSenseWord_clean {s : State} {n : Fin 32} (hl : s.live = true) (hn : n.1 < s.variant.ports) (hf : s.flt.sc.getLsbD n.1 = false)
    (raw : U16) :
    let w := correctSense s.sc[n.castSucc] raw.toInt
    doSenseWord n.castSucc raw 0 0 s = portWord (s.modSc n.castSucc fun c =>
      { c.push (fabricWord (unsignedOf 16 w)) with lastRaw := some raw.toInt }) n w := by
  intro w
  have hw : -32768 ≤ w ∧ w ≤ 32767 := correctSense_range _ ⟨by have := raw.le_toInt; omega, by have := raw.toInt_lt; omega⟩
  have hpresent : (decide (n.castSucc = 32) || decide (n.castSucc.1 < s.variant.ports)) = true := by
    rw [decide_eq_true (show n.castSucc.1 < s.variant.ports from hn), Bool.or_true]
  have hport : (if h : n.castSucc.1 < 32 then (if s.flt.sc.getLsbD n.castSucc.1 then none else some (⟨n.castSucc.1, h⟩ : Fin 32))
      else s.milk.standin) = some n := by
    have hlt : n.castSucc.1 < 32 := n.2
    rw [dif_pos hlt, if_neg]
    · rfl
    · exact Bool.eq_false_iff.mp hf
  unfold doSenseWord
  dsimp only
  rw [hl, hpresent, arrive_clean, hport]
  show portWord _ n (signed 16 ((fabricWord (unsignedOf 16 w)).toNat % 65536)) = _
  rw [signed_fabricWord hw]
  rfl

/-! ## A voltage word at its rail -/

theorem releaseEnd_lasts (s : State) (n : Fin 32) : Lasts s (releaseEnd s n) := by
  have hmove : Lasts s (movePort s n fun p => p.still .ready) := by
    unfold movePort
    split
    · exact .modPort s n _
    · exact (Lasts.modPort s n _).trans (railChanged_lasts _ _ _ false)
  unfold releaseEnd
  extract_lets s1
  split
  · exact hmove
  · exact .ite (fun _ => hmove.trans (startRail_lasts _ _)) fun _ => hmove

/-- A count and a flag of a rail, and then a report. -/
theorem flagged_lasts (s : State) (r : Fin 16) (sub flag : Nat) (code unit : U16) :
    Lasts s (report (setSupFlag (countRail s r sub) r flag) code unit 0) :=
  ((Lasts.setReg s _ _ _).trans (.setReg _ _ _ _)).trans (report_lasts _ _ _ _)

theorem judgeOv_lasts (s : State) (r : Fin 16) (w : Nat) : Lasts s (judgeOv s r w) := by
  unfold judgeOv
  extract_lets filt run s1
  have h1 : Lasts s s1 := .modRail s r fun _ => rfl
  refine .ite (fun _ => h1.trans ?_) fun _ => h1
  refine .trans ?_ (flagged_lasts _ r _ _ _ _)
  exact .modRail s1 r fun _ => rfl

theorem judgeOvWarn_lasts (s : State) (r : Fin 16) (w : Nat) : Lasts s (judgeOvWarn s r w) := by
  unfold judgeOvWarn
  refine .ite (fun _ => .refl s) fun _ => ?_
  extract_lets filt on off s1
  have h1 : Lasts s s1 := .modRail s r fun _ => rfl
  refine .ite (fun _ => h1.trans (Lasts.trans ?_ (.setReg _ _ _ _))) fun _ => h1
  exact .modRail s1 r fun _ => rfl

theorem judgeUv_lasts (s : State) (r : Fin 16) (w : Nat) : Lasts s (judgeUv s r w) := by
  unfold judgeUv
  extract_lets filt run clr s1
  have h1 : Lasts s s1 := .modRail s r fun _ => rfl
  refine .ite (fun _ => h1.trans ?_) fun _ => h1
  refine .trans ?_ (flagged_lasts _ r _ _ _ _)
  exact .modRail s1 r fun _ => rfl

theorem judgeUvWarn_lasts (s : State) (r : Fin 16) (w : Nat) : Lasts s (judgeUvWarn s r w) := by
  unfold judgeUvWarn
  refine .ite (fun _ => .refl s) fun _ => ?_
  extract_lets filt on off s1
  have h1 : Lasts s s1 := .modRail s r fun _ => rfl
  refine .ite (fun _ => h1.trans (Lasts.trans ?_ (.setReg _ _ _ _))) fun _ => h1
  exact .modRail s1 r fun _ => rfl

theorem judgePg_lasts (s : State) (r : Fin 16) (w : Nat) : Lasts s (judgePg s r w) := by
  unfold judgePg
  refine .ite (fun _ => .refl s) fun _ => ?_
  extract_lets filt on off s1
  have h1 : Lasts s s1 := .modRail s r fun _ => rfl
  exact .ite (fun _ => .ite (fun _ => h1.trans (withdrawPg_lasts s1 r _)) fun _ => h1)
    fun _ => .ite (fun _ => h1.trans (.modRail s1 r fun _ => rfl)) fun _ => h1

theorem judgeFall_lasts (s : State) (r : Fin 16) (w : Nat) : Lasts s (judgeFall s r w) := by
  unfold judgeFall
  extract_lets run below s1
  have h1 : Lasts s s1 := .modRail s r fun _ => rfl
  exact .ite (fun _ => .ite (fun _ => h1.trans (railOff_lasts s1 r))
    fun _ => h1.trans (.foldl (fun t n => .ite (fun _ => releaseEnd_lasts t n) fun _ => .refl t) _ s1)) fun _ => h1

/-- Whatever the supervisor makes of a word, the words received stand. -/
theorem superviseWord_lasts (s : State) (r : Fin 16) (w : Nat) : Lasts s (superviseWord s r w) := by
  unfold superviseWord
  extract_lets s1 s2
  have h1 : Lasts s s1 := by
    show Lasts s (match s.railState r with | .off | .fenced => s | _ => judgeOv (judgeOvWarn s r w) r w)
    split
    · exact .refl s
    · exact .refl s
    · exact (judgeOvWarn_lasts s r w).trans (judgeOv_lasts _ r w)
  have h2 : Lasts s1 s2 := .ite (fun _ => (judgeUvWarn_lasts s1 r w).trans (judgeUv_lasts _ r w)) fun _ => .refl s1
  exact ((h1.trans h2).trans (judgePg_lasts s2 r w)).trans (judgeFall_lasts _ r w)

/-- A word becomes the newest of its rail's last sixteen, and its converter's last (R168). -/
theorem railWord_takes (s : State) (k : Fin 16) (w : Nat) :
    let t := railWord s k w
    t.rails[k].words = (w :: s.rails[k].words).take 16 ∧ t.vc[k].lastWord = w ∧ t.vc[k].gain = s.vc[k].gain := by
  unfold railWord
  intro t
  have h := superviseWord_lasts ((s.modVc k fun c => { c with lastWord := w }).modRail k fun x => x.take w) k w
  rw [show t.vc = _ from h.vc, show t.rails[k].words = _ from h.words k, State.modRail_rails_self, State.modRail_vc, State.modVc_vc_self]
  exact ⟨rfl, rfl, rfl⟩

/-- A voltage word that meets no bit error is kept as corrected and goes to its rail (R126–R129, R188). -/
theorem doVoltageWord_clean {s : State} {k : Fin 16} (hl : s.live = true) (hk : k.1 < s.variant.rails) (hf : s.flt.vc.getLsbD k.1 = false)
    (raw : U16) :
    let w := correctVolt s.vc[k] raw.toNat
    doVoltageWord k raw 0 0 s = railWord (s.modVc k fun c => c.push (fabricWord w)) k w := by
  intro w
  have hw : (fabricWord w).toNat % 65536 = w := by
    rw [fabricWord_data]
    exact Nat.mod_eq_of_lt (correctVolt_lt _ raw.isLt)
  unfold doVoltageWord
  rw [if_pos ⟨hl, hk⟩]
  dsimp only
  rw [arrive_clean]
  show (if s.flt.vc.getLsbD k.1 = true then _ else railWord _ k ((fabricWord w).toNat % 65536)) = _
  rw [if_neg (Bool.eq_false_iff.mp hf), hw]
  rfl

/-! ## A dead lane -/

theorem fenceUnit_sense (s : State) (n : Fin 32) (cause : U32) : fenceUnit s (unitCode 5 n.1) cause = failSense s n cause := by
  have h : unitKind (unitCode 5 n.1) = 5 ∧ unitIndex (unitCode 5 n.1) = n.1 := by revert n; decide
  simp [fenceUnit, h]

theorem fenceUnit_rover (s : State) (cause : U32) : fenceUnit s (unitCode 5 32) cause = loseRover s cause := by
  have h : unitKind (unitCode 5 32) = 5 ∧ unitIndex (unitCode 5 32) = 32 := by decide
  simp [fenceUnit, h]

theorem fenceUnit_volt (s : State) (k : Fin 16) (cause : U32) : fenceUnit s (unitCode 6 k.1) cause = failVolt s k cause := by
  have h : unitKind (unitCode 6 k.1) = 6 ∧ unitIndex (unitCode 6 k.1) = k.1 := by revert k; decide
  simp [fenceUnit, h]

/-- No word with correct parity arrives from a sense converter, so SCn fails (R130). -/
theorem doLaneDead_sense {s : State} {n : Fin 32} (hl : s.live = true) (hn : n.1 < s.variant.ports) (hf : s.flt.sc.getLsbD n.1 = false) :
    (doLaneDead (.sense n.castSucc) s).flt.sc.getLsbD n.1 = true := by
  have hne : n.castSucc ≠ 32 := fun h => n.isLt.ne (congrArg Fin.val h)
  have hdo : doLaneDead (.sense n.castSucc) s = report s 0x0305 (unitCode 5 n.1) 0 := by
    simp [doLaneDead, hl, hne, hf, hn, -BitVec.getLsbD_eq_getElem]
  rw [hdo]
  obtain ⟨t, c, h⟩ := report_fences (row := ⟨0x0305, .u, .h, 0x5000⟩) hl (rowFor_of_ne (code := 0x0305) s (by decide) (unitCode 5 n.1)) (by decide) (by decide) 0
  rw [fenceUnit_sense] at h
  exact h.senseFailed _ (failSense_fails t n c)

/-- No word with correct parity arrives from a voltage converter, so VCk fails (R130). -/
theorem doLaneDead_volt {s : State} {k : Fin 16} (hl : s.live = true) (hk : k.1 < s.variant.rails) (hf : s.flt.vc.getLsbD k.1 = false) :
    (doLaneDead (.volt k) s).flt.vc.getLsbD k.1 = true := by
  have hdo : doLaneDead (.volt k) s = report s 0x0306 (unitCode 6 k.1) 0 := by
    simp [doLaneDead, hl, hf, hk, -BitVec.getLsbD_eq_getElem]
  rw [hdo]
  obtain ⟨t, c, h⟩ := report_fences (row := ⟨0x0306, .u, .h, 0x5000⟩) hl (rowFor_of_ne (code := 0x0306) s (by decide) (unitCode 6 k.1)) (by decide) (by decide) 0
  rw [fenceUnit_volt] at h
  exact h.voltFailed _ (failVolt_fails t k c)

/-- No word with correct parity arrives from the rover, so it is lost and its round stops (R130, R205). -/
theorem doLaneDead_rover {s : State} (hl : s.live = true) (hf : s.milk.roverFailed = false) : (doLaneDead (.sense 32) s).milk.RoverLost := by
  have hdo : doLaneDead (.sense 32) s = report s 0x0502 (unitCode 5 32) 0 := by
    simp [doLaneDead, hl, hf]
  rw [hdo]
  obtain ⟨t, c, h⟩ := report_fences (row := ⟨0x0502, .u, .h, 0x5000⟩) hl (rowFor_of_ne (code := 0x0502) s (by decide) (unitCode 5 32)) (by decide) (by decide) 0
  rw [fenceUnit_rover] at h
  exact h.rover (loseRover_lost t c).2

/-! ## The obligation -/

/-- Settles O33: a word that no bit error meets arrives at once and goes to its port or rail, and a dead lane's report fences the
converter it names. -/
theorem converterWordsAreCorrectedAndKept : Obligations.ConverterWordsAreCorrectedAndKept := by
  intro s hl
  refine ⟨fun n raw hn hf hr => ?_, fun k raw hk hf => ?_, fun n hn hf => ?_, fun k hk hf => ?_, fun hf => ?_⟩
  · intro w hb
    refine after_of_done (u := doSenseWord n.castSucc raw 0 0 s) rfl ?_
    rw [doSenseWord_clean hl hn hf, settle_ports, settle_sc]
    obtain ⟨hsum, hnum, hlast, hsc, hothers⟩ := portWord_takes (s := s.modSc n.castSucc fun c =>
      { c.push (fabricWord (unsignedOf 16 w)) with lastRaw := some raw.toInt }) hr hb
    rw [hsc, State.modSc_sc_self]
    exact ⟨hsum, hnum, hlast, rfl, rfl, hothers⟩
  · refine after_of_done (u := doVoltageWord k raw 0 0 s) rfl ?_
    rw [doVoltageWord_clean hl hk hf, settle_rails, settle_vc]
    obtain ⟨hwords, hlast, hgain⟩ := railWord_takes (s.modVc k fun c => c.push (fabricWord (correctVolt s.vc[k] raw.toNat))) k
      (correctVolt s.vc[k] raw.toNat)
    rw [hwords, hlast, hgain, State.modVc_vc_self]
    exact ⟨rfl, rfl, rfl⟩
  · exact after_of_done (u := doLaneDead (.sense n.castSucc) s) rfl (doLaneDead_sense hl hn hf)
  · exact after_of_done (u := doLaneDead (.volt k) s) rfl (doLaneDead_volt hl hk hf)
  · obtain ⟨hlost, -, hstopped⟩ := doLaneDead_rover hl hf
    exact after_of_done (u := doLaneDead (.sense 32) s) rfl ⟨hlost, hstopped⟩

end Sys2Proof.Machine
end

section
namespace Sys2Proof.Machine
open Sys2Proof

/-! ## A port that changes its rail while its update waits for a word -/

/-- A frame at its last clock with port 1's update in hand, begun while port 1 was in rail 0. -/
def waitingFrame : FrameRun :=
  { length := 800, clock := 800, time := 32, cur := some (.port 1), snap := [(key 0x2101 1, 1), (key 0x2200 1, 2)],
    was := .off, ready := false, wait := [], tasks := [], events := [], ports := [], rails := [], lost := [] }

/-- The rails 0 and 1 are OFF, and port 1 ends its last cycle. Their masks have been written while LE0's frame ran (R156): port 1 has gone
from rail 0, of which no voltage word has come, to rail 1, of which one has. -/
def movedPort : State :=
  { State.reset with
    pwr := { Power.reset with step := .running }
    md := { Modes.reset with mode := .run }
    active := [(key 0x2101 1, 1), (key 0x2201 1, 2)]
    ports := State.reset.ports.set 1 { Port.reset with state := .switching, ending := some .ready, uNum := 1 }
    rails := State.reset.rails.set 1 { Rail.reset with uNum := 1 }
    engines := State.reset.engines.set 0 { Engine.reset with state := .active, frame := some waitingFrame } }

/-- The update as it began: port 1's on rail 0, which waits for the rail's first word. -/
theorem movedPort_waits : let u := { movedPort with active := waitingFrame.snap }
    u.railOf 1 = some 0 ∧ isConverter (u.pers 1) = true ∧ u.leads 1 = true ∧ movedPort.isSwitching 1 = true ∧ u.worded (.port 1) = false := by
  decide +kernel

/-- The frame's end asks again whether the words have come, on the active copies in force and not on those the update read. Port 1 is
then in rail 1, whose word has come, so the update is completed and releases its command. -/
theorem movedPort_releases : (doFrameEnd 0 movedPort).ports[(1 : Fin 32)].newCmd.isSome = true := by decide +kernel

/-- What holds after a frame's end holds of its effect settled. -/
theorem of_after_frameEnd {s : State} {e : Fin 9} {P : State → Prop} (h : s.after (.frameEnd e) P) : P (settle s (doFrameEnd e s)) := by
  obtain ⟨t, ht, hp⟩ := h
  injection ht with hst
  exact hst ▸ hp

/-- Refutes O34: an update whose words have not come, by the active copies it read, still releases a command when its port has
gone to another rail before the frame ends. -/
theorem not_framesReleaseAtTheirEnd : ¬Obligations.FramesReleaseAtTheirEnd := by
  intro h
  obtain ⟨hrail, hconv, hleads, hsw, hunworded⟩ := movedPort_waits
  obtain ⟨-, hframe, -⟩ := h movedPort (by decide +kernel)
  obtain ⟨hport, -⟩ := hframe 0 waitingFrame (by decide +kernel) rfl rfl (by decide +kernel) rfl rfl rfl
  obtain ⟨-, hnone⟩ := hport 1 0 rfl hrail hconv hleads (.inr (by decide +kernel)) hsw
  obtain ⟨-, -, hports⟩ := of_after_frameEnd (hnone hunworded)
  have hset := movedPort_releases
  rw [settle_ports] at hports
  rw [hports] at hset
  exact absurd hset (by decide +kernel)

end Sys2Proof.Machine
end

section
/-! SUPPORT. What the units' and the modes' business writes of a rail's registers: ENABLE, the flag and the count of a lost phase, the
supervisor's flags and the count of lost power-good. Said once for each operation and composed by transitivity. -/

namespace Sys2Proof.Machine
open Sys2Proof

/-! ## The frame of a rail's registers -/

/-- The registers of a rail that reports, holds, stores, fences and modes write: ENABLE, SUP_FLAGS, PG_LOST_CNT and PHASE_LOST_CNT, and of
RAIL_FLAGS the bit PHASE_LOST. -/
def railWork : List Nat := [3, 0x19, 0x4C, 0x56, 0x59]

/-- `t` reads as `s` in every rail register that the units' and the modes' business leaves alone, and in every flag but PHASE_LOST. -/
structure RailRegs (s t : State) : Prop where
  reg : ∀ (r : Fin 16) {sub : Nat}, sub < 256 → sub ∉ railWork → t.reg (railIdx r.1) sub = s.reg (railIdx r.1) sub
  flag : ∀ (r : Fin 16) {i : Nat}, i ≠ 2 → (t.reg (railIdx r.1) 0x19).testBit i = (s.reg (railIdx r.1) 0x19).testBit i

theorem RailRegs.refl (s : State) : RailRegs s s := ⟨fun _ _ _ _ => rfl, fun _ _ _ => rfl⟩

theorem RailRegs.trans {s t u : State} (h : RailRegs s t) (k : RailRegs t u) : RailRegs s u :=
  ⟨fun r _ hs hw => (k.reg r hs hw).trans (h.reg r hs hw), fun r _ hi => (k.flag r hi).trans (h.flag r hi)⟩

theorem RailRegs.ite {s t u : State} {c : Prop} [Decidable c] (h : c → RailRegs s t) (k : ¬c → RailRegs s u) :
    RailRegs s (if c then t else u) := by
  split
  · exact h ‹_›
  · exact k ‹_›

theorem RailRegs.foldl {α : Type} {f : State → α → State} (h : ∀ s a, RailRegs s (f s a)) (l : List α) :
    ∀ s, RailRegs s (l.foldl f s) := by
  induction l with
  | nil => exact .refl
  | cons a l ih => exact fun s => (h s a).trans (ih _)

/-- A change of no register. -/
theorem RailRegs.of_same {s t : State} (h : (t.variant, t.regs) = (s.variant, s.regs)) : RailRegs s t := by
  simp only [Prod.mk.injEq] at h
  obtain ⟨hv, hr⟩ := h
  exact ⟨fun _ _ _ _ => by rw [State.reg, State.reg, hv, hr], fun _ _ _ => by rw [State.reg, State.reg, hv, hr]⟩

/-- A register of no rail written. -/
theorem RailRegs.setReg (s : State) {idx sub : Nat} (v : Nat) (h : sub < 256 ∧ (idx < 0x2200 ∨ 0x2210 ≤ idx)) :
    RailRegs s (s.setReg idx sub v) := by
  have hne : ∀ (r : Fin 16) {j : Nat}, j < 256 → key (railIdx r.1) j ≠ key idx sub := fun r j hj => by
    show ((0x2200 + r.1) * 256 + j : Nat) ≠ idx * 256 + sub
    omega
  exact ⟨fun r _ hs _ => State.reg_setReg_ne s v (hne r hs), fun r _ _ => by rw [State.reg_setReg_ne s v (hne r (by decide))]⟩

/-- A register of a rail's work written, RAIL_FLAGS apart. -/
theorem RailRegs.railReg (s : State) (r : Fin 16) {sub : Nat} (v : Nat) (h : sub ∈ [3, 0x4C, 0x56, 0x59]) :
    RailRegs s (s.setReg (railIdx r.1) sub v) := by
  have hsub : sub = 3 ∨ sub = 0x4C ∨ sub = 0x56 ∨ sub = 0x59 := by simpa using h
  have hne : ∀ (q : Fin 16) {j : Nat}, j < 256 → j ≠ sub → key (railIdx q.1) j ≠ key (railIdx r.1) sub := fun q j hj hjs => by
    show ((0x2200 + q.1) * 256 + j : Nat) ≠ (0x2200 + r.1) * 256 + sub
    omega
  refine ⟨fun q j hj hw => State.reg_setReg_ne s v (hne q hj ?_), fun q _ _ => by
    rw [State.reg_setReg_ne s v (hne q (by decide) (by omega))]⟩
  rintro rfl
  refine hw ?_
  rcases hsub with rfl | rfl | rfl | rfl <;> decide

/-- PHASE_LOST set in a rail's flags. -/
theorem RailRegs.phaseLost (s : State) (r : Fin 16) : RailRegs s (setRailFlag s r 4) := by
  have hne : ∀ (q : Fin 16) {j : Nat}, j < 256 → j ≠ 0x19 ∨ q ≠ r → key (railIdx q.1) j ≠ key (railIdx r.1) 0x19 := fun q j hj h => by
    show ((0x2200 + q.1) * 256 + j : Nat) ≠ (0x2200 + r.1) * 256 + 0x19
    have hr : j ≠ 0x19 ∨ q.1 ≠ r.1 := h.imp_right fun hq e => hq (Fin.ext e)
    omega
  refine ⟨fun q j hj hw => State.reg_setReg_ne s _ (hne q hj (.inl ?_)), fun q i hi => ?_⟩
  · rintro rfl
    exact hw (by decide)
  · by_cases hq : q = r
    · have hbit : Nat.testBit 4 i = false := Nat.testBit_two_pow_of_ne (n := 2) (Ne.symm hi)
      subst hq
      rw [setRailFlag, State.reg_orReg, Nat.testBit_or, hbit, Bool.or_false]
    · rw [setRailFlag, State.orReg, State.reg_setReg_ne s _ (hne q (by decide) (.inr hq))]

theorem OnlyChg.railRegs {s t : State} (h : OnlyChg s t) : RailRegs s t := .of_same (by rw [h.frame])

theorem OnlyPorts.railRegs {s t : State} (h : OnlyPorts s t) : RailRegs s t := .of_same (by rw [h.frame])

theorem Replied.railRegs {s t : State} (h : Replied s t) : RailRegs s t := .of_same (by rw [h.frame])

/-! ## Records -/

theorem tally_railRegs (s : State) (code : Nat) : RailRegs s (tally s code) :=
  .foldl (fun t i => by unfold tally1; exact .ite (fun _ => .of_same rfl) fun _ => .refl t) _ s

theorem pendSrc_railRegs (s : State) (n : Nat) : RailRegs s (pendSrc s n) := by
  refine .ite (fun _ => RailRegs.trans ?_ (tally_railRegs _ n)) fun _ => .refl s
  exact .of_same rfl

theorem queueEmcy1_railRegs (s : State) (l : Link) (msg : List Byte) : RailRegs s (queueEmcy1 s l msg) :=
  .ite (fun _ => .ite (fun _ => .of_same rfl) fun _ => .setReg s _ (by decide)) fun _ => .refl s

theorem addEntry_railRegs (s : State) (e : LogEntry) : RailRegs s (addEntry s e) := by
  have hlost : ∀ e1 : LogEntry, RailRegs s (if placeLoses s.log e1 then s.inc 0x2700 0x0F else s) :=
    fun _ => .ite (fun _ => .setReg s _ (by decide)) fun _ => .refl s
  unfold addEntry
  dsimp only
  split
  · exact .ite (fun _ => (hlost _).trans (.of_same rfl)) fun _ => hlost _
  · refine (RailRegs.trans ?_ ((queueEmcy1_railRegs _ .a _).trans (queueEmcy1_railRegs _ .b _))).trans
      (.ite (fun _ => pendSrc_railRegs _ 25) fun _ => .refl _)
    exact .ite (fun _ => (hlost _).trans (.of_same rfl)) fun _ => hlost _

theorem logOnly_railRegs (s : State) (code unit detail : U16) : RailRegs s (logOnly s code unit detail) := by
  unfold logOnly
  split
  · exact .refl s
  · exact .ite (fun _ => addEntry_railRegs s _) fun _ => .refl s

theorem logConsequent_railRegs (s : State) (code unit : U16) (cause : U32) : RailRegs s (logConsequent s code unit cause) := by
  unfold logConsequent
  split
  · exact .refl s
  · exact .ite (fun _ => addEntry_railRegs s _) fun _ => .refl s

/-! ## Rails and ports -/

theorem withdrawPg_railRegs (s : State) (r : Fin 16) (loss : Bool) : RailRegs s (withdrawPg s r loss) := by
  unfold withdrawPg
  extract_lets s1 s2
  have h1 : RailRegs s s1 := .of_same rfl
  have h2 : RailRegs s1 s2 := (RailRegs.railReg s1 r _ (by decide)).trans (.railReg _ r _ (by decide))
  exact .ite (fun _ => (h1.trans h2).trans (.ite (fun _ => logOnly_railRegs s2 _ _ _) fun _ => .of_same rfl)) fun _ => h1

theorem railChanged_railRegs (s : State) (r : Fin 16) (old : RailState) (off : Bool) : RailRegs s (railChanged s r old off) :=
  .ite (fun _ => .refl s) fun _ => RailRegs.trans (.ite (fun _ => withdrawPg_railRegs s r _) fun _ => .refl s) (.of_same rfl)

theorem toRail_railRegs (s : State) (r : Fin 16) (st : RailState) (off : Bool) : RailRegs s (toRail s r st off) :=
  have h : RailRegs s (s.modRail r fun x => { x with state := st }) := .of_same rfl
  h.trans (railChanged_railRegs _ r _ off)

theorem startPort_onlyPorts (s : State) (r : Fin 16) (n : Fin 32) : OnlyPorts s (startPort s r n) :=
  .ite (fun _ => .refl s) fun _ => modPort_onlyPorts s n _

theorem startRail_railRegs (s : State) (r : Fin 16) : RailRegs s (startRail s r) := by
  unfold startRail
  extract_lets old s1
  have h1 : RailRegs s s1 := .of_same rfl
  exact (h1.trans (OnlyPorts.foldl (fun t n => startPort_onlyPorts t r n) _ s1).railRegs).trans (railChanged_railRegs _ r old false)

theorem readyPort_onlyPorts (s : State) (n : Fin 32) : OnlyPorts s (readyPort s n) := by
  unfold readyPort
  split
  iterate 3 exact .refl s
  · exact modPort_onlyPorts s n _

theorem endPort_onlyPorts (st : PortState) (s : State) (n : Fin 32) : OnlyPorts s (endPort st s n) := by
  unfold endPort
  split
  iterate 3 exact .refl s
  · exact modPort_onlyPorts s n _

theorem railOff_railRegs (s : State) (r : Fin 16) : RailRegs s (railOff s r) := by
  unfold railOff
  extract_lets old s1 s2
  have h1 : RailRegs s s1 := (OnlyPorts.foldl (endPort_onlyPorts .ready) _ s).railRegs
  have hoff : RailRegs s1 (s1.modRail r fun x => { x with state := .off, shed := 0, trunc := false }) := .of_same rfl
  have h2 : RailRegs s s2 := (h1.trans hoff).trans (railChanged_railRegs _ r old true)
  exact .ite (fun _ => h2.trans (startRail_railRegs s2 r)) fun _ => h2

theorem releasePort_onlyPorts (s : State) (n : Fin 32) (forced : Bool) : OnlyPorts s (releasePort s n forced) := by
  have go : ∀ f, OnlyPorts s (s.modPort n f) := modPort_onlyPorts s n
  unfold releasePort
  split
  iterate 3 exact .refl s
  iterate 2 exact .ite (fun _ => go _) fun _ => go _
  iterate 2 exact go _
  iterate 2 exact .ite (fun _ => go _) fun _ => .refl s
  · exact go _

theorem stopRail_railRegs (s : State) (r : Fin 16) (forced : Bool) : RailRegs s (stopRail s r forced) := by
  unfold stopRail
  extract_lets old s1
  have h1 : RailRegs s s1 := .of_same rfl
  have off := h1.trans (railOff_railRegs s1 r)
  have down := h1.trans (toRail_railRegs s1 r .rampDown true)
  refine .ite (fun _ => ?_) fun _ => ?_
  · have hstop : RailRegs s1 (s1.modRail r fun x => { x with state := if x.state = .fenced then .fenced else .off }) := .of_same rfl
    exact ((h1.trans hstop).trans (OnlyPorts.foldl (fun t n => releasePort_onlyPorts t n forced) _ _).railRegs).trans
      (railChanged_railRegs _ r old true)
  · split
    iterate 3 exact h1
    iterate 2 exact off
    · exact .ite (fun _ => off) fun _ => h1
    · exact .ite (fun _ => off) fun _ => down
    iterate 2 exact .ite (fun _ => down) fun _ => off

theorem writeEnable_railRegs (s : State) (r : Fin 16) (v : Nat) : RailRegs s (writeEnable s r v) := by
  have h1 : RailRegs s (supersede s (railIdx r.1) 3) := .of_same rfl
  have h2 := h1.trans (.railReg _ r (sub := 3) v (by decide))
  exact h2.trans (.of_same rfl)

theorem devDisable_railRegs (s : State) (r : Fin 16) (forced : Bool) : RailRegs s (devDisable s r forced) :=
  (writeEnable_railRegs s r 0).trans (stopRail_railRegs _ r forced)

theorem clearEnables_railRegs (s : State) : RailRegs s (clearEnables s) := by
  refine .foldl (fun t r => ((writeEnable_railRegs t r 0).trans (withdrawPg_railRegs _ r false)).trans ?_) _ s
  exact .of_same rfl

theorem holdRail_railRegs (s : State) (r : Fin 16) (old : RailState) : RailRegs s (holdRail s r old) :=
  have goes : ∀ st : RailState, RailRegs s (s.modRail r fun x => { x with state := st }) := fun _ => .of_same rfl
  .ite (fun _ => .refl s) fun _ => .ite (fun _ => (goes .held).trans (railChanged_railRegs _ r old false)) fun _ =>
    .ite (fun _ => .ite (fun _ => (goes .off).trans (startRail_railRegs _ r)) fun _ => (goes .off).trans (railChanged_railRegs _ r old false))
      fun _ => railChanged_railRegs s r old false

theorem restartDwell_railRegs (s : State) (r : Fin 16) : RailRegs s (restartDwell s r) := by
  unfold restartDwell rephase
  have h1 : RailRegs s (s.modRail r fun x => { x with dwell := 0, spacing := 0 }) := .of_same rfl
  split
  · exact h1
  · exact h1.trans (OnlyPorts.foldl (fun t n => modPort_onlyPorts t n _) _ _).railRegs

theorem applyHolds_railRegs (s : State) : RailRegs s (applyHolds s) := by
  refine (OnlyPorts.foldl holdPort_onlyPorts s.portList s).railRegs.trans (.foldl (fun t x => ?_) _ _)
  exact .ite (fun _ => (holdRail_railRegs t x.1 x.2).trans (restartDwell_railRegs _ x.1)) fun _ => holdRail_railRegs t x.1 x.2

end Sys2Proof.Machine
end

section
namespace Sys2Proof.Machine
open Sys2Proof

/-! ## Stores and the answers that wait for them -/

theorem showMailbox_railRegs (s : State) (c : Fin 8) (code : Nat) : RailRegs s (showMailbox s c code) := by
  refine RailRegs.trans ?_ (pendSrc_railRegs _ 38)
  exact .of_same rfl

theorem endOwed_railRegs (s : State) (p : HostPath) (fence : Bool) (code : Nat) : RailRegs s (endOwed s p fence code) := by
  have hanswer : RailRegs s (answerOwed s p fence code) := by
    refine RailRegs.trans ?_ (sendReply_replied _ p _ code []).railRegs
    exact .of_same rfl
  have hwait : ∀ (t : State) c, RailRegs t (endWaiting t c code) := fun t c =>
    .ite (fun _ => (showMailbox_railRegs t c code).trans (.of_same rfl)) fun _ => showMailbox_railRegs t c code
  unfold endOwed
  split
  · exact hanswer.trans (hwait _ _)
  · exact hanswer

theorem answerKeys_railRegs (s : State) (ws : List KeyWait) (code : Nat) : RailRegs s (answerKeys s ws code) :=
  .foldl (fun t w => by
    show RailRegs t (match w.path with | none => t | some p => endOwed t p false code)
    split
    · exact .refl t
    · exact endOwed_railRegs t _ false code) ws s

theorem undoConfig_railRegs (s : State) : RailRegs s (undoConfig s) := by
  unfold undoConfig
  split
  · exact .refl s
  · refine RailRegs.trans ?_ (.setReg _ 0x08000020 (by decide))
    exact .of_same rfl

theorem undoKey_railRegs (s : State) : RailRegs s (undoKey s) := by
  unfold undoKey
  split
  · exact .refl s
  · refine RailRegs.trans ?_ (answerKeys_railRegs _ _ _)
    exact .of_same rfl

theorem undoLost_railRegs (s : State) (cs : List StoreCause) : RailRegs s (undoLost s cs) :=
  have h1 : RailRegs s (if cs.contains .config then undoConfig s else s) := .ite (fun _ => undoConfig_railRegs s) fun _ => .refl s
  .ite (fun _ => h1.trans (undoKey_railRegs _)) fun _ => h1

theorem skipStore_railRegs (s : State) (cs : List StoreCause) : RailRegs s (skipStore s cs) := by
  unfold skipStore
  extract_lets _ _ s1 s2
  have h1 : RailRegs s s1 := by
    refine RailRegs.trans ?_ (undoLost_railRegs _ cs)
    exact .of_same rfl
  have h2 : RailRegs s s2 := h1.trans (.setReg s1 _ (by decide))
  refine h2.trans (RailRegs.trans ?_ (pendSrc_railRegs _ 36))
  exact .ite (fun _ => logOnly_railRegs s2 _ _ _) fun _ => .of_same rfl

theorem startStore_railRegs (s : State) (c : StoreCause) : RailRegs s (startStore s c) := by
  unfold startStore
  extract_lets c1 s1
  have h1 : RailRegs s s1 := .ite (fun _ => .of_same rfl) fun _ => .ite (fun _ => .of_same rfl) fun _ => .refl s
  exact h1.trans (.of_same rfl)

theorem requestStore_railRegs (s : State) (c : StoreCause) : RailRegs s (requestStore s c) := by
  unfold requestStore
  split
  · refine .ite (fun _ => RailRegs.trans ?_ (undoLost_railRegs _ _)) fun _ => .of_same rfl
    exact .of_same rfl
  · exact .ite (fun _ => startStore_railRegs s c) fun _ => .ite (fun _ => skipStore_railRegs s _) fun _ =>
      .ite (fun _ => .of_same rfl) fun _ => .of_same rfl

/-! ## Mode entries -/

theorem stopRound_railRegs (s : State) : RailRegs s (stopRound s) := by
  have hrow : ∀ (t : State) (c : Fin 33), RailRegs t (if c.1 + 1 = s.milk.slot then t.modSc c fun x => { x with rejects := 0 } else t) :=
    fun t _ => .ite (fun _ => .of_same rfl) fun _ => .refl t
  have hbreak : RailRegs s (breakRun s) := .ite (fun _ => (RailRegs.foldl hrow _ s).trans (.of_same rfl)) fun _ => .refl s
  exact hbreak.trans (.of_same rfl)

theorem startRound_railRegs (s : State) : RailRegs s (startRound s) := .ite (fun _ => .of_same rfl) fun _ => .refl s

theorem discardEnables_railRegs (s : State) : RailRegs s (discardEnables s) :=
  .foldl (f := fun t g => t.modGroup g _) (fun _ _ => .of_same rfl) _ s

theorem herdSend_railRegs (s : State) (frame : List Byte) : RailRegs s (herdSend s frame) := .ite (fun _ => .of_same rfl) fun _ => .refl s

theorem startReadings_railRegs (s : State) : RailRegs s (startReadings s) := by
  refine .foldl (fun t i => .ite (fun _ => ?_) fun _ => .refl t) _ s
  unfold setEff noteMax
  split
  · exact .of_same rfl
  · refine .ite (fun _ => RailRegs.trans ?_ (.setReg _ _ ⟨by decide, by omega⟩)) fun _ => .of_same rfl
    exact .of_same rfl

theorem rezone_railRegs (s : State) : RailRegs s (rezone s) := by
  unfold rezone judgeZone
  split
  all_goals
    refine RailRegs.trans ?_ (chgSettle_onlyChg _).railRegs
    exact .of_same rfl

theorem modeResets_railRegs (s : State) (m : Mode) : RailRegs s (modeResets s m) := by cases m <;> exact .of_same rfl

theorem enterMode_railRegs (s : State) (m : Mode) (cause : Nat) : RailRegs s (enterMode s m cause) := by
  unfold enterMode
  extract_lets was pol _ _ _ s1 s2 s3 s4 s5 s6 s7
  have h1 : RailRegs s s1 := .of_same rfl
  have h2 : RailRegs s1 s2 := .ite (fun _ => discardEnables_railRegs s1) fun _ => .refl s1
  have h3 : RailRegs s2 s3 := .ite (fun _ => clearEnables_railRegs s2) fun _ => .refl s2
  have h4 : RailRegs s3 s4 := modeResets_railRegs s3 m
  have h5 : RailRegs s4 s5 := .ite (fun _ => (stopRound_railRegs s4).trans (startRound_railRegs _)) fun _ =>
    .ite (fun _ => .refl s4) fun _ => stopRound_railRegs s4
  have h6 : RailRegs s5 s6 := .ite (fun _ => herdSend_railRegs s5 _) fun _ => .refl s5
  have h7 : RailRegs s6 s7 := .ite (fun _ => (startReadings_railRegs s6).trans (rezone_railRegs _)) fun _ => .refl s6
  have hend := (applyHolds_railRegs s7).trans ((chgSettle_onlyChg _).railRegs.trans (pendSrc_railRegs _ 24))
  exact (((((((h1.trans h2).trans h3).trans h4).trans h5).trans h6).trans h7)).trans hend

end Sys2Proof.Machine
end

section
namespace Sys2Proof.Machine
open Sys2Proof

/-! ## Modes, scripts and trips -/

/-- Changes of the mode, the sequencer, the sensors and the herd. -/
theorem RailRegs.update (s : State) (md : Modes) (sqe : Sqe) (thm : Thermal) (herd : Herd) :
    RailRegs s { s with md := md, sqe := sqe, thm := thm, herd := herd } := .of_same rfl

/-- A mode entered with the scripts stopped. -/
theorem enterStopped_railRegs (s : State) (m : Mode) (cause : Nat) : RailRegs s (enterMode (stopSqe s) m cause) :=
  have h : RailRegs s (stopSqe s) := .of_same rfl
  h.trans (enterMode_railRegs _ m cause)

theorem beginPowerDown_railRegs (s : State) (cause : Nat) : RailRegs s (beginPowerDown s cause) :=
  (enterStopped_railRegs s .shutdown cause).trans (.update _ _ _ _ _)

theorem beginReversal_railRegs (s : State) (cause : Nat) : RailRegs s (beginReversal s cause) :=
  ((enterStopped_railRegs s .shutdown cause).trans (.update _ _ _ _ _)).trans (.setReg _ _ (by decide))

theorem beginStartup_railRegs (s : State) (cause : Nat) : RailRegs s (beginStartup s cause) := by
  unfold beginStartup
  extract_lets s1 _ _ _ _ s2
  have hreq : RailRegs s (s.clrReg 0x2000 8 1) := .setReg s _ (by decide)
  have h1 : RailRegs s s1 := hreq.trans (enterStopped_railRegs _ .startup cause)
  clear_value s1
  have h2 : RailRegs s s2 := h1.trans (.of_same rfl)
  exact .ite (fun _ => h2.trans (.update s2 _ _ _ _)) fun _ =>
    .ite (fun _ => (h2.trans (beginReversal_railRegs s2 11)).trans (.update _ _ _ _ _)) fun _ => h2

theorem forceTiming_railRegs (s : State) : RailRegs s (forceTiming s) := by
  unfold forceTiming
  extract_lets _ s0 s1
  have hsqe : RailRegs s { s with sqe := { s.sqe with forced := true } } := .of_same rfl
  have h0 : RailRegs s s0 := (hsqe.trans (.setReg _ _ (by decide))).trans (.setReg _ _ (by decide))
  have h1 : RailRegs s0 s1 := .ite (fun _ => .foldl (fun t r => .ite (fun _ => stopRail_railRegs t r true) fun _ => .refl t) _ s0) fun _ => .refl s0
  exact (h0.trans h1).trans (herdSend_railRegs s1 _)

theorem enterStandby_railRegs (s : State) (cause : Nat) : RailRegs s (enterStandby s cause) := by
  unfold enterStandby
  extract_lets s1 _ _ _ s2
  have h2 : RailRegs s1 s2 := .of_same rfl
  exact ((enterStopped_railRegs s .standby cause).trans h2).trans (requestStore_railRegs s2 .standby)

theorem enterService_railRegs (s : State) (cause : Nat) : RailRegs s (enterService s cause) :=
  (enterStopped_railRegs s .service cause).trans (.update _ _ _ _ _)

theorem offNow_railRegs (s : State) (cause : Nat) : RailRegs s (offNow s cause) := by
  have h1 : RailRegs s (s.clrReg 0x2000 8 1) := .setReg s _ (by decide)
  unfold offNow
  split
  · exact h1.trans (beginReversal_railRegs _ cause)
  iterate 2 exact h1.trans (beginPowerDown_railRegs _ cause)
  · exact .ite (fun _ => (h1.trans (.setReg _ _ (by decide))).trans (enterStandby_railRegs _ cause)) fun _ => h1
  · exact .refl s

theorem forcedOff_railRegs (s : State) (cause : Nat) : RailRegs s (forcedOff s cause) :=
  have h := offNow_railRegs s cause
  .ite (fun _ => .update s s.md s.sqe s.thm _) fun _ => .ite (fun _ => h.trans (forceTiming_railRegs _)) fun _ => h

theorem orderlyStop_railRegs (s : State) : RailRegs s (orderlyStop s) := by
  refine .ite (fun _ => .update s s.md s.sqe _ _) fun _ => ?_
  unfold stopNow
  split
  · exact (beginReversal_railRegs s 11).trans (.update _ _ _ _ _)
  iterate 2 exact (beginPowerDown_railRegs s 11).trans (.update _ _ _ _ _)
  · have h1 : RailRegs s (s.clrReg 0x2000 8 5) := .setReg s _ (by decide)
    exact .ite (fun _ => (h1.trans (.update _ _ _ _ _)).trans (enterStopped_railRegs _ .safestop 11)) fun _ => h1.trans (.update _ _ _ _ _)
  · exact ((RailRegs.setReg s 0xFF (by decide)).trans (.update _ _ _ _ _)).trans (applyHolds_railRegs _)
  · exact .refl s

theorem trip_railRegs (s : State) (hard : Bool) : RailRegs s (trip s hard) := by
  unfold trip
  extract_lets _ s1 _ m s2
  have h1 : RailRegs s s1 := .of_same rfl
  have hstop : RailRegs s1 (stopSqe s1) := .of_same rfl
  have hmode : RailRegs s1 s2 := (RailRegs.update s1 m s1.sqe s1.thm s1.herd).trans (enterStopped_railRegs _ .safestop 10)
  exact .ite (fun _ => h1) fun _ => .ite (fun _ => h1.trans hstop) fun _ => .ite
    (fun _ => ((h1.trans hstop).trans (applyHolds_railRegs _)).trans (chgSettle_onlyChg _).railRegs)
    fun _ => (h1.trans hmode).trans (.setReg s2 _ (by decide))

/-! ### The ends of scripts -/

theorem setPos_railRegs (s : State) (p : StepPos) : RailRegs s (s.setPos p) := by
  unfold State.setPos
  split <;> exact .of_same rfl

theorem idleSqe_railRegs (s : State) : RailRegs s (idleSqe s) := .of_same rfl

theorem endDown_railRegs (s : State) : RailRegs s (endDown s) := by
  unfold endDown
  extract_lets left s1
  have h0 : RailRegs s (setResets s 3 true) := .of_same rfl
  have h1 : RailRegs s s1 := h0.trans (.foldl (fun t r => devDisable_railRegs t r true) left _)
  exact .ite (fun _ => h1) fun _ => h1.trans (.setReg _ _ (by decide))

theorem afterDown_railRegs (s : State) : RailRegs s (afterDown s) := by
  unfold afterDown
  extract_lets s1 _
  have h1 : RailRegs s s1 := (endDown_railRegs s).trans (idleSqe_railRegs _)
  exact .ite (fun _ => h1.trans (enterMode_railRegs s1 .safestop 9)) fun _ =>
    .ite (fun _ => (h1.trans (.setReg s1 _ (by decide))).trans (.update _ _ _ _ _)) fun _ =>
      .ite (fun _ => h1.trans (beginStartup_railRegs s1 9)) fun _ =>
        .ite (fun _ => h1.trans (enterService_railRegs s1 9)) fun _ => h1.trans (enterStandby_railRegs s1 9)

theorem callPartial_railRegs (s : State) (p : PartialRun) : RailRegs s (callPartial s p) := by
  rw [callPartial_frame]
  exact .of_same rfl

theorem tagRail_railRegs (s : State) (r : Fin 16) : RailRegs s (tagRail s r) := by
  unfold tagRail
  extract_lets s1
  have h1 : RailRegs s s1 := .of_same rfl
  have hoff : RailRegs s1 (s1.modRail r fun x => { x with huOff := true }) := .of_same rfl
  refine .ite (fun _ => ?_) fun _ => h1
  split
  · exact (h1.trans hoff).trans (callPartial_railRegs _ _)
  · exact h1.trans (.of_same rfl)
  · exact h1

theorem enterHoldup_railRegs (s : State) (cause : Nat) : RailRegs s (enterHoldup s cause) := by
  unfold enterHoldup
  extract_lets s1 _ s2 s3
  have hat : RailRegs s1 s2 := .of_same rfl
  have h2 : RailRegs s s2 := (enterMode_railRegs s .holdup cause).trans hat
  have h3 : RailRegs s s3 := (h2.trans (beginPowerDown_railRegs s2 8)).trans (forceTiming_railRegs _)
  have hdrop : RailRegs s2 (dropRestarts s2) := .ite (fun _ => .of_same rfl) fun _ => .of_same rfl
  exact .ite (fun _ => .ite (fun _ => h2.trans (forcedOff_railRegs s2 8)) fun _ => h3.trans (.update s3 _ _ _ _)) fun _ =>
    (h2.trans hdrop).trans (.foldl tagRail_railRegs _ _)

theorem afterUp_railRegs (s : State) : RailRegs s (afterUp s) :=
  .ite (fun _ => (idleSqe_railRegs s).trans (enterMode_railRegs _ .run 9)) fun _ => (idleSqe_railRegs s).trans (enterHoldup_railRegs _ 9)

theorem nextStep_railRegs (s : State) : RailRegs s (nextStep s) := by
  have told : ∀ (p : StepPos) h, RailRegs s { s.setPos p with herd := h } := fun p h =>
    (setPos_railRegs s p).trans (.update _ (s.setPos p).md (s.setPos p).sqe (s.setPos p).thm h)
  unfold nextStep
  extract_lets p
  split
  · exact .ite (fun _ => told _ _) fun _ => .ite (fun _ => setPos_railRegs s _) fun _ => afterUp_railRegs s
  iterate 2 exact .ite (fun _ => told _ _) fun _ => .ite (fun _ => setPos_railRegs s _) fun _ => afterDown_railRegs s
  · split
    · exact setPos_railRegs s _
    · exact idleSqe_railRegs s
  · exact .refl s
  · split
    · exact .refl s
    · exact .ite (fun _ => .of_same rfl) fun _ => .of_same rfl

end Sys2Proof.Machine
end

section
namespace Sys2Proof.Machine
open Sys2Proof

/-! ## Fences -/

theorem fenceRail_railRegs (s : State) (r : Fin 16) : RailRegs s (fenceRail s r) := by
  unfold fenceRail
  refine .ite (fun _ => .refl s) fun _ => ?_
  extract_lets old s1 s2 _ s3
  have h1 : RailRegs s s1 := (OnlyPorts.foldl readyPort_onlyPorts (s.members r) s).railRegs
  have h2 : RailRegs s1 s3 := .of_same rfl
  exact ((h1.trans h2).trans (.railReg s3 r _ (by decide))).trans (railChanged_railRegs _ r old false)

theorem fenceRailFor_railRegs (s : State) (r : Fin 16) (cause : U32) : RailRegs s (fenceRailFor s r cause) :=
  .ite (fun _ => .refl s) fun _ => (fenceRail_railRegs s r).trans (logConsequent_railRegs _ _ _ cause)

theorem losePhase_railRegs (s : State) (r : Fin 16) (was : Bool) (cause : U32) : RailRegs s (losePhase s r was cause) := by
  unfold losePhase
  extract_lets s1
  have hcount : RailRegs s (countRail s r 0x59) := .railReg s r _ (by decide)
  have h1 : RailRegs s s1 := .ite (fun _ => hcount.trans (.phaseLost _ r)) fun _ => hcount
  exact h1.trans (.ite (fun _ => fenceRailFor_railRegs s1 r cause)
    fun _ => .ite (fun _ => (restartDwell_railRegs s1 r).trans (.of_same rfl)) fun _ => .refl s1)

theorem fenceOne_railRegs (s : State) (n : Fin 32) : RailRegs s (fenceOne s n) := .of_same rfl

theorem fencePort_railRegs (s : State) (n : Fin 32) (cause : U32) : RailRegs s (fencePort s n cause) := by
  unfold fencePort
  refine .ite (fun _ => .refl s) fun _ => ?_
  extract_lets lead was s1
  have h1 : RailRegs s s1 := .foldl (fun t m => .ite (fun _ => fenceOne_railRegs t m) fun _ => .refl t) _ s
  split
  · exact h1
  · exact .ite (fun _ => h1.trans (.railReg s1 _ _ (by decide)))
      fun _ => h1.trans ((losePhase_railRegs s1 _ was cause).trans (railChanged_railRegs _ _ _ false))

theorem fenceGroup_railRegs (s : State) (g : Fin 8) (cause : U32) : RailRegs s (fenceGroup s g cause) := by
  unfold fenceGroup
  extract_lets _ s1
  have h1 : RailRegs s s1 := .of_same rfl
  exact h1.trans (.foldl (fun t n => .ite (fun _ => fencePort_railRegs t n cause) fun _ => .refl t) _ s1)

theorem loseRover_railRegs (s : State) (cause : U32) : RailRegs s (loseRover s cause) := by
  unfold loseRover
  extract_lets _ s1
  have hlose : RailRegs s { s with milk := { s.milk with roverFailed := true, noSpare := true } } := .of_same rfl
  have h1 : RailRegs s s1 := hlose.trans (stopRound_railRegs _)
  split
  · exact h1
  · have hend : RailRegs s1 { s1 with milk := { s1.milk with standin := none } } := .of_same rfl
    exact (h1.trans hend).trans (fencePort_railRegs _ _ cause)

theorem failSense_railRegs (s : State) (n : Fin 32) (cause : U32) : RailRegs s (failSense s n cause) := by
  unfold failSense
  refine .ite (fun _ => .refl s) fun _ => ?_
  extract_lets _ s1 rover s2
  have h1 : RailRegs s s1 := .of_same rfl
  have h2 : RailRegs s1 s2 := (stopRound_railRegs s1).trans (.foldl (f := fun t c => t.modSc c _) (fun _ _ => .of_same rfl) _ _)
  clear_value s2
  exact h1.trans (.ite (fun _ => fencePort_railRegs s1 n cause) fun _ => h2.trans (.of_same rfl))

theorem failVolt_railRegs (s : State) (k : Fin 16) (cause : U32) : RailRegs s (failVolt s k cause) :=
  have h : RailRegs s { s with flt := { s.flt with vc := setBit s.flt.vc k.1 } } := .of_same rfl
  .ite (fun _ => .refl s) fun _ => h.trans (fenceRailFor_railRegs _ k cause)

/-- A register of a loop engine written. -/
theorem RailRegs.engReg (s : State) (e : Nat) {sub : Nat} (v : Nat) (h : sub < 256) : RailRegs s (s.setReg (engIdx e) sub v) :=
  .setReg s v ⟨h, .inr (by unfold engIdx; omega)⟩

theorem moveMaster_railRegs (s : State) (r : Fin 16) (hit : Bool) (cause : U32) : RailRegs s (moveMaster s r hit cause) := by
  have hcount : ∀ (t : State) k, RailRegs t (countMoved t r k) := fun t k => by
    unfold countMoved
    split
    · exact .refl t
    · exact .engReg t _ _ (by decide)
  unfold moveMaster
  refine .ite (fun _ => .refl s) fun _ => ?_
  split
  · exact fenceRailFor_railRegs s r cause
  · refine .ite (fun _ => ?_) fun _ => fenceRailFor_railRegs s r cause
    extract_lets e was _ _ s1
    have h1 : RailRegs s s1 := (RailRegs.engReg s e was (by decide)).trans (.of_same rfl)
    refine h1.trans (RailRegs.trans ?_ (hcount _ _))
    exact .of_same rfl

theorem fenceEngine_railRegs (s : State) (e : Fin 9) (cause : U32) : RailRegs s (fenceEngine s e cause) := by
  have hgroup : ∀ (t : State) g run, RailRegs t (loseGroup t g run cause) := fun t g run => by
    unfold loseGroup
    extract_lets mastered _ t1 t2
    have h1 : RailRegs t t1 := .of_same rfl
    exact ((h1.trans (logConsequent_railRegs t1 _ _ cause)).trans (fenceGroup_railRegs _ g cause)).trans
      (.foldl (fun u r => moveMaster_railRegs u r _ cause) _ t2)
  unfold fenceEngine
  refine .ite (fun _ => .refl s) fun _ => ?_
  extract_lets was s1 _ s2
  have h2 : RailRegs s s2 := .of_same rfl
  split
  · exact .ite (fun _ => h2.trans (.of_same rfl)) fun _ => h2.trans (hgroup s2 _ _)
  · exact .ite (fun _ => h2.trans (hgroup s2 _ _)) fun _ => h2

theorem fenceUnit_railRegs (s : State) (unit : U16) (cause : U32) : RailRegs s (fenceUnit s unit cause) := by
  unfold fenceUnit
  extract_lets k i
  refine .ite (fun _ => ?port) fun _ => .ite (fun _ => ?group) fun _ => .ite (fun _ => ?rail) fun _ => .ite (fun _ => ?sensor) fun _ =>
    .ite (fun _ => ?sense) fun _ => .ite (fun _ => ?volt) fun _ => .ite (fun _ => ?engine) fun _ => .ite (fun _ => ?charger) fun _ => .refl s
  case port =>
    split
    · exact fencePort_railRegs s _ cause
    · exact .refl s
  case group =>
    split
    · exact fenceGroup_railRegs s _ cause
    · exact .refl s
  case rail =>
    split
    · exact fenceRail_railRegs s _
    · exact .refl s
  case sensor => exact .ite (fun _ => .of_same rfl) fun _ => .refl s
  case sense =>
    split
    · exact failSense_railRegs s _ cause
    · exact .ite (fun _ => loseRover_railRegs s cause) fun _ => .refl s
  case volt =>
    split
    · exact failVolt_railRegs s _ cause
    · exact .refl s
  case engine =>
    split
    · exact fenceEngine_railRegs s _ cause
    · exact .refl s
  case charger =>
    have h : RailRegs s { s with flt := { s.flt with charger := true } } := .of_same rfl
    exact h.trans (toChg_onlyChg _ .fault).railRegs

/-! ## Reports -/

theorem noteEngine_railRegs (s : State) (unit detail : U16) (stamp : U32) : RailRegs s (noteEngine s unit detail stamp) :=
  .ite (fun _ => (RailRegs.engReg s _ _ (by decide)).trans (.engReg _ _ _ (by decide))) fun _ => .refl s

theorem recorded_railRegs (s : State) (row : FaultRow) (code unit detail : U16) (stamp : U32) :
    RailRegs s (s.recorded row code unit detail stamp) := by
  unfold State.recorded
  extract_lets cls n _ s1 s2
  have h1 : RailRegs s s1 := RailRegs.trans (.ite (fun _ => .refl s) fun _ => .setReg s _ (by decide)) (addEntry_railRegs _ _)
  have h2 : RailRegs s1 s2 := .ite (fun _ => noteEngine_railRegs s1 unit detail stamp) fun _ => .refl s1
  exact (h1.trans h2).trans (.ite (fun _ => .of_same rfl) fun _ => .refl s2)

theorem fencedFor_railRegs (s : State) (row : FaultRow) (cls : FClass) (unit : U16) : RailRegs s (fencedFor s row cls unit) := by
  have hf : RailRegs s (fenceFor s unit) := by
    unfold fenceFor
    split
    · exact fenceRailFor_railRegs s _ _
    · exact .refl s
  exact RailRegs.trans (.ite (fun _ => hf) fun _ => .refl s) (.ite (fun _ => fenceUnit_railRegs _ unit _) fun _ => .refl _)

theorem collect_railRegs (s : State) (code unit detail : U16) : RailRegs s (collect s code unit detail) := by
  by_cases hl : s.live = true
  · cases hr : s.rowFor code unit with
    | none => rw [collect, collectAt, if_pos hl, hr]; exact .refl s
    | some row =>
      have h := (recorded_railRegs s row code unit detail s.now).trans (fencedFor_railRegs _ row (s.classOf row unit) unit)
      rw [collect, collectAt_live hl hr, pay_eq]
      exact .ite (fun _ => h.trans (trip_railRegs _ _)) fun _ => h
  · rw [collect, collectAt, if_neg hl]
    have h : RailRegs s (aonReport s code unit) := .of_same rfl
    exact .ite (fun _ => h.trans (trip_railRegs _ false)) fun _ => .refl s

theorem abortUp_railRegs (s : State) : RailRegs s (abortUp s) :=
  have hflag : RailRegs s (s.orReg 0x2300 8 0x10) := .setReg s _ (by decide)
  have h := hflag.trans (collect_railRegs _ 0x0602 (unitCode 9 0) (BitVec.ofNat 16 s.pos.step))
  .ite (fun _ => h) fun _ => h.trans (orderlyStop_railRegs _)

theorem applyPolicy_railRegs (s : State) (policy : Nat) : RailRegs s (applyPolicy s policy) := by
  have hflag : RailRegs s (s.orReg 0x2300 8 0x10) := .setReg s _ (by decide)
  have forced : RailRegs s (nextStep (forceTiming (s.orReg 0x2300 8 0x10))) :=
    (hflag.trans (forceTiming_railRegs _)).trans (nextStep_railRegs _)
  have restart : RailRegs s (abortRestart s) := .ite (fun _ => (abortUp_railRegs s).trans (idleSqe_railRegs _)) fun _ => abortUp_railRegs s
  have handler : RailRegs s (abortHandler s) := .ite (fun _ => (abortUp_railRegs s).trans (.of_same rfl)) fun _ => abortUp_railRegs s
  unfold applyPolicy
  refine .ite (fun _ => (setPos_railRegs s _).trans (.update _ _ _ _ _)) fun _ => ?_
  split
  · exact .ite (fun _ => .update s s.md _ s.thm s.herd) fun _ => .ite (fun _ => nextStep_railRegs s) fun _ => abortUp_railRegs s
  · exact .ite (fun _ => forced) fun _ => nextStep_railRegs s
  · split
    · exact .ite (fun _ => restart) fun _ => nextStep_railRegs s
    · exact .ite (fun _ => forced) fun _ => nextStep_railRegs s
  · exact .ite (fun _ => handler) fun _ => nextStep_railRegs s
  iterate 2 exact .refl s

theorem judgeWaits_railRegs (s : State) : RailRegs s (judgeWaits s) := by
  refine .ite (fun _ => .refl s) fun _ => ?_
  unfold failStep
  extract_lets step s1
  have h1 : RailRegs s s1 := (((RailRegs.setReg s _ (by decide)).trans (.setReg _ _ (by decide))).trans (.setReg _ _ (by decide))).trans
    (.setReg _ _ (by decide))
  exact (h1.trans (logOnly_railRegs s1 _ _ _)).trans (applyPolicy_railRegs _ _)

theorem report_railRegs (s : State) (code unit detail : U16) : RailRegs s (report s code unit detail) :=
  (collect_railRegs s code unit detail).trans (judgeWaits_railRegs _)

theorem tripRailBy_railRegs {land : State → Fin 32 → State} (hland : ∀ s n, OnlyPorts s (land s n)) (s : State) (r : Fin 16) :
    RailRegs s (tripRailBy land s r) := by
  unfold tripRailBy
  refine .ite (fun _ => .refl s) fun _ => ?_
  extract_lets old s1 s2 top
  have h1 : RailRegs s s1 := (OnlyPorts.foldl hland (s.members r) s).railRegs
  have htrip : RailRegs s1 (s1.modRail r fun x => { x with state := .tripped, trunc := false, heldOn := false }) := .of_same rfl
  have h2 : RailRegs s s2 := (h1.trans htrip).trans (railChanged_railRegs _ r old false)
  have hused : RailRegs s2 (setSupFlag s2 r 0x20) := .railReg s2 r _ (by decide)
  exact h2.trans (.ite (fun _ => .ite (fun _ => .of_same rfl) fun _ => (hused.trans (report_railRegs _ _ _ _)).trans (judgeWaits_railRegs _))
    fun _ => judgeWaits_railRegs s2)

end Sys2Proof.Machine
end

section
namespace Sys2Proof.Machine
open Sys2Proof

/-! ## Two registers of one rail -/

/-- A register of a rail reads as before a write of another of the same rail. -/
theorem reg_setReg_rail (s : State) (r : Fin 16) {i j : Nat} (v : Nat) (h : i ≠ j) :
    (s.setReg (railIdx r.1) j v).reg (railIdx r.1) i = s.reg (railIdx r.1) i :=
  State.reg_setReg_ne s v (by show (railIdx r.1 * 256 + i : Nat) ≠ railIdx r.1 * 256 + j; omega)

theorem settle_railReg (old s : State) (r : Fin 16) {sub : Nat} (h : sub < 256) :
    (settle old s).reg (railIdx r.1) sub = s.reg (railIdx r.1) sub :=
  settle_reg old s (countsKey_below (by unfold railIdx; omega) h)

/-! ## A start times out (R170) -/

theorem doSoftStartTimeout_regs {s : State} {r : Fin 16} (hl : s.live = true) (hc : isConverter (s.railPers r) = true)
    (hpg : s.rails[r].pg = false)
    (hst : s.rails[r].state = .prebias ∨ s.rails[r].state = .softStart ∨ s.rails[r].state = .regulating) :
    ((doSoftStartTimeout r s).reg (railIdx r.1) 0x19).testBit 4 = true ∧
      (doSoftStartTimeout r s).reg (railIdx r.1) 0x55 = min 0xFFFFFFFF (s.reg (railIdx r.1) 0x55 + 1) := by
  unfold doSoftStartTimeout
  extract_lets st
  rw [if_pos ⟨hl, hc, hpg, hst⟩]
  have k := (report_railRegs (countRail (setRailFlag s r startFail) r 0x55) 0x0401 (unitCode 3 r.1) 0).trans
    (tripRailBy_railRegs (endPort_onlyPorts .tripped) _ r)
  constructor
  · rw [k.flag r (by decide)]
    show ((setRailFlag s r startFail).setReg (railIdx r.1) 0x55 _ |>.reg (railIdx r.1) 0x19).testBit 4 = true
    rw [reg_setReg_rail _ r _ (by decide), setRailFlag, State.reg_orReg, Nat.testBit_or, show startFail.testBit 4 = true from rfl, Bool.or_true]
  · rw [k.reg r (by decide) (by decide), countRail, State.reg_inc, setRailFlag, State.orReg, reg_setReg_rail s r _ (by decide)]

/-! ## The output crosses the truncation level (R171, R172) -/

/-- The main gates of a list of ports that are on end, and nothing but ports changes. -/
theorem endMains_onlyPorts (l : List (Fin 32)) (s : State) :
    OnlyPorts s (l.foldl (fun t n => if t.mainOn n then endMain t n t.ports[n].count else t) s) :=
  .foldl (fun t n => .ite (fun _ => (endMain_gated t n _).only) fun _ => .refl t) l s

theorem doTruncationCross_rising {s : State} {r : Fin 16} (hl : s.live = true) (hc : isConverter (s.railPers r) = true)
    (ht : s.act (railIdx r.1) 0x10 ≠ 0) (ha : s.actives r ≠ []) :
    ((doTruncationCross r true s).reg (railIdx r.1) 0x19).testBit 0 = true ∧ (doTruncationCross r true s).rails[r].trunc = true ∧
      (doTruncationCross r true s).reg (railIdx r.1) 0x11 = min 0xFFFFFFFF (s.reg (railIdx r.1) 0x11 + 1) := by
  unfold doTruncationCross
  rw [if_pos ⟨hl, hc, ht, ha⟩, if_pos rfl]
  extract_lets s1
  have k := endMains_onlyPorts (s1.actives r) s1
  have hregs : ∀ sub, State.reg _ (railIdx r.1) sub = s1.reg (railIdx r.1) sub := fun sub => k.same (·.reg (railIdx r.1) sub) fun _ _ => rfl
  refine ⟨?_, ?_, ?_⟩
  · rw [hregs]
    show ((setRailFlag s r 1).setReg (railIdx r.1) 0x11 _ |>.reg (railIdx r.1) 0x19).testBit 0 = true
    rw [reg_setReg_rail _ r _ (by decide), setRailFlag, State.reg_orReg, Nat.testBit_or, show Nat.testBit 1 0 = true from rfl, Bool.or_true]
  · rw [k.same State.rails fun _ _ => rfl, State.modRail_rails_self]
  · rw [hregs]
    show ((setRailFlag s r 1).inc (railIdx r.1) 0x11).reg (railIdx r.1) 0x11 = _
    rw [State.reg_inc, setRailFlag, State.orReg, reg_setReg_rail s r _ (by decide)]

theorem doTruncationCross_falling {s : State} {r : Fin 16} (hl : s.live = true) (hc : isConverter (s.railPers r) = true)
    (ht : s.act (railIdx r.1) 0x10 ≠ 0) (ha : s.actives r ≠ []) :
    doTruncationCross r false s = s.modRail r fun x => { x with trunc := false } := by
  rw [doTruncationCross, if_pos ⟨hl, hc, ht, ha⟩, if_neg (by decide)]

/-! ## The hiccup retry (R229) -/

/-- A rail's hiccups: its count stands, and a wait that has ended does not begin again. -/
structure Hiccups (r : Fin 16) (s t : State) : Prop where
  count : t.rails[r].hicCount = s.rails[r].hicCount
  ended : s.rails[r].hicWait = false → t.rails[r].hicWait = false

theorem Hiccups.refl (r : Fin 16) (s : State) : Hiccups r s s := ⟨rfl, id⟩

theorem Hiccups.trans {r : Fin 16} {s t u : State} (h : Hiccups r s t) (k : Hiccups r t u) : Hiccups r s u :=
  ⟨k.count.trans h.count, k.ended ∘ h.ended⟩

theorem Hiccups.modRail (s : State) (r : Fin 16) {f : Rail → Rail} (hcount : ∀ x, (f x).hicCount = x.hicCount)
    (hended : ∀ x, x.hicWait = false → (f x).hicWait = false) : Hiccups r s (s.modRail r f) := by
  constructor
  · rw [State.modRail_rails_self]; exact hcount _
  · rw [State.modRail_rails_self]; exact hended _

theorem Hiccups.of_rails {r : Fin 16} {s t : State} (h : t.rails = s.rails) : Hiccups r s t := by
  exact ⟨by rw [h], by rw [h]; exact id⟩

theorem withdrawPg_hiccups (s : State) (r : Fin 16) (loss : Bool) : Hiccups r s (withdrawPg s r loss) := by
  unfold withdrawPg
  extract_lets s1 s2
  have h1 : Hiccups r s s1 := .modRail s r (fun _ => rfl) fun _ => id
  have hlog : (logOnly s2 0x0406 (unitCode 3 r.1) 0).rails = s1.rails := (logOnly_noted s2 _ _ _).same State.rails fun _ _ _ _ _ _ _ => rfl
  split
  · split
    · exact h1.trans (.of_rails hlog)
    · exact h1.trans (.of_rails rfl)
  · exact h1

theorem railChanged_hiccups (s : State) (r : Fin 16) (old : RailState) (off : Bool) : Hiccups r s (railChanged s r old off) := by
  unfold railChanged
  extract_lets new s1
  have h1 : Hiccups r s s1 := by
    show Hiccups r s (if (s.rails[r].pg && !new.pgState) = true then withdrawPg s r (old.lossState && !off) else s)
    split
    · exact withdrawPg_hiccups s r _
    · exact .refl r s
  split
  · exact .refl r s
  · exact h1.trans (.modRail s1 r (fun _ => rfl) fun x hx => by show (x.hicWait && _) = false; rw [hx, Bool.false_and])

theorem startRail_hiccups (s : State) (r : Fin 16) : Hiccups r s (startRail s r) := by
  unfold startRail
  extract_lets old s1
  have h1 : Hiccups r s s1 := .modRail s r (fun _ => rfl) fun _ _ => rfl
  have k := OnlyPorts.foldl (fun t n => startPort_onlyPorts t r n) (s1.members r) s1
  exact (h1.trans (.of_rails (k.same State.rails fun _ _ => rfl))).trans (railChanged_hiccups _ r old false)

theorem tryRestart_hiccups (s : State) (r : Fin 16) : Hiccups r s (tryRestart s r) := by
  unfold tryRestart
  split
  · exact startRail_hiccups s r
  · exact .refl r s

/-- The tripping flags of ports cleared leave the rails. -/
theorem foldl_clrReg_rails (l : List (Fin 32)) (sub m : Nat) : ∀ s : State,
    (l.foldl (fun t n => t.clrReg (portIdx n.1) sub m) s).rails = s.rails := by
  induction l with
  | nil => exact fun _ => rfl
  | cons n l ih => exact fun s => ih _

/-- A flag taken out of a register is clear. -/
theorem testBit_sub_and_two_pow (x i : Nat) : (x - (x &&& 2 ^ i)).testBit i = false := by
  rw [Nat.and_two_pow, Nat.toNat_testBit, Nat.mul_comm, Nat.testBit_eq_decide_div_mod_eq, Nat.sub_mul_div, decide_eq_false_iff_not]
  omega

theorem retryRail_spec (s : State) (r : Fin 16) :
    (retryRail s r).rails[r].hicWait = false ∧ (retryRail s r).rails[r].hicCount = min 255 (s.rails[r].hicCount + 1) ∧
      ((retryRail s r).reg (railIdx r.1) 0x19).testBit 4 = false := by
  unfold retryRail
  extract_lets s1 s2
  have hrails : s1.rails = s.rails := foldl_clrReg_rails _ _ _ s
  have k := tryRestart_hiccups s2 r
  refine ⟨k.ended ?_, k.count.trans ?_, ?_⟩
  · rw [State.modRail_rails_self]
  · rw [State.modRail_rails_self]
    show satAdd 255 s1.rails[r].hicCount 1 = _
    rw [hrails]
    rfl
  · rw [tryRestart_frame]
    show ((s1.clrReg (railIdx r.1) 0x19 startFail).reg (railIdx r.1) 0x19).testBit 4 = false
    rw [State.reg_clrReg]
    exact testBit_sub_and_two_pow _ 4

theorem doHiccupRetry_retries {s : State} {r : Fin 16} (hl : s.live = true) (hw : s.rails[r].hicWait = true)
    (ht : s.railState r = .tripped) : doHiccupRetry r s = retryRail s r := if_pos ⟨hl, hw, ht⟩

/-! ## The obligation -/

/-- Settles O31: the report and the trip of a failed start write neither START_FAIL nor its count, and a restart does not begin the
hiccup wait again. -/
theorem railEvents : Obligations.RailEvents := by
  intro s r hl
  refine ⟨fun hc hpg hst => ?_, fun hc ht ha => ⟨?_, ?_⟩, fun hw ht => ?_, fun hpg => ?_⟩
  · refine after_of_done (u := doSoftStartTimeout r s) rfl ?_
    rw [settle_railReg s _ r (by decide), settle_railReg s _ r (by decide)]
    exact doSoftStartTimeout_regs hl hc hpg hst
  · refine after_of_done (u := doTruncationCross r true s) rfl ?_
    rw [settle_railReg s _ r (by decide), settle_railReg s _ r (by decide), settle_rails]
    exact doTruncationCross_rising hl hc ht ha
  · rw [← doTruncationCross_falling hl hc ht ha]
    exact becomes_of_done rfl
  · refine after_of_done (u := doHiccupRetry r s) rfl ?_
    rw [settle_railReg s _ r (by decide), settle_rails, doHiccupRetry_retries hl hw ht]
    exact retryRail_spec s r
  · refine becomes_of_done (show exec (.hicClearExpire r) s = done s _ from ?_)
    exact congrArg (done s) (if_pos ⟨hl, hpg⟩)

end Sys2Proof.Machine
end

section
/-! SUPPORT. What the units' and the modes' business leaves of the temperature trims: their values and whether they are frozen. Said
once for each operation and composed by transitivity. -/

namespace Sys2Proof.Machine
open Sys2Proof

/-! ## The frame of the trims -/

/-- `t` follows `s` with the trims where they were and frozen or not as before (R200). -/
structure TrimsStand (s t : State) : Prop where
  trims : t.milk.trims = s.milk.trims
  frozen : t.milk.frozen = s.milk.frozen

theorem TrimsStand.refl (s : State) : TrimsStand s s := ⟨rfl, rfl⟩

theorem TrimsStand.trans {s t u : State} (h : TrimsStand s t) (k : TrimsStand t u) : TrimsStand s u :=
  ⟨k.trims.trans h.trims, k.frozen.trans h.frozen⟩

theorem TrimsStand.ite {s t u : State} {c : Prop} [Decidable c] (h : c → TrimsStand s t) (k : ¬c → TrimsStand s u) :
    TrimsStand s (if c then t else u) := by
  split
  · exact h ‹_›
  · exact k ‹_›

theorem TrimsStand.foldl {α : Type} {f : State → α → State} (h : ∀ s a, TrimsStand s (f s a)) (l : List α) :
    ∀ s, TrimsStand s (l.foldl f s) := by
  induction l with
  | nil => exact .refl
  | cons a l ih => exact fun s => (h s a).trans (ih _)

/-- A change of anything but the milk round. -/
theorem TrimsStand.of_milk {s t : State} (h : t.milk = s.milk) : TrimsStand s t := ⟨by rw [h], by rw [h]⟩

theorem Noted.trimsStand {s t : State} (h : Noted s t) : TrimsStand s t := .of_milk (h.same State.milk fun _ _ _ _ _ _ _ => rfl)

theorem OnlyChg.trimsStand {s t : State} (h : OnlyChg s t) : TrimsStand s t := .of_milk (h.same State.milk fun _ _ _ => rfl)

theorem OnlyPorts.trimsStand {s t : State} (h : OnlyPorts s t) : TrimsStand s t := .of_milk (h.same State.milk fun _ _ => rfl)

theorem Replied.trimsStand {s t : State} (h : Replied s t) : TrimsStand s t := .of_milk (h.same State.milk fun _ _ _ _ => rfl)

theorem TrimsStand.setReg (s : State) (idx sub v : Nat) : TrimsStand s (s.setReg idx sub v) := .of_milk rfl

theorem TrimsStand.modRail (s : State) (r : Fin 16) (f : Rail → Rail) : TrimsStand s (s.modRail r f) := .of_milk rfl

/-- Changes of the mode, the sequencer, the sensors and the herd. -/
theorem TrimsStand.update (s : State) (md : Modes) (sqe : Sqe) (thm : Thermal) (herd : Herd) :
    TrimsStand s { s with md := md, sqe := sqe, thm := thm, herd := herd } := .of_milk rfl

/-! ## Rails and ports -/

theorem withdrawPg_trimsStand (s : State) (r : Fin 16) (loss : Bool) : TrimsStand s (withdrawPg s r loss) := by
  unfold withdrawPg
  extract_lets s1 s2
  have h2 : TrimsStand s s2 := .of_milk rfl
  exact .ite (fun _ => h2.trans (.ite (fun _ => (logOnly_noted s2 _ _ _).trimsStand) fun _ => .of_milk rfl)) fun _ => .of_milk rfl

theorem railChanged_trimsStand (s : State) (r : Fin 16) (old : RailState) (off : Bool) : TrimsStand s (railChanged s r old off) :=
  .ite (fun _ => .refl s) fun _ => .trans (.ite (fun _ => withdrawPg_trimsStand s r _) fun _ => .refl s) (.modRail _ r _)

theorem toRail_trimsStand (s : State) (r : Fin 16) (st : RailState) (off : Bool) : TrimsStand s (toRail s r st off) :=
  (TrimsStand.modRail s r _).trans (railChanged_trimsStand _ r _ off)

theorem startRail_trimsStand (s : State) (r : Fin 16) : TrimsStand s (startRail s r) :=
  have hports := (OnlyPorts.foldl (fun t n => startPort_onlyPorts t r n) (s.members r) _).trimsStand
  ((TrimsStand.modRail s r _).trans hports).trans (railChanged_trimsStand _ r _ false)

theorem railOff_trimsStand (s : State) (r : Fin 16) : TrimsStand s (railOff s r) := by
  unfold railOff
  extract_lets old s1 s2
  have h1 : TrimsStand s s1 := (OnlyPorts.foldl (endPort_onlyPorts .ready) _ s).trimsStand
  have h2 : TrimsStand s s2 := (h1.trans (.modRail s1 r _)).trans (railChanged_trimsStand _ r old true)
  exact .ite (fun _ => h2.trans (startRail_trimsStand s2 r)) fun _ => h2

theorem stopRail_trimsStand (s : State) (r : Fin 16) (forced : Bool) : TrimsStand s (stopRail s r forced) := by
  unfold stopRail
  extract_lets old s1
  have h1 : TrimsStand s s1 := .modRail s r _
  have off := h1.trans (railOff_trimsStand s1 r)
  have down := h1.trans (toRail_trimsStand s1 r .rampDown true)
  refine .ite (fun _ => ?_) fun _ => ?_
  · exact ((h1.trans (.modRail s1 r _)).trans (OnlyPorts.foldl (fun t n => releasePort_onlyPorts t n forced) _ _).trimsStand).trans
      (railChanged_trimsStand _ r old true)
  · split
    iterate 3 exact h1
    iterate 2 exact off
    · exact .ite (fun _ => off) fun _ => h1
    · exact .ite (fun _ => off) fun _ => down
    iterate 2 exact .ite (fun _ => down) fun _ => off

theorem writeEnable_trimsStand (s : State) (r : Fin 16) (v : Nat) : TrimsStand s (writeEnable s r v) := .of_milk rfl

theorem devDisable_trimsStand (s : State) (r : Fin 16) (forced : Bool) : TrimsStand s (devDisable s r forced) :=
  (writeEnable_trimsStand s r 0).trans (stopRail_trimsStand _ r forced)

theorem clearEnables_trimsStand (s : State) : TrimsStand s (clearEnables s) :=
  .foldl (fun t r => ((writeEnable_trimsStand t r 0).trans (withdrawPg_trimsStand _ r false)).trans (.modRail _ r _)) _ s

theorem holdRail_trimsStand (s : State) (r : Fin 16) (old : RailState) : TrimsStand s (holdRail s r old) :=
  have goes : ∀ st : RailState, TrimsStand s (s.modRail r fun x => { x with state := st }) := fun _ => .modRail s r _
  .ite (fun _ => .refl s) fun _ => .ite (fun _ => (goes .held).trans (railChanged_trimsStand _ r old false)) fun _ =>
    .ite (fun _ => .ite (fun _ => (goes .off).trans (startRail_trimsStand _ r))
      fun _ => (goes .off).trans (railChanged_trimsStand _ r old false)) fun _ => railChanged_trimsStand s r old false

theorem restartDwell_trimsStand (s : State) (r : Fin 16) : TrimsStand s (restartDwell s r) := by
  unfold restartDwell rephase
  split
  · exact .modRail s r _
  · exact (TrimsStand.modRail s r _).trans (OnlyPorts.foldl (fun t n => modPort_onlyPorts t n _) _ _).trimsStand

theorem applyHolds_trimsStand (s : State) : TrimsStand s (applyHolds s) := by
  refine (OnlyPorts.foldl holdPort_onlyPorts s.portList s).trimsStand.trans (.foldl (fun t x => ?_) _ _)
  have hold := holdRail_trimsStand t x.1 x.2
  exact .ite (fun _ => hold.trans (restartDwell_trimsStand _ x.1)) fun _ => hold

/-! ## Stores and the answers that wait for them -/

theorem showMailbox_trimsStand (s : State) (c : Fin 8) (code : Nat) : TrimsStand s (showMailbox s c code) := by
  refine .trans ?_ (pendSrc_noted _ 38).trimsStand
  exact .of_milk rfl

theorem endOwed_trimsStand (s : State) (p : HostPath) (fence : Bool) (code : Nat) : TrimsStand s (endOwed s p fence code) := by
  have hanswer : TrimsStand s (answerOwed s p fence code) := by
    refine .trans ?_ (sendReply_replied _ p _ code []).trimsStand
    exact .of_milk rfl
  have hwait : ∀ t c, TrimsStand t (endWaiting t c code) := fun t c =>
    have hmail := showMailbox_trimsStand t c code
    .ite (fun _ => hmail.trans (.of_milk rfl)) fun _ => hmail
  unfold endOwed
  split
  · exact hanswer.trans (hwait _ _)
  · exact hanswer

theorem answerKeys_trimsStand (s : State) (ws : List KeyWait) (code : Nat) : TrimsStand s (answerKeys s ws code) := by
  unfold answerKeys
  refine .foldl (fun t w => ?_) ws s
  split
  · exact .refl t
  · exact endOwed_trimsStand t _ false code

theorem undoLost_trimsStand (s : State) (cs : List StoreCause) : TrimsStand s (undoLost s cs) := by
  have hconfig : TrimsStand s (undoConfig s) := by
    unfold undoConfig
    split <;> exact .of_milk rfl
  have hkey : ∀ t, TrimsStand t (undoKey t) := fun t => by
    unfold undoKey
    split
    · exact .refl t
    · refine .trans ?_ (answerKeys_trimsStand _ _ _)
      exact .of_milk rfl
  have h1 : TrimsStand s (if cs.contains .config then undoConfig s else s) := .ite (fun _ => hconfig) fun _ => .refl s
  exact .ite (fun _ => h1.trans (hkey _)) fun _ => h1

theorem skipStore_trimsStand (s : State) (cs : List StoreCause) : TrimsStand s (skipStore s cs) := by
  unfold skipStore
  extract_lets _ _ s1 s2
  have h2 : TrimsStand s s2 := by
    refine .trans (.trans ?_ (undoLost_trimsStand _ cs)) (.setReg s1 _ _ _)
    exact .of_milk rfl
  have hlog : TrimsStand s2 (if s2.live then logOnly s2 0x0907 (unitCode 11 0) 0 else s2.owe 0x0907 (unitCode 11 0)) :=
    .ite (fun _ => (logOnly_noted s2 _ _ _).trimsStand) fun _ => .of_milk rfl
  exact h2.trans (hlog.trans (pendSrc_noted _ 36).trimsStand)

theorem startStore_trimsStand (s : State) (c : StoreCause) : TrimsStand s (startStore s c) := by
  unfold startStore
  extract_lets c1 s1
  have h1 : TrimsStand s s1 := .ite (fun _ => .of_milk rfl) fun _ => .ite (fun _ => .of_milk rfl) fun _ => .refl s
  exact h1.trans (.of_milk rfl)

theorem requestStore_trimsStand (s : State) (c : StoreCause) : TrimsStand s (requestStore s c) := by
  unfold requestStore
  split
  · refine .ite (fun _ => .trans ?_ (undoLost_trimsStand _ _)) fun _ => .of_milk rfl
    exact .of_milk rfl
  · exact .ite (fun _ => startStore_trimsStand s c) fun _ => .ite (fun _ => skipStore_trimsStand s _) fun _ =>
      .ite (fun _ => .of_milk rfl) fun _ => .of_milk rfl

end Sys2Proof.Machine
end

section
namespace Sys2Proof.Machine
open Sys2Proof

/-! ## The milk round stops and starts (R191, R192) -/

/-- Runs of rejected visits broken off, converter by converter. -/
theorem foldl_unreject (slot : Nat) (l : List (Fin 33)) : ∀ s : State,
    l.foldl (fun t c => if c.1 + 1 = slot then t.modSc c fun x => { x with rejects := 0 } else t) s =
      { s with sc := (l.foldl (fun t c => if c.1 + 1 = slot then t.modSc c fun x => { x with rejects := 0 } else t) s).sc } := by
  induction l with
  | nil => exact fun _ => rfl
  | cons c l ih =>
    intro s
    rw [List.foldl_cons, ih]
    split <;> rfl

/-- An abandoned visit breaks the runs of rejected visits, and changes nothing else. -/
theorem breakRun_frame (s : State) :
    breakRun s = { s with sc := (breakRun s).sc, milk := { s.milk with rejectRow := (breakRun s).milk.rejectRow } } := by
  unfold breakRun
  split
  · rw [foldl_unreject]
  · rfl

/-- The round stopped: its course ends, and beside it only runs of rejected visits. -/
theorem stopRound_frame (s : State) : stopRound s = { s with
    sc := (stopRound s).sc
    milk := { s.milk with running := false, slot := 0xFF, visit := .reset, rejectRow := 0, clean := s.milk.clean && !s.milk.running } } := by
  unfold stopRound
  rw [breakRun_frame]

theorem stopRound_trimsStand (s : State) : TrimsStand s (stopRound s) := by
  rw [stopRound_frame]
  exact ⟨rfl, rfl⟩

theorem startRound_trimsStand (s : State) : TrimsStand s (startRound s) := .ite (fun _ => ⟨rfl, rfl⟩) fun _ => .refl s

/-! ## Mode entries -/

theorem discardEnables_trimsStand (s : State) : TrimsStand s (discardEnables s) :=
  .foldl (f := fun t g => t.modGroup g _) (fun _ _ => .of_milk rfl) _ s

theorem herdSend_trimsStand (s : State) (frame : List Byte) : TrimsStand s (herdSend s frame) :=
  .ite (fun _ => .of_milk rfl) fun _ => .refl s

theorem startReadings_trimsStand (s : State) : TrimsStand s (startReadings s) := by
  refine .foldl (fun t i => .ite (fun _ => ?_) fun _ => .refl t) _ s
  unfold setEff noteMax
  split
  · exact .of_milk rfl
  · exact .ite (fun _ => .of_milk rfl) fun _ => .of_milk rfl

theorem rezone_trimsStand (s : State) : TrimsStand s (rezone s) := by
  unfold rezone judgeZone
  split
  all_goals
    refine .trans ?_ (chgSettle_onlyChg _).trimsStand
    exact .of_milk rfl

theorem modeResets_trimsStand (s : State) (m : Mode) : TrimsStand s (modeResets s m) := by
  rw [modeResets_watched]
  exact .of_milk rfl

theorem enterMode_trimsStand (s : State) (m : Mode) (cause : Nat) : TrimsStand s (enterMode s m cause) := by
  unfold enterMode
  extract_lets was pol _ _ _ s1 s2 s3 s4 s5 s6 s7
  have h1 : TrimsStand s s1 := .of_milk rfl
  have h2 : TrimsStand s1 s2 := .ite (fun _ => discardEnables_trimsStand s1) fun _ => .refl s1
  have h3 : TrimsStand s2 s3 := .ite (fun _ => clearEnables_trimsStand s2) fun _ => .refl s2
  have h4 : TrimsStand s3 s4 := modeResets_trimsStand s3 m
  have h5 : TrimsStand s4 s5 := .ite (fun _ => (stopRound_trimsStand s4).trans (startRound_trimsStand _)) fun _ =>
    .ite (fun _ => .refl s4) fun _ => stopRound_trimsStand s4
  have h6 : TrimsStand s5 s6 := .ite (fun _ => herdSend_trimsStand s5 _) fun _ => .refl s5
  have h7 : TrimsStand s6 s7 := .ite (fun _ => (startReadings_trimsStand s6).trans (rezone_trimsStand _)) fun _ => .refl s6
  have hend := (applyHolds_trimsStand s7).trans ((chgSettle_onlyChg _).trimsStand.trans (pendSrc_noted _ 24).trimsStand)
  exact ((((((h1.trans h2).trans h3).trans h4).trans h5).trans h6).trans h7).trans hend

/-- A mode entered with the scripts stopped. -/
theorem enterStopped_trimsStand (s : State) (m : Mode) (cause : Nat) : TrimsStand s (enterMode (stopSqe s) m cause) :=
  have h : TrimsStand s (stopSqe s) := .of_milk rfl
  h.trans (enterMode_trimsStand _ m cause)

/-! ## Modes, scripts and trips -/

theorem beginPowerDown_trimsStand (s : State) (cause : Nat) : TrimsStand s (beginPowerDown s cause) :=
  (enterStopped_trimsStand s .shutdown cause).trans (.update _ _ _ _ _)

theorem beginReversal_trimsStand (s : State) (cause : Nat) : TrimsStand s (beginReversal s cause) :=
  ((enterStopped_trimsStand s .shutdown cause).trans (.update _ _ _ _ _)).trans (.setReg _ _ _ _)

theorem beginStartup_trimsStand (s : State) (cause : Nat) : TrimsStand s (beginStartup s cause) := by
  unfold beginStartup
  extract_lets s1 _ _ _ _ s2
  have h1 : TrimsStand s s1 := (TrimsStand.setReg s 0x2000 8 _).trans (enterStopped_trimsStand (s.clrReg 0x2000 8 1) .startup cause)
  clear_value s1
  have h2 : TrimsStand s s2 := h1.trans (.of_milk rfl)
  exact .ite (fun _ => h2.trans (.update s2 _ _ _ _)) fun _ =>
    .ite (fun _ => (h2.trans (beginReversal_trimsStand s2 11)).trans (.update _ _ _ _ _)) fun _ => h2

theorem forceTiming_trimsStand (s : State) : TrimsStand s (forceTiming s) := by
  unfold forceTiming
  extract_lets _ s0 s1
  have h0 : TrimsStand s s0 := .of_milk rfl
  have h1 : TrimsStand s0 s1 :=
    .ite (fun _ => .foldl (fun t r => .ite (fun _ => stopRail_trimsStand t r true) fun _ => .refl t) _ s0) fun _ => .refl s0
  exact (h0.trans h1).trans (herdSend_trimsStand s1 _)

theorem enterStandby_trimsStand (s : State) (cause : Nat) : TrimsStand s (enterStandby s cause) := by
  unfold enterStandby
  extract_lets s1 _ _ _ s2
  have h2 : TrimsStand s1 s2 := .of_milk rfl
  exact ((enterStopped_trimsStand s .standby cause).trans h2).trans (requestStore_trimsStand s2 .standby)

theorem enterService_trimsStand (s : State) (cause : Nat) : TrimsStand s (enterService s cause) :=
  (enterStopped_trimsStand s .service cause).trans (.update _ _ _ _ _)

theorem offNow_trimsStand (s : State) (cause : Nat) : TrimsStand s (offNow s cause) := by
  have h1 : TrimsStand s (s.clrReg 0x2000 8 1) := .setReg s _ _ _
  unfold offNow
  split
  · exact h1.trans (beginReversal_trimsStand _ cause)
  iterate 2 exact h1.trans (beginPowerDown_trimsStand _ cause)
  · exact .ite (fun _ => (h1.trans (.setReg _ _ _ _)).trans (enterStandby_trimsStand _ cause)) fun _ => h1
  · exact .refl s

theorem forcedOff_trimsStand (s : State) (cause : Nat) : TrimsStand s (forcedOff s cause) :=
  have h := offNow_trimsStand s cause
  .ite (fun _ => .update s s.md s.sqe s.thm _) fun _ => .ite (fun _ => h.trans (forceTiming_trimsStand _)) fun _ => h

theorem stopNow_trimsStand (s : State) : TrimsStand s (stopNow s) := by
  unfold stopNow
  split
  · exact (beginReversal_trimsStand s 11).trans (.update _ _ _ _ _)
  iterate 2 exact (beginPowerDown_trimsStand s 11).trans (.update _ _ _ _ _)
  · have h1 : TrimsStand s (s.clrReg 0x2000 8 5) := .setReg s _ _ _
    exact .ite (fun _ => (h1.trans (.update _ _ _ _ _)).trans (enterStopped_trimsStand _ .safestop 11))
      fun _ => h1.trans (.update _ _ _ _ _)
  · exact ((TrimsStand.setReg s 0x2000 0x0D 0xFF).trans (.update _ _ _ _ _)).trans (applyHolds_trimsStand _)
  · exact .refl s

theorem orderlyStop_trimsStand (s : State) : TrimsStand s (orderlyStop s) :=
  .ite (fun _ => .update s s.md s.sqe _ _) fun _ => stopNow_trimsStand s

theorem trip_trimsStand (s : State) (hard : Bool) : TrimsStand s (trip s hard) := by
  unfold trip
  extract_lets _ s1 _ m s2
  have h1 : TrimsStand s s1 := .of_milk rfl
  have hstop : TrimsStand s1 (stopSqe s1) := .of_milk rfl
  have hmode : TrimsStand s1 s2 := (TrimsStand.update s1 m s1.sqe s1.thm s1.herd).trans (enterStopped_trimsStand _ .safestop 10)
  exact .ite (fun _ => h1) fun _ => .ite (fun _ => h1.trans hstop) fun _ => .ite
    (fun _ => ((h1.trans hstop).trans (applyHolds_trimsStand _)).trans (chgSettle_onlyChg _).trimsStand)
    fun _ => (h1.trans hmode).trans (.setReg s2 _ _ _)

/-! ### The ends of scripts -/

theorem setPos_trimsStand (s : State) (p : StepPos) : TrimsStand s (s.setPos p) := by
  unfold State.setPos
  split <;> exact .of_milk rfl

theorem idleSqe_trimsStand (s : State) : TrimsStand s (idleSqe s) := .of_milk rfl

theorem endDown_trimsStand (s : State) : TrimsStand s (endDown s) := by
  unfold endDown
  extract_lets left s1
  have h0 : TrimsStand s (setResets s 3 true) := .of_milk rfl
  have h1 : TrimsStand s s1 := h0.trans (.foldl (fun t r => devDisable_trimsStand t r true) left _)
  exact .ite (fun _ => h1) fun _ => h1.trans (.setReg _ _ _ _)

theorem afterDown_trimsStand (s : State) : TrimsStand s (afterDown s) := by
  unfold afterDown
  extract_lets s1 _
  have h1 : TrimsStand s s1 := (endDown_trimsStand s).trans (idleSqe_trimsStand _)
  exact .ite (fun _ => h1.trans (enterMode_trimsStand s1 .safestop 9)) fun _ =>
    .ite (fun _ => (h1.trans (.setReg s1 _ _ _)).trans (.update _ _ _ _ _)) fun _ =>
      .ite (fun _ => h1.trans (beginStartup_trimsStand s1 9)) fun _ =>
        .ite (fun _ => h1.trans (enterService_trimsStand s1 9)) fun _ => h1.trans (enterStandby_trimsStand s1 9)

theorem callPartial_trimsStand (s : State) (p : PartialRun) : TrimsStand s (callPartial s p) := by
  rw [callPartial_frame]
  exact .of_milk rfl

theorem tagRail_trimsStand (s : State) (r : Fin 16) : TrimsStand s (tagRail s r) := by
  unfold tagRail
  extract_lets s1
  have h1 : TrimsStand s s1 := .modRail s r _
  refine .ite (fun _ => ?_) fun _ => h1
  split
  · exact (h1.trans (.modRail s1 r _)).trans (callPartial_trimsStand _ _)
  · exact h1.trans (.modRail s1 r _)
  · exact h1

theorem enterHoldup_trimsStand (s : State) (cause : Nat) : TrimsStand s (enterHoldup s cause) := by
  unfold enterHoldup
  extract_lets s1 _ s2 s3
  have hat : TrimsStand s1 s2 := .of_milk rfl
  have h2 : TrimsStand s s2 := (enterMode_trimsStand s .holdup cause).trans hat
  have h3 : TrimsStand s s3 := (h2.trans (beginPowerDown_trimsStand s2 8)).trans (forceTiming_trimsStand _)
  have hdrop : TrimsStand s2 (dropRestarts s2) := .ite (fun _ => .of_milk rfl) fun _ => .of_milk rfl
  exact .ite (fun _ => .ite (fun _ => h2.trans (forcedOff_trimsStand s2 8)) fun _ => h3.trans (.update s3 _ _ _ _)) fun _ =>
    (h2.trans hdrop).trans (.foldl tagRail_trimsStand _ _)

theorem afterUp_trimsStand (s : State) : TrimsStand s (afterUp s) :=
  .ite (fun _ => (idleSqe_trimsStand s).trans (enterMode_trimsStand _ .run 9))
    fun _ => (idleSqe_trimsStand s).trans (enterHoldup_trimsStand _ 9)

theorem nextStep_trimsStand (s : State) : TrimsStand s (nextStep s) := by
  have told : ∀ (p : StepPos) h, TrimsStand s { s.setPos p with herd := h } := fun p h => (setPos_trimsStand s p).trans (.of_milk rfl)
  unfold nextStep
  extract_lets p
  split
  · exact .ite (fun _ => told _ _) fun _ => .ite (fun _ => setPos_trimsStand s _) fun _ => afterUp_trimsStand s
  iterate 2 exact .ite (fun _ => told _ _) fun _ => .ite (fun _ => setPos_trimsStand s _) fun _ => afterDown_trimsStand s
  · split
    · exact setPos_trimsStand s _
    · exact idleSqe_trimsStand s
  · exact .refl s
  · split
    · exact .refl s
    · exact .ite (fun _ => .of_milk rfl) fun _ => .of_milk rfl

end Sys2Proof.Machine
end

section
namespace Sys2Proof.Machine
open Sys2Proof

/-! ## Reports on units that no fence reaches -/

/-- A report on a unit outside Table 11-3 fences nothing: it is recorded, and raised to a fatal class it trips. -/
theorem collect_trimsStand (s : State) {code unit : U16} (hcode : code ∉ [0x0308, 0x0309, 0x0405])
    (hunit : unitKind unit = 0 ∨ unitKind unit = 9) (detail : U16) : TrimsStand s (collect s code unit detail) := by
  simp only [List.mem_cons, List.not_mem_nil, or_false, not_or] at hcode
  obtain ⟨hreplay, hengine, hrail⟩ := hcode
  by_cases hl : s.live = true
  · cases hr : s.rowFor code unit with
    | none => rw [collect, collectAt, if_pos hl, hr]; exact .refl s
    | some row =>
      have hrow : row.code = code := by
        rw [rowFor_of_ne s hrail] at hr
        simpa using List.find?_some hr
      have hfence : ∀ t c, fenceUnit t unit c = t := fun t c => by
        simp (disch := omega) only [fenceUnit, if_neg]
      have hnone : ∀ t cls, fencedFor t row cls unit = t := fun t cls => by
        simp only [fencedFor, hrow, hreplay, if_false, hfence, ite_self]
      have hrec := (recorded_noted s row hengine unit detail s.now).trimsStand
      rw [collect, collectAt_live hl hr, pay_eq, hnone]
      exact .ite (fun _ => hrec.trans (trip_trimsStand _ _)) fun _ => hrec
  · have hnote : TrimsStand s (aonReport s code unit) := .of_milk rfl
    rw [collect, collectAt, if_neg hl]
    exact .ite (fun _ => hnote.trans (trip_trimsStand _ false)) fun _ => .refl s

theorem abortUp_trimsStand (s : State) : TrimsStand s (abortUp s) :=
  have h := (TrimsStand.setReg s 0x2300 8 _).trans
    (collect_trimsStand (s.orReg 0x2300 8 0x10) (code := 0x0602) (unit := unitCode 9 0) (by decide) (by decide) (BitVec.ofNat 16 s.pos.step))
  .ite (fun _ => h) fun _ => h.trans (orderlyStop_trimsStand _)

theorem applyPolicy_trimsStand (s : State) (policy : Nat) : TrimsStand s (applyPolicy s policy) := by
  have forced : TrimsStand s (nextStep (forceTiming (s.orReg 0x2300 8 0x10))) :=
    ((TrimsStand.setReg s 0x2300 8 _).trans (forceTiming_trimsStand _)).trans (nextStep_trimsStand _)
  have restart : TrimsStand s (abortRestart s) :=
    .ite (fun _ => (abortUp_trimsStand s).trans (idleSqe_trimsStand _)) fun _ => abortUp_trimsStand s
  have handler : TrimsStand s (abortHandler s) :=
    .ite (fun _ => (abortUp_trimsStand s).trans (.of_milk rfl)) fun _ => abortUp_trimsStand s
  unfold applyPolicy
  refine .ite (fun _ => (setPos_trimsStand s _).trans (.of_milk rfl)) fun _ => ?_
  split
  · exact .ite (fun _ => .of_milk rfl) fun _ => .ite (fun _ => nextStep_trimsStand s) fun _ => abortUp_trimsStand s
  · exact .ite (fun _ => forced) fun _ => nextStep_trimsStand s
  · split
    · exact .ite (fun _ => restart) fun _ => nextStep_trimsStand s
    · exact .ite (fun _ => forced) fun _ => nextStep_trimsStand s
  · exact .ite (fun _ => handler) fun _ => nextStep_trimsStand s
  iterate 2 exact .refl s

theorem judgeWaits_trimsStand (s : State) : TrimsStand s (judgeWaits s) := by
  refine .ite (fun _ => .refl s) fun _ => ?_
  unfold failStep
  extract_lets step s1
  have h1 : TrimsStand s s1 := .of_milk rfl
  exact (h1.trans (logOnly_noted s1 _ _ _).trimsStand).trans (applyPolicy_trimsStand _ _)

/-- The report that the trims are frozen leaves them so, whatever it trips. -/
theorem report_frozen_trimsStand (s : State) : TrimsStand s (report s 0x0503 (devUnit 9) 0) :=
  (collect_trimsStand s (by decide) (by decide) 0).trans (judgeWaits_trimsStand _)

end Sys2Proof.Machine
end

section
namespace Sys2Proof.Machine
open Sys2Proof

/-! ## The round walks (R191, R192) -/

/-- `t` stands at the same slot of the same round as `s`, with the same visit; no register has changed. -/
structure SameSlot (s t : State) : Prop where
  variant : t.variant = s.variant
  regs : t.regs = s.regs
  running : t.milk.running = s.milk.running
  slot : t.milk.slot = s.milk.slot
  visit : t.milk.visit = s.milk.visit

theorem SameSlot.refl (s : State) : SameSlot s s := ⟨rfl, rfl, rfl, rfl, rfl⟩

theorem SameSlot.trans {s t u : State} (h : SameSlot s t) (k : SameSlot t u) : SameSlot s u :=
  ⟨k.variant.trans h.variant, k.regs.trans h.regs, k.running.trans h.running, k.slot.trans h.slot, k.visit.trans h.visit⟩

theorem SameSlot.reg {s t : State} (h : SameSlot s t) (idx sub : Nat) : t.reg idx sub = s.reg idx sub := by
  rw [State.reg, State.reg, h.variant, h.regs]

theorem breakRun_sameSlot (s : State) : SameSlot s (breakRun s) := by
  rw [breakRun_frame]
  exact ⟨rfl, rfl, rfl, rfl, rfl⟩

/-- The end of an abandoned visit accepts and rejects nothing. -/
theorem endVisit_sameSlot {s : State} (h : s.milk.visit.abandoned = true) (n : Fin 32) : SameSlot s (endVisit s n) := by
  have hbreak := breakRun_sameSlot s
  rw [endVisit]
  extract_lets v s1
  split
  · exact .refl s
  · exact ⟨hbreak.variant, hbreak.regs, hbreak.running, hbreak.slot, hbreak.visit⟩

theorem foldl_endVisit_sameSlot (slot : Nat) (l : List (Fin 32)) : ∀ s : State, s.milk.visit.abandoned = true →
    SameSlot s (l.foldl (fun t n => if n.1 + 1 = slot then endVisit t n else t) s) := by
  induction l with
  | nil => exact fun s _ => .refl s
  | cons n l ih =>
    intro s h
    have hone : SameSlot s (if n.1 + 1 = slot then endVisit s n else s) := by
      split
      · exact endVisit_sameSlot h n
      · exact .refl s
    exact hone.trans (ih _ (by rw [hone.visit]; exact h))

theorem endSlot_sameSlot {s : State} (hslot : s.milk.slot ≠ 0) (h : s.milk.visit.abandoned = true) : SameSlot s (endSlot s) := by
  rw [endSlot, if_neg hslot]
  exact foldl_endVisit_sameSlot _ _ s h

/-- Short of the last slot the next one begins. -/
theorem nextSlot_of_lt {s : State} (h : s.milk.slot < s.variant.ports) :
    (nextSlot s).milk.slot = s.milk.slot + 1 ∧ (nextSlot s).milk.running = s.milk.running := by
  rw [nextSlot, if_pos h]
  exact ⟨rfl, rfl⟩

/-- Past the last slot the round is counted, and the next begins at slot 0. -/
theorem nextSlot_of_last {s : State} (h : s.milk.slot = s.variant.ports) : (nextSlot s).milk.slot = 0 ∧
    (nextSlot s).milk.running = s.milk.running ∧ (nextSlot s).milk.roundOne = true ∧
    (nextSlot s).reg 0x3000 4 = min 0xFFFFFFFF (s.reg 0x3000 4 + 1) := by
  rw [nextSlot, if_neg (by omega)]
  refine ⟨rfl, rfl, rfl, ?_⟩
  show ((s.inc 0x3000 4).setReg 0x3000 5 s.now.toNat).reg 0x3000 4 = _
  rw [State.reg_setReg_ne _ _ (by decide), State.reg_inc]

theorem doMrSlotStart_abandoned {s : State} (hl : s.live = true) (hr : s.milk.running = true) (hslot : s.milk.slot ≠ 0)
    (h : s.milk.visit.abandoned = true) : doMrSlotStart s = nextSlot (endSlot s) := by
  rw [doMrSlotStart, if_pos ⟨hl, hr⟩]
  exact if_pos ((endSlot_sameSlot hslot h).running.trans hr)

/-- An abandoned visit's slot gives way to the next, and the last one to a round more. -/
theorem mrSlotStart_after {s : State} (hl : s.live = true) (hr : s.milk.running = true) (hpos : 1 ≤ s.milk.slot)
    (hports : s.milk.slot ≤ s.variant.ports) (h : s.milk.visit.abandoned = true) : s.after .mrSlotStart fun t =>
      t.milk.running = true ∧ (s.milk.slot < s.variant.ports → t.milk.slot = s.milk.slot + 1) ∧
        (s.milk.slot = s.variant.ports → t.milk.slot = 0 ∧ t.reg 0x3000 4 = min 0xFFFFFFFF (s.reg 0x3000 4 + 1) ∧ t.milk.roundOne = true) := by
  have hslot : s.milk.slot ≠ 0 := by omega
  have hsame := endSlot_sameSlot hslot h
  refine after_of_done (u := doMrSlotStart s) rfl ?_
  rw [doMrSlotStart_abandoned hl hr hslot h, settle_milk, settle_reg s _ (by decide)]
  rcases Nat.lt_or_eq_of_le hports with hlt | hlast
  · obtain ⟨hnext, hrun⟩ := nextSlot_of_lt (s := endSlot s) (by rw [hsame.slot, hsame.variant]; exact hlt)
    exact ⟨hrun.trans (hsame.running.trans hr), fun _ => by rw [hnext, hsame.slot], fun he => absurd he (by omega)⟩
  · obtain ⟨hzero, hrun, hone, hcount⟩ := nextSlot_of_last (s := endSlot s) (by rw [hsame.slot, hsame.variant]; exact hlast)
    exact ⟨hrun.trans (hsame.running.trans hr), fun he => absurd he (by omega), fun _ => ⟨hzero, by rw [hcount, hsame.reg], hone⟩⟩

/-! ## Ramps and stolen samples (R197–R199) -/

/-- An increment leaves what the converter holds and has collected. -/
theorem stepRamp_keeps (c : Conv) : c.stepRamp.buffer = c.buffer ∧ c.stepRamp.stolen = c.stolen := by
  unfold Conv.stepRamp
  split <;> exact ⟨rfl, rfl⟩

/-- A correction increment is one step of the ramp of its sense converter alone. -/
theorem correctionIncrement_after {s : State} (hl : s.live = true) (n : Fin 33) : s.after (.correctionIncrement (.sense n)) fun t =>
    t.sc[n] = s.sc[n].stepRamp ∧ ∀ m, m ≠ n → t.sc[m] = s.sc[m] := by
  have hdo : (doCorrectionIncrement (.sense n) s).sc = (s.modSc n Conv.stepRamp).sc := by
    simp only [doCorrectionIncrement, hl, if_true]
    split <;> rfl
  refine after_of_done (u := doCorrectionIncrement (.sense n) s) rfl ?_
  rw [settle_sc, hdo]
  exact ⟨State.modSc_sc_self s n _, fun m hm => State.modSc_sc_ne s _ hm⟩

/-- What a stolen sample makes of its converter, short of the set's last (R198, R199). -/
def Conv.steal (c : Conv) (raw : U16) : Conv :=
  { c.stepRamp with
    zeroSum := if c.stolen % 2 = 0 then c.zeroSum + raw.toNat else c.zeroSum
    refSum := if c.stolen % 2 = 0 then c.refSum else c.refSum + raw.toNat
    stolen := c.stolen + 1 }

/-- A stolen sample as it stands before the word is repeated: VC_CONVERGED where the ramp ends, and the converter. -/
def State.stolen (s : State) (k : Fin 16) (raw : U16) : State :=
  (if s.vc[k].settles then s.orReg 0x3000 8 (2 ^ k.1) else s).modVc k fun c => c.steal raw

theorem stolen_frame (s : State) (k : Fin 16) (raw : U16) :
    (s.stolen k raw).vc[k] = s.vc[k].steal raw ∧ (s.stolen k raw).rails = s.rails ∧ (s.stolen k raw).flt = s.flt := by
  unfold State.stolen
  split <;> exact ⟨State.modVc_vc_self .., rfl, rfl⟩

/-- A word to its rail changes of the voltage converters the last word alone. -/
theorem railWord_vc (s : State) (k : Fin 16) (w : Nat) : (railWord s k w).vc[k] = { s.vc[k] with lastWord := w } := by
  have h := superviseWord_lasts ((s.modVc k fun c => { c with lastWord := w }).modRail k fun x => x.take w) k w
  rw [railWord, h.vc, State.modRail_vc, State.modVc_vc_self]

/-- A sample stolen short of the set's last: the newest word held, if any, is repeated to the rail. -/
theorem doStolenSample_short {s : State} {k : Fin 16} (hl : s.live = true) (hen : (s.reg 0x3000 1).testBit 1 = true)
    (hm : s.md.mode = .run ∨ s.md.mode = .holdup) (hk : k.1 < s.variant.rails) (hf : s.flt.vc.getLsbD k.1 = false)
    (hn : s.vc[k].stolen < 255) (raw : U16) : doStolenSample k raw s = s.vc[k].buffer.head?.elim (s.stolen k raw) fun w =>
      railWord ((s.stolen k raw).modVc k fun c => c.push w) k (w.toNat % 65536) := by
  obtain ⟨hvc, -, hflt⟩ := stolen_frame s k raw
  have hbuf : (s.stolen k raw).vc[k].buffer = s.vc[k].buffer := by rw [hvc]; exact (stepRamp_keeps _).1
  rw [doStolenSample, if_pos ⟨hl, hen, hm, hk, hf⟩]
  extract_lets s1 s2 s3
  have h2 : s2 = s.stolen k raw := rfl
  have hshort : ¬256 ≤ s2.vc[k].stolen := by
    rw [h2, hvc]
    show ¬256 ≤ s.vc[k].stolen + 1
    omega
  have h3 : s3 = s2 := if_neg hshort
  clear_value s3
  rw [h3, h2, hflt, if_neg (Bool.eq_false_iff.mp hf), hbuf]
  generalize s.vc[k].buffer.head? = held
  cases held with
  | none => rfl
  | some w => rw [Option.elim_some]

/-- A stolen slot steps the ramp, counts its sample and repeats the newest word held. -/
theorem stolenSample_after {s : State} {k : Fin 16} (hl : s.live = true) (hen : (s.reg 0x3000 1).testBit 1 = true)
    (hm : s.md.mode = .run ∨ s.md.mode = .holdup) (hk : k.1 < s.variant.rails) (hf : s.flt.vc.getLsbD k.1 = false)
    (hn : s.vc[k].stolen < 255) (raw : U16) : s.after (.stolenSample k raw) fun t =>
      t.vc[k].stolen = s.vc[k].stolen + 1 ∧ t.vc[k].gain = s.vc[k].stepRamp.gain ∧ t.vc[k].offset = s.vc[k].stepRamp.offset
        ∧ (∀ w q, s.vc[k].buffer = w :: q → t.rails[k].words = (w.toNat % 65536 :: s.rails[k].words).take 16)
        ∧ (s.vc[k].buffer = [] → t.rails[k].words = s.rails[k].words) := by
  obtain ⟨hvc, hrails, -⟩ := stolen_frame s k raw
  refine after_of_done (u := doStolenSample k raw s) rfl ?_
  rw [doStolenSample_short hl hen hm hk hf hn, settle_vc, settle_rails]
  cases hb : s.vc[k].buffer with
  | nil =>
    rw [List.head?_nil, Option.elim_none, hvc, hrails]
    exact ⟨rfl, rfl, rfl, fun _ _ h => absurd h.symm (List.cons_ne_nil _ _), fun _ => rfl⟩
  | cons w q =>
    obtain ⟨hwords, -, -⟩ := railWord_takes ((s.stolen k raw).modVc k fun c => c.push w) k (w.toNat % 65536)
    rw [List.head?_cons, Option.elim_some, railWord_vc, hwords, State.modVc_vc_self, hvc, State.modVc_rails, hrails]
    refine ⟨rfl, rfl, rfl, fun v r h => ?_, fun h => absurd h (List.cons_ne_nil w q)⟩
    rw [(List.cons.inj h).1]

/-! ## Trims (R200, R201) -/

/-- Where one update leaves a trim: without a temperature where it was, else at most one step nearer to the table's value. -/
def stepTrim (i : Nat) (temp : Option Int) (now : Int) : Int := temp.elim now fun x => now + clampInt (-1) 1 (trimAt i x - now)

theorem stepTrim_bounded (i : Nat) (temp : Option Int) (now : Int) : (stepTrim i temp now - now).natAbs ≤ 1 := by
  cases temp with
  | none => simp [stepTrim]
  | some x =>
    show (now + clampInt (-1) 1 (trimAt i x - now) - now).natAbs ≤ 1
    unfold clampInt
    omega

theorem moveTrim_trims (s : State) (i : Fin 5) (temp : Option Int) :
    (moveTrim s i temp).milk.trims = s.milk.trims.set i.1 (stepTrim i.1 temp s.milk.trims[i]) i.2 := by
  cases temp with
  | none => exact (Vector.set_getElem_self i.2).symm
  | some x => rfl

theorem moveTrim_self (s : State) (i : Fin 5) (temp : Option Int) :
    (moveTrim s i temp).milk.trims[i] = stepTrim i.1 temp s.milk.trims[i] := by
  rw [moveTrim_trims]
  exact Vector.getElem_set_self i.2

theorem moveTrim_ne (s : State) {i j : Fin 5} (temp : Option Int) (h : j ≠ i) :
    (moveTrim s i temp).milk.trims[j] = s.milk.trims[j] := by
  rw [moveTrim_trims]
  exact Vector.getElem_set_ne i.2 j.2 fun e => h (Fin.ext e.symm)

theorem moveTrim_frozen (s : State) (i : Fin 5) (temp : Option Int) : (moveTrim s i temp).milk.frozen = s.milk.frozen := by
  cases temp <;> rfl

/-- Some trims moved one after the other, each with the temperature it uses. -/
def moveTrims (s : State) (l : List (Fin 5 × Option Int)) : State := l.foldl (fun t m => moveTrim t m.1 m.2) s

theorem moveTrims_frozen (l : List (Fin 5 × Option Int)) : ∀ s, (moveTrims s l).milk.frozen = s.milk.frozen := by
  induction l with
  | nil => exact fun _ => rfl
  | cons m l ih => exact fun s => (ih _).trans (moveTrim_frozen s m.1 m.2)

/-- A trim that is not named stands. -/
theorem moveTrims_of_notMem {i : Fin 5} (l : List (Fin 5 × Option Int)) : i ∉ l.map Prod.fst → ∀ s,
    (moveTrims s l).milk.trims[i] = s.milk.trims[i] := by
  induction l with
  | nil => exact fun _ _ => rfl
  | cons m l ih =>
    intro h s
    rw [List.map_cons, List.mem_cons, not_or] at h
    exact (ih h.2 _).trans (moveTrim_ne s m.2 h.1)

/-- Each trim moves by at most one step where no trim is named twice. -/
theorem moveTrims_bounded (i : Fin 5) (l : List (Fin 5 × Option Int)) : (l.map Prod.fst).Nodup → ∀ s,
    ((moveTrims s l).milk.trims[i] - s.milk.trims[i]).natAbs ≤ 1 := by
  induction l with
  | nil => exact fun _ s => by simp [moveTrims]
  | cons m l ih =>
    intro h s
    rw [List.map_cons, List.nodup_cons] at h
    show ((moveTrims (moveTrim s m.1 m.2) l).milk.trims[i] - s.milk.trims[i]).natAbs ≤ 1
    by_cases hi : i = m.1
    · subst hi
      rw [moveTrims_of_notMem l h.1, moveTrim_self]
      exact stepTrim_bounded _ _ _
    · rw [← moveTrim_ne s m.2 hi]
      exact ih h.2 _

/-- With a valid die sensor TRIM_UPDATE moves the trims 0 to 3. -/
theorem doTrimUpdate_moves {s : State} (hl : s.live = true) (h : s.dieMean ≠ none) :
    doTrimUpdate s = moveTrims { s with milk := { s.milk with frozen := false } }
      [(0, s.trimTemp 2), (1, s.trimTemp 0), (2, s.trimTemp 1), (3, s.trimTemp 2)] := by
  rw [doTrimUpdate, if_pos hl, if_neg h]
  rfl

/-- With none it freezes them, and reports it the first time. -/
theorem doTrimUpdate_freezes {s : State} (hl : s.live = true) (h : s.dieMean = none) :
    (doTrimUpdate s).milk.frozen = true ∧ (doTrimUpdate s).milk.trims = s.milk.trims := by
  rw [doTrimUpdate, if_pos hl, if_pos h]
  split
  · exact ⟨‹_›, rfl⟩
  · have k := report_frozen_trimsStand { s with milk := { s.milk with frozen := true } }
    exact ⟨k.frozen, k.trims⟩

theorem doAonTrimUpdate_moves {s : State} (hup : s.aonUp = true) (hm : s.md.mode ≠ .ship) :
    doAonTrimUpdate s = moveTrim s 4 (s.dieValid 3) := if_pos ⟨hup, hm⟩

/-! ## The obligation -/

/-- Settles O35: the end of an abandoned visit leaves the slot where it is, so that the next follows it; a repeated word is supervised
without a change of the converter; each trim is named once in an update, and no report of frozen trims moves one. -/
theorem milkRoundWalksItsSlots : Obligations.MilkRoundWalksItsSlots := by
  intro s
  refine ⟨fun hl => ⟨fun hr hpos hports hab => mrSlotStart_after hl hr hpos hports hab, correctionIncrement_after hl,
    fun k raw hen hm hk hf hn => stolenSample_after hl hen hm hk hf hn raw, fun k => ignores_of_done rfl, fun hd => ?_, fun hd => ?_⟩,
    fun hup hm => ?_⟩
  · refine after_of_done (u := doTrimUpdate s) rfl ?_
    rw [settle_milk, doTrimUpdate_moves hl hd]
    exact ⟨moveTrims_frozen _ _, moveTrims_of_notMem _ (by simp) _, fun i => moveTrims_bounded i _ (by simp) _⟩
  · refine after_of_done (u := doTrimUpdate s) rfl ?_
    rw [settle_milk]
    exact doTrimUpdate_freezes hl hd
  · refine after_of_done (u := doAonTrimUpdate s) rfl ?_
    rw [settle_milk, doAonTrimUpdate_moves hup hm]
    exact ⟨by rw [moveTrim_self]; exact stepTrim_bounded _ _ _, fun i hi => moveTrim_ne s _ hi⟩

end Sys2Proof.Machine
end

section
namespace Sys2Proof.Machine
open Sys2Proof

/-! ## A write of MR_CTRL (R191, R192, R198) -/

/-- The row of MR_CTRL: ROUND_EN and STEAL_EN, every other bit reserved. -/
def mrCtrlRow : Obj := ⟨0x01, 0x01, .num 1 false, .rw, 3, 0, 255, some 0x03⟩

theorem findObj_mrCtrl (v : Variant) : findObj v 0x3000 1 = some mrCtrlRow := by cases v <;> decide

/-- The item that a write of MR_CTRL makes. -/
def mrCtrlItem (x : Nat) : Item := { idx := 0x3000, sub := 1, obj := mrCtrlRow, val := x, bytes := leBytes 1 x }

theorem mrCtrl_keep {x : Nat} (h : x < 4) : mrCtrlRow.keep x = x := by
  show x &&& (2 ^ 2 - 1) = x
  rw [Nat.and_two_pow_sub_one_eq_mod, Nat.mod_eq_of_lt h]

theorem itemsOf_mrCtrl (v : Variant) {x : Nat} (h : x < 4) : itemsOf v [(0x3000, 1, leBytes 1 x)] = (0, [mrCtrlItem x]) := by
  have hval : mrCtrlRow.keep (leVal (leBytes 1 x)) = x := by rw [leVal_leBytes, Nat.mod_eq_of_lt (by omega), mrCtrl_keep h]
  have hlen : lengthOk 0x3000 1 mrCtrlRow (leBytes 1 x).length = true := by rw [leBytes_length]; rfl
  have hw : mrCtrlRow.writable = true := rfl
  simp [itemsOf, itemOf, findObj_mrCtrl, hw, hlen, hval, mrCtrlItem]

/-- No field is related to MR_CTRL. -/
theorem valuesCode_mrCtrl (s : State) (looks : List Look) {x : Nat} (h : x < 4) : valuesCode s looks [(0x3000, 1, x)] = 0 := by
  have hval : valueOk s.variant mrCtrlRow 0x3000 1 x = true := by
    have hmax : (x : Int) ≤ 255 := by omega
    have henc : encodingOk s.variant 0x3000 1 x = true := rfl
    have hvalue : mrCtrlRow.value x = x := rfl
    have hbounds : mrCtrlRow.min = 0 ∧ mrCtrlRow.max = 255 := ⟨rfl, rfl⟩
    simp [valueOk, mrCtrl_keep h, hvalue, hbounds, hmax, henc]
  have hrel : looks.foldl (fun c l =>
      if c ≠ 0 then c else if relatedOk s l 0x3000 1 then mapCode s.variant l 0x3000 1 x else 0x06090030) 0 = 0 :=
    foldl_code_zero _ looks fun _ _ => rfl
  simp only [valuesCode, List.foldl_cons, List.foldl_nil, findObj_mrCtrl, hval, hrel]
  rfl

/-- Check 9 asks a free rover of a write that sets ROUND_EN (R191). -/
theorem nowCode_mrCtrl (s : State) (look : Look) (x : Nat) :
    nowCode s look [(0x3000, 1, x)] = if x.testBit 0 && s.milk.noSpare then notNow else 0 := by
  have hnow : nowCode s look [(0x3000, 1, x)] = if !(x.testBit 0 && s.milk.noSpare) then 0 else notNow := rfl
  rw [hnow]
  cases x.testBit 0 && s.milk.noSpare <;> rfl

theorem lateCode_mrCtrl (s : State) (p : HostPath) {x : Nat} (h : x < 4) :
    lateCode s p none [mrCtrlItem x] = if x.testBit 0 && s.milk.noSpare then notNow else 0 := by
  have hnums : numsOf [mrCtrlItem x] = [(0x3000, 1, x)] := rfl
  simp only [lateCode, hnums, valuesCode_mrCtrl s _ h, nowCode_mrCtrl]
  split <;> rfl

/-- No write waits with a value of the milk round. -/
theorem olderOf_milk (s : State) : s.olderOf [0x3000] = [] := sharing_nil _

theorem acceptNow_mrCtrl (s : State) (p : HostPath) (x : Nat) : acceptNow s p [mrCtrlItem x] = writeMrCtrl s x :=
  acceptNow_one rfl (olderOf_milk s) p

theorem startRound_reg (s : State) (idx sub : Nat) : (startRound s).reg idx sub = s.reg idx sub := by
  unfold startRound
  split <;> rfl

theorem stopRound_reg (s : State) (idx sub : Nat) : (stopRound s).reg idx sub = s.reg idx sub := by
  rw [stopRound_frame]
  rfl

/-- Whatever the round does, MR_CTRL reads what was written. -/
theorem writeMrCtrl_reg (s : State) (x : Nat) : (writeMrCtrl s x).reg 0x3000 1 = x := by
  have hset : (s.setReg 0x3000 1 x).reg 0x3000 1 = x := State.reg_setReg ..
  unfold writeMrCtrl
  extract_lets was s1
  split
  · split
    · exact hset
    · exact (startRound_reg s1 _ _).trans hset
  · exact (stopRound_reg s1 _ _).trans hset

theorem writeMrCtrl_fences (s : State) (x : Nat) : (writeMrCtrl s x).cmt.fences = s.cmt.fences := by
  unfold writeMrCtrl
  extract_lets was s1
  split
  · split
    · rfl
    · exact (startRound_unitWork s1).modes.fences
  · exact (stopRound_unitWork s1).modes.fences

/-- ROUND_EN written to 0 stops the round (R192). -/
theorem writeMrCtrl_stops (s : State) {x : Nat} (h : x.testBit 0 = false) : (writeMrCtrl s x).milk.running = false := by
  rw [writeMrCtrl, h]
  rfl

/-- ROUND_EN changed from 0 to 1 in RUN, with a rover free, starts the round from slot 0 (R191). -/
theorem writeMrCtrl_starts {s : State} {x : Nat} (hm : s.md.mode = .run) (hspare : s.milk.noSpare = false)
    (hwas : (s.reg 0x3000 1).testBit 0 = false) (h : x.testBit 0 = true) :
    (writeMrCtrl s x).milk.running = true ∧ (writeMrCtrl s x).milk.slot = 0 := by
  have hbit : ((s.setReg 0x3000 1 x).reg 0x3000 1).testBit 0 = true := by rw [State.reg_setReg, h]
  have hgo : ((s.setReg 0x3000 1 x).reg 0x3000 1).testBit 0 && !(s.setReg 0x3000 1 x).milk.noSpare &&
      ((s.setReg 0x3000 1 x).md.mode == .run || (s.setReg 0x3000 1 x).md.mode == .holdup) := by
    simp [hbit, hspare, hm]
  have hstart : writeMrCtrl s x = startRound (s.setReg 0x3000 1 x) := by
    simp only [writeMrCtrl, hwas, h, if_true, Bool.false_eq_true, if_false]
  rw [hstart, startRound, if_pos hgo]
  exact ⟨rfl, rfl⟩

/-! ## Bits set and cleared -/

theorem withBit_lt {x i : Nat} (h : x < 4) (hi : i < 2) : withBit x i < 4 :=
  Nat.or_lt_two_pow (n := 2) h (Nat.pow_lt_pow_right (by decide) hi)

theorem withoutBit_le (x i : Nat) : withoutBit x i ≤ x := by
  unfold withoutBit
  split
  · exact Nat.sub_le x _
  · exact Nat.le_refl x

theorem testBit_withBit_self (x i : Nat) : (withBit x i).testBit i = true := by
  rw [withBit, Nat.testBit_or, Nat.testBit_two_pow_self, Bool.or_true]

theorem testBit_withBit_ne (x : Nat) {i j : Nat} (h : i ≠ j) : (withBit x i).testBit j = x.testBit j := by
  rw [withBit, Nat.testBit_or, Nat.testBit_two_pow_of_ne h, Bool.or_false]

/-- Of the two bits of MR_CTRL one is cleared and the other stands. -/
theorem testBit_withoutBit {x : Nat} (h : x < 4) : (withoutBit x 0).testBit 0 = false ∧ (withoutBit x 1).testBit 1 = false ∧
    (withoutBit x 1).testBit 0 = x.testBit 0 := by
  revert x
  decide

/-! ## The write and its answer -/

/-- A value of MR_CTRL that its checks let pass acts, and is answered as accepted. -/
theorem mrCtrl_accepted {s : State} {p : HostPath} (h : s.hears p) {x : Nat} (hx : x < 4)
    (hok : (x.testBit 0 && s.milk.noSpare) = false) : Replied (writeMrCtrl (granted s p) x) (hostPut s p 0x3000 1 1 x) ∧
      (hostPut s p 0x3000 1 1 x).took p := by
  have hlate : lateCode (granted s p) p none [mrCtrlItem x] = 0 := by
    have hmilk : (granted s p).milk = s.milk := by rw [granted_regs]
    rw [lateCode_mrCtrl _ p hx, hmilk, hok]
    rfl
  have hacts := acceptNow_mrCtrl (granted s p) p x
  rw [← hacts]
  exact hostWrite_accepted h (by simp) (itemsOf_mrCtrl _ hx) hlate (by rw [hacts, writeMrCtrl_fences])

/-- ROUND_EN 1 with no rover free is refused, and nothing else changes (R191). -/
theorem mrCtrl_refused {s : State} {p : HostPath} (h : s.hears p) {x : Nat} (hx : x < 4) (hbit : x.testBit 0 = true)
    (hspare : s.milk.noSpare = true) : Replied (granted s p) (hostPut s p 0x3000 1 1 x) ∧ (hostPut s p 0x3000 1 1 x).turnedAway p notNow := by
  have hregs := granted_regs s p
  have hmilk : (granted s p).milk = s.milk := by rw [hregs]
  have hon : (granted s p).coreOn = true := by rw [hregs]; exact ready_coreOn h.1
  rw [hostPut, hostWrite_hears h]
  generalize granted s p = g at *
  have hitems := itemsOf_mrCtrl g.variant hx
  have hlate : lateCode g p none [mrCtrlItem x] = notNow := by
    rw [lateCode_mrCtrl g p hx, hbit, hmilk, hspare]
    rfl
  have hnote : noteRefusal g [mrCtrlItem x] = g := rfl
  rw [writeCore_refuses hon (by rw [hitems]) (by rw [hitems, hlate]; decide), hitems, hlate, hnote, answerWrite_refused (by decide)]
  exact ⟨(answer_replied g p _ []).trans (noteTw_replied _ p _), by rw [State.turnedAway, noteTw_paths]; exact (answer_abort g p _ []).1⟩

/-- A command that writes MR_CTRL is accepted: the register, and with it the round, are what the write makes them. -/
theorem mrCtrl_after {s : State} {p : HostPath} (h : s.hears p) {c : Instr} {x : Nat} (hc : exec c s = done s (hostPut s p 0x3000 1 1 x))
    (hx : x < 4) (hok : (x.testBit 0 && s.milk.noSpare) = false) : s.after c fun t =>
      t.took p ∧ t.reg 0x3000 1 = x ∧ t.milk = (writeMrCtrl (granted s p) x).milk := by
  obtain ⟨hreply, htook⟩ := mrCtrl_accepted h hx hok
  refine after_of_done hc ⟨htook, ?_, ?_⟩
  · rw [hreply.settle_reg s (by decide), writeMrCtrl_reg]
  · rw [settle_milk, hreply.same State.milk fun _ _ _ _ => rfl]

theorem after_mono {s : State} {c : Instr} {P Q : State → Prop} (h : s.after c P) (k : ∀ t, P t → Q t) : s.after c Q := by
  obtain ⟨t, hexec, hp⟩ := h
  exact ⟨t, hexec, k t hp⟩

/-- Settles O36: the four commands write MR_CTRL with one bit changed; check 9 asks a free rover of a write with ROUND_EN set. -/
theorem milkRoundSwitches : Obligations.MilkRoundSwitches := by
  intro s p h hx
  have hon := withBit_lt hx (i := 0) (by decide)
  have hoff : ∀ i, withoutBit (s.reg 0x3000 1) i < 4 := fun i => (withoutBit_le _ i).trans_lt hx
  have hset : (withBit (s.reg 0x3000 1) 0).testBit 0 = true := testBit_withBit_self _ 0
  obtain ⟨hclear, hsteal, hround⟩ := testBit_withoutBit hx
  refine ⟨fun hspare => ?_, fun hspare => ?_, ?_, fun hspare => ?_, fun hspare => ?_⟩
  · refine after_mono (mrCtrl_after h rfl hon (by simp [hspare])) fun t ⟨htook, hreg, hmilk⟩ => ?_
    rw [hreg, hmilk]
    refine ⟨htook, hset, testBit_withBit_ne _ (by decide), fun hm hwas => writeMrCtrl_starts ?_ ?_ ?_ hset⟩
    · rw [granted_regs]; exact hm
    · rw [granted_regs]; exact hspare
    · rw [granted_reg s p (by decide)]; exact hwas
  · obtain ⟨hreply, haway⟩ := mrCtrl_refused h hon hset hspare
    refine after_of_done (u := hostPut s p 0x3000 1 1 _) rfl ⟨haway, ?_⟩
    rw [hreply.settle_reg s (by decide), granted_reg s p (by decide)]
  · refine after_mono (mrCtrl_after h rfl (hoff 0) (by simp [hclear])) fun t ⟨htook, hreg, hmilk⟩ => ?_
    rw [hreg, hmilk]
    exact ⟨htook, hclear, writeMrCtrl_stops _ hclear⟩
  · refine after_mono (mrCtrl_after h rfl (withBit_lt hx (i := 1) (by decide)) (by simp [hspare])) fun t ⟨htook, hreg, _⟩ => ?_
    rw [hreg]
    exact ⟨htook, testBit_withBit_self _ 1, testBit_withBit_ne _ (by decide)⟩
  · refine after_mono (mrCtrl_after h rfl (hoff 1) (by simp [hspare])) fun t ⟨htook, hreg, _⟩ => ?_
    rw [hreg]
    exact ⟨htook, hsteal, hround⟩

end Sys2Proof.Machine
end

section
/-! SUPPORT. Sequencing and supervision: reports that repeat and trip, the front panel, the frames of the herd. -/

namespace Sys2Proof.Machine
open Sys2Proof

/-! ## A second report of class U trips (R302) -/

/-- What holds after a command holds of its effect settled. -/
theorem of_after {s u : State} {c : Instr} {P : State → Prop} (hc : exec c s = done s u) (h : s.after c P) : P (settle s u) := by
  obtain ⟨t, ht, hp⟩ := h
  injection ht.symm.trans hc with e
  exact e ▸ hp

/-- A class U report that no host has acknowledged. -/
def openReport (code unit : U16) : LogEntry :=
  { seq := 1, stamp := 0, code := code, unit := unit, cls := .u, ack := .h, esc := false, acked := false, fromAon := false,
    conseq := false, mode := .run, detail := 0, pos := 0, quiet := false, held := false }

/-- The device open in a mode, its supplies good and its links running, one such report in its log. -/
def reported (m : Mode) (code unit : U16) : State :=
  { State.reset with
    pwr := { Power.reset with step := .running, vsys := .ok, vin := true }
    md := { Modes.reset with mode := m }
    can := { Can.reset with links := Vector.replicate 2 { LinkState.reset with enabled := true } }
    ks := { Keep.reset with sram := { Array_.reset with log := [openReport code unit] } } }

/-- STARTUP, after an earlier abort: step 0 of the power-up waits for rail 0's power-good under policy 2, abort. -/
def abortsAgain : State :=
  { reported .startup 0x0602 (unitCode 9 0) with
    sqe := { Sqe.reset with stat := .powerUp, step := 0, phase := .wait, begun := true }
    regs := [(key 0x2300 2, 1), (key 0x2340 3, 1), (key 0x2340 4, 1), (key 0x2340 5, 100), (key 0x2340 6, 2)] }

/-- The abort's report 0x0602 repeats one of its unit, so R302 records it in class F, which trips: SAFESTOP, and no reversal. -/
theorem abortsAgain_trips : (doStepTimeout abortsAgain).md.mode = .safestop := by decide +kernel

/-- Refutes O24: a step's time-out under policy 2 trips where an earlier abort's report is not yet acknowledged (R302). -/
theorem not_sequenceStepsRun : ¬Obligations.SequenceStepsRun := by
  intro h
  obtain ⟨hscript, -⟩ := h abortsAgain (by decide +kernel) (by decide +kernel)
  obtain ⟨-, -, htimeout⟩ := hscript (.inl rfl)
  obtain ⟨-, -, habort, -⟩ := htimeout rfl (by decide +kernel) (by decide +kernel) rfl (by decide +kernel)
  obtain ⟨-, -, hmode, -⟩ := of_after (u := doStepTimeout abortsAgain) rfl (habort (by decide +kernel) (by decide +kernel) rfl)
  rw [settle_md, abortsAgain_trips] at hmode
  exact nomatch hmode

/-- The same power-up halted at its step. -/
def haltsAgain : State := { abortsAgain with sqe := { abortsAgain.sqe with stat := .halted } }

/-- SEQ_CMD 3 makes the same report. -/
theorem haltsAgain_trips : (hostPut haltsAgain .canA 0x2300 7 1 3).md.mode = .safestop := by decide +kernel

theorem haltsAgain_hears : haltsAgain.hears .canA := by unfold State.hears; decide +kernel

/-- Refutes O25: an abort in STARTUP trips where an earlier abort's report is not yet acknowledged (R302). -/
theorem not_haltedScriptCommands : ¬Obligations.HaltedScriptCommands := by
  intro h
  obtain ⟨hhalted, -⟩ := h haltsAgain .canA haltsAgain_hears
  obtain ⟨-, -, habort⟩ := hhalted rfl
  obtain ⟨-, -, hstartup⟩ := of_after (u := hostPut haltsAgain .canA 0x2300 7 1 3) rfl habort
  obtain ⟨hmode, -⟩ := hstartup rfl (by decide +kernel)
  rw [settle_md, haltsAgain_trips] at hmode
  exact nomatch hmode

/-- A follower in RUN, node 3 of its herd, that has lost its master before. -/
def losesMasterAgain : State :=
  { reported .run 0x0604 (unitCode 0x0A 0) with
    pwr := { (reported .run 0x0604 (unitCode 0x0A 0)).pwr with strap := 3 }
    regs := [(key 0x2D00 1, 1)] }

/-- The loss's report 0x0604 repeats one of the herd bus, so R302 records it in class F: a trip takes the place of the orderly stop. -/
theorem losesMasterAgain_trips : (doHerdMasterLost losesMasterAgain).md.mode = .safestop := by decide +kernel

/-- Refutes O48: a follower in RUN that loses its master trips where an earlier loss is not yet acknowledged (R302). -/
theorem not_masterRunsTheHerd : ¬Obligations.MasterRunsTheHerd := by
  intro h
  obtain ⟨-, hlost, -⟩ := h losesMasterAgain
  obtain ⟨-, -, hstops⟩ := of_after (u := doHerdMasterLost losesMasterAgain) rfl (hlost (by decide +kernel))
  obtain ⟨hmode, -⟩ := hstops (.inl rfl)
  rw [settle_md, losesMasterAgain_trips] at hmode
  exact nomatch hmode

end Sys2Proof.Machine
end

section
namespace Sys2Proof.Machine
open Sys2Proof

/-! ## What the modes' business leaves of the sequencer's object -/

/-- `t` reads as `s` in every register of the sequencer's object but SEQ_FLAGS. -/
structure SeqRegs (s t : State) : Prop where
  reg : ∀ {sub}, sub < 256 → sub ≠ 8 → t.reg 0x2300 sub = s.reg 0x2300 sub

theorem SeqRegs.refl (s : State) : SeqRegs s s := ⟨fun _ _ => rfl⟩

theorem SeqRegs.trans {s t u : State} (h : SeqRegs s t) (k : SeqRegs t u) : SeqRegs s u :=
  ⟨fun hs h8 => (k.reg hs h8).trans (h.reg hs h8)⟩

theorem SeqRegs.ite {s t u : State} {c : Prop} [Decidable c] (h : c → SeqRegs s t) (k : ¬c → SeqRegs s u) :
    SeqRegs s (if c then t else u) := by
  split
  · exact h ‹_›
  · exact k ‹_›

/-- A change of no register. -/
theorem SeqRegs.of_same {s t : State} (h : (t.variant, t.regs) = (s.variant, s.regs)) : SeqRegs s t := by
  simp only [Prod.mk.injEq] at h
  obtain ⟨hv, hr⟩ := h
  exact ⟨fun _ _ => by rw [State.reg, State.reg, hv, hr]⟩

/-- Changes of the mode, the sequencer, the sensors, the herd, the supplies, the pins and the links. -/
theorem SeqRegs.update (s : State) (md : Modes) (sqe : Sqe) (thm : Thermal) (herd : Herd) (pwr : Power) (pins : Pins) (can : Can) :
    SeqRegs s { s with md := md, sqe := sqe, thm := thm, herd := herd, pwr := pwr, pins := pins, can := can } := .of_same rfl

theorem SeqRegs.device (s : State) {sub : Nat} (v : Nat) (h : sub < 256) : SeqRegs s (s.setReg 0x2000 sub v) :=
  ⟨fun {j} hj _ => State.reg_setReg_ne s v (by show (0x2300 * 256 + j : Nat) ≠ 0x2000 * 256 + sub; omega)⟩

theorem SeqRegs.flags (s : State) (v : Nat) : SeqRegs s (s.setReg 0x2300 8 v) :=
  ⟨fun {j} _ h8 => State.reg_setReg_ne s v (by show (0x2300 * 256 + j : Nat) ≠ 0x2300 * 256 + 8; omega)⟩

theorem UnitWork.seqRegs {s t : State} (h : UnitWork s t) : SeqRegs s t := ⟨fun hs _ => h.reg ⟨hs, .inr (.inl rfl)⟩⟩

/-- A mode entered, the scripts stopped first. -/
theorem stopped_seqRegs (s : State) (m : Mode) (cause : Nat) : SeqRegs s (enterMode (stopSqe s) m cause) :=
  ⟨fun hs _ => enterMode_reg ⟨hs, .inr (.inl rfl)⟩ _ m cause⟩

theorem beginPowerDown_seqRegs (s : State) (cause : Nat) : SeqRegs s (beginPowerDown s cause) :=
  (stopped_seqRegs s .shutdown cause).trans (.update _ _ _ _ _ _ _ _)

theorem beginReversal_seqRegs (s : State) (cause : Nat) : SeqRegs s (beginReversal s cause) :=
  ((stopped_seqRegs s .shutdown cause).trans (.update _ _ _ _ _ _ _ _)).trans (.flags _ _)

theorem beginStartup_seqRegs (s : State) (cause : Nat) : SeqRegs s (beginStartup s cause) := by
  unfold beginStartup
  extract_lets s1 _ _ _ _ s2
  have h2 : SeqRegs s s2 := ((SeqRegs.device s _ (by decide)).trans (stopped_seqRegs (s.clrReg 0x2000 8 1) .startup cause)).trans
    (.update _ _ _ _ _ _ _ _)
  exact .ite (fun _ => h2.trans (.update _ _ _ _ _ _ _ _))
    (fun _ => .ite (fun _ => (h2.trans (beginReversal_seqRegs s2 11)).trans (.update _ _ _ _ _ _ _ _)) (fun _ => h2))

theorem enterStandby_seqRegs (s : State) (cause : Nat) : SeqRegs s (enterStandby s cause) :=
  ((stopped_seqRegs s .standby cause).trans (.update _ _ _ _ _ _ _ _)).trans (requestStore_unitWork _ .standby).seqRegs

/-- The state that forced timing starts from: marked in the sequencer and in both flag registers (R218). -/
def forcedFrom (s : State) : State := (({ s with sqe := { s.sqe with forced := true } }).orReg 0x2300 8 4).orReg 0x2000 8 8

/-- Beside its marks, forced timing turns rails off and tells the herd. -/
theorem forceTiming_unitWork (s : State) : UnitWork (forcedFrom s) (forceTiming s) := by
  unfold forceTiming
  extract_lets _ s0 s1
  have h1 : UnitWork s0 s1 := .ite (fun _ => .foldl (fun t r => .ite (fun _ => stopRail_unitWork t r true) (fun _ => .refl t)) _ s0)
    (fun _ => .refl s0)
  exact h1.trans (herdSend_unitWork s1 _)

theorem forceTiming_seqRegs (s : State) : SeqRegs s (forceTiming s) :=
  have marked : SeqRegs s (forcedFrom s) :=
    ((SeqRegs.update s s.md _ s.thm s.herd s.pwr s.pins s.can).trans (.flags _ _)).trans (.device _ _ (by decide))
  marked.trans (forceTiming_unitWork s).seqRegs

theorem forceTiming_md (s : State) : (forceTiming s).md = s.md := by rw [(forceTiming_unitWork s).frame]; rfl

theorem forceTiming_sqe (s : State) : (forceTiming s).sqe = { s.sqe with forced := true } := by rw [(forceTiming_unitWork s).frame]; rfl

theorem offNow_seqRegs (s : State) (cause : Nat) : SeqRegs s (offNow s cause) := by
  have h1 : SeqRegs s (s.clrReg 0x2000 8 1) := .device s _ (by decide)
  unfold offNow
  split
  · exact h1.trans (beginReversal_seqRegs _ cause)
  iterate 2 exact h1.trans (beginPowerDown_seqRegs _ cause)
  · exact .ite (fun _ => (h1.trans (.device _ _ (by decide))).trans (enterStandby_seqRegs _ cause)) (fun _ => h1)
  · exact .refl s

theorem onNow_seqRegs (s : State) (cause : Nat) : SeqRegs s (onNow s cause) := by
  unfold onNow
  split
  · exact .device s _ (by decide)
  · exact .ite (fun _ => .device s _ (by decide)) (fun _ => beginStartup_seqRegs s cause)
  · exact (UnitWork.foldl (fun t r => devDisable_unitWork t r true) s.railList s).seqRegs.trans (beginStartup_seqRegs _ cause)
  · exact .refl s

theorem forcedOff_seqRegs (s : State) (cause : Nat) : SeqRegs s (forcedOff s cause) :=
  have h := offNow_seqRegs s cause
  .ite (fun _ => .update s s.md s.sqe s.thm _ s.pwr s.pins s.can) (fun _ => .ite (fun _ => h.trans (forceTiming_seqRegs _)) (fun _ => h))

theorem offRequest_seqRegs (s : State) (cause : Nat) : SeqRegs s (offRequest s cause) :=
  .ite (fun _ => .update s s.md s.sqe s.thm _ s.pwr s.pins s.can) (fun _ => offNow_seqRegs s cause)

theorem onRequest_seqRegs (s : State) (cause : Nat) : SeqRegs s (onRequest s cause) :=
  .ite (fun _ => .update s s.md s.sqe s.thm _ s.pwr s.pins s.can) (fun _ => onNow_seqRegs s cause)

theorem pinAct_seqRegs (s : State) (b : Nat) : SeqRegs s (pinAct s b) := by
  unfold pinAct
  split
  · exact .ite (fun _ => onRequest_seqRegs s 2) (fun _ => .refl s)
  · exact .ite (fun _ => forcedOff_seqRegs s 3) (fun _ => .refl s)
  · exact .ite (fun _ => enterStandby_seqRegs s 12) (fun _ => .refl s)
  · refine .ite (fun _ => ?_) (fun _ => .refl s)
    split
    · exact offRequest_seqRegs s 14
    · exact forcedOff_seqRegs s 14
    · exact .refl s
  · exact .refl s

end Sys2Proof.Machine
end

section
namespace Sys2Proof.Machine
open Sys2Proof

/-! ## Front-panel inputs (R233–R236) -/

/-- A pin event that the collector takes sets its bit of PIN_EVT and is logged (R233). -/
theorem pinEvent_unitWork {s : State} {b : Nat} (hl : s.live = true) (hm : s.md.mode ≠ .ship ∨ b < 3) (hb : b ≠ 8) :
    UnitWork (s.orReg 0x2300 0x0F (2 ^ b)) (pinEvent s b) := by
  have hheard : ¬(s.md.mode = .ship ∧ 3 ≤ b) := fun ⟨hship, hge⟩ => hm.elim (absurd hship) (by omega)
  rw [pinEvent, if_neg hheard, if_pos hl, if_neg hb]
  exact logOnly_unitWork _ _ _ _

/-- The event of a pin stands in PIN_EVT after it. -/
theorem pinEvent_bit {s : State} {b : Nat} (hl : s.live = true) (hm : s.md.mode ≠ .ship ∨ b < 3) (hb : b ≠ 8) :
    ((pinEvent s b).reg 0x2300 0x0F).testBit b = true := by
  rw [(pinEvent_unitWork hl hm hb).reg ⟨by decide, .inr (.inl rfl)⟩, State.reg_orReg, Nat.testBit_or, Nat.testBit_two_pow_self, Bool.or_true]

theorem pinEvent_herdFollows {s : State} {b : Nat} (hl : s.live = true) (hm : s.md.mode ≠ .ship ∨ b < 3) (hb : b ≠ 8) :
    (pinEvent s b).herdFollows = s.herdFollows := by
  have hctrl : (s.orReg 0x2300 0x0F (2 ^ b)).reg 0x2D00 1 = s.reg 0x2D00 1 := State.reg_setReg_ne s _ (by decide)
  rw [(pinEvent_unitWork hl hm hb).herdFollows]
  simp only [State.herdFollows, State.herdRuns, State.herdRole, hctrl]
  rfl

theorem pinEvent_md (s : State) (b : Nat) : (pinEvent s b).md = s.md := (pinEvent_keeps s b).md

/-- A settled pin event reads as before the interrupt controller in PIN_EVT. -/
theorem settle_pinEvt (old s : State) : (settle old s).reg 0x2300 0x0F = s.reg 0x2300 0x0F := settle_reg old s (by decide)

/-- A wake changes no pin, and of the registers WAKE_CAUSE alone. -/
theorem wakeBy_seqRegs (s : State) (w : Wake) : SeqRegs s (wakeBy s w) ∧ (wakeBy s w).pins = s.pins := by
  have h : SeqRegs s (s.orReg 0x2000 5 w.bits) := .device s _ (by decide)
  unfold wakeBy
  split
  · dsimp only
    split
    · exact ⟨h.trans (.of_same rfl), rfl⟩
    · exact ⟨h.trans (.of_same rfl), rfl⟩
  · exact ⟨.refl s, rfl⟩

section
variable {s : State}

/-- A pin event and what its pin asks for: the bit stands, and of the pins the reset outputs alone follow. -/
theorem pinAct_pinEvent {b : Nat} (hl : s.live = true) (hm : s.md.mode ≠ .ship ∨ b < 3) (hb : b ≠ 8) (c : Nat) :
    ((pinAct (pinEvent s b) c).reg 0x2300 0x0F).testBit b = true ∧ (pinAct (pinEvent s b) c).pins.pb = s.pins.pb ∧
      (pinAct (pinEvent s b) c).pins.door = s.pins.door := by
  have hframe := (pinAct_modeWork (pinEvent s b) c).frame
  refine ⟨?_, by rw [hframe, pinEvent_pins], by rw [hframe, pinEvent_pins]⟩
  rw [(pinAct_seqRegs (pinEvent s b) c).reg (by decide) (by decide)]
  exact pinEvent_bit hl hm hb

/-- A short press is an on request or a wake (R234). -/
theorem doPbShortPress_spec (hl : s.live = true) :
    ((doPbShortPress s).reg 0x2300 0x0F).testBit 0 = true ∧ (doPbShortPress s).pins.pb = false := by
  unfold doPbShortPress
  extract_lets _ s1
  split
  · obtain ⟨hbit, hpb, -⟩ := pinAct_pinEvent (s := { s with pins := { s.pins with pb := false, pressAt := some s.now64 } }) (b := 0) hl
      (.inr (by decide)) (by decide) 0
    exact ⟨hbit, hpb⟩
  · obtain ⟨hregs, hpins⟩ := wakeBy_seqRegs s1 .pb
    rw [hregs.reg (by decide) (by decide), hpins]
    exact ⟨pinEvent_bit hl (.inr (by decide)) (by decide), by rw [pinEvent_pins]⟩

/-- A long press in RUN is a forced off request: the power-down runs with forced timing (R71, R218). -/
theorem doPbLongPress_of_run (hr : s.ready = true) (hm : s.md.mode = .run) (hf : s.herdFollows = false) :
    (doPbLongPress s).md.mode = .shutdown ∧ (doPbLongPress s).md.cause = 3 ∧ (doPbLongPress s).sqe.stat = .powerDown ∧
      (doPbLongPress s).sqe.forced = true := by
  have hl := ready_live hr
  have hkeeps := pinEvent_keeps { s with pins := { s.pins with pb := true, pressAt := some s.now64 } } 1
  have hfollow := pinEvent_herdFollows (s := { s with pins := { s.pins with pb := true, pressAt := some s.now64 } }) (b := 1) hl
    (.inr (by decide)) (by decide)
  unfold doPbLongPress
  generalize pinEvent { s with pins := { s.pins with pb := true, pressAt := some s.now64 } } 1 = u at *
  have hur : u.ready = true := hkeeps.ready.trans hr
  have hum : u.md.mode = .run := (congrArg Modes.mode hkeeps.md).trans hm
  have huf : u.herdFollows = false := hfollow.trans hf
  have hmd := beginPowerDown_md (u.clrReg 0x2000 8 1) 3
  have hact : pinAct u 1 = forceTiming (beginPowerDown (u.clrReg 0x2000 8 1) 3) := by
    have htakes : u.takesRequests = true := by simp [State.takesRequests, hur, hum]
    have hoff : offNow u 3 = beginPowerDown (u.clrReg 0x2000 8 1) 3 := by simp [offNow, hum]
    rw [pinAct, if_pos htakes, forcedOff, huf, if_neg Bool.false_ne_true, forcedNow, hoff]
    exact if_pos (congrArg Modes.mode hmd)
  rw [hact, forceTiming_md, forceTiming_sqe, hmd]
  exact ⟨rfl, rfl, rfl, rfl⟩

/-- The door in RUN with DOOR_ACT 1 is an off request (R236). -/
theorem doDoorOpen_of_run (hr : s.ready = true) (hm : s.md.mode = .run) (hf : s.herdFollows = false) (hact : s.reg 0x2300 0x0D = 1) :
    (doDoorOpen s).md.mode = .shutdown ∧ (doDoorOpen s).md.cause = 14 ∧ (doDoorOpen s).sqe.stat = .powerDown := by
  have hl := ready_live hr
  have hship : s.md.mode ≠ .ship := by rw [hm]; decide
  have hkeeps := pinEvent_keeps { s with pins := { s.pins with door := true } } 6
  have hfollow := pinEvent_herdFollows (s := { s with pins := { s.pins with door := true } }) (b := 6) hl (.inl hship) (by decide)
  have hreg := (pinEvent_unitWork (s := { s with pins := { s.pins with door := true } }) (b := 6) hl (.inl hship) (by decide)).reg
    (idx := 0x2300) (sub := 0x0D) ⟨by decide, .inr (.inl rfl)⟩
  unfold doDoorOpen
  generalize pinEvent { s with pins := { s.pins with door := true } } 6 = u at *
  have hur : u.ready = true := hkeeps.ready.trans hr
  have hum : u.md.mode = .run := (congrArg Modes.mode hkeeps.md).trans hm
  have huf : u.herdFollows = false := hfollow.trans hf
  have hact' : u.reg 0x2300 0x0D = 1 := hreg.trans ((State.reg_setReg_ne _ _ (by decide)).trans hact)
  have hmd := beginPowerDown_md (u.clrReg 0x2000 8 1) 14
  have hasks : pinAct u 6 = beginPowerDown (u.clrReg 0x2000 8 1) 14 := by
    have htakes : u.takesRequests = true ∧ u.md.mode ≠ .shutdown := by simp [State.takesRequests, hur, hum]
    rw [← offRequest_of_run (.inl hum) huf]
    simp only [pinAct, htakes, hact', ne_eq, not_false_eq_true, and_self, if_true]
  rw [hasks, hmd]
  exact ⟨rfl, rfl, rfl⟩

/-- A short press with the core domain asleep wants it (R75, R234). -/
theorem doPbShortPress_of_asleep (ha : s.asleep = true) (hr : s.pwr.regFailed = false) (hm : s.md.mode = .standby) :
    (doPbShortPress s).pwr.coreWanted = true ∧ ((doPbShortPress s).reg 0x2000 5).testBit 3 = true := by
  have hkeeps := pinEvent_keeps { s with pins := { s.pins with pb := false, pressAt := some s.now64 } } 0
  have hpwr : (pinEvent { s with pins := { s.pins with pb := false, pressAt := some s.now64 } } 0).pwr = s.pwr := by
    have hdark : ({ s with pins := { s.pins with pb := false, pressAt := some s.now64 } } : State).live = false := by
      simp [State.live, State.coreOn, asleep_step ha]
    rw [pinEvent, if_neg (by simp), hdark, if_neg Bool.false_ne_true]
    split <;> rfl
  unfold doPbShortPress
  generalize pinEvent { s with pins := { s.pins with pb := false, pressAt := some s.now64 } } 0 = u at *
  have hasleep : u.asleep = true := by rw [State.asleep, hpwr]; exact ha
  have hnot : u.takesRequests = false := by simp [State.takesRequests, State.ready, State.isOpen, hpwr, asleep_step ha]
  dsimp only
  rw [hnot, if_neg Bool.false_ne_true, wakeBy_of_asleep hasleep (by rw [hpwr]; exact hr) (by rw [hkeeps.md]; exact hm)]
  refine ⟨rfl, ?_⟩
  show ((u.orReg 0x2000 5 8).reg 0x2000 5).testBit 3 = true
  rw [State.reg_orReg, Nat.testBit_or]
  exact Bool.or_eq_true_iff.mpr (.inr rfl)

/-- MR outside SHIP starts the pulse of both reset outputs (R235). -/
theorem doMrPress_spec (hl : s.live = true) (hm : s.md.mode ≠ .ship) :
    ((doMrPress s).reg 0x2300 0x0F).testBit 3 = true ∧ (doMrPress s).pins.mr = true ∧ (doMrPress s).rstoutA = true ∧
      (doMrPress s).rstoutB = true ∧ (doMrPress s).md = s.md := by
  have hbit := pinEvent_bit (s := { s with pins := { s.pins with mr := true, mrAt := some s.now64 } }) (b := 3) hl (.inl hm) (by decide)
  have hpins := pinEvent_pins { s with pins := { s.pins with mr := true, mrAt := some s.now64 } } 3
  have hkeeps := pinEvent_keeps { s with pins := { s.pins with mr := true, mrAt := some s.now64 } } 3
  unfold doMrPress
  generalize pinEvent { s with pins := { s.pins with mr := true, mrAt := some s.now64 } } 3 = u at *
  have hup : u.aonUp = true := by
    rw [hkeeps.aonUp]
    show s.aonUp = true
    have hon : s.coreOn = true := by simp only [State.live, Bool.and_eq_true] at hl; exact hl.1
    revert hon
    unfold State.coreOn State.aonUp
    cases s.pwr.step <;> simp
  have hship : u.md.mode ≠ .ship := by rw [hkeeps.md]; exact hm
  have hpulse : pulseResets u = { u with pins := { u.pins with pulse := true } } := if_pos hup
  dsimp only
  rw [if_neg hm, hpulse]
  refine ⟨hbit, (congrArg Pins.mr hpins), ?_, ?_, hkeeps.md⟩
  · show (u.aonUp && u.md.mode != .ship && (u.pins.rstA || true)) = true
    simp [hup, hship]
  · show (u.aonUp && u.md.mode != .ship && (u.pins.rstB || true)) = true
    simp [hup, hship]

end

theorem getLsbD_setBit {w : Nat} (x : BitVec w) {i j : Nat} (h : j < w) : (setBit x i).getLsbD j = (x.getLsbD j || decide (j = i)) := by
  rw [setBit, BitVec.getLsbD_or, BitVec.getLsbD_ofNat, Nat.testBit_two_pow]
  simp [h, eq_comm]

theorem getLsbD_clrBit {w : Nat} (x : BitVec w) {i j : Nat} (h : j < w) : (clrBit x i).getLsbD j = (x.getLsbD j && !decide (j = i)) := by
  rw [clrBit, BitVec.getLsbD_and, BitVec.getLsbD_not, BitVec.getLsbD_ofNat, Nat.testBit_two_pow]
  simp [h, eq_comm]

/-- A SEQIN pin takes its new level and no other does (R233). -/
theorem doSeqinChange_spec {s : State} (hl : s.live = true) (hm : s.md.mode ≠ .ship) (i : Fin 4) (high : Bool) :
    (doSeqinChange i high s).md = s.md ∧ (doSeqinChange i high s).pins.seqin.getLsbD i.1 = high ∧
      ∀ j : Fin 4, j ≠ i → (doSeqinChange i high s).pins.seqin.getLsbD j.1 = s.pins.seqin.getLsbD j.1 := by
  have hon : s.coreOn = true := by simp only [State.live, Bool.and_eq_true] at hl; exact hl.1
  rw [doSeqinChange, if_pos ⟨hon, hm⟩]
  refine ⟨rfl, ?_, fun j hj => ?_⟩
  · cases high
    · exact (getLsbD_clrBit _ i.2).trans (by simp)
    · exact (getLsbD_setBit _ i.2).trans (by simp)
  · have hne : j.1 ≠ i.1 := fun e => hj (Fin.ext e)
    cases high
    · exact (getLsbD_clrBit _ j.2).trans (by simp [hne])
    · exact (getLsbD_setBit _ j.2).trans (by simp [hne])

/-- Settles O23: a pin event sets its bit and is logged, and what its pin asks for leaves PIN_EVT and the pins' levels. -/
theorem frontPanelEvents : Obligations.FrontPanelEvents := by
  intro s
  refine ⟨fun hl => ⟨?short, ?long, ?ignored, fun hm => ?mr, fun hm => ?door, fun hm => ?closed, fun i high hm => ?seqin⟩, ?pulse,
    fun hr hm hf => ⟨?forced, fun hact => ?off⟩, fun ha hr hm => ?wake⟩
  case short =>
    refine after_of_done (u := doPbShortPress s) rfl ?_
    rw [settle_pinEvt, settle_pins]
    exact doPbShortPress_spec hl
  case long =>
    obtain ⟨hbit, hpb, -⟩ := pinAct_pinEvent (s := { s with pins := { s.pins with pb := true, pressAt := some s.now64 } }) (b := 1) hl
      (.inr (by decide)) (by decide) 1
    refine after_of_done (u := doPbLongPress s) rfl ?_
    rw [settle_pinEvt, settle_pins]
    exact ⟨hbit, hpb⟩
  case ignored =>
    refine after_of_done (u := doPbIgnored s) rfl ?_
    rw [settle_pinEvt, settle_pins, settle_md]
    exact ⟨pinEvent_bit hl (.inr (by decide)) (by decide), congrArg Pins.pb (pinEvent_pins _ 2), pinEvent_md _ 2⟩
  case mr => exact after_of_done (u := doMrPress s) rfl (by rw [settle_pinEvt]; exact doMrPress_spec hl hm)
  case door =>
    obtain ⟨hbit, -, hdoor⟩ := pinAct_pinEvent (s := { s with pins := { s.pins with door := true } }) (b := 6) hl (.inl hm) (by decide) 6
    refine after_of_done (u := doDoorOpen s) rfl ?_
    rw [settle_pinEvt, settle_pins]
    exact ⟨hbit, hdoor⟩
  case closed =>
    refine after_of_done (u := doDoorClose s) rfl ?_
    rw [settle_pinEvt, settle_pins, settle_md]
    exact ⟨pinEvent_bit hl (.inl hm) (by decide), congrArg Pins.door (pinEvent_pins _ 7), pinEvent_md _ 7⟩
  case seqin =>
    obtain ⟨hmd, hself, hothers⟩ := doSeqinChange_spec hl hm i high
    exact after_of_done (u := doSeqinChange i high s) rfl ⟨hself, hmd, hothers⟩
  case pulse => exact becomes_of_done rfl
  case forced => exact after_of_done (u := doPbLongPress s) rfl (doPbLongPress_of_run hr hm hf)
  case off => exact after_of_done (u := doDoorOpen s) rfl (doDoorOpen_of_run hr hm hf hact)
  case wake =>
    refine after_of_done (u := doPbShortPress s) rfl ?_
    rw [settle_pwr, settle_reg _ _ (by decide)]
    exact doPbShortPress_of_asleep ha hr hm

end Sys2Proof.Machine
end

section
namespace Sys2Proof.Machine
open Sys2Proof

/-! ## Frames of the herd bus (R240, R241, Table 8-9) -/

section
variable {ty node : Nat} {body : List Byte}

theorem herdType_frame (ht : ty < 16) (hn : node < 16) : herdType (herdFrame ty node body) = ty := by
  simp only [herdType, herdFrame, List.cons_append, List.head?_cons, Option.map_some, Option.getD_some, BitVec.toNat_ofNat]
  omega

theorem herdNode_frame (hn : node < 16) : herdNode (herdFrame ty node body) = node := by
  simp only [herdNode, herdFrame, List.cons_append, List.head?_cons, Option.map_some, Option.getD_some, BitVec.toNat_ofNat]
  omega

/-- The first content byte. -/
theorem herdByte_frame (b : Byte) : herdByte (herdFrame ty node (b :: body)) 0 = b.toNat := rfl

/-- A frame of the length that its type asks for is good: its CRC was made over the bytes before it. -/
theorem herdGood_frame (ht : ty < 16) (hn : node < 16) (hlen : herdLen ty = some (body.length + 2)) :
    herdGood (herdFrame ty node body) = true := by
  have hcrc : (herdFrame ty node body).getLast? = some (crc8 (herdFrame ty node body).dropLast) := by
    simp only [herdFrame, List.dropLast_concat, List.getLast?_concat]
  have hlength : (herdFrame ty node body).length = body.length + 2 := by simp [herdFrame]
  rw [herdGood, herdType_frame ht hn, hlen, hlength, hcrc, beq_self_eq_true, beq_self_eq_true]
  rfl

end

/-! ## What a follower makes of a frame -/

section
variable {s : State}

theorem herdFollows_iff : s.herdFollows = true ↔ (s.herdRuns = true ∧ s.herdRole = 2) ∧ s.herd.alone = false := by
  simp [State.herdFollows]

theorem rejoin_of_follows (h : s.herdFollows = true) : rejoin s = s :=
  if_neg fun e => by rw [(herdFollows_iff.mp h).2] at e; exact nomatch e.1

/-- A good frame of the expected type acts on a node that follows (R241). -/
theorem fromMaster_good (h : s.herdFollows = true) {ty : Nat} {bytes : List Byte} (hgood : herdGood bytes = true)
    (hty : herdType bytes = ty) (f : State → State) : fromMaster s ty bytes f = f s := by
  rw [fromMaster, if_pos (herdFollows_iff.mp h).1, hgood, if_neg (by decide), if_pos hty, rejoin_of_follows h]
  exact if_pos h

/-- A bad frame is counted (R240). -/
theorem fromMaster_bad (h : s.herdFollows = true) {bytes : List Byte} (hbad : herdGood bytes = false) (ty : Nat) (f : State → State) :
    fromMaster s ty bytes f = s.inc 0x2D00 7 := by
  rw [fromMaster, if_pos (herdFollows_iff.mp h).1, hbad]
  rfl

/-! ## SYNC and the capture channels (R377) -/

/-- `t` has the mode and the herd of `s`. -/
structure HerdSame (s t : State) : Prop where
  md : t.md = s.md
  herd : t.herd = s.herd

theorem HerdSame.refl (s : State) : HerdSame s s := ⟨rfl, rfl⟩

theorem HerdSame.trans {s t u : State} (h : HerdSame s t) (k : HerdSame t u) : HerdSame s u := ⟨k.md.trans h.md, k.herd.trans h.herd⟩

theorem HerdSame.ite {s t u : State} {c : Prop} [Decidable c] (h : HerdSame s t) (k : HerdSame s u) : HerdSame s (if c then t else u) := by
  split
  · exact h
  · exact k

theorem HerdSame.foldl {α : Type} {f : State → α → State} (h : ∀ s a, HerdSame s (f s a)) (l : List α) : ∀ s, HerdSame s (l.foldl f s) := by
  induction l with
  | nil => exact .refl
  | cons a l ih => exact fun s => (h s a).trans (ih _)

theorem Noted.herdSame {s t : State} (h : Noted s t) : HerdSame s t :=
  ⟨h.same State.md fun _ _ _ _ _ _ _ => rfl, h.same State.herd fun _ _ _ _ _ _ _ => rfl⟩

theorem fanCapture_herdSame (s : State) (n : Fin 32) (edge : U32) : HerdSame s (fanCapture s n edge) := by
  unfold fanCapture
  extract_lets ppr s1
  have h1 : HerdSame s s1 := by
    show HerdSame s (match s.ports[n].tachAt with | none => s | some t => _)
    split
    · exact .refl s
    · exact .ite (.refl s) ⟨rfl, rfl⟩
  exact h1.trans ⟨rfl, rfl⟩

theorem modCap_herdSame (s : State) (k : Fin 8) (f : Cap → Cap) : HerdSame s (s.modCap k f) := ⟨rfl, rfl⟩

theorem clrReg_herdSame (s : State) (idx sub m : Nat) : HerdSame s (s.clrReg idx sub m) := ⟨rfl, rfl⟩

/-- A capture is the timebase's own. -/
theorem capture_herdSame (s : State) (k : Fin 8) (edge : U32) : HerdSame s (capture s k edge) := by
  unfold capture
  extract_lets idx s1 s2 now
  have h1 : HerdSame s s1 := HerdSame.trans (t := (s.setReg idx 4 edge.toNat).inc idx 7) ⟨rfl, rfl⟩ (pendSrc_noted _ _).herdSame
  have h2 : HerdSame s1 s2 := .ite ⟨rfl, rfl⟩ (.refl s1)
  clear_value s2 s1
  split
  · exact h1.trans ((clrReg_herdSame s1 idx 6 1).trans ((modCap_herdSame _ k _).trans (fanCapture_herdSame _ _ edge)))
  · exact h1.trans (h2.trans (modCap_herdSame s2 k _))

theorem captureFrom_herdSame (s : State) (src : Nat) : HerdSame s (captureFrom s src) :=
  .ite (.foldl (fun t k => .ite (capture_herdSame t k t.now) (.refl t)) _ s) (.refl s)

/-- A frame that no channel watches is not captured. -/
theorem captureFrom_unwatched {src : Nat} (h : ∀ k : Fin 8, s.reg (0x2820 + k.1) 2 ≠ src) : captureFrom s src = s := by
  have hfold : ∀ l : List (Fin 8), l.foldl (fun t k =>
      if t.reg (0x2820 + k.1) 2 = src ∧ t.capArmed k = true ∧ ((t.ownerOf k.1).isSome = true ∨ t.tb.cap[k].from_ ≤ t.now64)
      then capture t k t.now else t) s = s := by
    intro l
    induction l with
    | nil => rfl
    | cons k l ih => rw [List.foldl_cons, if_neg fun e => h k e.1, ih]
  unfold captureFrom
  split
  · exact hfold _
  · rfl

/-- SYNC gives a follower its master's mode (R241). -/
theorem doHerdSyncFrame_good (h : s.herdFollows = true) (m : Byte) :
    doHerdSyncFrame (herdFrame 1 0 [m]) s = captureFrom { s with herd := { s.herd with masterMode := m.toNat } } 10 := by
  rw [doHerdSyncFrame, if_pos (herdFollows_iff.mp h).1, herdGood_frame (by decide) (by decide) rfl, if_neg (by decide),
    if_pos (herdType_frame (by decide) (by decide)), rejoin_of_follows h]
  rfl

/-! ## STEP (R243, R244) -/

/-- A power-good wait that names no rail which fails it does not fail (R215). -/
theorem waitFails_of_sound (hrun : s.runner = some .script)
    (h : s.stepSet s.pos.step 3 = 1 → ∀ r : Fin 16, (s.stepSet s.pos.step 4).testBit r.1 = true → s.railFails r = 0) : s.waitFails = 0 := by
  have hfold : ∀ l : List (Fin 16), (∀ r ∈ l, s.railFails r = 0) → l.foldl (fun c r => if c = 0 then s.railFails r else c) 0 = 0 := by
    intro l
    induction l with
    | nil => exact fun _ => rfl
    | cons a l ih => exact fun hl => by rw [List.foldl_cons, if_pos rfl, hl a (by simp), ih fun r hr => hl r (by simp [hr])]
  refine hfold _ fun r hr => ?_
  have hbit : s.pgWaits.testBit r.1 = true := (List.mem_filter.mp hr).2
  unfold State.pgWaits at hbit
  simp only [hrun] at hbit
  split at hbit
  · simp at hbit
  · split at hbit
    · next h3 =>
      rw [Nat.testBit_mod_two_pow, Bool.and_eq_true] at hbit
      exact h h3 r hbit.2
    · simp at hbit

/-- A step without an action goes to its wait (R212). -/
theorem startPlain_of_none (h : s.stepSet s.pos.step 1 = 0) : startPlain s = enterWait s := by
  simp only [startPlain, h, plainAction]

/-- A follower whose power-up starts step `k` as its master's STEP frame says. -/
def stepTaken (s : State) (k : Nat) : State :=
  { s with sqe := { s.sqe with stat := .powerUp, step := k, phase := .start, named := 0, second := 0, begun := true }
           herd := { s.herd with stepDone := 1, done := 0, failed := 0 } }

/-- The step that a STEP frame names stands to start. -/
def stepNamed (s : State) (k : Nat) : State :=
  { s with sqe := { s.sqe with stat := .powerUp, step := k, phase := .start, named := 0, second := 0 }
           herd := { s.herd with stepDone := 1 } }

/-- Only the node that leads tells of its steps (R243). -/
theorem tellStep_of_follows (hf : s.herdFollows = true) : tellStep s = { s with herd := { s.herd with done := 0, failed := 0 } } := by
  have hlead : s.herdLeads = false := by simp [State.herdLeads, (herdFollows_iff.mp hf).1.2]
  simp only [tellStep, herdSend, hlead, Bool.false_eq_true, if_false]

/-- A follower starts the named step. -/
theorem startStep_stepNamed (hf : s.herdFollows = true) (k : Nat) : startStep (stepNamed s k) = startPlain (stepTaken s k) := by
  have hrun : (stepNamed s k).runner = some .script := rfl
  have hup : ¬ (stepNamed s k).sqe.stat = .reversal := nofun
  have hfollow : (stepNamed s k).herdFollows = true := hf
  have htell := tellStep_of_follows (s := { stepNamed s k with sqe := { (stepNamed s k).sqe with begun := true } }) hf
  simp only [startStep, hrun]
  rw [if_neg hup, hfollow, Bool.or_true, if_pos rfl, htell]
  rfl

/-- A STEP frame starts the step that it names, once a step has started or the sensors are read with no stop cause reached (R287). -/
theorem takeStep_starts (hf : s.herdFollows = true) (hm : s.md.mode = .startup)
    (hgo : (s.sensorsRead = true ∧ s.stopCause = false) ∨ s.sqe.begun = true) {k : Nat} (hk : k < 64) :
    takeStep s k = startPlain (stepTaken s k) := by
  have h7 : k.testBit 7 = false := Nat.testBit_lt_two_pow (by omega)
  have h6 : k.testBit 6 = false := Nat.testBit_lt_two_pow (by omega)
  have hfirst : (stepNamed s k).firstWaits = false := by
    show (true && !s.sqe.begun && (!s.sensorsRead || ((stepNamed s k).herdFollows && s.stopCause))) = false
    rcases hgo with ⟨hread, hstop⟩ | hbegun
    · simp [hread, hstop]
    · simp [hbegun]
  have hstarts : ¬ (stepNamed s k).firstWaits = true := by rw [hfirst]; decide
  simp only [takeStep, h7, h6, hm, Nat.mod_eq_of_lt hk, Bool.false_eq_true, Bool.false_and, if_false, if_true, reduceCtorEq,
    false_and, false_or]
  exact (if_neg hstarts).trans (startStep_stepNamed hf k)

/-- The wait of a step without an action, named by a STEP frame. -/
theorem startPlain_stepTaken {k : Nat} (haction : s.stepSet k 1 = 0)
    (hsound : s.stepSet k 3 = 1 → ∀ r : Fin 16, (s.stepSet k 4).testBit r.1 = true → s.railFails r = 0) :
    startPlain (stepTaken s k) = beginWait (stepTaken s k) := by
  have hpos : (stepTaken s k).pos.step = k := rfl
  have hset : ∀ sub, (stepTaken s k).stepSet k sub = s.stepSet k sub := fun _ => rfl
  have hplain : startPlain (stepTaken s k) = enterWait (stepTaken s k) := startPlain_of_none (by rw [hpos, hset, haction])
  have hpos' : (beginWait (stepTaken s k)).pos.step = k := rfl
  have hset' : ∀ sub, (beginWait (stepTaken s k)).stepSet k sub = s.stepSet k sub := fun _ => rfl
  have hfails : (beginWait (stepTaken s k)).railFails = s.railFails := rfl
  have hwait : (beginWait (stepTaken s k)).waitFails = 0 :=
    waitFails_of_sound rfl (by rw [hpos', hset', hset', hfails]; exact hsound)
  rw [hplain, enterWait, judgeWaits, if_pos hwait]

/-- A STEP frame in STARTUP starts its step. -/
theorem doHerdStepFrame_starts (hf : s.herdFollows = true) (hm : s.md.mode = .startup)
    (hgo : (s.sensorsRead = true ∧ s.stopCause = false) ∨ s.sqe.begun = true) (k : Fin 64) (haction : s.stepSet k.1 1 = 0)
    (hsound : s.stepSet k.1 3 = 1 → ∀ r : Fin 16, (s.stepSet k.1 4).testBit r.1 = true → s.railFails r = 0) :
    doHerdStepFrame (herdFrame 2 0 [BitVec.ofNat 8 k.1]) s = beginWait (stepTaken s k.1) := by
  have hbyte : herdByte (herdFrame 2 0 [BitVec.ofNat 8 k.1]) 0 = k.1 := by rw [herdByte_frame, BitVec.toNat_ofNat]; omega
  have h7 : k.1.testBit 7 = false := Nat.testBit_lt_two_pow (by omega)
  rw [doHerdStepFrame, fromMaster_good hf (herdGood_frame (by decide) (by decide) rfl) (herdType_frame (by decide) (by decide)), hbyte,
    if_pos (.inl ⟨hm, h7⟩), takeStep_starts hf hm hgo k.2, startPlain_stepTaken haction hsound]

/-! ## EVENT, POLL and MODE (R241, R243, R244) -/

/-- A herd event seen is latched for the script and in EVENT_SEEN. -/
theorem seeEvent_seen (s : State) {n : Nat} (hn : n < 16) :
    (seeEvent s n).sqe.events.getLsbD n = true ∧ ((seeEvent s n).reg 0x2D00 9).testBit n = true ∧ (seeEvent s n).md = s.md := by
  rw [seeEvent, Nat.mod_eq_of_lt hn]
  refine ⟨getLsbD_setBit_self _ hn, ?_, rfl⟩
  rw [State.reg_orReg, Nat.testBit_or, Nat.testBit_two_pow_self, Bool.or_true]

theorem doHerdEventFrame_good (h : s.herdFollows = true) (n : Fin 16) :
    doHerdEventFrame (herdFrame 3 0 [BitVec.ofNat 8 n.1]) s = seeEvent s n.1 := by
  have hbyte : herdByte (herdFrame 3 0 [BitVec.ofNat 8 n.1]) 0 % 16 = n.1 := by rw [herdByte_frame, BitVec.toNat_ofNat]; omega
  rw [doHerdEventFrame, fromMaster_good h (herdGood_frame (by decide) (by decide) rfl) (herdType_frame (by decide) (by decide)), hbyte]

theorem doHerdPollFrame_own (h : s.herdFollows = true) : doHerdPollFrame (herdFrame 4 s.pwr.strap.toNat [0]) s = answerPoll s := by
  have hnode : s.pwr.strap.toNat < 16 := s.pwr.strap.isLt
  rw [doHerdPollFrame, if_pos (herdFollows_iff.mp h).1, herdGood_frame (by decide) hnode rfl, if_neg (by decide),
    if_pos (herdType_frame (by decide) hnode), rejoin_of_follows h, herdNode_frame hnode]
  exact if_pos rfl

/-- The status byte by its fields (Table 8-10). -/
theorem herdStatus_eq (s : State) : s.herdStatus = s.herd.stepDone % 4 + (if s.herd.onReq then 4 else 0) + (if s.herd.offReq then 8 else 0)
    + (if s.herd.forcedReq then 16 else 0) + (if s.herd.stopFault then 32 else 0) + (if s.latch.set then 64 else 0) := by
  have hbits : ∀ a b c d e : Bool, 4 * bitsOf [a, b, c, d, e] = (if a then 4 else 0) + (if b then 8 else 0) + (if c then 16 else 0)
      + (if d then 32 else 0) + (if e then 64 else 0) := by decide
  rw [State.herdStatus, hbits]
  omega

/-- The frame that answers a POLL. -/
theorem answerPoll_sent (s : State) : (answerPoll s).herd.sent = s.herd.sent ++ [herdFrame 8 s.pwr.strap.toNat [BitVec.ofNat 8 s.sqe.step,
    BitVec.ofNat 8 s.herdStatus, BitVec.ofNat 8 ((s.herd.sendEvt.head?.map fun n => 0x80 + n).getD 0)]] := by
  unfold answerPoll
  cases s.herd.sendEvt <;> rfl

/-- A MODE frame with bit 7 clear takes the mode that it names, the stop not forced. -/
theorem doHerdModeFrame_good (h : s.herdFollows = true) {bytes : List Byte} (hgood : herdGood bytes = true) (hty : herdType bytes = 5)
    (h7 : (herdByte bytes 0).testBit 7 = false) :
    (doHerdModeFrame bytes s).md = (takeMode s (herdByte bytes 0 % 8)).md ∧
      (doHerdModeFrame bytes s).sqe = (takeMode s (herdByte bytes 0 % 8)).sqe := by
  rw [doHerdModeFrame, fromMaster_good h hgood hty]
  simp only [h7, Bool.false_and, Bool.false_eq_true, if_false]
  split <;> exact ⟨rfl, rfl⟩

/-- A MODE frame of 5 in RUN begins the power-down. -/
theorem doHerdModeFrame_shutdown (h : s.herdFollows = true) (hm : s.md.mode = .run) :
    (doHerdModeFrame (herdFrame 5 0 [5]) s).md.mode = .shutdown ∧ (doHerdModeFrame (herdFrame 5 0 [5]) s).sqe.stat = .powerDown := by
  have hrun : (herdCause s).2.md.mode = .run := hm
  have htake : takeMode s 5 = beginPowerDown ((herdCause s).2.clrReg 0x2000 8 1) (herdCause s).1 := by
    simp only [takeMode, offNow, hrun]
  have hbyte : herdByte (herdFrame 5 0 [5]) 0 % 8 = 5 := rfl
  obtain ⟨hmd, hsqe⟩ := doHerdModeFrame_good h (herdGood_frame (by decide) (by decide) rfl) (herdType_frame (by decide) (by decide))
    (show (herdByte (herdFrame 5 0 [5]) 0).testBit 7 = false from rfl)
  rw [hmd, hsqe, hbyte, htake, beginPowerDown_md]
  exact ⟨rfl, rfl⟩

end

/-- Settles O47: a good frame of the master acts on a node that follows as its type says, a bad one is counted. -/
theorem followersTakeTheMastersFrames : Obligations.FollowersTakeTheMastersFrames := by
  intro s h
  refine ⟨fun m => ?sync, fun k hm hgo haction hsound => ?step, fun n => ?event, ?poll, fun hm => ?mode, fun bytes hbad c hc => ?bad⟩
  case sync =>
    have hsame := captureFrom_herdSame { s with herd := { s.herd with masterMode := m.toNat } } 10
    refine after_of_done (u := doHerdSyncFrame (herdFrame 1 0 [m]) s) rfl ?_
    rw [settle_herd, settle_md, doHerdSyncFrame_good h, hsame.herd, hsame.md]
    exact ⟨rfl, rfl, fun hk => by rw [captureFrom_unwatched (s := { s with herd := { s.herd with masterMode := m.toNat } }) hk]; exact settle_delivers s _⟩
  case step =>
    refine after_of_done (u := doHerdStepFrame (herdFrame 2 0 [BitVec.ofNat 8 k.1]) s) rfl ?_
    rw [settle_sqe, settle_herd, settle_md, doHerdStepFrame_starts h hm hgo k haction hsound]
    exact ⟨rfl, rfl, rfl, rfl, rfl⟩
  case event =>
    refine after_of_done (u := doHerdEventFrame (herdFrame 3 0 [BitVec.ofNat 8 n.1]) s) rfl ?_
    rw [settle_sqe, settle_md, settle_reg _ _ (by decide), doHerdEventFrame_good h]
    exact seeEvent_seen s n.2
  case poll =>
    refine after_of_done (u := doHerdPollFrame (herdFrame 4 s.pwr.strap.toNat [0]) s) rfl ?_
    rw [settle_herd, settle_md, doHerdPollFrame_own h, answerPoll_sent, herdStatus_eq]
    exact ⟨rfl, rfl, rfl, rfl, rfl, rfl, rfl⟩
  case mode =>
    refine after_of_done (u := doHerdModeFrame (herdFrame 5 0 [5]) s) rfl ?_
    rw [settle_md, settle_sqe]
    exact doHerdModeFrame_shutdown h hm
  case bad =>
    have hcount : ∀ ty f, fromMaster s ty bytes f = s.inc 0x2D00 7 := fromMaster_bad h hbad
    have hbus := (herdFollows_iff.mp h).1
    simp only [List.mem_cons, List.not_mem_nil, or_false] at hc
    rcases hc with rfl | rfl | rfl | rfl | rfl
    · exact becomes_of_done (congrArg (done s) (by rw [doHerdSyncFrame, if_pos hbus, hbad]; rfl) : done s (doHerdSyncFrame bytes s) = _)
    · exact becomes_of_done (congrArg (done s) (hcount 2 _) : done s (doHerdStepFrame bytes s) = _)
    · exact becomes_of_done (congrArg (done s) (hcount 3 _) : done s (doHerdEventFrame bytes s) = _)
    · exact becomes_of_done (congrArg (done s) (by rw [doHerdPollFrame, if_pos hbus, hbad]; rfl) : done s (doHerdPollFrame bytes s) = _)
    · exact becomes_of_done (congrArg (done s) (hcount 5 _) : done s (doHerdModeFrame bytes s) = _)

end Sys2Proof.Machine
end
